-- ==== Sys2Proof/Word.lean ====
section
/-! DEFINITION. The word types of the block and the sparse tables its memories and register stores are held in. -/

namespace Sys2Proof

/-- A register of the address map (R648): 32 bits. -/
abbrev Word := BitVec 32

/-- A byte of a frame, a message, an image or a memory. -/
abbrev Byte := BitVec 8

/-- A wide value (R667): 48 bits. -/
abbrev Wide := BitVec 48

/-- A channel number, which is also a Pod number (R14). -/
abbrev Chan := Fin 4

/-- A host port number. -/
abbrev Port := Fin 8

/-- A sparse table: (key, entry) pairs, keys strictly rising. A key that is not listed holds the table's default entry. -/
abbrev Tab (α : Type) := List (Nat × α)

end Sys2Proof
end

