-- ==== Sys2Proof/Syntax.lean ====
section
/-! DEFINITION. The commands of the block (the rows of the command table) and the data they carry. -/

namespace Sys2Proof

/-- A fault message (R603, Table FLT-1). -/
structure FaultMsg where
  source : BitVec 18
  kind : BitVec 8
  context : BitVec 40
  flags : BitVec 6
  deriving DecidableEq, Repr

/-- What the scrubber found in the unit it read of one pseudo-channel (R436 to R438). -/
inductive ScrubResult where
  | corrected
  | uncorrCell
  | uncorrLink
  | uncorrSkew
  deriving DecidableEq, Repr

/-- One pseudo-channel whose scrubbed unit was not clean. -/
structure ScrubFinding where
  pc : Fin 64
  result : ScrubResult
  deriving DecidableEq, Repr

/-- What a traffic read of the Hoard found (R435, R438): the pseudo-channel, the unit in it, and the error. -/
structure ReadError where
  pc : Fin 64
  unit : BitVec 22
  result : ScrubResult
  deriving DecidableEq, Repr

/-- One downstream control message (R74): the channel it came on, its address field, its sequence number and its body. -/
structure MsgIn where
  ch : Chan
  addr : BitVec 10
  seq : Byte
  body : List Byte
  deriving DecidableEq, Repr

/-- Measurements of a Pod's four ADCs over a block: RMS code, and samples clipped (R89, R90). -/
structure AdcReport where
  rms : List Byte
  clips : List Nat
  deriving DecidableEq, Repr

/-- What a calibration measured (R142, R145): the failing units of each equaliser and LDPC cluster are given as the
cluster's number (0 to 14, then 15 and 16 for the LDPC clusters) and a mask with the spare at bit 16. -/
structure CalReport where
  pass : Bool
  failStep : BitVec 4
  ms : BitVec 16
  markDelay : BitVec 16
  cwLatency : BitVec 16
  dacDelay : BitVec 16
  pipeLatency : BitVec 16
  failing : List (Fin 17 × BitVec 17)
  deriving DecidableEq, Repr

/-- A message across the Husk (R461): TYPE, SEQ and body. -/
structure HuskMsg where
  type : Byte
  seq : Word
  body : List Byte
  deriving DecidableEq, Repr

/-- The settings of a Shell converter link (R471, R473). -/
structure ConvLink where
  en : Bool
  lane : Nat
  l : Nat
  conv : Nat
  m : Nat
  f : Nat
  k : Nat
  s : Nat
  scr : Bool
  mbps : Nat
  sysrefNs : Nat
  sysrefAdj : Int
  deriving DecidableEq, Repr

/-- The kinds of measurement definition. -/
inductive DefKind where
  | spectrum | power | occupancy
  deriving DecidableEq, Repr

/-- A measurement definition (before R475). -/
structure MeasDef where
  en : Bool
  kind : DefKind
  chan : Nat
  nptsLog2 : Nat
  window : Nat
  overlap75 : Bool
  firstBin : Int
  nbins : Nat
  intMs : Nat
  refSource : Nat
  source : Nat
  bands : List (Int × Int)
  thr : Nat
  deriving DecidableEq, Repr

/-- What a run of a PARAMS block writes outside the calibration tables: the spec gives no address to these parameters. -/
inductive ShellParam where
  | link (j : Fin 4) (v : ConvLink)
  | pair (k : Fin 8) (complex : Bool)
  | defn (d : Fin 16) (v : MeasDef)
  | mode (twice : Bool)
  /-- a field trigger, armed as R340 arms one -/
  | ftrig (n : Fin 4) (periodic : Bool) (start period widthNs count : Nat) (adj : Int)
  | other
  deriving DecidableEq, Repr

/-- What the transforms of one interval gave a definition (R477): valid and excluded transforms, a clipped sample, the
mean and peak of each bin or band in 10^-6 dB, the levels of each occupancy band with the transforms at each, and a
second mismatch of the engine in mode TWICE (R487). -/
structure Interval where
  transforms : Nat
  excluded : Nat
  clip : Bool
  mean : List Int
  peak : List Int
  levels : List (List (Int × Nat))
  mismatch : Bool
  deriving DecidableEq, Repr

/-- The commands of the block, one constructor per row of the command table. `ini` is the requester number (R650)
of the initiator whose register access the command is. -/
inductive Instr where
  /-- `POWER_ON` (R677). Core-side rails rise; the pads are held safe and Sprout waits for every supply monitor to report good. -/
  | powerOn (good : BitVec 22)
  /-- `RESET_N_ASSERT` (R679). A low level on RESET_N that the glitch filter accepts starts a full package reset. -/
  | resetNAssert (widthNs : Nat)
  /-- `RESET_RELEASE` (R549). Reset release runs Sprout steps 3 to 7: fuse load, boot ROM, image read, signature check and configuration, then it starts calibration. -/
  | resetRelease (fuseEccOk : Bool) (hbmTrained : Bool) (nvmAnswers : Bool)
  /-- `SUPPLY_LOW` (R678). A rail falls below 95 % for more than 2 µs and the monitor raises a SUPPLY condition fault. -/
  | supplyLow (rail : Fin 22) (mV : BitVec 16)
  /-- `SUPPLY_GOOD` (R678). A rail has been good again for 1 ms and the SUPPLY condition ends with an END message. -/
  | supplyGood (rail : Fin 22)
  /-- `TEMP_ALARM` (R697). A die sensor reads 110 °C or more and raises the TEMP fault. -/
  | tempAlarm (die : Fin 8) (celsius : BitVec 8)
  /-- `TEMP_CLEAR` (R697). The sensor reading has stayed below 100 °C for 1 s and the TEMP condition ends. -/
  | tempClear (die : Fin 8)
  /-- `CLOCK_LOSS` (R633). A clock monitor finds its clock lost and raises a CLOCK condition fault. -/
  | clockLoss (monitor : Fin 4)
  /-- `CLOCK_RETURN` (R633). The monitor has seen a good clock for 1 ms and ends the CLOCK condition. -/
  | clockReturn (monitor : Fin 4)
  /-- `ROOT_QUALIFY` (R629). A root channel has met all qualification conditions for 10 ms and becomes qualified, so the root source is re-chosen. -/
  | rootQualify (ch : Chan)
  /-- `DS_LOCK` (R632). The DS phase error has stayed within ±1,024 pp for 10 ms and DS_LOCK is set. -/
  | dsLock (phase : Int)
  /-- `FREQ_MEASURE` (R647). A write of CLK_FREQ_SEL starts a 1 s frequency measurement against ROOT. -/
  | freqMeasure (ini : Nat) (value : Word)
  /-- `FREQ_DONE` (R647). The 1 s measurement completes and loads CLK_FREQ. -/
  | freqDone (ppb : Int)
  /-- `FORCE_REF_WRITE` (R627). A guarded write of CLK_TEST.FORCE_REF forces or releases REF as the root source. -/
  | forceRefWrite (ini : Nat) (value : Word)
  /-- `RESYNC_DONE` (R643). The resynchronisation handshake of a crossing completes and traffic may pass it again. -/
  | resyncDone (crossing : Fin 82)
  /-- `RESYNC_TIMEOUT` (R645). A resynchronisation has not completed within 2 µs; a TIMEOUT fault is raised and the handshake restarts. -/
  | resyncTimeout (crossing : Fin 82)
  /-- `CAL` (R142). A write of POD_CAL_CMD.CAL starts calibration of a Pod unless it is busy. -/
  | cal (ini : Nat) (ch : Chan) (value : Word)
  /-- `CAL_DONE` (R143). Pod calibration completes with CAL_DONE or CAL_FAIL; at Sprout it leads to the step 9 and 10 enables. -/
  | calDone (ch : Chan) (report : CalReport)
  /-- `CDC_DONE` (R95). The dispersion scan completes with the best value, or sets CDC_FAIL and repeats. -/
  | cdcDone (ch : Chan) (best : Option Int)
  /-- `LOS_INDICATION` (R93). The Pod raises or clears its LOS indication after LOS_TIME, and DSF declares or clears LOS. -/
  | losIndication (ch : Chan) (up : Bool)
  /-- `AGC_HUNT_UPDATE` (R92). With no block for 64 periods, the analog gain loop updates on raw RMS every 6.25 µs. -/
  | agcHuntUpdate (ch : Chan) (report : AdcReport)
  /-- `GAIN_RELEASE` (R101). At the predicted next detection less RELEASE_LEAD, the gain loop is released and the analog DAC may move. -/
  | gainRelease (ch : Chan) (report : AdcReport) (noise : BitVec 16)
  /-- `DETECTION` (R99). The correlator declares a detection, freezes the gain and starts or follows a block. -/
  | detection (ch : Chan) (metric : Nat) (position : Nat) (power : Int) (gain : BitVec 10) (cfoInt : BitVec 6) (cfoFrac : BitVec 16)
  /-- `BLOCK_LOST` (R103). No detection by the end of the expected window; a lost block is counted and the grid is kept. -/
  | blockLost (ch : Chan)
  /-- `CODEWORD_DELIVERY` (R137). A decoded codeword with its status word reaches DSF, in block order, and serves the sync check. -/
  | codewordDelivery (ch : Chan) (final : List Byte) (input : List Byte) (iter : Nat) (decoder : Option (Fin 32))
  /-- `BLOCK_MARK` (R149). DSF receives a block mark, advances its block count and counts lost blocks. -/
  | blockMark (ch : Chan)
  /-- `LOB_DECLARE` (R157). No block mark for LOB_SET consecutive block periods declares LOB. -/
  | lobDeclare (ch : Chan)
  /-- `HEADER_SPACE` (R55). The header space of block 0 is checked and its profile vector, burst map and control section are taken apart. -/
  | headerSpace (ch : Chan) (raw : List Byte) (kinds : List Nat)
  /-- `DS_SEGMENT` (R63). A downstream SLE segment is judged under Table SCA-6 and passed to reorder, skipped or discarded. -/
  | dsSegment (ch : Chan) (hdr : List Byte) (hdrKind : Nat) (payload : List Byte) (bad : Bool) (left : Nat) (block : Nat) (sym : Nat) (arrival : Nat)
  /-- `SKEW_STORE_RELEASE` (R178). A segment held in the skew store is released into reorder at arrival + H_c and delivers runs to reassembly. -/
  | skewStoreRelease (link : Fin 4096) (err : Option ReadError)
  /-- `REORDER_TIMEOUT` (R178). The oldest held segment reaches the timeout; the missing number is skipped as a gap. -/
  | reorderTimeout (link : Fin 4096)
  /-- `LINK_FRAME_AUTH` (R375). A reassembled Link frame is decrypted store-and-forward and released only if its tag verifies. -/
  | linkFrameAuth
  /-- `CHANNEL_REMOVE` (R183). At the next frame boundary a downstream-lost or offline channel is removed from every group. -/
  | channelRemove (ch : Chan)
  /-- `CHANNEL_ADMIT` (R184). At frame 0 of the named multiframe a READY channel is admitted to a Link's group. -/
  | channelAdmit (ch : Chan) (link : Fin 4096)
  /-- `MASK_APPLY` (R186). A held member-mask write takes effect on a channel at that channel's frame 0 of M. -/
  | maskApply (ch : Chan) (link : Fin 4096)
  /-- `REORDER_WORD0_WRITE` (R177). A write of reorder word 0 sets W and the timeout or is refused. -/
  | reorderWord0Write (ini : Nat) (value : Word)
  /-- `LINK_WORD12_WRITE` (R187). A write of Link word 12 maps, remaps or unmaps a local Link index. -/
  | linkWord12Write (ini : Nat) (value : Word)
  /-- `DEG_WINDOW_END` (R158). A DEG window ends and the corrected-bit ratio is evaluated against the thresholds. -/
  | degWindowEnd (ch : Chan)
  /-- `FFR_WINDOW_END` (R159). An FFR window ends and the uncorrectable ratio is evaluated. -/
  | ffrWindowEnd (ch : Chan)
  /-- `LOK_WINDOW_END` (R157). A LOK window ends and LOK is declared or cleared from Link authentication failures. -/
  | lokWindowEnd (ch : Chan)
  /-- `SECOND_END` (R165). A network-time second ends and is classified and added to the bins. -/
  | secondEnd
  /-- `BIN_END` (R167). A 15-minute or 24-hour bin ends and moves into history. -/
  | binEnd (day : Bool)
  /-- `BIN_FINAL` (R167). 10 s after a bin's end it becomes FINAL and PM15_FINAL or PM24_FINAL is set. -/
  | binFinal (day : Bool)
  /-- `PM_SNAP` (R170). DSF_PM_CMD.SNAP copies the selected bin into the read buffer. -/
  | pmSnap (ini : Nat) (value : Word)
  /-- `PROF_ARM` (R126). POD_PROF_CMD.ARM validates the staging copy of a downstream profile and makes it pending. -/
  | profArm (ini : Nat) (ch : Chan) (value : Word)
  /-- `TXPROF_ARM` (R287). POD_TXPROF_CMD.ARM validates an upstream profile staging copy and makes it pending. -/
  | txprofArm (ini : Nat) (ch : Chan) (value : Word)
  /-- `PROFILE_ACTIVATE` (R126). A pending profile becomes active at frame 0 of its named multiframe, or at the next MF_SYNC if its start passed. -/
  | profileActivate (ch : Chan) (tx : Bool) (index : Fin 8)
  /-- `ASSIGN_ID` (R193). An ASSIGN_ID message assigns, confirms, changes or removes the terminal ID. -/
  | assignId (msg : MsgIn)
  /-- `RANGE_REQ` (R204). A RANGE_REQ arms one ranging reply on a channel. -/
  | rangeReq (msg : MsgIn)
  /-- `RANGE_TIME` (R206). A RANGE_TIME sets or refuses RTD and the downstream and upstream delays of a channel. -/
  | rangeTime (msg : MsgIn)
  /-- `PROFILE_SET` (R126). A PROFILE_SET makes a downstream or upstream profile definition pending or refuses it. -/
  | profileSet (msg : MsgIn)
  /-- `CHANNEL_SET` (R220). A CHANNEL_SET is held for frame 0 of its named multiframe. -/
  | channelSet (msg : MsgIn)
  /-- `CHANNEL_SET_APPLY` (R220). At a channel's frame 0 of M the held UP_EN, guard and memberships take effect. -/
  | channelSetApply (ch : Chan)
  /-- `KEY_DELIVER` (R360). A KEY_DELIVER is unwrapped and installed into a key slot or refused with a status. -/
  | keyDeliver (msg : MsgIn)
  /-- `KEY_SWITCH` (R365). A KEY_SWITCH schedules a key switch at network time AT or returns a refusal status. -/
  | keySwitch (msg : MsgIn)
  /-- `TIME_OF_DAY` (R322). A TIME_OF_DAY is accepted or rejected; an accepted one gives the time error and runs the servo. -/
  | timeOfDay (msg : MsgIn)
  /-- `TOD_HELD_APPLY` (R322). A held TIME_OF_DAY is evaluated once the latch of its named multiframe exists. -/
  | todHeldApply
  /-- `TOD_HELD_LAPSE` (R322). A held TIME_OF_DAY whose latch has not appeared within 2 s lapses and is rejected. -/
  | todHeldLapse
  /-- `TOD_TIMEOUT` (R325). No measurement has been accepted for NTM_TOD_TIMEOUT, so holdover is entered. -/
  | todTimeout
  /-- `HOLD_SPEC_END` (R329). Hold elapsed passes NTM_HOLD_SPEC, so IN_SPEC clears and SPEC_END is set. -/
  | holdSpecEnd
  /-- `LEASE_GRANT` (R503). A LEASE_GRANT loads the lease timer, starts a claim or is discarded. -/
  | leaseGrant (msg : MsgIn)
  /-- `LEASE_REVOKE` (R505). A LEASE_REVOKE zeroes the lease timer, cuts open bursts and sends the final MARK and RELEASE. -/
  | leaseRevoke (msg : MsgIn)
  /-- `SILENCE` (R224). A SILENCE recognised in hardware sets the latch and closes the Burst Gate on all channels. -/
  | silence (msg : MsgIn)
  /-- `UNSILENCE` (R226). An accepted UNSILENCE clears the SILENCE latch and returns the terminal to its prior state. -/
  | unsilence (msg : MsgIn)
  /-- `SILENCE_EXPIRY` (R226). The silence duration expires and the latch clears. -/
  | silenceExpiry
  /-- `SLEEP_ALLOW` (R584). A SLEEP_ALLOW records a power-mode permit and may start, change or end a sleep mode. -/
  | sleepAllow (msg : MsgIn)
  /-- `WAKE` (R598). A WAKE acted on in a listen window returns the device to Active. -/
  | wake (msg : MsgIn)
  /-- `HEALTH_QUERY` (R537). A HEALTH_QUERY queues the health report upstream. -/
  | healthQuery (msg : MsgIn)
  /-- `MGMT_TUNNEL` (R230). A MGMT_TUNNEL request is queued, refused when the queue is full, or answered again as a repeat. -/
  | mgmtTunnel (msg : MsgIn)
  /-- `INBAND_MGMT_FRAME` (R422). An EtherType 0x88B5 frame on a management-enabled port is diverted and queued as a request, or dropped. -/
  | inbandMgmtFrame (port : Port)
  /-- `MGMT_READ` (R229). A queued tunnelled or in-band READ runs its register reads and sends the reply. -/
  | mgmtRead (ini : Nat)
  /-- `MGMT_WRITE` (R229). A queued tunnelled or in-band WRITE runs its register writes and sends the reply. -/
  | mgmtWrite (ini : Nat)
  /-- `MGMT_WRITE_PAIRS` (R229). A queued WRITE_PAIRS writes its address-value pairs in order within 1 µs of each other. -/
  | mgmtWritePairs (ini : Nat)
  /-- `ACT_EN_WRITE` (R193). A write of ACT_CTRL.EN moves the terminal between T0 and T1, with ID loss when leaving. -/
  | actEnWrite (ini : Nat) (value : Word)
  /-- `DEACTIVATE` (R228). ACT_CMD.DEACTIVATE performs ID loss and enters T1. -/
  | deactivate (ini : Nat) (value : Word)
  /-- `CHANNEL_CONDITION_TRANSITION` (R193). The management controller applies a state change that a change of channel MF_SYNC or downstream-lost condition allows. -/
  | channelConditionTransition
  /-- `TO_RANGE_EXPIRY` (R193). ACT_TO_RANGE expires in T3 with the anchor unranged; ID loss and return to T1. -/
  | toRangeExpiry
  /-- `TO_HELD_EXPIRY` (R193). ACT_TO_HELD expires in T5; ID loss and return to T1. -/
  | toHeldExpiry
  /-- `RANGE_REQ_LAPSE` (R204). An armed ranging request finds no grant within 100 ms and lapses. -/
  | rangeReqLapse (ch : Chan)
  /-- `BATCH_START` (R259). At T_D a batch's bursts meet the first gate test, descriptors go to the Pods and decisions begin. -/
  | batchStart
  /-- `FILL_DECISION` (R264). One decision for a grant places control messages, a whole frame or a fragment, or finishes the grant. -/
  | fillDecision (err : Option ReadError)
  /-- `SECOND_TEST` (R303). At L − RAMP_UP the burst meets the second gate test and is launched or abandoned. -/
  | secondTest (ch : Chan)
  /-- `BURST_END` (R290). A burst's last segment symbol ends, the ramp-down runs and the frames it carried are released. -/
  | burstEnd (ch : Chan)
  /-- `LATE_DATA` (R300). A segment byte has not reached the Pod in time, so the burst is cut and a fault is reported. -/
  | lateData (ch : Chan)
  /-- `LEASE_EXPIRY` (R502). The hardware lease timer reaches zero; the Acorn is lost and open bursts are cut. -/
  | leaseExpiry
  /-- `ROGUE_TRIP` (R308). The continuous-light detector trips, asserts PODn_AMP_KILL_N and reports a fault. -/
  | rogueTrip (ch : Chan) (long : Bool)
  /-- `ROGUE_CLR` (R309). A guarded write of UBT_ROGUE_CLR releases PODn_AMP_KILL_N if the sense has read off for 10 µs. -/
  | rogueClr (ini : Nat) (value : Word) (senseOff : BitVec 4)
  /-- `SENSE_LOW` (R310). The gate sense reads off for over 100 ns while the gate commands on, which is counted. -/
  | senseLow (ch : Chan)
  /-- `GATE_LIMITS_WRITE` (R305). A guarded write of UBT_GATE_LIMITS sets DUTY_MAX from the next test. -/
  | gateLimitsWrite (ini : Nat) (value : Word)
  /-- `BIAS_OFF` (R580). No ramp-up begins within 200 µs of the last light run, so the Pod's transmit bias is turned off. -/
  | biasOff (ch : Chan)
  /-- `FRAME_VISIBLE` (R244). The last cell of an admitted frame is written and the frame becomes visible to its scheduler. -/
  | frameVisible (queue : Fin 8192)
  /-- `SHAPER_REFILL` (R247). Every 1 µs each shaped queue's bucket is refilled. -/
  | shaperRefill
  /-- `FLUSH` (R245). USQ_Q_CMD.FLUSH discards every frame of a disabled queue. -/
  | flush (ini : Nat) (value : Word)
  /-- `LAT_SNAP` (R272). USQ_Q_CMD.LAT_SNAP copies the queue's last completed sampling record. -/
  | latSnap (ini : Nat) (value : Word)
  /-- `QUEUE_SAMPLE` (R269). Every 64 core cycles each queue's depth and head-of-line delay are sampled. -/
  | queueSample
  /-- `LAT_PERIOD_END` (R270). A sampling period ends and its results replace the previous record. -/
  | latPeriodEnd
  /-- `QUEUE_WORD0_WRITE` (R239). A write of queue word 0 changes the binding, class or enable, or is refused or deferred. -/
  | queueWord0Write (ini : Nat) (value : Word)
  /-- `BIND_APPLY` (R239). A deferred binding takes effect after the open frame's last segment or the clearing of its open state. -/
  | bindApply (queue : Fin 8192)
  /-- `ALLOC_WORD0_WRITE` (R237). A write of allocation word 0 maps or unmaps an allocation ID, or is refused. -/
  | allocWord0Write (ini : Nat) (value : Word)
  /-- `EGRESS_OFFER` (R273). A MAC's transmit buffer can take a frame and the port's egress scheduler offers one. -/
  | egressOffer (port : Port) (err : Option ReadError)
  /-- `KEY_SWITCH_APPLY` (R366). At AT the scheduled key switch is applied or fails. -/
  | keySwitchApply (link : Fin 4096) (up : Bool)
  /-- `GRACE_EXPIRY` (R366). LSC_GRACE after a downstream switch, the OLD slot is cleared to EMPTY. -/
  | graceExpiry (link : Fin 4096)
  /-- `KEY_LOAD` (R360). A guarded LSC_KL_CMD.LOAD installs a host-wrapped key under the install checks. -/
  | keyLoad (ini : Nat) (value : Word)
  /-- `ERASE` (R359). A guarded LSC_CMD.ERASE clears the key store. -/
  | erase (ini : Nat) (value : Word)
  /-- `LSC_CTRL_WRITE` (R377). A guarded write of LSC_CTRL sets ERASE_ON_ALARM and CHECK_EN. -/
  | lscCtrlWrite (ini : Nat) (value : Word)
  /-- `HOLD_EXPIRY` (R370). A held Link's HOLD_MS timer expires and the Link enters the discarding state. -/
  | holdExpiry (link : Fin 4096)
  /-- `MAC_RECEIVE` (R389). A received frame has ended and been FCS-checked; it is disposed of under Table HPE-2. -/
  | macReceive (port : Port) (frame : List Byte) (symbolError : Bool) (startOk : Bool) (stamp : Nat) (fecCorr : Nat) (fecUncor : Nat) (overrun : Bool)
  /-- `PAUSE_END` (R391). The pause time of a received PAUSE runs out and the port may start frames again. -/
  | pauseEnd (port : Port)
  /-- `MAC_TRANSMIT` (R393). The MAC starts and sends a frame held whole in its transmit buffer. -/
  | macTransmit (port : Port)
  /-- `PORT_CFG_WRITE` (R385). A write of HPE_Pp_CFG enables, disables or changes the mode of a port, or is refused. -/
  | portCfgWrite (ini : Nat) (port : Port) (value : Word)
  /-- `PORT_UP_CHANGE` (R387). A port's up state changes with lane lock or fault signalling. -/
  | portUpChange (port : Port) (locked : Byte) (localFault : Bool) (remoteFault : Bool)
  /-- `FIRST_PASS` (R412). A frame is admitted to a pipeline, parsed, looked up and resolved to a queue or dropped. -/
  | firstPass (pipe : Fin 8) (headroom : Bool)
  /-- `RECIRCULATION` (R413). A granted recirculation runs the second pass under PROF2. -/
  | recirculation
  /-- `RECIRC_WITHDRAW` (R447). A recirculation request not granted in 64 core cycles is withdrawn and refused. -/
  | recircWithdraw (pipe : Fin 8)
  /-- `DELAY_REQ` (R336). A received PTP message is diverted; a valid Delay_Req is answered with Delay_Resp. -/
  | delayReq (port : Port)
  /-- `PTP_SYNC` (R337). A PTP port sends a one-step Sync every 2^LOG_SYNC s. -/
  | ptpSync (port : Port) (macStamp : Nat)
  /-- `PTP_ANNOUNCE` (R338). A PTP port sends Announce every 2^LOG_ANN s. -/
  | ptpAnnounce (port : Port)
  /-- `INSERT` (R410). The INSERT table command places the staging entry by cuckoo moves or in the stash. -/
  | insert (ini : Nat)
  /-- `UPDATE` (R409). The UPDATE table command replaces the action of the matching entry. -/
  | update (ini : Nat)
  /-- `DELETE` (R409). The DELETE table command invalidates the matching entry. -/
  | delete (ini : Nat)
  /-- `FIND` (R409). The FIND table command copies the matching entry and its place to staging. -/
  | find (ini : Nat)
  /-- `READ_SLOT` (R409). The READ_SLOT table command copies the entry at CLS_TBL_IDX to staging. -/
  | readSlot (ini : Nat)
  /-- `CLEAR_GEN` (R409). The CLEAR_GEN table command invalidates every entry of one generation. -/
  | clearGen (ini : Nat)
  /-- `SWAP` (R416). CLS_GEN_CMD.SWAP or a RULEGEN commit inverts the active generation, or is refused. -/
  | swap (ini : Nat)
  /-- `DRAINED` (R416). The last packet of the inactive generation finishes and DRAINED becomes 1. -/
  | drained
  /-- `PROFILE_APPLY` (R404). CLS_PROF_CMD.APPLY replaces a parser profile with its staging copy, or is refused. -/
  | profileApply (ini : Nat) (value : Word)
  /-- `PROFILE_LOAD` (R404). CLS_PROF_CMD.LOAD copies the applied profile into staging. -/
  | profileLoad (ini : Nat) (value : Word)
  /-- `SG_MAP_WRITE` (R420). A write of CLS_SG_MAP applies a spread group's staged configuration, or is refused. -/
  | sgMapWrite (ini : Nat) (value : Word)
  /-- `SEL_DATA_WRITE` (R399). A write of CLS_SEL_DATA applies a select-table entry with its staged source mask. -/
  | selDataWrite (ini : Nat) (value : Word)
  /-- `SEED_WRITE` (R408). A write of a CLS seed takes effect only while the table is empty. -/
  | seedWrite (ini : Nat) (bank : Fin 2) (value : Word)
  /-- `PARTITION_WRITE` (R431). A write of HRD_PART resizes the partitions or is refused. -/
  | partitionWrite (ini : Nat) (value : Word)
  /-- `SCRUB` (R436). Every INTERVAL the scrubber reads, checks and corrects one unit per pseudo-channel. -/
  | scrub (found : List ScrubFinding)
  /-- `ARBITRATION` (R442). A free resource with a waiting requester is granted to the unmasked requester of highest priority. -/
  | arbitration (inst : Fin 3) (pc : Fin 64) (arriving : List Nat)
  /-- `GRANT_END` (R443). An arbiter grant runs to its natural end, which frees the resource. -/
  | grantEnd (inst : Fin 3) (pc : Fin 64)
  /-- `ARB_WINDOW_START` (R441). An arbiter window starts, clears USED and applies pending quota settings. -/
  | arbWindowStart (inst : Fin 3)
  /-- `FREEZE_WRITE` (R445). A write of ARB FREEZE stops or resumes grants of an instance. -/
  | freezeWrite (ini : Nat) (inst : Fin 3) (value : Word)
  /-- `FABRIC_TIMEOUT` (R443). A management-fabric access unanswered in 100 µs ends with an error. -/
  | fabricTimeout (requester : Nat)
  /-- `BEACON_SEND` (R465). Every PERIOD the endpoint sends a time BEACON to the Shell. -/
  | beaconSend
  /-- `HUSK_ECHO` (R466). An ECHO from the Shell is stamped and, after 16, D_IN is recomputed. -/
  | huskEcho (arrival : Nat) (given : Option HuskMsg)
  /-- `HUSK_HEALTH` (R463). A Shell HEALTH message is copied into the health window. -/
  | huskHealth (given : Option HuskMsg) (retries : Nat)
  /-- `RECORD_MSG` (R482). A RECORD message from the Shell is carried in port-S frames into the parser. -/
  | recordMsg (given : Option HuskMsg)
  /-- `CAPTURE_MSG` (R482). A CAPTURE message from the Shell is carried in port-S frames into the parser. -/
  | captureMsg (given : Option HuskMsg)
  /-- `HUSK_TRAINED` (R456). The Husk trains and HSK_STATE.LINK becomes UP. -/
  | huskTrained
  /-- `HUSK_DOWN` (R456). The Husk has been lost for 10 ms and LINK becomes DOWN. -/
  | huskDown
  /-- `HSK_CMD_START` (R469). HSK_CMD_GO with TYPE 0x03 sends a START to the Shell. -/
  | hskCmdStart (ini : Nat)
  /-- `HSK_CMD_STOP` (R469). HSK_CMD_GO with TYPE 0x04 sends a STOP to the Shell. -/
  | hskCmdStop (ini : Nat)
  /-- `HSK_CMD_STATUS` (R493). HSK_CMD_GO with TYPE 0x05 sends a STATUS request to the Shell. -/
  | hskCmdStatus (ini : Nat)
  /-- `HSK_CMD_ARM` (R484). HSK_CMD_GO with TYPE 0x06 sends a capture ARM to the Shell. -/
  | hskCmdArm (ini : Nat)
  /-- `HSK_CFG_SEND` (R488). HSK_CFG_CMD.SEND sends the staged configuration block to the Shell. -/
  | hskCfgSend (ini : Nat)
  /-- `COMMIT_LOST` (R470). A SHELL commit START or STOP still held at 100 µs before TIME is dropped. -/
  | commitLost
  /-- `SHELL_POWER_UP` (R457). Shell supplies become good; the boot ROM verifies an image and reaches IDLE or SAFE. -/
  | shellPowerUp (okA : Bool) (okB : Bool) (idA : BitVec 64) (idB : BitVec 64)
  /-- `SHELL_WATCHDOG` (R458). The Shell watchdog expires and the Shell restarts. -/
  | shellWatchdog (okA : Bool) (okB : Bool) (idA : BitVec 64) (idB : BitVec 64)
  /-- `BEACON` (R467). The Shell takes a BEACON, steps or slews its time and answers echo requests. -/
  | beacon (tRx : Nat) (reports : List (Fin 16 × Interval))
  /-- `BEACON_TIMEOUT` (R467). No beacon arrives for 10 ms and Shell time enters HOLDOVER. -/
  | beaconTimeout
  /-- `CFG_BLOCK` (R488). The Shell checks a configuration block and applies it as one step with audit entries, or refuses it. -/
  | cfgBlock (params : List (List ShellParam)) (imageOk : Bool)
  /-- `START` (R469). The Shell schedules definitions to start at AT, or refuses. -/
  | start
  /-- `STOP` (R469). The Shell cancels a pending start or schedules definitions to stop. -/
  | stop
  /-- `STATUS` (R493). The Shell returns health or an audit extract record. -/
  | status (mismatch : Bool)
  /-- `ARM` (R484). The Shell sets up a capture window or refuses. -/
  | arm
  /-- `DEFINITION_START` (R469). A pending start reaches AT and its definitions begin running. -/
  | definitionStart
  /-- `DEFINITION_STOP` (R469). A scheduled stop reaches AT and the definitions end with a PARTIAL interval. -/
  | definitionStop (reports : List (Fin 16 × Interval))
  /-- `INTERVAL_END` (R478). An integration interval ends and its record is created into the store. -/
  | intervalEnd (d : Fin 16) (report : Interval)
  /-- `CAPTURE_START` (R484). A capture window reaches AT and sample storage begins. -/
  | captureStart
  /-- `CAPTURE_FILL_DONE` (R485). A capture window is full and drains as capture records ending in a summary. -/
  | captureFillDone (samples : List Byte) (invalid : List (Nat × Nat))
  /-- `RECORD_SEND` (R480). The Husk accepts the next record from the store, in SEQ order. -/
  | recordSend (mismatch : Bool)
  /-- `HEALTH_SEND` (R464). Every 100 ms the Shell sends a HEALTH message. -/
  | healthSend (temp : Byte)
  /-- `SHELL_ALARM` (R487). A Shell supply, clock or temperature alarm zeroises the record key in mode ERASE. -/
  | shellAlarm (kind : Fin 3)
  /-- `KEY_RESTORE` (R487). The alarm has been clear for 1 s and the record key is unwrapped again. -/
  | keyRestore
  /-- `LINK_RESYNC` (R472). A converter lane loses alignment and the whole link resynchronises. -/
  | linkResync (link : Fin 4)
  /-- `TWIN_LINK_UP` (R541). Twin-link training completes and HELLO is exchanged. -/
  | twinLinkUp (rxGood : Byte) (peerGood : Byte) (taps : List (Nat × Nat × Nat))
  /-- `TRAIN_TIMEOUT` (R541). Training at a rate step does not end in 10 ms and the link falls back one step. -/
  | trainTimeout
  /-- `TWIN_LINK_LOST` (R544). No used lane delivers ALIGN for three link-frame times, so the link is lost and bring-up restarts. -/
  | twinLinkLost
  /-- `LANE_LOCK_LOSS` (R543). A lane loses lock and the link width is reduced at the next frame boundary. -/
  | laneLockLoss (lane : Fin 8) (atPeer : Bool) (violations : Nat) (retries : Nat)
  /-- `LANE_RETURN` (R543). A retrained lane has held lock for 1 ms and the width grows. -/
  | laneReturn (lane : Fin 8) (atPeer : Bool)
  /-- `HELLO` (R498). A received HELLO completes or fails the handshake. -/
  | hello (body : List Byte)
  /-- `TWIN_STATE` (R501). A received STATE updates peer eligibility, claim readiness and lease record. -/
  | twinState (body : List Byte)
  /-- `RENEW_SEND` (R507). Every RENEW_MS the local-mode holder sends RENEW. -/
  | renewSend
  /-- `RENEW` (R507). The standby records the peer expiry from RENEW and answers RENEW_ACK. -/
  | renew (expiry : Nat) (rid : Word)
  /-- `RENEW_ACK` (R507). The holder extends its lease timer on RENEW_ACK. -/
  | renewAck (expiry : Nat) (rid : Word)
  /-- `ORPHAN_RENEW` (R509). An ORPHAN holder renews its own timer every RENEW_MS without acknowledgement. -/
  | orphanRenew
  /-- `RELEASE` (R504). A received RELEASE lets the device claim at once. -/
  | release
  /-- `CLAIM` (R529). A deferred claim falls due and takeover preparation begins. -/
  | claim (inTransit : Bool)
  /-- `TAKEOVER_DONE` (R529). Takeover preparation completes and the device becomes ACTIVE. -/
  | takeoverDone
  /-- `FINAL_MARK` (R527). After the lease ends and every open burst has ended, the final MARK is sent. -/
  | finalMark
  /-- `TWIN_ECHO_SEND` (R516). Every 1 ms a twin ECHO is sent. -/
  | twinEchoSend
  /-- `TWIN_ECHO` (R514). A received twin ECHO updates TWN_TIME_OFS. -/
  | twinEcho (body : List Byte) (arrival : Nat)
  /-- `KEYMETA` (R519). A received KEYMETA is compared with the device's own key slots. -/
  | keymeta (body : List Byte)
  /-- `KEY_DIVERGE` (R519). A slot has differed from the peer's for 10 ms and KEY_DIVERGE is set. -/
  | keyDiverge (link : Fin 4096) (up : Bool) (slotB : Bool)
  /-- `CTR_SEND` (R516). Every 10 µs the active sends next counters of changed slots. -/
  | ctrSend
  /-- `CTR` (R372). A received CTR updates the mirrored next counters. -/
  | ctr (body : List Byte)
  /-- `MARK_SEND` (R521). Every 10 µs the active snapshots queues and Links and sends a MARK. -/
  | markSend
  /-- `MARK` (R522). A received MARK trims sent frames from the standby's queues. -/
  | mark (body : List Byte)
  /-- `CHECK_SEND` (R523). Every 1 ms the active sends a CHECK of queue positions. -/
  | checkSend
  /-- `CHECK` (R524). A received CHECK is compared with the standby's queues. -/
  | check (body : List Byte)
  /-- `CHECK_WAIT_EXPIRY` (R524). A comparison waiting for the standby's frame count passes 1 ms and the queue becomes UNALIGNED. -/
  | checkWaitExpiry
  /-- `TWIN_CFG` (R517). A received CFG message applies mirrored register writes on the standby. -/
  | twinCfg (gen : Word) (writes : List (Nat × Word))
  /-- `TABLE` (R517). A received TABLE message applies a mirrored table or window change. -/
  | table (gen : Word) (writes : List (Nat × Word))
  /-- `RANGE` (R517). A received RANGE records the peer's delays. -/
  | range (body : List Byte)
  /-- `BULK_DONE` (R531). A received BULK_DONE moves the standby from BULK to CATCHUP. -/
  | bulkDone (body : List Byte)
  /-- `SHAPER_SEND` (R516). Every 1 ms the active sends shaper and allocation state. -/
  | shaperSend
  /-- `SHAPER` (R529). A received SHAPER records bucket, deficit and allocation values for takeover. -/
  | shaper (body : List Byte)
  /-- `PERF` (R517). A received PERF records the peer's final bin. -/
  | perf (ch : Chan) (index : Fin 64) (body : List Byte)
  /-- `TWIN_TIME` (R517). A received TIME records the peer's NTM state. -/
  | twinTime (body : List Byte)
  /-- `TWIN_HEALTH_BUILD` (R537). Every second the device builds its 16-item health report and sends HEALTH. -/
  | twinHealthBuild (hottest : Byte)
  /-- `TWIN_HEALTH` (R537). A received twin HEALTH records the peer's items. -/
  | twinHealth (body : List Byte)
  /-- `PORTS` (R544). A port-S frame from the standby enters the active's parser as source 8. -/
  | ports (body : List Byte)
  /-- `PEER_LOST` (R534). The peer has been lost for 1 s; both devices show UNPAIRED and PEER_LOST is set. -/
  | peerLost
  /-- `LOOP_TEST` (R536). A standby runs a transmit loop test of a Pod through the internal loop. -/
  | loopTest (ch : Chan) (pass : Bool)
  /-- `TWN_HANDOVER` (R512). TWN_CMD.HANDOVER gives the Acorn to the peer or is refused. -/
  | twnHandover (ini : Nat)
  /-- `RETRAIN` (R541). TWN_CMD.RETRAIN restarts twin-link bring-up. -/
  | retrain (ini : Nat)
  /-- `SOLO` (R513). A guarded write of TWN_SOLO places the device in solo operation. -/
  | solo (ini : Nat)
  /-- `FORCE_OFF` (R502). A guarded TWN_ACORN_OVR.FORCE_OFF write makes the Acorn count as not held. -/
  | forceOff (ini : Nat)
  /-- `FORCE_ON` (R502). A guarded TWN_ACORN_OVR.FORCE_ON write makes the Acorn count as held while every Pod loops. -/
  | forceOn (ini : Nat)
  /-- `TWIN_LOOP_WRITE` (R545). A write of TWN_LOOP selects a twin-link loop or is refused. -/
  | twinLoopWrite (ini : Nat) (value : Word)
  /-- `LOOP` (R545). A received LOOP ordered set starts or stops a far-end loop. -/
  | loop (start : Bool)
  /-- `RETRY` (R553). BOOT_CMD.RETRY reruns Sprout from step 5 on a halted device. -/
  | retry (ini : Nat)
  /-- `SOFT_RESET` (R549). BOOT_CMD.SOFT_RESET acts as a package reset with release 10 µs later. -/
  | softReset (ini : Nat)
  /-- `FUSE_PROG` (R566). BOOT_FUSE_CMD.PROG starts programming a fuse field or is refused. -/
  | fuseProg (ini : Nat)
  /-- `FUSE_READ` (R566). BOOT_FUSE_CMD.READ copies a fuse field into DATA. -/
  | fuseRead (ini : Nat)
  /-- `FUSE_DONE` (R566). Fuse programming completes, is verified or marks the field BAD. -/
  | fuseDone (verified : Bool)
  /-- `NVM_READ` (R569). The NVM pass-through READ reads into BOOT_NVM_BUF. -/
  | nvmRead (ini : Nat)
  /-- `NVM_PROGRAM` (R569). The NVM pass-through PROGRAM writes a page from BOOT_NVM_BUF. -/
  | nvmProgram (ini : Nat)
  /-- `NVM_ERASE_4K` (R569). The NVM pass-through erases 4 KiB. -/
  | nvmErase4k (ini : Nat)
  /-- `NVM_ERASE_64K` (R569). The NVM pass-through erases 64 KiB. -/
  | nvmErase64k (ini : Nat)
  /-- `NVM_READ_ID` (R569). The NVM pass-through reads the JEDEC ID. -/
  | nvmReadId (ini : Nat)
  /-- `NVM_DONE` (R569). A pass-through NVM command completes and NVM_DONE is set. -/
  | nvmDone (jedec : BitVec 24)
  /-- `NVM_TIMEOUT` (R569). A pass-through command still busy after 3 s ends with TIMEOUT. -/
  | nvmTimeout
  /-- `MCU_RESTART` (R570). BOOT_MCUn_CMD.RESTART restarts a management controller after its CRC check. -/
  | mcuRestart (ini : Nat) (mcu : Fin 4)
  /-- `MCU_WATCHDOG` (R570). A controller watchdog expires and the controller restarts or halts. -/
  | mcuWatchdog (mcu : Fin 4)
  /-- `SEM_READ` (R573). A read of DEV_SEMk acquires the semaphore if free and reports the owner. -/
  | semRead (ini : Nat) (sem : Fin 32)
  /-- `SEM_FREE` (R574). A write of 1 to DEV_SEMk by its owner frees it; others are ignored and counted. -/
  | semFree (ini : Nat) (sem : Fin 32) (value : Word)
  /-- `SEM_FORCE` (R575). A guarded write of DEV_SEM_FORCE frees semaphores with ABANDONED. -/
  | semForce (ini : Nat) (value : Word)
  /-- `MODE_REQ_ACTIVE` (R583). Writing 0 to PWR_MODE_REQ requests Active as wake source HOST_CMD. -/
  | modeReqActive (ini : Nat)
  /-- `MODE_REQ_DOZE` (R584). A request for Doze is checked against permit and refusers and starts entry. -/
  | modeReqDoze (ini : Nat)
  /-- `MODE_REQ_CYCLIC` (R584). A request for Cyclic Sleep is checked and starts entry. -/
  | modeReqCyclic (ini : Nat)
  /-- `MODE_REQ_DEEP` (R584). A request for Deep Sleep is checked and starts entry. -/
  | modeReqDeep (ini : Nat)
  /-- `MODE_REQ_WARM` (R585). A request for Warm Standby is checked and starts entry. -/
  | modeReqWarm (ini : Nat)
  /-- `MODE_ENTRY_DONE` (R587). The domains of an entry are drained, signed, clamped and switched off, and the mode is entered. -/
  | modeEntryDone
  /-- `DOMAIN_ON_DONE` (R588). A domain has been switched on, checked and released. -/
  | domainOnDone (domain : Fin 15) (failedBanks : BitVec 15)
  /-- `WAKE_RETRY` (R589). Regulator-ready or clock-ready does not arrive in time and the switch-on is retried. -/
  | wakeRetry (domain : Fin 15) (clock : Bool)
  /-- `REQ_LAPSE` (R584). A pending sleep request lapses 10 s after its refusal. -/
  | reqLapse
  /-- `LISTEN_POWER_UP` (R593). LEAD_US before a listen window, the enabled Pods begin switching on. -/
  | listenPowerUp
  /-- `LISTEN_WINDOW_START` (R593). A listen window opens on the network-time grid. -/
  | listenWindowStart
  /-- `LISTEN_WINDOW_END` (R593). A listen window ends and each Pod switches off after its last light run. -/
  | listenWindowEnd
  /-- `OPTICAL` (R598). The WKP path sees dark then light and fires the OPTICAL wake source. -/
  | optical (ch : Chan)
  /-- `PATTERN` (R599). The wake-pattern detector matches the pattern and fires the PATTERN wake source. -/
  | pattern (ch : Chan) (window : BitVec 64)
  /-- `HOST_ENERGY` (R598). Signal energy on a lane for 10 µs fires the HOST_ENERGY wake source. -/
  | hostEnergy (lane : Fin 32)
  /-- `PIN` (R598). WAKE_N low for 1 µs fires the PIN wake source. -/
  | pin
  /-- `FAULT_MESSAGE` (R606). The collector accepts a fault message, counts it under its rule, applies the reaction and latches or merges it. -/
  | faultMessage (tick : Nat) (raised : List FaultMsg)
  /-- `REGION_RESET_ESCALATION` (R613). A core region reset not completed within 1 ms is escalated to SAFE_SILENCE. -/
  | regionResetEscalation (region : Fin 16)
  /-- `FLT_REC_CLR` (R619). A write of FLT_REC_CLR with the current REC_SEQ frees the fault record. -/
  | fltRecClr (ini : Nat) (value : Word)
  /-- `POD_RESTART` (R611). FLT_POD_CMD.RESTART resets and recalibrates a Pod. -/
  | podRestart (ini : Nat) (value : Word)
  /-- `POD_AUTO_RESTART` (R611). AUTO_MS after POD_OFFLINE the Pod is restarted. -/
  | podAutoRestart (ch : Chan)
  /-- `REGION_RESET_CMD` (R624). A guarded FLT_RESET_CMD resets the named region or is refused. -/
  | regionResetCmd (ini : Nat) (value : Word)
  /-- `INJECT` (R624). A guarded FLT_INJ_CMD injects a test fault message. -/
  | inject (ini : Nat) (value : Word)
  /-- `RULE_WRITE` (R608). A write to a fault rule takes effect and clears its counters. -/
  | ruleWrite (ini : Nat) (value : Word)
  /-- `TC_ARM` (R347). NTM_TCs_CMD.ARM arms a commit slot or refuses it, sending a START for a SHELL set. -/
  | tcArm (ini : Nat) (slot : Fin 16)
  /-- `TC_DISARM` (R347). NTM_TCs_CMD.DISARM returns a slot to idle. -/
  | tcDisarm (ini : Nat) (slot : Fin 16)
  /-- `TC_FIRE` (R346). A commit slot reaches its TIME and applies its shadowed sets. -/
  | tcFire (slot : Fin 16)
  /-- `TRIG_ARM` (R340). NTM_TRIGt_CMD.ARM arms a trigger or refuses a late single edge. -/
  | trigArm (ini : Nat) (trig : Fin 8)
  /-- `TRIG_STOP` (R340). NTM_TRIGt_CMD.STOP ends a trigger at once. -/
  | trigStop (ini : Nat) (trig : Fin 8)
  /-- `TRIGGER_EDGE` (R339). A trigger's edge time arrives and a pulse is produced or suppressed by gating. -/
  | triggerEdge (trig : Fin 8)
  /-- `CAPTURE_EDGE` (R344). An enabled capture input edge is stamped into its store. -/
  | captureEdge (cap : Fin 4) (rising : Bool) (stamp : Nat)
  /-- `CAPTURE_POP` (R345). NTM_CAPc_CMD.POP moves the oldest capture entry into the hold registers. -/
  | capturePop (ini : Nat) (cap : Fin 4)
  /-- `NTM_SNAP` (R331). NTM_CMD.SNAP copies network time into the snapshot registers. -/
  | ntmSnap (ini : Nat)
  /-- `NTM_HOLD` (R326). NTM_CMD.HOLD forces holdover. -/
  | ntmHold (ini : Nat)
  /-- `NTM_RELEASE` (R326). NTM_CMD.RELEASE ends a forced holdover. -/
  | ntmRelease (ini : Nat)
  /-- `TIME_SET` (R332). A guarded NTM_TIME_CMD.SET loads network time at the next tick, or is refused. -/
  | timeSet (ini : Nat)
  /-- `TIME_ADJ` (R332). A guarded NTM_TIME_CMD.ADJ steps network time by NTM_ADJ. -/
  | timeAdj (ini : Nat)
  /-- `SERVO_EN_WRITE` (R324). A write of NTM_CTRL.SERVO_EN moves time to or from MANUAL. -/
  | servoEnWrite (ini : Nat) (value : Word)
  /-- `HOLD_REF_INTERVAL` (R327). Every 10,000,000th HOLD_REF edge is stamped and NTM_HREF_RATE is recomputed. -/
  | holdRefInterval (stamp : Nat)
  /-- `SPI_WRITE` (R653). An SPI WRITE transaction posts words to consecutive addresses. -/
  | spiWrite (addr : BitVec 28) (words : List Word) (stalled : Bool)
  /-- `SPI_WRITE_FIXED` (R653). An SPI WRITE_FIXED transaction posts words to one address. -/
  | spiWriteFixed (addr : BitVec 28) (words : List Word) (stalled : Bool)
  /-- `SPI_READ` (R652). An SPI READ transaction returns tokens and words from consecutive addresses. -/
  | spiRead (addr : BitVec 28) (count : Nat)
  /-- `SPI_READ_FIXED` (R652). An SPI READ_FIXED transaction reads one address repeatedly. -/
  | spiReadFixed (addr : BitVec 28) (count : Nat)
  /-- `SPI_STATUS` (R651). An SPI STATUS transaction returns the status byte and clears ERR. -/
  | spiStatus
  /-- `SPI_RESET` (R654). SPI_RESET discards posted writes and resets requester 0 for the guards. -/
  | spiReset
  /-- `SQC_CLEAR` (R659). A write to an SQC register clears flags when its SEQ matches. -/
  | sqcClear (ini : Nat) (addr : BitVec 28) (value : Word)
  /-- `UNLOCK` (R662). A write of a block's UNLOCK register arms, restarts or disarms its guard, or is refused. -/
  | unlock (ini : Nat) (block : Fin 21) (value : Word)
  /-- `GUARD_EXPIRY` (R663). An armed guard disarms 10 µs after its arming write. -/
  | guardExpiry (block : Fin 21)
  /-- `REGISTER_WRITE` (R656). A write to a register that has no behaviour of its own sets its fields under its access code. -/
  | registerWrite (ini : Nat) (addr : BitVec 28) (value : Word)
  /-- `EXTEST` (R699). TAP instruction EXTEST. -/
  | extest
  /-- `SAMPLE_PRELOAD` (R699). TAP instruction SAMPLE/PRELOAD. -/
  | samplePreload
  /-- `IDCODE` (R699). TAP instruction IDCODE, selected after TAP reset. -/
  | idcode
  /-- `CLAMP` (R699). TAP instruction CLAMP. -/
  | clamp
  /-- `HIGHZ` (R699). TAP instruction HIGHZ. -/
  | highz
  /-- `EXTEST_PULSE` (R699). TAP instruction EXTEST_PULSE of IEEE 1149.6. -/
  | extestPulse
  /-- `EXTEST_TRAIN` (R699). TAP instruction EXTEST_TRAIN of IEEE 1149.6. -/
  | extestTrain
  /-- `BYPASS` (R700). TAP instruction BYPASS, also selected by any unlisted opcode once fuses are loaded. -/
  | bypass (opcode : Byte)
  /-- `SHELL_POWER_DOWN` (R458). The Shell's supplies are removed, so the Shell loses all state except flash and one-time-programmable storage. -/
  | shellPowerDown
  /-- `HOLD_REF_LOSS` (R327). HOLD_REF disappears, so PRESENT and VALID clear and, in holdover with HREF_IN_USE, the root and rate return to the held frequency. -/
  | holdRefLoss
  /-- `DS_LOCK_LOSS` (R632). The DS phase error exceeds ±4,096 pp and DS_LOCK is cleared. -/
  | dsLockLoss (phase : Int)
  /-- `DS_RANGE` (R629). The root channel's recovered symbol clock leaves ±PULL_PPM of ROOT_REF / 4, so DS_RANGE is set and the channel loses qualification. -/
  | dsRange
  /-- `SELF_REFRESH_ENTRY` (R581). In idle self-refresh, a pseudo-channel with no access pending for 2 µs enters self-refresh. -/
  | selfRefreshEntry (pc : Fin 64)
  /-- `CLAIM_MARK_WAIT_EXPIRY` (R546). A claim that waits for a final MARK in transit gives up after 100 µs and proceeds as BLIND. -/
  | claimMarkWaitExpiry
  /-- `SYSREF_EDGE` (R473). SHL_SYSREFj produces a rising edge at each Shell time that is a multiple of SYSREF_NS, at which converter links realign. -/
  | sysrefEdge (link : Fin 4)
  /-- `FIELD_TRIGGER_EDGE` (R473). A Shell field trigger SHL_FTRIGn produces its edge at its programmed Shell time, gated by Shell LOCKED. -/
  | fieldTriggerEdge (trig : Fin 4)
  /-- `REGISTER_READ` (R669). A read of a register whose read has its own effect, such as an indirect-window DATA read advancing ADDR, NTM_SNAP_PP clearing FRESH or CLK_X_DATA word 0 clearing OVR_FLAG. -/
  | registerRead (ini : Nat) (addr : BitVec 28)
  deriving DecidableEq, Repr

end Sys2Proof
end

