-- ==== Sys2Proof/Decode.lean ====
section
/-! DEFINITION. Words of commands. The command table gives no row any bits: a command arrives as an event, not as a word,
so no word spells one. -/

namespace Sys2Proof

/-- The command that a word of the table's bits spells: the table has none. -/
def decodeTableWord (_nbits _w : Nat) : Option Instr := none

end Sys2Proof
end

