-- ==== Sys2Proof/Config.lean ====
section
/-! DEFINITION. What an implementation fixes and the spec leaves open. Every constant here is opaque: no proof can see
a value of it, so a claim holds whatever it is. The argument is the state's plain counter `fresh`, which each use
advances. -/

namespace Sys2Proof.Config

/-- A value the spec leaves open, as a word. -/
opaque freeWord : Nat → Word

/-- A choice the spec leaves open. -/
opaque freeBit : Nat → Bool

/-- A number below a bound that the spec gives: the draw itself is open. -/
opaque freeNat : Nat → Nat

/-- The table kind of a TABLE message (Table TWN-2), by the address of the window's DATA register: the spec numbers no
kinds. -/
opaque tableKind : Nat → Byte

end Sys2Proof.Config
end

