-- ==== Sys2Proof/Machine/RegMap.lean ====
section
/-! DEFINITION. The register map: the address of every register (Tables POD-5 to REG-6), and one row per
register with its access code (R656), its reset value and the bit ranges and value ranges of its fields (R657). -/

namespace Sys2Proof.Machine

/-- Access codes of Table REG-3 (R656). `sem` is the RO code of DEV_SEMk with R573 and R574. -/
inductive Access where
  | rw | ro | w1p | sqc | kg | wide | sem
  deriving DecidableEq, Repr

/-- One writable field: its lowest bit, its width, and its least and greatest value (R657);
a negative least value makes the field two's complement. -/
structure Fld where
  lo : Nat
  width : Nat
  least : Int
  most : Int
  deriving DecidableEq, Repr

/-- One row of a register table: `count` registers `stride` bytes apart, each of them repeated `count2` times
`stride2` bytes apart. `reset` holds one value for all, one per inner index or one per register. -/
structure RegRow where
  addr : Nat
  stride : Nat
  count : Nat
  stride2 : Nat
  count2 : Nat
  access : Access
  reset : List Nat
  flds : List Fld
  deriving DecidableEq, Repr

namespace Reg

def POD_ID (n : Nat) : Nat := 0x200000 + n * 0x40000
def POD_RX_CTRL (n : Nat) : Nat := 0x200004 + n * 0x40000
def POD_RX_STATUS (n : Nat) : Nat := 0x200008 + n * 0x40000
def POD_RX_INT_EN (n : Nat) : Nat := 0x20000c + n * 0x40000
def POD_CAL_CMD (n : Nat) : Nat := 0x200010 + n * 0x40000
def POD_CAL_STATUS (n : Nat) : Nat := 0x200014 + n * 0x40000
def POD_AGC_CTRL (n : Nat) : Nat := 0x200020 + n * 0x40000
def POD_AGC_DAC (n : Nat) : Nat := 0x200024 + n * 0x40000
def POD_AGC_RMS (n : Nat) : Nat := 0x200028 + n * 0x40000
def POD_FGL_CTRL (n : Nat) : Nat := 0x200030 + n * 0x40000
def POD_FGL_GAIN (n : Nat) : Nat := 0x200034 + n * 0x40000
def POD_CDC_CTRL (n : Nat) : Nat := 0x200040 + n * 0x40000
def POD_CDC_COEF (n : Nat) : Nat := 0x200044 + n * 0x40000
def POD_CDC_MANUAL (n : Nat) : Nat := 0x200048 + n * 0x40000
def POD_CDC_VALUE (n : Nat) : Nat := 0x20004c + n * 0x40000
def POD_PRE_CTRL (n : Nat) : Nat := 0x200050 + n * 0x40000
def POD_TIM_CTRL (n : Nat) : Nat := 0x200054 + n * 0x40000
def POD_CFO_STATUS (n : Nat) : Nat := 0x200058 + n * 0x40000
def POD_LAT (n : Nat) : Nat := 0x20005c + n * 0x40000
def POD_EQ_CTRL (n : Nat) : Nat := 0x200060 + n * 0x40000
def POD_NOISE_VAR (n : Nat) : Nat := 0x200064 + n * 0x40000
def POD_LDPC_CTRL (n : Nat) : Nat := 0x200070 + n * 0x40000
def POD_LDPC_STATUS (n : Nat) : Nat := 0x200074 + n * 0x40000
def POD_REPAIR_EQL (n k : Nat) : Nat := 0x200080 + n * 0x40000 + k * 0x4
def POD_REPAIR_LDP (n k : Nat) : Nat := 0x2000c0 + n * 0x40000 + k * 0x4
def POD_LOS_CTRL (n : Nat) : Nat := 0x2000d0 + n * 0x40000
def POD_CLIP (n k : Nat) : Nat := 0x2000e0 + n * 0x40000 + k * 0x4
def POD_CNT_BLOCKS (n : Nat) : Nat := 0x200100 + n * 0x40000
def POD_CNT_BLK_LOST (n : Nat) : Nat := 0x200108 + n * 0x40000
def POD_CNT_ABANDON (n : Nat) : Nat := 0x200110 + n * 0x40000
def POD_CNT_CW (n : Nat) : Nat := 0x200118 + n * 0x40000
def POD_CNT_CW_CLEAN (n : Nat) : Nat := 0x200120 + n * 0x40000
def POD_CNT_CW_CORR (n : Nat) : Nat := 0x200128 + n * 0x40000
def POD_CNT_CW_UNCOR (n : Nat) : Nat := 0x200130 + n * 0x40000
def POD_CNT_CW_ABAND (n : Nat) : Nat := 0x200138 + n * 0x40000
def POD_CNT_CORR_BITS (n : Nat) : Nat := 0x200140 + n * 0x40000
def POD_CNT_ITERS (n : Nat) : Nat := 0x200148 + n * 0x40000
def POD_CNT_PROF_DISC (n : Nat) : Nat := 0x200150 + n * 0x40000
def POD_CNT_BLK_TX0 (n : Nat) : Nat := 0x200158 + n * 0x40000
def POD_CNT_BLK_TX1 (n : Nat) : Nat := 0x200160 + n * 0x40000
def POD_CNT_UNC_TX0 (n : Nat) : Nat := 0x200168 + n * 0x40000
def POD_CNT_UNC_TX1 (n : Nat) : Nat := 0x200170 + n * 0x40000
def POD_CNT_ABN_TX0 (n : Nat) : Nat := 0x200178 + n * 0x40000
def POD_CNT_ABN_TX1 (n : Nat) : Nat := 0x200180 + n * 0x40000
def POD_CNT_LIMIT_CUT (n : Nat) : Nat := 0x200188 + n * 0x40000
def POD_PROF_SEL (n : Nat) : Nat := 0x200200 + n * 0x40000
def POD_PROF_ADDR (n : Nat) : Nat := 0x200204 + n * 0x40000
def POD_PROF_DATA (n : Nat) : Nat := 0x200208 + n * 0x40000
def POD_PROF_CMD (n : Nat) : Nat := 0x20020c + n * 0x40000
def POD_PROF_MF (n : Nat) : Nat := 0x200210 + n * 0x40000
def POD_PROF_INFO (n : Nat) : Nat := 0x200214 + n * 0x40000
def POD_EQ_ADDR (n : Nat) : Nat := 0x200300 + n * 0x40000
def POD_EQ_DATA (n : Nat) : Nat := 0x200304 + n * 0x40000
def POD_EQ_FREEZE (n : Nat) : Nat := 0x200308 + n * 0x40000
def DSF_ID : Nat := 0x70000
def DSF_CTRL : Nat := 0x70004
def DSF_STATUS : Nat := 0x70008
def DSF_INT_EN : Nat := 0x7000c
def DSF_FA_CTRL : Nat := 0x70010
def DSF_LOB_CTRL : Nat := 0x70014
def DSF_DEG_CTRL : Nat := 0x70018
def DSF_FFR_CTRL : Nat := 0x7001c
def DSF_LOK_CTRL : Nat := 0x70020
def DSF_SES_CTRL : Nat := 0x70024
def DSF_LOK_LINK : Nat := 0x70028
def DSF_PM_CTRL : Nat := 0x70030
def DSF_PM_SEL : Nat := 0x70034
def DSF_PM_CMD : Nat := 0x70038
def DSF_PM_ADDR : Nat := 0x7003c
def DSF_PM_DATA : Nat := 0x70040
def DSF_PM_STATUS : Nat := 0x70044
def DSF_RO_POOL : Nat := 0x70080
def DSF_LINK_SEL : Nat := 0x70084
def DSF_LINK_ADDR : Nat := 0x70088
def DSF_LINK_DATA : Nat := 0x7008c
def DSF_SKEW_REF : Nat := 0x70090
def DSF_CHn_STATE (n : Nat) : Nat := 0x70400 + n * 0x100
def DSF_CHn_DEFECT (n : Nat) : Nat := 0x70404 + n * 0x100
def DSF_CHn_EVENT (n : Nat) : Nat := 0x70408 + n * 0x100
def DSF_CHn_INT_EN (n : Nat) : Nat := 0x7040c + n * 0x100
def DSF_CHn_FRAME (n : Nat) : Nat := 0x70410 + n * 0x100
def DSF_CHn_SKEW (n : Nat) : Nat := 0x70414 + n * 0x100
def DSF_CHn_SKEW_STATUS (n : Nat) : Nat := 0x70418 + n * 0x100
def DSF_CHn_CNT_SYNC_MISS (n : Nat) : Nat := 0x70440 + n * 0x100
def DSF_CHn_CNT_FALSE_CAND (n : Nat) : Nat := 0x70448 + n * 0x100
def DSF_CHn_CNT_CAND_FULL (n : Nat) : Nat := 0x70450 + n * 0x100
def DSF_CHn_CNT_SLIP (n : Nat) : Nat := 0x70458 + n * 0x100
def DSF_CHn_CNT_MF_INCONS (n : Nat) : Nat := 0x70460 + n * 0x100
def DSF_CHn_CNT_HDR_DISC (n : Nat) : Nat := 0x70468 + n * 0x100
def DSF_CHn_CNT_PVEC_REUSE (n : Nat) : Nat := 0x70470 + n * 0x100
def DSF_CHn_CNT_MAP_LOST (n : Nat) : Nat := 0x70478 + n * 0x100
def DSF_CHn_CNT_MSG_DISC (n : Nat) : Nat := 0x70480 + n * 0x100
def DSF_CHn_CNT_SEG_HDR_ERR (n : Nat) : Nat := 0x70488 + n * 0x100
def DSF_CHn_CNT_SEG_RSVD (n : Nat) : Nat := 0x70490 + n * 0x100
def DSF_CHn_CNT_SEG_FOREIGN (n : Nat) : Nat := 0x70498 + n * 0x100
def DSF_CHn_CNT_SEG_UNCOR (n : Nat) : Nat := 0x704a0 + n * 0x100
def DSF_CHn_CNT_NONMEMBER (n : Nat) : Nat := 0x704a8 + n * 0x100
def DSF_CHn_CNT_EARLY_JOIN (n : Nat) : Nat := 0x704b0 + n * 0x100
def DSF_CHn_CNT_CTRL_LOST (n : Nat) : Nat := 0x704b8 + n * 0x100
def ACT_ID : Nat := 0x60000
def ACT_CTRL : Nat := 0x60004
def ACT_STATUS : Nat := 0x60008
def ACT_INT_EN : Nat := 0x6000c
def ACT_STATE : Nat := 0x60010
def ACT_TID : Nat := 0x60014
def ACT_CMD : Nat := 0x60018
def ACT_SERIAL_LO : Nat := 0x6001c
def ACT_SERIAL_HI : Nat := 0x60020
def ACT_TWIN_ID : Nat := 0x60024
def ACT_TWIN_CFG : Nat := 0x60028
def ACT_TO_RANGE : Nat := 0x60030
def ACT_TO_HELD : Nat := 0x60034
def ACT_ANN_CTRL : Nat := 0x60038
def ACT_SIL_STATUS : Nat := 0x6003c
def ACT_CHSET : Nat := 0x60040
def ACT_UQ_STATUS : Nat := 0x60044
def ACT_SLEEP_PERMIT : Nat := 0x60048
def ACT_SLEEP_LISTEN : Nat := 0x6004c
def ACT_CNT_ANN_SENT : Nat := 0x60080
def ACT_CNT_RANGE_SENT : Nat := 0x60088
def ACT_CNT_RANGE_LAPSE : Nat := 0x60090
def ACT_CNT_MSG_ACTED : Nat := 0x60098
def ACT_CNT_MSG_REPEAT : Nat := 0x600a0
def ACT_CNT_MSG_BAD : Nat := 0x600a8
def ACT_CNT_UQ_DROP : Nat := 0x600b0
def ACT_CNT_GRANT_DISC : Nat := 0x600b8
def ACT_CNT_GRANT_OVERLAP : Nat := 0x600c0
def ACT_CNT_RTD_REFUSED : Nat := 0x600c8
def ACT_CNT_ADV_COLLIDE : Nat := 0x600d0
def ACT_CNT_ID_LOSS : Nat := 0x600d8
def ACT_CNT_TUN_REQ : Nat := 0x600e0
def ACT_CNT_TUN_REFUSED : Nat := 0x600e8
def ACT_CNT_RSVD_MAP : Nat := 0x600f0
def ACT_CHn_RTD (n : Nat) : Nat := 0x60100 + n * 0x20
def ACT_CHn_DDOWN (n : Nat) : Nat := 0x60104 + n * 0x20
def ACT_CHn_DUP (n : Nat) : Nat := 0x60108 + n * 0x20
def ACT_CHn_FE (n : Nat) : Nat := 0x6010c + n * 0x20
def ACT_CHn_ASYM (n : Nat) : Nat := 0x60110 + n * 0x20
def ACT_CHn_RSTAT (n : Nat) : Nat := 0x60114 + n * 0x20
def USQ_ID : Nat := 0x80000
def USQ_CTRL : Nat := 0x80004
def USQ_STATUS : Nat := 0x80008
def USQ_INT_EN : Nat := 0x8000c
def USQ_FILL_LEAD : Nat := 0x80010
def USQ_LAT_PERIOD : Nat := 0x80014
def USQ_CEIL_US : Nat := 0x80018
def USQ_CEIL_EG : Nat := 0x8001c
def USQ_Q_SEL : Nat := 0x80040
def USQ_Q_ADDR : Nat := 0x80044
def USQ_Q_DATA : Nat := 0x80048
def USQ_Q_CMD : Nat := 0x8004c
def USQ_LINK_SEL : Nat := 0x80050
def USQ_LINK_ADDR : Nat := 0x80054
def USQ_LINK_DATA : Nat := 0x80058
def USQ_ALLOC_SEL : Nat := 0x80060
def USQ_ALLOC_ADDR : Nat := 0x80064
def USQ_ALLOC_DATA : Nat := 0x80068
def USQ_CNT_BATCHES : Nat := 0x80080
def USQ_CNT_GRANTS : Nat := 0x80088
def USQ_CNT_GRANT_EMPTY : Nat := 0x80090
def USQ_CNT_FILL_BYTES : Nat := 0x80098
def USQ_CNT_NEVER_FITS : Nat := 0x800a0
def USQ_CNT_ABANDON_FRAMES : Nat := 0x800a8
def USQ_CNT_BIND_DEFER : Nat := 0x800b0
def USQ_CNT_CTRL_SEGS : Nat := 0x800b8
def UBT_ID : Nat := 0x90000
def UBT_CTRL : Nat := 0x90004
def UBT_STATUS : Nat := 0x90008
def UBT_INT_EN : Nat := 0x9000c
def UBT_GATE_LIMITS : Nat := 0x90010
def UBT_CEIL_PWR : Nat := 0x90014
def UBT_GATE_STATE : Nat := 0x90018
def UBT_ROGUE_CLR : Nat := 0x9001c
def UBT_CNT_CAUSE (n : Nat) : Nat := 0x90040 + n * 0x8
def UBT_CNT_ROGUE_CLR_REF : Nat := 0x900a8
def UBT_CHn_LAST (n : Nat) : Nat := 0x90100 + n * 0x80
def UBT_CHn_DUTY (n : Nat) : Nat := 0x90104 + n * 0x80
def UBT_CHn_BSEQ (n : Nat) : Nat := 0x90108 + n * 0x80
def UBT_CHn_CNT_BURSTS (n : Nat) : Nat := 0x90110 + n * 0x80
def UBT_CHn_CNT_DISC (n : Nat) : Nat := 0x90118 + n * 0x80
def UBT_CHn_CNT_ABANDON (n : Nat) : Nat := 0x90120 + n * 0x80
def UBT_CHn_CNT_CUT (n : Nat) : Nat := 0x90128 + n * 0x80
def UBT_CHn_CNT_PROF_DISC (n : Nat) : Nat := 0x90130 + n * 0x80
def UBT_CHn_CNT_LIGHT_US (n : Nat) : Nat := 0x90138 + n * 0x80
def POD_TX_CTRL (n : Nat) : Nat := 0x210000 + n * 0x40000
def POD_TX_STATUS (n : Nat) : Nat := 0x210004 + n * 0x40000
def POD_TX_INT_EN (n : Nat) : Nat := 0x210008 + n * 0x40000
def POD_TX_GATE (n : Nat) : Nat := 0x210010 + n * 0x40000
def POD_TX_RAMP (n : Nat) : Nat := 0x210014 + n * 0x40000
def POD_TX_SWING (n : Nat) : Nat := 0x210018 + n * 0x40000
def POD_TX_LAT (n : Nat) : Nat := 0x21001c + n * 0x40000
def POD_TX_SENSE (n : Nat) : Nat := 0x210020 + n * 0x40000
def POD_TX_RUP (n k : Nat) : Nat := 0x210040 + n * 0x40000 + k * 0x4
def POD_TX_RDN (n k : Nat) : Nat := 0x210050 + n * 0x40000 + k * 0x4
def POD_TXPROF_SEL (n : Nat) : Nat := 0x210080 + n * 0x40000
def POD_TXPROF_ADDR (n : Nat) : Nat := 0x210084 + n * 0x40000
def POD_TXPROF_DATA (n : Nat) : Nat := 0x210088 + n * 0x40000
def POD_TXPROF_CMD (n : Nat) : Nat := 0x21008c + n * 0x40000
def POD_TXPROF_MF (n : Nat) : Nat := 0x210090 + n * 0x40000
def POD_TXPROF_INFO (n : Nat) : Nat := 0x210094 + n * 0x40000
def POD_TX_CNT_BURSTS (n : Nat) : Nat := 0x210100 + n * 0x40000
def POD_TX_CNT_SYMBOLS (n : Nat) : Nat := 0x210108 + n * 0x40000
def POD_TX_CNT_CWS (n : Nat) : Nat := 0x210110 + n * 0x40000
def POD_TX_CNT_CUT (n : Nat) : Nat := 0x210118 + n * 0x40000
def POD_TX_CNT_SENSE_LOW (n : Nat) : Nat := 0x210120 + n * 0x40000
def POD_TX_CNT_LOOP (n : Nat) : Nat := 0x210128 + n * 0x40000
def NTM_ID : Nat := 0x50000
def NTM_CTRL : Nat := 0x50004
def NTM_STATUS : Nat := 0x50008
def NTM_INT_EN : Nat := 0x5000c
def NTM_STATE : Nat := 0x50010
def NTM_CMD : Nat := 0x50014
def NTM_SNAP_S_LO : Nat := 0x50018
def NTM_SNAP_S_HI : Nat := 0x5001c
def NTM_SNAP_NS : Nat := 0x50020
def NTM_SNAP_PP : Nat := 0x50024
def NTM_SEC_LO : Nat := 0x50028
def NTM_SEC_HI : Nat := 0x5002c
def NTM_TIME_CMD : Nat := 0x50030
def NTM_SET_S_LO : Nat := 0x50034
def NTM_SET_S_HI : Nat := 0x50038
def NTM_SET_NS : Nat := 0x5003c
def NTM_SET_PP : Nat := 0x50040
def NTM_ADJ : Nat := 0x50044
def NTM_RATE : Nat := 0x50050
def NTM_RATE_I : Nat := 0x50054
def NTM_RATE_MAN : Nat := 0x50058
def NTM_SERVO : Nat := 0x5005c
def NTM_STEP_THR : Nat := 0x50060
def NTM_SLEW_MAX : Nat := 0x50064
def NTM_TOD_TIMEOUT : Nat := 0x50068
def NTM_HOLD_SPEC : Nat := 0x5006c
def NTM_HOLD_ELAPSED : Nat := 0x50070
def NTM_LAST_ERR : Nat := 0x50074
def NTM_LAST_MF : Nat := 0x50078
def NTM_HREF_CTRL : Nat := 0x50080
def NTM_HREF_STATUS : Nat := 0x50084
def NTM_HREF_RATE : Nat := 0x50088
def NTM_CNT_TOD_ACCEPT : Nat := 0x500c0
def NTM_CNT_TOD_REJECT : Nat := 0x500c8
def NTM_CNT_STEP : Nat := 0x500d0
def NTM_CNT_HOLD : Nat := 0x500d8
def NTM_CNT_TC_LATE : Nat := 0x500e0
def NTM_CNT_TRIG_SKIP : Nat := 0x500e8
def NTM_HPp_CFG (n : Nat) : Nat := 0x50100 + n * 0x10
def NTM_HPp_EG_ADJ (n : Nat) : Nat := 0x50104 + n * 0x10
def NTM_HPp_IN_ADJ (n : Nat) : Nat := 0x50108 + n * 0x10
def NTM_HPp_CORR (n : Nat) : Nat := 0x5010c + n * 0x10
def NTM_PTP_CLKID_LO : Nat := 0x50180
def NTM_PTP_CLKID_HI : Nat := 0x50184
def NTM_PTP_CFG : Nat := 0x50188
def NTM_PTP_CLASS : Nat := 0x5018c
def NTM_PTP_QUAL : Nat := 0x50190
def NTM_PTP_UTC : Nat := 0x50194
def NTM_PTPp_CTRL (n : Nat) : Nat := 0x50200 + n * 0x40
def NTM_PTPp_IPV4 (n : Nat) : Nat := 0x50204 + n * 0x40
def NTM_PTPp_IPV6 (n k : Nat) : Nat := 0x50208 + n * 0x40 + k * 0x4
def NTM_PTPp_CNT_SYNC (n : Nat) : Nat := 0x50220 + n * 0x40
def NTM_PTPp_CNT_ANN (n : Nat) : Nat := 0x50228 + n * 0x40
def NTM_PTPp_CNT_DRESP (n : Nat) : Nat := 0x50230 + n * 0x40
def NTM_PTPp_CNT_DROP (n : Nat) : Nat := 0x50238 + n * 0x40
def NTM_TRIGt_CTRL (n : Nat) : Nat := 0x50400 + n * 0x40
def NTM_TRIGt_START_S_LO (n : Nat) : Nat := 0x50404 + n * 0x40
def NTM_TRIGt_START_S_HI (n : Nat) : Nat := 0x50408 + n * 0x40
def NTM_TRIGt_START_NS (n : Nat) : Nat := 0x5040c + n * 0x40
def NTM_TRIGt_START_PP (n : Nat) : Nat := 0x50410 + n * 0x40
def NTM_TRIGt_PERIOD_NS (n : Nat) : Nat := 0x50414 + n * 0x40
def NTM_TRIGt_PERIOD_PP (n : Nat) : Nat := 0x50418 + n * 0x40
def NTM_TRIGt_WIDTH_NS (n : Nat) : Nat := 0x5041c + n * 0x40
def NTM_TRIGt_COUNT (n : Nat) : Nat := 0x50420 + n * 0x40
def NTM_TRIGt_ADJ (n : Nat) : Nat := 0x50424 + n * 0x40
def NTM_TRIGt_CMD (n : Nat) : Nat := 0x50428 + n * 0x40
def NTM_TRIGt_STATUS (n : Nat) : Nat := 0x5042c + n * 0x40
def NTM_TRIGt_NEXT (n : Nat) : Nat := 0x50430 + n * 0x40
def NTM_TRIGt_NEXT_PP (n : Nat) : Nat := 0x50434 + n * 0x40
def NTM_CAPc_CTRL (n : Nat) : Nat := 0x50600 + n * 0x20
def NTM_CAPc_ADJ (n : Nat) : Nat := 0x50604 + n * 0x20
def NTM_CAPc_CMD (n : Nat) : Nat := 0x50608 + n * 0x20
def NTM_CAPc_LEVEL (n : Nat) : Nat := 0x5060c + n * 0x20
def NTM_CAPc_HOLD_S_LO (n : Nat) : Nat := 0x50610 + n * 0x20
def NTM_CAPc_HOLD_S_HI (n : Nat) : Nat := 0x50614 + n * 0x20
def NTM_CAPc_HOLD_NS (n : Nat) : Nat := 0x50618 + n * 0x20
def NTM_CAPc_HOLD_PP (n : Nat) : Nat := 0x5061c + n * 0x20
def NTM_CAPc_CNT_OVF (n : Nat) : Nat := 0x50680 + n * 0x10
def NTM_CAPc_CNT_CLOSE (n : Nat) : Nat := 0x50688 + n * 0x10
def NTM_TCs_TIME_S_LO (n : Nat) : Nat := 0x50800 + n * 0x20
def NTM_TCs_TIME_S_HI (n : Nat) : Nat := 0x50804 + n * 0x20
def NTM_TCs_TIME_NS (n : Nat) : Nat := 0x50808 + n * 0x20
def NTM_TCs_TIME_PP (n : Nat) : Nat := 0x5080c + n * 0x20
def NTM_TCs_MASK (n : Nat) : Nat := 0x50810 + n * 0x20
def NTM_TCs_CMD (n : Nat) : Nat := 0x50814 + n * 0x20
def NTM_TCs_STATE (n : Nat) : Nat := 0x50818 + n * 0x20
def NTM_TCs_FIRED (n : Nat) : Nat := 0x5081c + n * 0x20
def LSC_ID : Nat := 0xa0000
def LSC_CTRL : Nat := 0xa0004
def LSC_STATUS : Nat := 0xa0008
def LSC_INT_EN : Nat := 0xa000c
def LSC_STORE_STATE : Nat := 0xa0010
def LSC_CMD : Nat := 0xa0014
def LSC_HOLD_CTRL : Nat := 0xa0018
def LSC_GRACE : Nat := 0xa001c
def LSC_NEAR_LINK : Nat := 0xa0020
def LSC_FAIL_LINK : Nat := 0xa0024
def LSC_LINK_SEL : Nat := 0xa0040
def LSC_LINK_ADDR : Nat := 0xa0044
def LSC_LINK_DATA : Nat := 0xa0048
def LSC_KL_CTRL : Nat := 0xa0060
def LSC_KL_SALT : Nat := 0xa0064
def LSC_KL_WRAP (n : Nat) : Nat := 0xa0068 + n * 0x4
def LSC_KL_CMD : Nat := 0xa0090
def LSC_KL_RESULT : Nat := 0xa0094
def LSC_CNT_ENC_FRAMES : Nat := 0xa0100
def LSC_CNT_DEC_OK : Nat := 0xa0108
def LSC_CNT_AUTH_FAIL : Nat := 0xa0110
def LSC_CNT_NO_KEY : Nat := 0xa0118
def LSC_CNT_MALFORMED : Nat := 0xa0120
def LSC_CNT_CHECK_FAIL : Nat := 0xa0128
def LSC_CNT_HELD_DISC : Nat := 0xa0130
def LSC_CNT_KEY_REFUSED : Nat := 0xa0138
def LSC_CNT_SW_FAIL : Nat := 0xa0140
def LSC_CNT_NEAR_END : Nat := 0xa0148
def LSC_CNT_ERASES : Nat := 0xa0150
def LSC_CNT_SKIP : Nat := 0xa0158
def HPE_ID : Nat := 0xb0000
def HPE_STATUS : Nat := 0xb0004
def HPE_INT_EN : Nat := 0xb0008
def HPE_QUAD_PWR : Nat := 0xb000c
def HPE_Pp_CFG (n : Nat) : Nat := 0xb0100 + n * 0x40
def HPE_Pp_STATUS (n : Nat) : Nat := 0xb0104 + n * 0x40
def HPE_Pp_INT_EN (n : Nat) : Nat := 0xb0108 + n * 0x40
def HPE_Pp_LINK (n : Nat) : Nat := 0xb010c + n * 0x40
def HPE_Pp_MAXLEN (n : Nat) : Nat := 0xb0110 + n * 0x40
def HPE_Pp_MAC_CTRL (n : Nat) : Nat := 0xb0114 + n * 0x40
def HPE_Pp_ADDR_LO (n : Nat) : Nat := 0xb0118 + n * 0x40
def HPE_Pp_ADDR_HI (n : Nat) : Nat := 0xb011c + n * 0x40
def HPE_Pp_MSRC_LO (n : Nat) : Nat := 0xb0120 + n * 0x40
def HPE_Pp_MSRC_HI (n : Nat) : Nat := 0xb0124 + n * 0x40
def HPE_Pp_HALF_LO (n : Nat) : Nat := 0xb0128 + n * 0x40
def HPE_Pp_HALF_HI (n : Nat) : Nat := 0xb012c + n * 0x40
def HPE_Pp_MGMT (n : Nat) : Nat := 0xb0130 + n * 0x40
def HPE_Pp_RX_OCTETS_ALL (n : Nat) : Nat := 0xb1000 + n * 0x200
def HPE_Pp_RX_OCTETS_OK (n : Nat) : Nat := 0xb1008 + n * 0x200
def HPE_Pp_RX_FRAMES_OK (n : Nat) : Nat := 0xb1010 + n * 0x200
def HPE_Pp_RX_UNICAST (n : Nat) : Nat := 0xb1018 + n * 0x200
def HPE_Pp_RX_MULTICAST (n : Nat) : Nat := 0xb1020 + n * 0x200
def HPE_Pp_RX_BROADCAST (n : Nat) : Nat := 0xb1028 + n * 0x200
def HPE_Pp_RX_PAUSE (n : Nat) : Nat := 0xb1030 + n * 0x200
def HPE_Pp_RX_CTRL (n : Nat) : Nat := 0xb1038 + n * 0x200
def HPE_Pp_RX_FCS_ERR (n : Nat) : Nat := 0xb1040 + n * 0x200
def HPE_Pp_RX_ALIGN (n : Nat) : Nat := 0xb1048 + n * 0x200
def HPE_Pp_RX_SYMBOL (n : Nat) : Nat := 0xb1050 + n * 0x200
def HPE_Pp_RX_RUNT (n : Nat) : Nat := 0xb1058 + n * 0x200
def HPE_Pp_RX_FRAGMENT (n : Nat) : Nat := 0xb1060 + n * 0x200
def HPE_Pp_RX_OVERSIZE_TRUNC (n : Nat) : Nat := 0xb1068 + n * 0x200
def HPE_Pp_RX_JABBER (n : Nat) : Nat := 0xb1070 + n * 0x200
def HPE_Pp_RX_ENGINE_OVERRUN (n : Nat) : Nat := 0xb1078 + n * 0x200
def HPE_Pp_RX_ABORT (n : Nat) : Nat := 0xb1080 + n * 0x200
def HPE_Pp_RX_PTP (n : Nat) : Nat := 0xb1088 + n * 0x200
def HPE_Pp_RX_MGMT (n : Nat) : Nat := 0xb1090 + n * 0x200
def HPE_Pp_RX_MGMT_DROP (n : Nat) : Nat := 0xb1098 + n * 0x200
def HPE_Pp_RX_FEC_CORR (n : Nat) : Nat := 0xb10a0 + n * 0x200
def HPE_Pp_RX_FEC_UNCOR (n : Nat) : Nat := 0xb10a8 + n * 0x200
def HPE_Pp_RX_BKT (n k : Nat) : Nat := 0xb10b0 + n * 0x200 + k * 0x8
def HPE_Pp_TX_OCTETS (n : Nat) : Nat := 0xb1100 + n * 0x200
def HPE_Pp_TX_FRAMES (n : Nat) : Nat := 0xb1108 + n * 0x200
def HPE_Pp_TX_UNICAST (n : Nat) : Nat := 0xb1110 + n * 0x200
def HPE_Pp_TX_MULTICAST (n : Nat) : Nat := 0xb1118 + n * 0x200
def HPE_Pp_TX_BROADCAST (n : Nat) : Nat := 0xb1120 + n * 0x200
def HPE_Pp_TX_PTP (n : Nat) : Nat := 0xb1128 + n * 0x200
def HPE_Pp_TX_MGMT (n : Nat) : Nat := 0xb1130 + n * 0x200
def HPE_Pp_TX_PADDED (n : Nat) : Nat := 0xb1138 + n * 0x200
def HPE_Pp_TX_DISCARD (n : Nat) : Nat := 0xb1140 + n * 0x200
def HPE_Pp_TX_PAUSED (n : Nat) : Nat := 0xb1148 + n * 0x200
def HPE_Pp_TX_BKT (n k : Nat) : Nat := 0xb1150 + n * 0x200 + k * 0x8
def CLS_ID : Nat := 0xc0000
def CLS_CTRL : Nat := 0xc0004
def CLS_STATUS : Nat := 0xc0008
def CLS_INT_EN : Nat := 0xc000c
def CLS_TPID : Nat := 0xc0010
def CLS_GEN : Nat := 0xc0014
def CLS_GEN_CMD : Nat := 0xc0018
def CLS_SEED0 : Nat := 0xc001c
def CLS_SEED1 : Nat := 0xc0020
def CLS_TBL_CFG : Nat := 0xc0024
def CLS_TBL_CMD : Nat := 0xc0028
def CLS_TBL_RESULT : Nat := 0xc002c
def CLS_TBL_IDX : Nat := 0xc0030
def CLS_TBL_GEN : Nat := 0xc0034
def CLS_TBL_ADDR : Nat := 0xc0038
def CLS_TBL_DATA : Nat := 0xc003c
def CLS_TBL_COUNT : Nat := 0xc0040
def CLS_TBL_GEN0CNT : Nat := 0xc0044
def CLS_TBL_GEN1CNT : Nat := 0xc0048
def CLS_SEL_IDX : Nat := 0xc0050
def CLS_SEL_DATA : Nat := 0xc0054
def CLS_SEL_SRC : Nat := 0xc0058
def CLS_PROF_SEL : Nat := 0xc0060
def CLS_PROF_ADDR : Nat := 0xc0064
def CLS_PROF_DATA : Nat := 0xc0068
def CLS_PROF_CMD : Nat := 0xc006c
def CLS_LINK_SEL : Nat := 0xc0070
def CLS_LINK_DEFQ : Nat := 0xc0074
def CLS_SG_SEL : Nat := 0xc0078
def CLS_SG_CFG : Nat := 0xc007c
def CLS_SG_MAP : Nat := 0xc0080
def CLS_IND_IDX : Nat := 0xc0084
def CLS_IND_DATA : Nat := 0xc0088
def CLS_HASH_KEY (n : Nat) : Nat := 0xc0090 + n * 0x4
def CLS_SRC_DEFQ (n : Nat) : Nat := 0xc00c0 + n * 0x4
def CLS_CAPQ (n : Nat) : Nat := 0xc0100 + n * 0x4
def CLS_CNT_PASS1 : Nat := 0xc0200
def CLS_CNT_PASS2 : Nat := 0xc0208
def CLS_CNT_HIT : Nat := 0xc0210
def CLS_CNT_MISS : Nat := 0xc0218
def CLS_CNT_INCOMPLETE : Nat := 0xc0220
def CLS_CNT_LEN_CONFLICT : Nat := 0xc0228
def CLS_CNT_LEN_DROP : Nat := 0xc0230
def CLS_CNT_DROP : Nat := 0xc0238
def CLS_CNT_COPIES : Nat := 0xc0240
def CLS_CNT_RECIRC_BUDGET : Nat := 0xc0248
def CLS_CNT_RECIRC_PROF : Nat := 0xc0250
def CLS_CNT_RECIRC_SECOND : Nat := 0xc0258
def CLS_CNT_DIR_DROP : Nat := 0xc0260
def CLS_CNT_BIND_DROP : Nat := 0xc0268
def CLS_CNT_OVS_DROP : Nat := 0xc0270
def CLS_CNT_SWAP_REFUSED : Nat := 0xc0278
def CLS_CNT_PIPE_DROP : Nat := 0xc0280
def HRD_ID : Nat := 0xd0000
def HRD_CTRL : Nat := 0xd0004
def HRD_STATUS : Nat := 0xd0008
def HRD_INT_EN : Nat := 0xd000c
def HRD_PART : Nat := 0xd0010
def HRD_US_CELLS : Nat := 0xd0014
def HRD_DS_CELLS : Nat := 0xd0018
def HRD_US_FREE : Nat := 0xd001c
def HRD_DS_FREE : Nat := 0xd0020
def HRD_US_DESC_FREE : Nat := 0xd0024
def HRD_DS_DESC_FREE : Nat := 0xd0028
def HRD_SCRUB_CTRL : Nat := 0xd002c
def HRD_LAST_UNCOR : Nat := 0xd0030
def HRD_RETIRED : Nat := 0xd0034
def HRD_LOST_CELLS : Nat := 0xd0038
def HRD_PC_SEL : Nat := 0xd0040
def HRD_PC_ADDR : Nat := 0xd0044
def HRD_PC_DATA : Nat := 0xd0048
def HRD_CNT_CORR_S0 : Nat := 0xd0080
def HRD_CNT_CORR_S1 : Nat := 0xd0088
def HRD_CNT_UNCOR_S0 : Nat := 0xd0090
def HRD_CNT_UNCOR_S1 : Nat := 0xd0098
def HRD_CNT_UNCOR_DROP : Nat := 0xd00a0
def ARB_ID : Nat := 0xe0000
def ARB_STATUS : Nat := 0xe0008
def ARB_INT_EN : Nat := 0xe000c
def ARB_Ii_CTRL (n : Nat) : Nat := 0xe0100 + n * 0x100
def ARB_Ii_STATE (n : Nat) : Nat := 0xe0104 + n * 0x100
def ARB_Ii_REQr (n k : Nat) : Nat := 0xe0140 + n * 0x100 + k * 0x4
def ARB_Ii_MASK (n : Nat) : Nat := 0xe0178 + n * 0x100
def ARB_Ii_CNT_GRANTr (n k : Nat) : Nat := 0xe0180 + n * 0x100 + k * 0x8
def HSK_ID : Nat := 0x100000
def HSK_CTRL : Nat := 0x100004
def HSK_STATUS : Nat := 0x100008
def HSK_INT_EN : Nat := 0x10000c
def HSK_STATE : Nat := 0x100010
def HSK_BEACON : Nat := 0x100014
def HSK_LAT_ASYM : Nat := 0x100018
def HSK_LAT_NOM : Nat := 0x10001c
def HSK_LAT_IN : Nat := 0x100020
def HSK_SWID_LO : Nat := 0x100024
def HSK_SWID_HI : Nat := 0x100028
def HSK_EVENT_CTR : Nat := 0x10002c
def HSK_STAGE : Nat := 0x100030
def HSK_CMD_TYPE : Nat := 0x100040
def HSK_CMD_ARG (n : Nat) : Nat := 0x100044 + n * 0x4
def HSK_CMD_GO : Nat := 0x100060
def HSK_CMD_RESULT : Nat := 0x100064
def HSK_CFG_ADDR : Nat := 0x100070
def HSK_CFG_DATA : Nat := 0x100074
def HSK_CFG_LEN : Nat := 0x100078
def HSK_CFG_CMD : Nat := 0x10007c
def HSK_HEALTH_ADDR : Nat := 0x100080
def HSK_HEALTH_DATA : Nat := 0x100084
def HSK_PS_DA_LO : Nat := 0x100090
def HSK_PS_DA_HI : Nat := 0x100094
def HSK_PS_SA_LO : Nat := 0x100098
def HSK_PS_SA_HI : Nat := 0x10009c
def HSK_PS_ETYPE : Nat := 0x1000a0
def HSK_CNT_TX_MSG : Nat := 0x100100
def HSK_CNT_RX_MSG : Nat := 0x100108
def HSK_CNT_RX_BAD : Nat := 0x100110
def HSK_CNT_RETRY : Nat := 0x100118
def HSK_CNT_PS_FRAMES : Nat := 0x100120
def HSK_CNT_PS_BYTES : Nat := 0x100128
def HSK_CNT_STALL_US : Nat := 0x100130
def HSK_CNT_BEACONS : Nat := 0x100138
def HSK_CNT_LINK_DOWN : Nat := 0x100140
def HSK_CNT_COMMIT_LOST : Nat := 0x100148
def TWN_ID : Nat := 0xf0000
def TWN_CTRL : Nat := 0xf0004
def TWN_STATUS : Nat := 0xf0008
def TWN_INT_EN : Nat := 0xf000c
def TWN_STATE : Nat := 0xf0010
def TWN_LEASE_MS : Nat := 0xf0014
def TWN_RENEW_MS : Nat := 0xf0018
def TWN_GUARD_US : Nat := 0xf001c
def TWN_SEQ_SKIP : Nat := 0xf0020
def TWN_CMD : Nat := 0xf0024
def TWN_SOLO : Nat := 0xf0028
def TWN_ACORN_OVR : Nat := 0xf002c
def TWN_LEASE_LEFT : Nat := 0xf0030
def TWN_PEER_LEFT : Nat := 0xf0034
def TWN_LEASE_LAST : Nat := 0xf0038
def TWN_GEN : Nat := 0xf003c
def TWN_PEER_GEN : Nat := 0xf0040
def TWN_PEER_SER_LO : Nat := 0xf0044
def TWN_PEER_SER_HI : Nat := 0xf0048
def TWN_TIME_OFS : Nat := 0xf004c
def TWN_MARK_AGE : Nat := 0xf0050
def TWN_UNALIGNED : Nat := 0xf0054
def TWN_BULK : Nat := 0xf0058
def TWN_LINK_STATE : Nat := 0xf0060
def TWN_LOOP : Nat := 0xf0064
def TWN_LANE_SEL : Nat := 0xf0068
def TWN_LANE_TAPS : Nat := 0xf006c
def TWN_LANE_CV : Nat := 0xf0070
def TWN_ST_CTRL : Nat := 0xf0074
def TWN_ST_RESULT : Nat := 0xf0078
def TWN_Q_SEL : Nat := 0xf0080
def TWN_Q_ADDR : Nat := 0xf0084
def TWN_Q_DATA : Nat := 0xf0088
def TWN_HEALTH_ADDR : Nat := 0xf0090
def TWN_HEALTH_DATA : Nat := 0xf0094
def TWN_PEER_SEL : Nat := 0xf0098
def TWN_PEER_ADDR : Nat := 0xf009c
def TWN_PEER_DATA : Nat := 0xf00a0
def TWN_CNT_TAKE_CLEAN : Nat := 0xf0100
def TWN_CNT_TAKE_BLIND : Nat := 0xf0108
def TWN_CNT_TAKE_UNALIGNED : Nat := 0xf0110
def TWN_CNT_LEASE_DISC : Nat := 0xf0118
def TWN_CNT_LEASE_WAIT : Nat := 0xf0120
def TWN_CNT_EXPIRY : Nat := 0xf0128
def TWN_CNT_RENEW : Nat := 0xf0130
def TWN_CNT_UNALIGNED : Nat := 0xf0138
def TWN_CNT_REALIGN : Nat := 0xf0140
def TWN_CNT_CHECK_SKIP : Nat := 0xf0148
def TWN_CNT_TRIMMED : Nat := 0xf0150
def TWN_CNT_MIRROR_RO : Nat := 0xf0158
def TWN_CNT_LINK_DOWN : Nat := 0xf0160
def TWN_CNT_LANE_DROP : Nat := 0xf0168
def TWN_CNT_MSG_RETRY : Nat := 0xf0170
def TWN_CNT_DS_SUPPRESS : Nat := 0xf0178
def TWN_CNT_PORTS_BYTES : Nat := 0xf0180
def TWN_CNT_ST_FAIL : Nat := 0xf0188
def BOOT_ID : Nat := 0x10000
def BOOT_STATE : Nat := 0x10004
def BOOT_STATUS : Nat := 0x10008
def BOOT_INT_EN : Nat := 0x1000c
def BOOT_CMD : Nat := 0x10010
def BOOT_T_LOCK : Nat := 0x10014
def BOOT_T_OPER : Nat := 0x10018
def BOOT_BUILD_LO : Nat := 0x1001c
def BOOT_BUILD_HI : Nat := 0x10020
def BOOT_IMG_INFO : Nat := 0x10024
def BOOT_CFG_WRITES : Nat := 0x10028
def BOOT_FUSE_SEL : Nat := 0x10030
def BOOT_FUSE_CMD : Nat := 0x10034
def BOOT_FUSE_STATE : Nat := 0x10038
def BOOT_FUSE_DATA (n : Nat) : Nat := 0x10040 + n * 0x4
def BOOT_NVM_ADDR : Nat := 0x10080
def BOOT_NVM_LEN : Nat := 0x10084
def BOOT_NVM_CMD : Nat := 0x10088
def BOOT_NVM_RESULT : Nat := 0x1008c
def BOOT_MCUn_CTRL (n : Nat) : Nat := 0x10100 + n * 0x10
def BOOT_MCUn_STATUS (n : Nat) : Nat := 0x10104 + n * 0x10
def BOOT_MCUn_CMD (n : Nat) : Nat := 0x10108 + n * 0x10
def BOOT_NVM_BUF (n : Nat) : Nat := 0x10200 + n * 0x4
def BOOT_CNT_CFG_SKIP : Nat := 0x10300
def BOOT_CNT_WAIT_TO : Nat := 0x10308
def BOOT_CNT_SCHED_SKIP : Nat := 0x10310
def BOOT_CNT_WDT : Nat := 0x10318
def BOOT_CNT_HOST_REFUSED : Nat := 0x10320
def BOOT_CNT_MCU_REFUSED : Nat := 0x10328
def DEV_ID : Nat := 0x0
def DEV_UNIT : Nat := 0x4
def DEV_STATUS : Nat := 0x8
def DEV_INT_EN : Nat := 0xc
def DEV_SCRATCH (n : Nat) : Nat := 0x10 + n * 0x4
def DEV_SEM_FORCE : Nat := 0x20
def DEV_SEM_BUSY : Nat := 0x24
def DEV_SEMk (n : Nat) : Nat := 0x100 + n * 0x4
def DEV_CNT_SEM_FOREIGN : Nat := 0x200
def PWR_ID : Nat := 0x30000
def PWR_CTRL : Nat := 0x30004
def PWR_STATUS : Nat := 0x30008
def PWR_INT_EN : Nat := 0x3000c
def PWR_MODE_REQ : Nat := 0x30010
def PWR_MODE : Nat := 0x30014
def PWR_DOMAIN : Nat := 0x30018
def PWR_DOM_FAIL : Nat := 0x3001c
def PWR_WK_EN_DOZE : Nat := 0x30020
def PWR_WK_EN_CYC : Nat := 0x30024
def PWR_WK_EN_DEEP : Nat := 0x30028
def PWR_WK_EN_WARM : Nat := 0x3002c
def PWR_LAST_WAKE : Nat := 0x30030
def PWR_LAST_WAKE_NS : Nat := 0x30034
def PWR_LAST_WAKE_PP : Nat := 0x30038
def PWR_WK_PAT_ALL_LO : Nat := 0x30040
def PWR_WK_PAT_ALL_HI : Nat := 0x30044
def PWR_WK_PAT_OWN_LO : Nat := 0x30048
def PWR_WK_PAT_OWN_HI : Nat := 0x3004c
def PWR_WK_PAT_CTRL : Nat := 0x30050
def PWR_WK_OPT : Nat := 0x30054
def PWR_WK_TIMING : Nat := 0x30058
def PWR_CYC : Nat := 0x3005c
def PWR_LOST_BANKS : Nat := 0x30060
def PWR_BANK_SEL : Nat := 0x30064
def PWR_BANK_SIG : Nat := 0x30068
def PWR_REFLOGi_A (n : Nat) : Nat := 0x30100 + n * 0x10
def PWR_REFLOGi_NS (n : Nat) : Nat := 0x30104 + n * 0x10
def PWR_REFLOGi_PP (n : Nat) : Nat := 0x30108 + n * 0x10
def PWR_CNT_REFUSE (n : Nat) : Nat := 0x30200 + n * 0x8
def PWR_CNT_ABORT : Nat := 0x30260
def PWR_CNT_ENTRY : Nat := 0x30268
def PWR_CNT_RETRY : Nat := 0x30270
def PWR_CNT_WAKE_FAIL : Nat := 0x30278
def PWR_CNT_BANK_LOST : Nat := 0x30280
def PWR_CNT_OFF_ACCESS : Nat := 0x30288
def PWR_CNT_LISTEN : Nat := 0x30290
def PWR_CNT_WAKE (n : Nat) : Nat := 0x30300 + n * 0x8
def FLT_ID : Nat := 0x40000
def FLT_CTRL : Nat := 0x40004
def FLT_STATUS : Nat := 0x40008
def FLT_INT_EN : Nat := 0x4000c
def FLT_REC_SRC : Nat := 0x40010
def FLT_REC_CTX_LO : Nat := 0x40014
def FLT_REC_HI : Nat := 0x40018
def FLT_REC_NS : Nat := 0x4001c
def FLT_REC_PP : Nat := 0x40020
def FLT_REC_SEC : Nat := 0x40024
def FLT_REC_SEC_CNT : Nat := 0x40028
def FLT_REC_CLR : Nat := 0x4002c
def FLT_COND_IDX : Nat := 0x40030
def FLT_COND_DATA : Nat := 0x40034
def FLT_COND_PKG : Nat := 0x40038
def FLT_RULE_SEL : Nat := 0x40040
def FLT_RULE_ADDR : Nat := 0x40044
def FLT_RULE_DATA : Nat := 0x40048
def FLT_POD_CTRL : Nat := 0x40050
def FLT_POD_CMD : Nat := 0x40054
def FLT_POD_STATE : Nat := 0x40058
def FLT_RESET_CMD : Nat := 0x4005c
def FLT_SAFE : Nat := 0x40060
def FLT_SEV_1H : Nat := 0x40064
def FLT_ISO_CLS : Nat := 0x40068
def FLT_ISO_USQ (n : Nat) : Nat := 0x4006c + n * 0x4
def FLT_INJ_SRC : Nat := 0x40080
def FLT_INJ_CTX_LO : Nat := 0x40084
def FLT_INJ_CTX_HI : Nat := 0x40088
def FLT_INJ_CMD : Nat := 0x4008c
def FLT_CNT_EVENTS : Nat := 0x40100
def FLT_CNT_SEVERE : Nat := 0x40108
def FLT_CNT_MERGED : Nat := 0x40110
def FLT_CNT_TRACK_EVICT : Nat := 0x40118
def FLT_CNT_CLR_MISS : Nat := 0x40120
def FLT_CNT_REPEAT : Nat := 0x40128
def FLT_CNT_REACT (n : Nat) : Nat := 0x40140 + n * 0x8
def CLK_ID : Nat := 0x20000
def CLK_CTRL : Nat := 0x20004
def CLK_STATUS : Nat := 0x20008
def CLK_INT_EN : Nat := 0x2000c
def CLK_ROOT_CTRL : Nat := 0x20010
def CLK_ROOT_STATE : Nat := 0x20014
def CLK_ROOT_WORD : Nat := 0x20018
def CLK_HOLD_WORD : Nat := 0x2001c
def CLK_PHASE_ERR : Nat := 0x20020
def CLK_MON : Nat := 0x20024
def CLK_TEST : Nat := 0x20028
def CLK_FREQ_SEL : Nat := 0x20030
def CLK_FREQ : Nat := 0x20034
def CLK_X_SEL : Nat := 0x20040
def CLK_X_ADDR : Nat := 0x20044
def CLK_X_DATA : Nat := 0x20048
def CLK_X_LAST : Nat := 0x2004c
def CLK_CNT_SRC_CHG : Nat := 0x20100
def CLK_CNT_DS_LOSS : Nat := 0x20108
def CLK_CNT_OVERRUN : Nat := 0x20110
def CLK_CNT_RESYNC : Nat := 0x20118
def CLK_CNT_RESYNC_TO : Nat := 0x20120

/-- The common registers of block `b` (Table REG-5), by the base that `blkCommon` gives. -/
def blkBase (b : Nat) : Nat := if b < 17 then b * 0x10000 else 0x200000 + (b - 17) * 0x40000
def blkCommon (b : Nat) : Nat := if b < 17 then blkBase b else blkBase b + 0x30000
def BLK_PENDING (b : Nat) : Nat := blkCommon b + 0xFF00
def BLK_SEQ_MISS (b : Nat) : Nat := blkCommon b + 0xFF04
def BLK_GUARD_REFUSED (b : Nat) : Nat := blkCommon b + 0xFF08
def BLK_UNLOCK (b : Nat) : Nat := blkCommon b + 0xFFF0
def BLK_GUARD_STATE (b : Nat) : Nat := blkCommon b + 0xFFF4
def DEV_INT_SUM : Nat := 0xFF40
def DEV_INT_BLK_EN : Nat := 0xFF44
def DEV_CNT_UNMAPPED : Nat := 0xFF48
def DEV_SPI_ERR : Nat := 0xFF4C

end Reg

/-- Register rows of block DEV, part 0. -/
def rowsDEV0 : List RegRow := [
  ⟨0x0, 0x4, 1, 0x4, 1, .ro, [0xb16400], []⟩,
  ⟨0x4, 0x4, 1, 0x4, 1, .ro, [0x0], []⟩,
  ⟨0x8, 0x4, 1, 0x4, 1, .sqc, [0x0], []⟩,
  ⟨0xc, 0x4, 1, 0x4, 1, .rw, [0x0], [⟨0, 24, 0, 16777215⟩]⟩,
  ⟨0x10, 0x4, 4, 0x4, 1, .rw, [0x0], [⟨0, 32, 0, 4294967295⟩]⟩,
  ⟨0x20, 0x4, 1, 0x4, 1, .kg, [0x0], [⟨0, 32, 0, 4294967295⟩]⟩,
  ⟨0x24, 0x4, 1, 0x4, 1, .ro, [0x0], []⟩,
  ⟨0x100, 0x4, 32, 0x4, 1, .sem, [0xf0], []⟩,
  ⟨0x200, 0x4, 1, 0x4, 1, .wide, [0x0], []⟩]
def rowsDEV : List RegRow := rowsDEV0

/-- Register rows of block BOOT, part 0. -/
def rowsBOOT0 : List RegRow := [
  ⟨0x10000, 0x4, 1, 0x4, 1, .ro, [0x1], []⟩,
  ⟨0x10004, 0x4, 1, 0x4, 1, .ro, [0x3], []⟩,
  ⟨0x10008, 0x4, 1, 0x4, 1, .sqc, [0x0], []⟩,
  ⟨0x1000c, 0x4, 1, 0x4, 1, .rw, [0x0], [⟨0, 24, 0, 16777215⟩]⟩,
  ⟨0x10010, 0x4, 1, 0x4, 1, .kg, [0x0], [⟨0, 1, 0, 1⟩, ⟨1, 1, 0, 1⟩]⟩,
  ⟨0x10014, 0x4, 1, 0x4, 1, .ro, [0x0], []⟩,
  ⟨0x10018, 0x4, 1, 0x4, 1, .ro, [0x0], []⟩,
  ⟨0x1001c, 0x4, 1, 0x4, 1, .ro, [0x0], []⟩,
  ⟨0x10020, 0x4, 1, 0x4, 1, .ro, [0x0], []⟩,
  ⟨0x10024, 0x4, 1, 0x4, 1, .ro, [0x0], []⟩,
  ⟨0x10028, 0x4, 1, 0x4, 1, .ro, [0x0], []⟩,
  ⟨0x10030, 0x4, 1, 0x4, 1, .rw, [0x0], [⟨0, 4, 0, 15⟩]⟩,
  ⟨0x10034, 0x4, 1, 0x4, 1, .kg, [0x0], [⟨0, 1, 0, 1⟩, ⟨1, 1, 0, 1⟩]⟩,
  ⟨0x10038, 0x4, 1, 0x4, 1, .ro, [0x0], []⟩,
  ⟨0x10040, 0x4, 12, 0x4, 1, .rw, [0x0], [⟨0, 32, 0, 4294967295⟩]⟩,
  ⟨0x10080, 0x4, 1, 0x4, 1, .rw, [0x0], [⟨0, 25, 0, 33554431⟩]⟩,
  ⟨0x10084, 0x4, 1, 0x4, 1, .rw, [0x100], [⟨0, 9, 1, 256⟩]⟩,
  ⟨0x10088, 0x4, 1, 0x4, 1, .kg, [0x0], [⟨0, 3, 0, 7⟩]⟩,
  ⟨0x1008c, 0x4, 1, 0x4, 1, .ro, [0x0], []⟩,
  ⟨0x10100, 0x10, 4, 0x4, 1, .rw, [0x10064], [⟨0, 16, 1, 65535⟩, ⟨16, 1, 0, 1⟩]⟩,
  ⟨0x10104, 0x10, 4, 0x4, 1, .ro, [0x0], []⟩,
  ⟨0x10108, 0x10, 4, 0x4, 1, .w1p, [0x0], []⟩,
  ⟨0x10200, 0x4, 64, 0x4, 1, .rw, [0x0], [⟨0, 32, 0, 4294967295⟩]⟩,
  ⟨0x10300, 0x4, 1, 0x4, 1, .wide, [0x0], []⟩]
/-- Register rows of block BOOT, part 1. -/
def rowsBOOT1 : List RegRow := [
  ⟨0x10308, 0x4, 1, 0x4, 1, .wide, [0x0], []⟩,
  ⟨0x10310, 0x4, 1, 0x4, 1, .wide, [0x0], []⟩,
  ⟨0x10318, 0x4, 1, 0x4, 1, .wide, [0x0], []⟩,
  ⟨0x10320, 0x4, 1, 0x4, 1, .wide, [0x0], []⟩,
  ⟨0x10328, 0x4, 1, 0x4, 1, .wide, [0x0], []⟩]
def rowsBOOT : List RegRow := rowsBOOT0 ++ rowsBOOT1

/-- Register rows of block CLK, part 0. -/
def rowsCLK0 : List RegRow := [
  ⟨0x20000, 0x4, 1, 0x4, 1, .ro, [0x1], []⟩,
  ⟨0x20004, 0x4, 1, 0x4, 1, .rw, [0x1], [⟨0, 1, 0, 1⟩, ⟨1, 2, 0, 3⟩]⟩,
  ⟨0x20008, 0x4, 1, 0x4, 1, .sqc, [0x0], []⟩,
  ⟨0x2000c, 0x4, 1, 0x4, 1, .rw, [0x0], [⟨0, 24, 0, 16777215⟩]⟩,
  ⟨0x20010, 0x4, 1, 0x4, 1, .rw, [0x3204], [⟨0, 3, 0, 7⟩, ⟨8, 7, 1, 100⟩]⟩,
  ⟨0x20014, 0x4, 1, 0x4, 1, .ro, [0x0], []⟩,
  ⟨0x20018, 0x4, 1, 0x4, 1, .ro, [0x0], []⟩,
  ⟨0x2001c, 0x4, 1, 0x4, 1, .ro, [0x0], []⟩,
  ⟨0x20020, 0x4, 1, 0x4, 1, .ro, [0x0], []⟩,
  ⟨0x20024, 0x4, 1, 0x4, 1, .ro, [0x0], []⟩,
  ⟨0x20028, 0x4, 1, 0x4, 1, .kg, [0x0], [⟨0, 1, 0, 1⟩]⟩,
  ⟨0x20030, 0x4, 1, 0x4, 1, .rw, [0x0], [⟨0, 3, 0, 4⟩, ⟨4, 2, 0, 3⟩]⟩,
  ⟨0x20034, 0x4, 1, 0x4, 1, .ro, [0x0], []⟩,
  ⟨0x20040, 0x4, 1, 0x4, 1, .rw, [0x0], [⟨0, 8, 0, 255⟩]⟩,
  ⟨0x20044, 0x4, 1, 0x4, 1, .rw, [0x0], [⟨0, 3, 0, 7⟩]⟩,
  ⟨0x20048, 0x4, 1, 0x4, 1, .ro, [0x0], []⟩,
  ⟨0x2004c, 0x4, 1, 0x4, 1, .ro, [0x0], []⟩,
  ⟨0x20100, 0x4, 1, 0x4, 1, .wide, [0x0], []⟩,
  ⟨0x20108, 0x4, 1, 0x4, 1, .wide, [0x0], []⟩,
  ⟨0x20110, 0x4, 1, 0x4, 1, .wide, [0x0], []⟩,
  ⟨0x20118, 0x4, 1, 0x4, 1, .wide, [0x0], []⟩,
  ⟨0x20120, 0x4, 1, 0x4, 1, .wide, [0x0], []⟩]
def rowsCLK : List RegRow := rowsCLK0

/-- Register rows of block PWR, part 0. -/
def rowsPWR0 : List RegRow := [
  ⟨0x30000, 0x4, 1, 0x4, 1, .ro, [0x1], []⟩,
  ⟨0x30004, 0x4, 1, 0x4, 1, .rw, [0x1], [⟨0, 1, 0, 1⟩]⟩,
  ⟨0x30008, 0x4, 1, 0x4, 1, .sqc, [0x0], []⟩,
  ⟨0x3000c, 0x4, 1, 0x4, 1, .rw, [0x0], [⟨0, 24, 0, 16777215⟩]⟩,
  ⟨0x30010, 0x4, 1, 0x4, 1, .rw, [0x0], [⟨0, 3, 0, 7⟩]⟩,
  ⟨0x30014, 0x4, 1, 0x4, 1, .ro, [0x0], []⟩,
  ⟨0x30018, 0x4, 1, 0x4, 1, .ro, [0x7fff], []⟩,
  ⟨0x3001c, 0x4, 1, 0x4, 1, .ro, [0x0], []⟩,
  ⟨0x30020, 0x4, 1, 0x4, 1, .rw, [0x2c0], [⟨0, 10, 0, 1023⟩]⟩,
  ⟨0x30024, 0x4, 1, 0x4, 1, .rw, [0x2d0], [⟨0, 10, 0, 1023⟩]⟩,
  ⟨0x30028, 0x4, 1, 0x4, 1, .rw, [0x24e], [⟨0, 10, 0, 1023⟩]⟩,
  ⟨0x3002c, 0x4, 1, 0x4, 1, .rw, [0x340], [⟨0, 10, 0, 1023⟩]⟩,
  ⟨0x30030, 0x4, 1, 0x4, 1, .ro, [0x0], []⟩,
  ⟨0x30034, 0x4, 1, 0x4, 1, .ro, [0x0], []⟩,
  ⟨0x30038, 0x4, 1, 0x4, 1, .ro, [0x0], []⟩,
  ⟨0x30040, 0x4, 1, 0x4, 1, .rw, [0x96c35a0f], [⟨0, 32, 0, 4294967295⟩]⟩,
  ⟨0x30044, 0x4, 1, 0x4, 1, .rw, [0xe1d28b74], [⟨0, 32, 0, 4294967295⟩]⟩,
  ⟨0x30048, 0x4, 1, 0x4, 1, .rw, [0x0], [⟨0, 32, 0, 4294967295⟩]⟩,
  ⟨0x3004c, 0x4, 1, 0x4, 1, .rw, [0x0], [⟨0, 32, 0, 4294967295⟩]⟩,
  ⟨0x30050, 0x4, 1, 0x4, 1, .rw, [0x102], [⟨0, 3, 0, 7⟩, ⟨8, 1, 0, 1⟩, ⟨9, 1, 0, 1⟩]⟩,
  ⟨0x30054, 0x4, 1, 0x4, 1, .rw, [0x64a020], [⟨0, 8, 0, 255⟩, ⟨8, 8, 0, 255⟩, ⟨16, 16, 1, 65535⟩]⟩,
  ⟨0x30058, 0x4, 1, 0x4, 1, .rw, [0x7d001f4], [⟨0, 16, 10, 65535⟩, ⟨16, 16, 10, 65535⟩]⟩,
  ⟨0x3005c, 0x4, 1, 0x4, 1, .rw, [0x7d0], [⟨0, 16, 500, 50000⟩]⟩,
  ⟨0x30060, 0x4, 1, 0x4, 1, .ro, [0x0], []⟩]
/-- Register rows of block PWR, part 1. -/
def rowsPWR1 : List RegRow := [
  ⟨0x30064, 0x4, 1, 0x4, 1, .rw, [0x0], [⟨0, 4, 0, 15⟩]⟩,
  ⟨0x30068, 0x4, 1, 0x4, 1, .ro, [0x0], []⟩,
  ⟨0x30100, 0x10, 8, 0x4, 1, .ro, [0x0], []⟩,
  ⟨0x30104, 0x10, 8, 0x4, 1, .ro, [0x0], []⟩,
  ⟨0x30108, 0x10, 8, 0x4, 1, .ro, [0x0], []⟩,
  ⟨0x30208, 0x8, 11, 0x4, 1, .wide, [0x0], []⟩,
  ⟨0x30260, 0x4, 1, 0x4, 1, .wide, [0x0], []⟩,
  ⟨0x30268, 0x4, 1, 0x4, 1, .wide, [0x0], []⟩,
  ⟨0x30270, 0x4, 1, 0x4, 1, .wide, [0x0], []⟩,
  ⟨0x30278, 0x4, 1, 0x4, 1, .wide, [0x0], []⟩,
  ⟨0x30280, 0x4, 1, 0x4, 1, .wide, [0x0], []⟩,
  ⟨0x30288, 0x4, 1, 0x4, 1, .wide, [0x0], []⟩,
  ⟨0x30290, 0x4, 1, 0x4, 1, .wide, [0x0], []⟩,
  ⟨0x30300, 0x8, 10, 0x4, 1, .wide, [0x0], []⟩]
def rowsPWR : List RegRow := rowsPWR0 ++ rowsPWR1

/-- Register rows of block FLT, part 0. -/
def rowsFLT0 : List RegRow := [
  ⟨0x40000, 0x4, 1, 0x4, 1, .ro, [0x1], []⟩,
  ⟨0x40004, 0x4, 1, 0x4, 1, .rw, [0x4], [⟨0, 3, 1, 7⟩]⟩,
  ⟨0x40008, 0x4, 1, 0x4, 1, .sqc, [0x0], []⟩,
  ⟨0x4000c, 0x4, 1, 0x4, 1, .rw, [0x0], [⟨0, 24, 0, 16777215⟩]⟩,
  ⟨0x40010, 0x4, 1, 0x4, 1, .ro, [0x0], []⟩,
  ⟨0x40014, 0x4, 1, 0x4, 1, .ro, [0x0], []⟩,
  ⟨0x40018, 0x4, 1, 0x4, 1, .ro, [0x0], []⟩,
  ⟨0x4001c, 0x4, 1, 0x4, 1, .ro, [0x0], []⟩,
  ⟨0x40020, 0x4, 1, 0x4, 1, .ro, [0x0], []⟩,
  ⟨0x40024, 0x4, 1, 0x4, 1, .ro, [0x0], []⟩,
  ⟨0x40028, 0x4, 1, 0x4, 1, .ro, [0x0], []⟩,
  ⟨0x4002c, 0x4, 1, 0x4, 1, .rw, [0x0], [⟨0, 8, 0, 255⟩]⟩,
  ⟨0x40030, 0x4, 1, 0x4, 1, .rw, [0x0], [⟨0, 4, 0, 15⟩]⟩,
  ⟨0x40034, 0x4, 1, 0x4, 1, .ro, [0x0], []⟩,
  ⟨0x40038, 0x4, 1, 0x4, 1, .ro, [0x0], []⟩,
  ⟨0x40040, 0x4, 1, 0x4, 1, .rw, [0x0], [⟨0, 6, 0, 63⟩]⟩,
  ⟨0x40044, 0x4, 1, 0x4, 1, .rw, [0x0], [⟨0, 3, 0, 7⟩]⟩,
  ⟨0x40048, 0x4, 1, 0x4, 1, .rw, [0x0], [⟨0, 32, 0, 4294967295⟩]⟩,
  ⟨0x40050, 0x4, 1, 0x4, 1, .rw, [0x0], [⟨0, 16, 0, 65535⟩]⟩,
  ⟨0x40054, 0x4, 1, 0x4, 1, .w1p, [0x0], []⟩,
  ⟨0x40058, 0x4, 1, 0x4, 1, .ro, [0x0], []⟩,
  ⟨0x4005c, 0x4, 1, 0x4, 1, .kg, [0x0], [⟨0, 3, 0, 7⟩, ⟨3, 4, 0, 15⟩, ⟨31, 1, 0, 1⟩]⟩,
  ⟨0x40060, 0x4, 1, 0x4, 1, .ro, [0x0], []⟩,
  ⟨0x40064, 0x4, 1, 0x4, 1, .ro, [0x0], []⟩]
/-- Register rows of block FLT, part 1. -/
def rowsFLT1 : List RegRow := [
  ⟨0x40068, 0x4, 1, 0x4, 1, .ro, [0x0], []⟩,
  ⟨0x4006c, 0x4, 4, 0x4, 1, .ro, [0x0], []⟩,
  ⟨0x40080, 0x4, 1, 0x4, 1, .rw, [0x0], [⟨0, 18, 0, 262143⟩, ⟨18, 8, 0, 255⟩, ⟨26, 6, 0, 63⟩]⟩,
  ⟨0x40084, 0x4, 1, 0x4, 1, .rw, [0x0], [⟨0, 32, 0, 4294967295⟩]⟩,
  ⟨0x40088, 0x4, 1, 0x4, 1, .rw, [0x0], [⟨0, 8, 0, 255⟩]⟩,
  ⟨0x4008c, 0x4, 1, 0x4, 1, .kg, [0x0], [⟨0, 1, 0, 1⟩]⟩,
  ⟨0x40100, 0x4, 1, 0x4, 1, .wide, [0x0], []⟩,
  ⟨0x40108, 0x4, 1, 0x4, 1, .wide, [0x0], []⟩,
  ⟨0x40110, 0x4, 1, 0x4, 1, .wide, [0x0], []⟩,
  ⟨0x40118, 0x4, 1, 0x4, 1, .wide, [0x0], []⟩,
  ⟨0x40120, 0x4, 1, 0x4, 1, .wide, [0x0], []⟩,
  ⟨0x40128, 0x4, 1, 0x4, 1, .wide, [0x0], []⟩,
  ⟨0x40140, 0x8, 8, 0x4, 1, .wide, [0x0], []⟩]
def rowsFLT : List RegRow := rowsFLT0 ++ rowsFLT1

/-- Register rows of block NTM, part 0. -/
def rowsNTM0 : List RegRow := [
  ⟨0x50000, 0x4, 1, 0x4, 1, .ro, [0x1], []⟩,
  ⟨0x50004, 0x4, 1, 0x4, 1, .rw, [0x7], [⟨0, 1, 0, 1⟩, ⟨1, 1, 0, 1⟩, ⟨2, 1, 0, 1⟩, ⟨3, 1, 0, 1⟩, ⟨4, 1, 0, 1⟩, ⟨5, 2, 0, 3⟩]⟩,
  ⟨0x50008, 0x4, 1, 0x4, 1, .sqc, [0x0], []⟩,
  ⟨0x5000c, 0x4, 1, 0x4, 1, .rw, [0x0], [⟨0, 24, 0, 16777215⟩]⟩,
  ⟨0x50010, 0x4, 1, 0x4, 1, .ro, [0x0], []⟩,
  ⟨0x50014, 0x4, 1, 0x4, 1, .w1p, [0x0], []⟩,
  ⟨0x50018, 0x4, 1, 0x4, 1, .ro, [0x0], []⟩,
  ⟨0x5001c, 0x4, 1, 0x4, 1, .ro, [0x0], []⟩,
  ⟨0x50020, 0x4, 1, 0x4, 1, .ro, [0x0], []⟩,
  ⟨0x50024, 0x4, 1, 0x4, 1, .ro, [0x0], []⟩,
  ⟨0x50028, 0x4, 1, 0x4, 1, .ro, [0x0], []⟩,
  ⟨0x5002c, 0x4, 1, 0x4, 1, .ro, [0x0], []⟩,
  ⟨0x50030, 0x4, 1, 0x4, 1, .kg, [0x0], [⟨0, 1, 0, 1⟩, ⟨1, 1, 0, 1⟩]⟩,
  ⟨0x50034, 0x4, 1, 0x4, 1, .rw, [0x0], [⟨0, 32, 0, 4294967295⟩]⟩,
  ⟨0x50038, 0x4, 1, 0x4, 1, .rw, [0x0], [⟨0, 16, 0, 65535⟩]⟩,
  ⟨0x5003c, 0x4, 1, 0x4, 1, .rw, [0x0], [⟨0, 30, 0, 1073741823⟩]⟩,
  ⟨0x50040, 0x4, 1, 0x4, 1, .rw, [0x0], [⟨0, 8, 0, 255⟩]⟩,
  ⟨0x50044, 0x4, 1, 0x4, 1, .rw, [0x0], [⟨0, 32, 0, 4294967295⟩]⟩,
  ⟨0x50050, 0x4, 1, 0x4, 1, .ro, [0x0], []⟩,
  ⟨0x50054, 0x4, 1, 0x4, 1, .ro, [0x0], []⟩,
  ⟨0x50058, 0x4, 1, 0x4, 1, .rw, [0x0], [⟨0, 32, 0, 4294967295⟩]⟩,
  ⟨0x5005c, 0x4, 1, 0x4, 1, .rw, [0x400830], [⟨0, 4, 0, 15⟩, ⟨4, 4, 0, 15⟩, ⟨8, 8, 1, 255⟩, ⟨16, 16, 0, 65535⟩]⟩,
  ⟨0x50060, 0x4, 1, 0x4, 1, .rw, [0x3e8], [⟨0, 30, 1, 999999999⟩]⟩,
  ⟨0x50064, 0x4, 1, 0x4, 1, .rw, [0x2710], [⟨0, 17, 1, 100000⟩]⟩]
/-- Register rows of block NTM, part 1. -/
def rowsNTM1 : List RegRow := [
  ⟨0x50068, 0x4, 1, 0x4, 1, .rw, [0x1388], [⟨0, 16, 100, 65535⟩]⟩,
  ⟨0x5006c, 0x4, 1, 0x4, 1, .rw, [0x258], [⟨0, 24, 1, 16777215⟩]⟩,
  ⟨0x50070, 0x4, 1, 0x4, 1, .ro, [0x0], []⟩,
  ⟨0x50074, 0x4, 1, 0x4, 1, .ro, [0x0], []⟩,
  ⟨0x50078, 0x4, 1, 0x4, 1, .ro, [0x0], []⟩,
  ⟨0x50080, 0x4, 1, 0x4, 1, .rw, [0x10], [⟨0, 7, 1, 64⟩]⟩,
  ⟨0x50084, 0x4, 1, 0x4, 1, .ro, [0x0], []⟩,
  ⟨0x50088, 0x4, 1, 0x4, 1, .ro, [0x0], []⟩,
  ⟨0x500c0, 0x4, 1, 0x4, 1, .wide, [0x0], []⟩,
  ⟨0x500c8, 0x4, 1, 0x4, 1, .wide, [0x0], []⟩,
  ⟨0x500d0, 0x4, 1, 0x4, 1, .wide, [0x0], []⟩,
  ⟨0x500d8, 0x4, 1, 0x4, 1, .wide, [0x0], []⟩,
  ⟨0x500e0, 0x4, 1, 0x4, 1, .wide, [0x0], []⟩,
  ⟨0x500e8, 0x4, 1, 0x4, 1, .wide, [0x0], []⟩,
  ⟨0x50100, 0x10, 8, 0x4, 1, .rw, [0x1], [⟨0, 1, 0, 1⟩]⟩,
  ⟨0x50104, 0x10, 8, 0x4, 1, .rw, [0x0], [⟨0, 24, 0, 16777215⟩]⟩,
  ⟨0x50108, 0x10, 8, 0x4, 1, .rw, [0x0], [⟨0, 24, 0, 16777215⟩]⟩,
  ⟨0x5010c, 0x10, 8, 0x4, 1, .ro, [0x0], []⟩,
  ⟨0x50180, 0x4, 1, 0x4, 1, .rw, [0x0], [⟨0, 32, 0, 4294967295⟩]⟩,
  ⟨0x50184, 0x4, 1, 0x4, 1, .rw, [0x4f524f56], [⟨0, 32, 0, 4294967295⟩]⟩,
  ⟨0x50188, 0x4, 1, 0x4, 1, .rw, [0x1808018], [⟨0, 8, 0, 255⟩, ⟨8, 8, 0, 255⟩, ⟨16, 8, 0, 255⟩, ⟨24, 8, 0, 255⟩]⟩,
  ⟨0x5018c, 0x4, 1, 0x4, 1, .rw, [0xf8a58706], [⟨0, 8, 0, 255⟩, ⟨8, 8, 0, 255⟩, ⟨16, 8, 0, 255⟩, ⟨24, 8, 0, 255⟩]⟩,
  ⟨0x50190, 0x4, 1, 0x4, 1, .rw, [0xa0fffffe], [⟨0, 8, 0, 255⟩, ⟨8, 16, 0, 65535⟩, ⟨24, 8, 0, 255⟩]⟩,
  ⟨0x50194, 0x4, 1, 0x4, 1, .rw, [0x25], [⟨0, 16, 0, 65535⟩, ⟨16, 1, 0, 1⟩, ⟨17, 1, 0, 1⟩, ⟨18, 1, 0, 1⟩]⟩]
/-- Register rows of block NTM, part 2. -/
def rowsNTM2 : List RegRow := [
  ⟨0x50200, 0x40, 8, 0x4, 1, .rw, [0xcdc0], [⟨0, 1, 0, 1⟩, ⟨1, 2, 0, 3⟩, ⟨3, 1, 0, 1⟩, ⟨4, 4, -7, 0⟩, ⟨8, 4, -3, 4⟩, ⟨12, 4, -7, 0⟩]⟩,
  ⟨0x50204, 0x40, 8, 0x4, 1, .rw, [0x0], [⟨0, 32, 0, 4294967295⟩]⟩,
  ⟨0x50208, 0x40, 8, 0x4, 4, .rw, [0x0], [⟨0, 32, 0, 4294967295⟩]⟩,
  ⟨0x50220, 0x40, 8, 0x4, 1, .wide, [0x0], []⟩,
  ⟨0x50228, 0x40, 8, 0x4, 1, .wide, [0x0], []⟩,
  ⟨0x50230, 0x40, 8, 0x4, 1, .wide, [0x0], []⟩,
  ⟨0x50238, 0x40, 8, 0x4, 1, .wide, [0x0], []⟩,
  ⟨0x50400, 0x40, 8, 0x4, 1, .rw, [0x3, 0x3, 0x0, 0x0, 0x0, 0x0, 0x0, 0x0], [⟨0, 1, 0, 1⟩, ⟨1, 1, 0, 1⟩, ⟨2, 1, 0, 1⟩, ⟨3, 2, 0, 3⟩]⟩,
  ⟨0x50404, 0x40, 8, 0x4, 1, .rw, [0x0], [⟨0, 32, 0, 4294967295⟩]⟩,
  ⟨0x50408, 0x40, 8, 0x4, 1, .rw, [0x0], [⟨0, 16, 0, 65535⟩]⟩,
  ⟨0x5040c, 0x40, 8, 0x4, 1, .rw, [0x0], [⟨0, 30, 0, 1073741823⟩]⟩,
  ⟨0x50410, 0x40, 8, 0x4, 1, .rw, [0x0], [⟨0, 8, 0, 255⟩]⟩,
  ⟨0x50414, 0x40, 8, 0x4, 1, .rw, [0x3b9aca00, 0x64, 0x0, 0x0, 0x0, 0x0, 0x0, 0x0], [⟨0, 32, 0, 4294967295⟩]⟩,
  ⟨0x50418, 0x40, 8, 0x4, 1, .rw, [0x0], [⟨0, 8, 0, 255⟩]⟩,
  ⟨0x5041c, 0x40, 8, 0x4, 1, .rw, [0x2710, 0x32, 0x0, 0x0, 0x0, 0x0, 0x0, 0x0], [⟨0, 32, 0, 4294967295⟩]⟩,
  ⟨0x50420, 0x40, 8, 0x4, 1, .rw, [0x0], [⟨0, 32, 0, 4294967295⟩]⟩,
  ⟨0x50424, 0x40, 8, 0x4, 1, .rw, [0x0], [⟨0, 24, 0, 16777215⟩]⟩,
  ⟨0x50428, 0x40, 8, 0x4, 1, .w1p, [0x0], []⟩,
  ⟨0x5042c, 0x40, 8, 0x4, 1, .ro, [0x0], []⟩,
  ⟨0x50430, 0x40, 8, 0x4, 1, .ro, [0x0], []⟩,
  ⟨0x50434, 0x40, 8, 0x4, 1, .ro, [0x0], []⟩,
  ⟨0x50600, 0x20, 4, 0x4, 1, .rw, [0x0], [⟨0, 1, 0, 1⟩, ⟨1, 2, 0, 3⟩]⟩,
  ⟨0x50604, 0x20, 4, 0x4, 1, .rw, [0x0], [⟨0, 24, 0, 16777215⟩]⟩,
  ⟨0x50608, 0x20, 4, 0x4, 1, .w1p, [0x0], []⟩]
/-- Register rows of block NTM, part 3. -/
def rowsNTM3 : List RegRow := [
  ⟨0x5060c, 0x20, 4, 0x4, 1, .ro, [0x0], []⟩,
  ⟨0x50610, 0x20, 4, 0x4, 1, .ro, [0x0], []⟩,
  ⟨0x50614, 0x20, 4, 0x4, 1, .ro, [0x0], []⟩,
  ⟨0x50618, 0x20, 4, 0x4, 1, .ro, [0x0], []⟩,
  ⟨0x5061c, 0x20, 4, 0x4, 1, .ro, [0x0], []⟩,
  ⟨0x50680, 0x10, 4, 0x4, 1, .wide, [0x0], []⟩,
  ⟨0x50688, 0x10, 4, 0x4, 1, .wide, [0x0], []⟩,
  ⟨0x50800, 0x20, 16, 0x4, 1, .rw, [0x0], [⟨0, 32, 0, 4294967295⟩]⟩,
  ⟨0x50804, 0x20, 16, 0x4, 1, .rw, [0x0], [⟨0, 16, 0, 65535⟩]⟩,
  ⟨0x50808, 0x20, 16, 0x4, 1, .rw, [0x0], [⟨0, 30, 0, 1073741823⟩]⟩,
  ⟨0x5080c, 0x20, 16, 0x4, 1, .rw, [0x0], [⟨0, 8, 0, 255⟩]⟩,
  ⟨0x50810, 0x20, 16, 0x4, 1, .rw, [0x0], [⟨0, 16, 0, 65535⟩]⟩,
  ⟨0x50814, 0x20, 16, 0x4, 1, .w1p, [0x0], []⟩,
  ⟨0x50818, 0x20, 16, 0x4, 1, .ro, [0x0], []⟩,
  ⟨0x5081c, 0x20, 16, 0x4, 1, .ro, [0x0], []⟩]
def rowsNTM : List RegRow := rowsNTM0 ++ rowsNTM1 ++ rowsNTM2 ++ rowsNTM3

/-- Register rows of block ACT, part 0. -/
def rowsACT0 : List RegRow := [
  ⟨0x60000, 0x4, 1, 0x4, 1, .ro, [0x1], []⟩,
  ⟨0x60004, 0x4, 1, 0x4, 1, .rw, [0x2], [⟨0, 1, 0, 1⟩, ⟨1, 1, 0, 1⟩, ⟨2, 1, 0, 1⟩, ⟨3, 1, 0, 1⟩]⟩,
  ⟨0x60008, 0x4, 1, 0x4, 1, .sqc, [0x0], []⟩,
  ⟨0x6000c, 0x4, 1, 0x4, 1, .rw, [0x0], [⟨0, 24, 0, 16777215⟩]⟩,
  ⟨0x60010, 0x4, 1, 0x4, 1, .ro, [0x0], []⟩,
  ⟨0x60014, 0x4, 1, 0x4, 1, .ro, [0x0], []⟩,
  ⟨0x60018, 0x4, 1, 0x4, 1, .w1p, [0x0], []⟩,
  ⟨0x6001c, 0x4, 1, 0x4, 1, .ro, [0x0], []⟩,
  ⟨0x60020, 0x4, 1, 0x4, 1, .ro, [0x4f524f56], []⟩,
  ⟨0x60024, 0x4, 1, 0x4, 1, .rw, [0x0], [⟨0, 32, 0, 4294967295⟩]⟩,
  ⟨0x60028, 0x4, 1, 0x4, 1, .rw, [0x0], [⟨0, 1, 0, 1⟩, ⟨1, 1, 0, 1⟩]⟩,
  ⟨0x60030, 0x4, 1, 0x4, 1, .rw, [0x3e8], [⟨0, 16, 1, 65535⟩]⟩,
  ⟨0x60034, 0x4, 1, 0x4, 1, .rw, [0x64], [⟨0, 16, 1, 65535⟩]⟩,
  ⟨0x60038, 0x4, 1, 0x4, 1, .rw, [0xf], [⟨0, 8, 0, 255⟩]⟩,
  ⟨0x6003c, 0x4, 1, 0x4, 1, .ro, [0x0], []⟩,
  ⟨0x60040, 0x4, 1, 0x4, 1, .ro, [0x20f], []⟩,
  ⟨0x60044, 0x4, 1, 0x4, 1, .ro, [0x0], []⟩,
  ⟨0x60048, 0x4, 1, 0x4, 1, .ro, [0x0], []⟩,
  ⟨0x6004c, 0x4, 1, 0x4, 1, .ro, [0x0], []⟩,
  ⟨0x60080, 0x4, 1, 0x4, 1, .wide, [0x0], []⟩,
  ⟨0x60088, 0x4, 1, 0x4, 1, .wide, [0x0], []⟩,
  ⟨0x60090, 0x4, 1, 0x4, 1, .wide, [0x0], []⟩,
  ⟨0x60098, 0x4, 1, 0x4, 1, .wide, [0x0], []⟩,
  ⟨0x600a0, 0x4, 1, 0x4, 1, .wide, [0x0], []⟩]
/-- Register rows of block ACT, part 1. -/
def rowsACT1 : List RegRow := [
  ⟨0x600a8, 0x4, 1, 0x4, 1, .wide, [0x0], []⟩,
  ⟨0x600b0, 0x4, 1, 0x4, 1, .wide, [0x0], []⟩,
  ⟨0x600b8, 0x4, 1, 0x4, 1, .wide, [0x0], []⟩,
  ⟨0x600c0, 0x4, 1, 0x4, 1, .wide, [0x0], []⟩,
  ⟨0x600c8, 0x4, 1, 0x4, 1, .wide, [0x0], []⟩,
  ⟨0x600d0, 0x4, 1, 0x4, 1, .wide, [0x0], []⟩,
  ⟨0x600d8, 0x4, 1, 0x4, 1, .wide, [0x0], []⟩,
  ⟨0x600e0, 0x4, 1, 0x4, 1, .wide, [0x0], []⟩,
  ⟨0x600e8, 0x4, 1, 0x4, 1, .wide, [0x0], []⟩,
  ⟨0x600f0, 0x4, 1, 0x4, 1, .wide, [0x0], []⟩,
  ⟨0x60100, 0x20, 4, 0x4, 1, .ro, [0x0], []⟩,
  ⟨0x60104, 0x20, 4, 0x4, 1, .ro, [0x0], []⟩,
  ⟨0x60108, 0x20, 4, 0x4, 1, .ro, [0x0], []⟩,
  ⟨0x6010c, 0x20, 4, 0x4, 1, .rw, [0x0], [⟨0, 16, 0, 65535⟩, ⟨16, 16, 0, 65535⟩]⟩,
  ⟨0x60110, 0x20, 4, 0x4, 1, .rw, [0x0], [⟨0, 24, 0, 16777215⟩]⟩,
  ⟨0x60114, 0x20, 4, 0x4, 1, .ro, [0x0], []⟩]
def rowsACT : List RegRow := rowsACT0 ++ rowsACT1

/-- Register rows of block DSF, part 0. -/
def rowsDSF0 : List RegRow := [
  ⟨0x70000, 0x4, 1, 0x4, 1, .ro, [0x1], []⟩,
  ⟨0x70004, 0x4, 1, 0x4, 1, .rw, [0x0], [⟨0, 4, 0, 15⟩, ⟨4, 1, 0, 1⟩]⟩,
  ⟨0x70008, 0x4, 1, 0x4, 1, .sqc, [0x0], []⟩,
  ⟨0x7000c, 0x4, 1, 0x4, 1, .rw, [0x0], [⟨0, 24, 0, 16777215⟩]⟩,
  ⟨0x70010, 0x4, 1, 0x4, 1, .rw, [0x3043], [⟨0, 4, 2, 8⟩, ⟨4, 5, 2, 16⟩, ⟨9, 2, 0, 3⟩, ⟨12, 3, 0, 7⟩]⟩,
  ⟨0x70014, 0x4, 1, 0x4, 1, .rw, [0x810], [⟨0, 8, 4, 255⟩, ⟨8, 8, 1, 255⟩]⟩,
  ⟨0x70018, 0x4, 1, 0x4, 1, .rw, [0x3e80055], [⟨0, 4, 1, 9⟩, ⟨4, 2, 0, 3⟩, ⟨6, 2, 0, 3⟩, ⟨16, 16, 1, 10000⟩]⟩,
  ⟨0x7001c, 0x4, 1, 0x4, 1, .rw, [0x3e80161], [⟨0, 4, 1, 9⟩, ⟨4, 4, 0, 9⟩, ⟨8, 2, 0, 3⟩, ⟨16, 16, 1, 10000⟩]⟩,
  ⟨0x70020, 0x4, 1, 0x4, 1, .rw, [0x3e80010], [⟨0, 16, 1, 65535⟩, ⟨16, 16, 1, 10000⟩]⟩,
  ⟨0x70024, 0x4, 1, 0x4, 1, .rw, [0xa], [⟨0, 10, 1, 1000⟩]⟩,
  ⟨0x70028, 0x4, 1, 0x4, 1, .ro, [0x0], []⟩,
  ⟨0x70030, 0x4, 1, 0x4, 1, .rw, [0x0], [⟨0, 7, 0, 95⟩]⟩,
  ⟨0x70034, 0x4, 1, 0x4, 1, .rw, [0x0], [⟨0, 2, 0, 3⟩, ⟨8, 6, 0, 35⟩]⟩,
  ⟨0x70038, 0x4, 1, 0x4, 1, .w1p, [0x0], []⟩,
  ⟨0x7003c, 0x4, 1, 0x4, 1, .rw, [0x0], [⟨0, 5, 0, 31⟩]⟩,
  ⟨0x70040, 0x4, 1, 0x4, 1, .ro, [0x0], []⟩,
  ⟨0x70044, 0x4, 1, 0x4, 1, .ro, [0x0], []⟩,
  ⟨0x70080, 0x4, 1, 0x4, 1, .ro, [0x100000], []⟩,
  ⟨0x70084, 0x4, 1, 0x4, 1, .rw, [0x0], [⟨0, 12, 0, 4095⟩]⟩,
  ⟨0x70088, 0x4, 1, 0x4, 1, .rw, [0x0], [⟨0, 4, 0, 15⟩]⟩,
  ⟨0x7008c, 0x4, 1, 0x4, 1, .rw, [0x0], [⟨0, 32, 0, 4294967295⟩]⟩,
  ⟨0x70090, 0x4, 1, 0x4, 1, .ro, [0x0], []⟩,
  ⟨0x70400, 0x100, 4, 0x4, 1, .ro, [0x0], []⟩,
  ⟨0x70404, 0x100, 4, 0x4, 1, .ro, [0x84], []⟩]
/-- Register rows of block DSF, part 1. -/
def rowsDSF1 : List RegRow := [
  ⟨0x70408, 0x100, 4, 0x4, 1, .sqc, [0x0], []⟩,
  ⟨0x7040c, 0x100, 4, 0x4, 1, .rw, [0x0], [⟨0, 24, 0, 16777215⟩]⟩,
  ⟨0x70410, 0x100, 4, 0x4, 1, .ro, [0x0], []⟩,
  ⟨0x70414, 0x100, 4, 0x4, 1, .ro, [0x0], []⟩,
  ⟨0x70418, 0x100, 4, 0x4, 1, .ro, [0x0], []⟩,
  ⟨0x70440, 0x100, 4, 0x4, 1, .wide, [0x0], []⟩,
  ⟨0x70448, 0x100, 4, 0x4, 1, .wide, [0x0], []⟩,
  ⟨0x70450, 0x100, 4, 0x4, 1, .wide, [0x0], []⟩,
  ⟨0x70458, 0x100, 4, 0x4, 1, .wide, [0x0], []⟩,
  ⟨0x70460, 0x100, 4, 0x4, 1, .wide, [0x0], []⟩,
  ⟨0x70468, 0x100, 4, 0x4, 1, .wide, [0x0], []⟩,
  ⟨0x70470, 0x100, 4, 0x4, 1, .wide, [0x0], []⟩,
  ⟨0x70478, 0x100, 4, 0x4, 1, .wide, [0x0], []⟩,
  ⟨0x70480, 0x100, 4, 0x4, 1, .wide, [0x0], []⟩,
  ⟨0x70488, 0x100, 4, 0x4, 1, .wide, [0x0], []⟩,
  ⟨0x70490, 0x100, 4, 0x4, 1, .wide, [0x0], []⟩,
  ⟨0x70498, 0x100, 4, 0x4, 1, .wide, [0x0], []⟩,
  ⟨0x704a0, 0x100, 4, 0x4, 1, .wide, [0x0], []⟩,
  ⟨0x704a8, 0x100, 4, 0x4, 1, .wide, [0x0], []⟩,
  ⟨0x704b0, 0x100, 4, 0x4, 1, .wide, [0x0], []⟩,
  ⟨0x704b8, 0x100, 4, 0x4, 1, .wide, [0x0], []⟩]
def rowsDSF : List RegRow := rowsDSF0 ++ rowsDSF1

/-- Register rows of block USQ, part 0. -/
def rowsUSQ0 : List RegRow := [
  ⟨0x80000, 0x4, 1, 0x4, 1, .ro, [0x1], []⟩,
  ⟨0x80004, 0x4, 1, 0x4, 1, .rw, [0x0], [⟨0, 1, 0, 1⟩, ⟨1, 1, 0, 1⟩]⟩,
  ⟨0x80008, 0x4, 1, 0x4, 1, .sqc, [0x0], []⟩,
  ⟨0x8000c, 0x4, 1, 0x4, 1, .rw, [0x0], [⟨0, 24, 0, 16777215⟩]⟩,
  ⟨0x80010, 0x4, 1, 0x4, 1, .rw, [0x14], [⟨0, 6, 10, 40⟩]⟩,
  ⟨0x80014, 0x4, 1, 0x4, 1, .rw, [0x3e8], [⟨0, 20, 1, 1000000⟩]⟩,
  ⟨0x80018, 0x4, 1, 0x4, 1, .ro, [0x0], []⟩,
  ⟨0x8001c, 0x4, 1, 0x4, 1, .ro, [0x0], []⟩,
  ⟨0x80040, 0x4, 1, 0x4, 1, .rw, [0x0], [⟨0, 13, 0, 8191⟩, ⟨16, 1, 0, 1⟩]⟩,
  ⟨0x80044, 0x4, 1, 0x4, 1, .rw, [0x0], [⟨0, 6, 0, 63⟩]⟩,
  ⟨0x80048, 0x4, 1, 0x4, 1, .rw, [0x0], [⟨0, 32, 0, 4294967295⟩]⟩,
  ⟨0x8004c, 0x4, 1, 0x4, 1, .w1p, [0x0], []⟩,
  ⟨0x80050, 0x4, 1, 0x4, 1, .rw, [0x0], [⟨0, 12, 0, 4095⟩]⟩,
  ⟨0x80054, 0x4, 1, 0x4, 1, .rw, [0x0], [⟨0, 2, 0, 3⟩]⟩,
  ⟨0x80058, 0x4, 1, 0x4, 1, .rw, [0x0], [⟨0, 32, 0, 4294967295⟩]⟩,
  ⟨0x80060, 0x4, 1, 0x4, 1, .rw, [0x0], [⟨0, 8, 0, 255⟩]⟩,
  ⟨0x80064, 0x4, 1, 0x4, 1, .rw, [0x0], [⟨0, 3, 0, 7⟩]⟩,
  ⟨0x80068, 0x4, 1, 0x4, 1, .rw, [0x0], [⟨0, 32, 0, 4294967295⟩]⟩,
  ⟨0x80080, 0x4, 1, 0x4, 1, .wide, [0x0], []⟩,
  ⟨0x80088, 0x4, 1, 0x4, 1, .wide, [0x0], []⟩,
  ⟨0x80090, 0x4, 1, 0x4, 1, .wide, [0x0], []⟩,
  ⟨0x80098, 0x4, 1, 0x4, 1, .wide, [0x0], []⟩,
  ⟨0x800a0, 0x4, 1, 0x4, 1, .wide, [0x0], []⟩,
  ⟨0x800a8, 0x4, 1, 0x4, 1, .wide, [0x0], []⟩]
/-- Register rows of block USQ, part 1. -/
def rowsUSQ1 : List RegRow := [
  ⟨0x800b0, 0x4, 1, 0x4, 1, .wide, [0x0], []⟩,
  ⟨0x800b8, 0x4, 1, 0x4, 1, .wide, [0x0], []⟩]
def rowsUSQ : List RegRow := rowsUSQ0 ++ rowsUSQ1

/-- Register rows of block UBT, part 0. -/
def rowsUBT0 : List RegRow := [
  ⟨0x90000, 0x4, 1, 0x4, 1, .ro, [0x1], []⟩,
  ⟨0x90004, 0x4, 1, 0x4, 1, .rw, [0x0], [⟨0, 4, 0, 15⟩]⟩,
  ⟨0x90008, 0x4, 1, 0x4, 1, .sqc, [0x0], []⟩,
  ⟨0x9000c, 0x4, 1, 0x4, 1, .rw, [0x0], [⟨0, 24, 0, 16777215⟩]⟩,
  ⟨0x90010, 0x4, 1, 0x4, 1, .kg, [0x3f], [⟨0, 6, 1, 63⟩]⟩,
  ⟨0x90014, 0x4, 1, 0x4, 1, .ro, [0x0], []⟩,
  ⟨0x90018, 0x4, 1, 0x4, 1, .ro, [0x0], []⟩,
  ⟨0x9001c, 0x4, 1, 0x4, 1, .kg, [0x0], [⟨0, 4, 0, 15⟩]⟩,
  ⟨0x90048, 0x8, 12, 0x4, 1, .wide, [0x0], []⟩,
  ⟨0x900a8, 0x4, 1, 0x4, 1, .wide, [0x0], []⟩,
  ⟨0x90100, 0x80, 4, 0x4, 1, .ro, [0x0], []⟩,
  ⟨0x90104, 0x80, 4, 0x4, 1, .ro, [0x0], []⟩,
  ⟨0x90108, 0x80, 4, 0x4, 1, .ro, [0x0], []⟩,
  ⟨0x90110, 0x80, 4, 0x4, 1, .wide, [0x0], []⟩,
  ⟨0x90118, 0x80, 4, 0x4, 1, .wide, [0x0], []⟩,
  ⟨0x90120, 0x80, 4, 0x4, 1, .wide, [0x0], []⟩,
  ⟨0x90128, 0x80, 4, 0x4, 1, .wide, [0x0], []⟩,
  ⟨0x90130, 0x80, 4, 0x4, 1, .wide, [0x0], []⟩,
  ⟨0x90138, 0x80, 4, 0x4, 1, .wide, [0x0], []⟩]
def rowsUBT : List RegRow := rowsUBT0

/-- Register rows of block LSC, part 0. -/
def rowsLSC0 : List RegRow := [
  ⟨0xa0000, 0x4, 1, 0x4, 1, .ro, [0x1], []⟩,
  ⟨0xa0004, 0x4, 1, 0x4, 1, .kg, [0x1], [⟨0, 1, 0, 1⟩, ⟨1, 1, 0, 1⟩]⟩,
  ⟨0xa0008, 0x4, 1, 0x4, 1, .sqc, [0x0], []⟩,
  ⟨0xa000c, 0x4, 1, 0x4, 1, .rw, [0x0], [⟨0, 24, 0, 16777215⟩]⟩,
  ⟨0xa0010, 0x4, 1, 0x4, 1, .ro, [0x0], []⟩,
  ⟨0xa0014, 0x4, 1, 0x4, 1, .kg, [0x0], [⟨0, 1, 0, 1⟩]⟩,
  ⟨0xa0018, 0x4, 1, 0x4, 1, .rw, [0x3e8], [⟨0, 16, 0, 65535⟩]⟩,
  ⟨0xa001c, 0x4, 1, 0x4, 1, .rw, [0x64], [⟨0, 16, 1, 65535⟩]⟩,
  ⟨0xa0020, 0x4, 1, 0x4, 1, .ro, [0x0], []⟩,
  ⟨0xa0024, 0x4, 1, 0x4, 1, .ro, [0x0], []⟩,
  ⟨0xa0040, 0x4, 1, 0x4, 1, .rw, [0x0], [⟨0, 12, 0, 4095⟩, ⟨16, 1, 0, 1⟩]⟩,
  ⟨0xa0044, 0x4, 1, 0x4, 1, .rw, [0x0], [⟨0, 5, 0, 31⟩]⟩,
  ⟨0xa0048, 0x4, 1, 0x4, 1, .rw, [0x0], [⟨0, 32, 0, 4294967295⟩]⟩,
  ⟨0xa0060, 0x4, 1, 0x4, 1, .rw, [0x0], [⟨0, 12, 0, 4095⟩, ⟨12, 1, 0, 1⟩, ⟨16, 15, 0, 32767⟩]⟩,
  ⟨0xa0064, 0x4, 1, 0x4, 1, .rw, [0x0], [⟨0, 32, 0, 4294967295⟩]⟩,
  ⟨0xa0068, 0x4, 10, 0x4, 1, .rw, [0x0], [⟨0, 32, 0, 4294967295⟩]⟩,
  ⟨0xa0090, 0x4, 1, 0x4, 1, .kg, [0x0], [⟨0, 1, 0, 1⟩]⟩,
  ⟨0xa0094, 0x4, 1, 0x4, 1, .ro, [0x0], []⟩,
  ⟨0xa0100, 0x4, 1, 0x4, 1, .wide, [0x0], []⟩,
  ⟨0xa0108, 0x4, 1, 0x4, 1, .wide, [0x0], []⟩,
  ⟨0xa0110, 0x4, 1, 0x4, 1, .wide, [0x0], []⟩,
  ⟨0xa0118, 0x4, 1, 0x4, 1, .wide, [0x0], []⟩,
  ⟨0xa0120, 0x4, 1, 0x4, 1, .wide, [0x0], []⟩,
  ⟨0xa0128, 0x4, 1, 0x4, 1, .wide, [0x0], []⟩]
/-- Register rows of block LSC, part 1. -/
def rowsLSC1 : List RegRow := [
  ⟨0xa0130, 0x4, 1, 0x4, 1, .wide, [0x0], []⟩,
  ⟨0xa0138, 0x4, 1, 0x4, 1, .wide, [0x0], []⟩,
  ⟨0xa0140, 0x4, 1, 0x4, 1, .wide, [0x0], []⟩,
  ⟨0xa0148, 0x4, 1, 0x4, 1, .wide, [0x0], []⟩,
  ⟨0xa0150, 0x4, 1, 0x4, 1, .wide, [0x0], []⟩,
  ⟨0xa0158, 0x4, 1, 0x4, 1, .wide, [0x0], []⟩]
def rowsLSC : List RegRow := rowsLSC0 ++ rowsLSC1

/-- Register rows of block HPE, part 0. -/
def rowsHPE0 : List RegRow := [
  ⟨0xb0000, 0x4, 1, 0x4, 1, .ro, [0x1], []⟩,
  ⟨0xb0004, 0x4, 1, 0x4, 1, .sqc, [0x0], []⟩,
  ⟨0xb0008, 0x4, 1, 0x4, 1, .rw, [0x0], [⟨0, 24, 0, 16777215⟩]⟩,
  ⟨0xb000c, 0x4, 1, 0x4, 1, .ro, [0x0], []⟩,
  ⟨0xb0100, 0x40, 8, 0x4, 1, .rw, [0x0], [⟨0, 1, 0, 1⟩, ⟨1, 2, 0, 3⟩, ⟨3, 5, 0, 31⟩]⟩,
  ⟨0xb0104, 0x40, 8, 0x4, 1, .sqc, [0x0], []⟩,
  ⟨0xb0108, 0x40, 8, 0x4, 1, .rw, [0x0], [⟨0, 24, 0, 16777215⟩]⟩,
  ⟨0xb010c, 0x40, 8, 0x4, 1, .ro, [0x0], []⟩,
  ⟨0xb0110, 0x40, 8, 0x4, 1, .rw, [0x2400], [⟨0, 14, 1518, 16383⟩]⟩,
  ⟨0xb0114, 0x40, 8, 0x4, 1, .rw, [0x0], [⟨0, 1, 0, 1⟩, ⟨1, 1, 0, 1⟩, ⟨2, 1, 0, 1⟩, ⟨3, 1, 0, 1⟩, ⟨4, 1, 0, 1⟩, ⟨5, 1, 0, 1⟩, ⟨8, 3, 0, 7⟩]⟩,
  ⟨0xb0118, 0x40, 8, 0x4, 1, .rw, [0x0], [⟨0, 32, 0, 4294967295⟩]⟩,
  ⟨0xb011c, 0x40, 8, 0x4, 1, .rw, [0x0], [⟨0, 16, 0, 65535⟩]⟩,
  ⟨0xb0120, 0x40, 8, 0x4, 1, .rw, [0x0], [⟨0, 32, 0, 4294967295⟩]⟩,
  ⟨0xb0124, 0x40, 8, 0x4, 1, .rw, [0x0], [⟨0, 16, 0, 65535⟩]⟩,
  ⟨0xb0128, 0x40, 8, 0x4, 1, .ro, [0x0], []⟩,
  ⟨0xb012c, 0x40, 8, 0x4, 1, .ro, [0x0], []⟩,
  ⟨0xb0130, 0x40, 8, 0x4, 1, .ro, [0x0], []⟩,
  ⟨0xb1000, 0x200, 8, 0x4, 1, .wide, [0x0], []⟩,
  ⟨0xb1008, 0x200, 8, 0x4, 1, .wide, [0x0], []⟩,
  ⟨0xb1010, 0x200, 8, 0x4, 1, .wide, [0x0], []⟩,
  ⟨0xb1018, 0x200, 8, 0x4, 1, .wide, [0x0], []⟩,
  ⟨0xb1020, 0x200, 8, 0x4, 1, .wide, [0x0], []⟩,
  ⟨0xb1028, 0x200, 8, 0x4, 1, .wide, [0x0], []⟩,
  ⟨0xb1030, 0x200, 8, 0x4, 1, .wide, [0x0], []⟩]
/-- Register rows of block HPE, part 1. -/
def rowsHPE1 : List RegRow := [
  ⟨0xb1038, 0x200, 8, 0x4, 1, .wide, [0x0], []⟩,
  ⟨0xb1040, 0x200, 8, 0x4, 1, .wide, [0x0], []⟩,
  ⟨0xb1048, 0x200, 8, 0x4, 1, .wide, [0x0], []⟩,
  ⟨0xb1050, 0x200, 8, 0x4, 1, .wide, [0x0], []⟩,
  ⟨0xb1058, 0x200, 8, 0x4, 1, .wide, [0x0], []⟩,
  ⟨0xb1060, 0x200, 8, 0x4, 1, .wide, [0x0], []⟩,
  ⟨0xb1068, 0x200, 8, 0x4, 1, .wide, [0x0], []⟩,
  ⟨0xb1070, 0x200, 8, 0x4, 1, .wide, [0x0], []⟩,
  ⟨0xb1078, 0x200, 8, 0x4, 1, .wide, [0x0], []⟩,
  ⟨0xb1080, 0x200, 8, 0x4, 1, .wide, [0x0], []⟩,
  ⟨0xb1088, 0x200, 8, 0x4, 1, .wide, [0x0], []⟩,
  ⟨0xb1090, 0x200, 8, 0x4, 1, .wide, [0x0], []⟩,
  ⟨0xb1098, 0x200, 8, 0x4, 1, .wide, [0x0], []⟩,
  ⟨0xb10a0, 0x200, 8, 0x4, 1, .wide, [0x0], []⟩,
  ⟨0xb10a8, 0x200, 8, 0x4, 1, .wide, [0x0], []⟩,
  ⟨0xb10b0, 0x200, 8, 0x8, 10, .wide, [0x0], []⟩,
  ⟨0xb1100, 0x200, 8, 0x4, 1, .wide, [0x0], []⟩,
  ⟨0xb1108, 0x200, 8, 0x4, 1, .wide, [0x0], []⟩,
  ⟨0xb1110, 0x200, 8, 0x4, 1, .wide, [0x0], []⟩,
  ⟨0xb1118, 0x200, 8, 0x4, 1, .wide, [0x0], []⟩,
  ⟨0xb1120, 0x200, 8, 0x4, 1, .wide, [0x0], []⟩,
  ⟨0xb1128, 0x200, 8, 0x4, 1, .wide, [0x0], []⟩,
  ⟨0xb1130, 0x200, 8, 0x4, 1, .wide, [0x0], []⟩,
  ⟨0xb1138, 0x200, 8, 0x4, 1, .wide, [0x0], []⟩]
/-- Register rows of block HPE, part 2. -/
def rowsHPE2 : List RegRow := [
  ⟨0xb1140, 0x200, 8, 0x4, 1, .wide, [0x0], []⟩,
  ⟨0xb1148, 0x200, 8, 0x4, 1, .wide, [0x0], []⟩,
  ⟨0xb1150, 0x200, 8, 0x8, 10, .wide, [0x0], []⟩]
def rowsHPE : List RegRow := rowsHPE0 ++ rowsHPE1 ++ rowsHPE2

/-- Register rows of block CLS, part 0. -/
def rowsCLS0 : List RegRow := [
  ⟨0xc0000, 0x4, 1, 0x4, 1, .ro, [0x1], []⟩,
  ⟨0xc0004, 0x4, 1, 0x4, 1, .rw, [0x0], [⟨0, 1, 0, 1⟩]⟩,
  ⟨0xc0008, 0x4, 1, 0x4, 1, .sqc, [0x0], []⟩,
  ⟨0xc000c, 0x4, 1, 0x4, 1, .rw, [0x0], [⟨0, 24, 0, 16777215⟩]⟩,
  ⟨0xc0010, 0x4, 1, 0x4, 1, .rw, [0x810088a8], [⟨0, 16, 0, 65535⟩, ⟨16, 16, 0, 65535⟩]⟩,
  ⟨0xc0014, 0x4, 1, 0x4, 1, .ro, [0x2], []⟩,
  ⟨0xc0018, 0x4, 1, 0x4, 1, .w1p, [0x0], []⟩,
  ⟨0xc001c, 0x4, 1, 0x4, 1, .rw, [0xffffffff], [⟨0, 32, 0, 4294967295⟩]⟩,
  ⟨0xc0020, 0x4, 1, 0x4, 1, .rw, [0x5a5ac3c3], [⟨0, 32, 0, 4294967295⟩]⟩,
  ⟨0xc0024, 0x4, 1, 0x4, 1, .rw, [0x80], [⟨0, 10, 1, 512⟩]⟩,
  ⟨0xc0028, 0x4, 1, 0x4, 1, .w1p, [0x0], []⟩,
  ⟨0xc002c, 0x4, 1, 0x4, 1, .ro, [0x0], []⟩,
  ⟨0xc0030, 0x4, 1, 0x4, 1, .rw, [0x0], [⟨0, 15, 0, 32767⟩, ⟨15, 2, 0, 3⟩]⟩,
  ⟨0xc0034, 0x4, 1, 0x4, 1, .rw, [0x0], [⟨0, 1, 0, 1⟩]⟩,
  ⟨0xc0038, 0x4, 1, 0x4, 1, .rw, [0x0], [⟨0, 4, 0, 15⟩]⟩,
  ⟨0xc003c, 0x4, 1, 0x4, 1, .rw, [0x0], [⟨0, 32, 0, 4294967295⟩]⟩,
  ⟨0xc0040, 0x4, 1, 0x4, 1, .ro, [0x0], []⟩,
  ⟨0xc0044, 0x4, 1, 0x4, 1, .ro, [0x0], []⟩,
  ⟨0xc0048, 0x4, 1, 0x4, 1, .ro, [0x0], []⟩,
  ⟨0xc0050, 0x4, 1, 0x4, 1, .rw, [0x0], [⟨0, 6, 0, 63⟩]⟩,
  ⟨0xc0054, 0x4, 1, 0x4, 1, .rw, [0x0], [⟨0, 16, 0, 65535⟩, ⟨16, 3, 0, 7⟩, ⟨24, 6, 0, 63⟩]⟩,
  ⟨0xc0058, 0x4, 1, 0x4, 1, .rw, [0x0], [⟨0, 10, 0, 1023⟩]⟩,
  ⟨0xc0060, 0x4, 1, 0x4, 1, .rw, [0x0], [⟨0, 6, 0, 63⟩]⟩,
  ⟨0xc0064, 0x4, 1, 0x4, 1, .rw, [0x0], [⟨0, 5, 0, 31⟩]⟩]
/-- Register rows of block CLS, part 1. -/
def rowsCLS1 : List RegRow := [
  ⟨0xc0068, 0x4, 1, 0x4, 1, .rw, [0x0], [⟨0, 32, 0, 4294967295⟩]⟩,
  ⟨0xc006c, 0x4, 1, 0x4, 1, .w1p, [0x0], []⟩,
  ⟨0xc0070, 0x4, 1, 0x4, 1, .rw, [0x0], [⟨0, 12, 0, 4095⟩]⟩,
  ⟨0xc0074, 0x4, 1, 0x4, 1, .rw, [0x10000000], [⟨0, 13, 0, 8191⟩, ⟨16, 13, 0, 8191⟩]⟩,
  ⟨0xc0078, 0x4, 1, 0x4, 1, .rw, [0x0], [⟨0, 6, 0, 63⟩]⟩,
  ⟨0xc007c, 0x4, 1, 0x4, 1, .rw, [0x0], [⟨0, 32, 0, 4294967295⟩]⟩,
  ⟨0xc0080, 0x4, 1, 0x4, 1, .rw, [0x0], [⟨0, 32, 0, 4294967295⟩]⟩,
  ⟨0xc0084, 0x4, 1, 0x4, 1, .rw, [0x0], [⟨0, 12, 0, 4095⟩]⟩,
  ⟨0xc0088, 0x4, 1, 0x4, 1, .rw, [0x0], [⟨0, 13, 0, 8191⟩]⟩,
  ⟨0xc0090, 0x4, 11, 0x4, 1, .rw, [0x0], [⟨0, 32, 0, 4294967295⟩]⟩,
  ⟨0xc00c0, 0x4, 9, 0x4, 1, .rw, [0x0], [⟨0, 13, 0, 8191⟩]⟩,
  ⟨0xc0100, 0x4, 8, 0x4, 1, .rw, [0x1000], [⟨0, 13, 0, 8191⟩, ⟨16, 1, 0, 1⟩]⟩,
  ⟨0xc0200, 0x4, 1, 0x4, 1, .wide, [0x0], []⟩,
  ⟨0xc0208, 0x4, 1, 0x4, 1, .wide, [0x0], []⟩,
  ⟨0xc0210, 0x4, 1, 0x4, 1, .wide, [0x0], []⟩,
  ⟨0xc0218, 0x4, 1, 0x4, 1, .wide, [0x0], []⟩,
  ⟨0xc0220, 0x4, 1, 0x4, 1, .wide, [0x0], []⟩,
  ⟨0xc0228, 0x4, 1, 0x4, 1, .wide, [0x0], []⟩,
  ⟨0xc0230, 0x4, 1, 0x4, 1, .wide, [0x0], []⟩,
  ⟨0xc0238, 0x4, 1, 0x4, 1, .wide, [0x0], []⟩,
  ⟨0xc0240, 0x4, 1, 0x4, 1, .wide, [0x0], []⟩,
  ⟨0xc0248, 0x4, 1, 0x4, 1, .wide, [0x0], []⟩,
  ⟨0xc0250, 0x4, 1, 0x4, 1, .wide, [0x0], []⟩,
  ⟨0xc0258, 0x4, 1, 0x4, 1, .wide, [0x0], []⟩]
/-- Register rows of block CLS, part 2. -/
def rowsCLS2 : List RegRow := [
  ⟨0xc0260, 0x4, 1, 0x4, 1, .wide, [0x0], []⟩,
  ⟨0xc0268, 0x4, 1, 0x4, 1, .wide, [0x0], []⟩,
  ⟨0xc0270, 0x4, 1, 0x4, 1, .wide, [0x0], []⟩,
  ⟨0xc0278, 0x4, 1, 0x4, 1, .wide, [0x0], []⟩,
  ⟨0xc0280, 0x4, 1, 0x4, 1, .wide, [0x0], []⟩]
def rowsCLS : List RegRow := rowsCLS0 ++ rowsCLS1 ++ rowsCLS2

/-- Register rows of block HRD, part 0. -/
def rowsHRD0 : List RegRow := [
  ⟨0xd0000, 0x4, 1, 0x4, 1, .ro, [0x1], []⟩,
  ⟨0xd0004, 0x4, 1, 0x4, 1, .rw, [0x1], [⟨0, 1, 0, 1⟩]⟩,
  ⟨0xd0008, 0x4, 1, 0x4, 1, .sqc, [0x0], []⟩,
  ⟨0xd000c, 0x4, 1, 0x4, 1, .rw, [0x0], [⟨0, 24, 0, 16777215⟩]⟩,
  ⟨0xd0010, 0x4, 1, 0x4, 1, .rw, [0x20], [⟨0, 6, 8, 40⟩]⟩,
  ⟨0xd0014, 0x4, 1, 0x4, 1, .ro, [0x7c00000], []⟩,
  ⟨0xd0018, 0x4, 1, 0x4, 1, .ro, [0x3d84000], []⟩,
  ⟨0xd001c, 0x4, 1, 0x4, 1, .ro, [0x7c00000], []⟩,
  ⟨0xd0020, 0x4, 1, 0x4, 1, .ro, [0x3d84000], []⟩,
  ⟨0xd0024, 0x4, 1, 0x4, 1, .ro, [0x400000], []⟩,
  ⟨0xd0028, 0x4, 1, 0x4, 1, .ro, [0x200000], []⟩,
  ⟨0xd002c, 0x4, 1, 0x4, 1, .rw, [0x1aab], [⟨0, 20, 6827, 1000000⟩]⟩,
  ⟨0xd0030, 0x4, 1, 0x4, 1, .ro, [0x0], []⟩,
  ⟨0xd0034, 0x4, 1, 0x4, 1, .ro, [0x0], []⟩,
  ⟨0xd0038, 0x4, 1, 0x4, 1, .ro, [0x0], []⟩,
  ⟨0xd0040, 0x4, 1, 0x4, 1, .rw, [0x0], [⟨0, 6, 0, 63⟩]⟩,
  ⟨0xd0044, 0x4, 1, 0x4, 1, .rw, [0x0], [⟨0, 3, 0, 7⟩]⟩,
  ⟨0xd0048, 0x4, 1, 0x4, 1, .ro, [0x0], []⟩,
  ⟨0xd0080, 0x4, 1, 0x4, 1, .wide, [0x0], []⟩,
  ⟨0xd0088, 0x4, 1, 0x4, 1, .wide, [0x0], []⟩,
  ⟨0xd0090, 0x4, 1, 0x4, 1, .wide, [0x0], []⟩,
  ⟨0xd0098, 0x4, 1, 0x4, 1, .wide, [0x0], []⟩,
  ⟨0xd00a0, 0x4, 1, 0x4, 1, .wide, [0x0], []⟩]
def rowsHRD : List RegRow := rowsHRD0

/-- Register rows of block ARB, part 0. -/
def rowsARB0 : List RegRow := [
  ⟨0xe0000, 0x4, 1, 0x4, 1, .ro, [0x1], []⟩,
  ⟨0xe0008, 0x4, 1, 0x4, 1, .sqc, [0x0], []⟩,
  ⟨0xe000c, 0x4, 1, 0x4, 1, .rw, [0x0], [⟨0, 24, 0, 16777215⟩]⟩,
  ⟨0xe0100, 0x100, 3, 0x4, 1, .rw, [0x400040], [⟨0, 1, 0, 1⟩, ⟨4, 3, 1, 7⟩, ⟨16, 16, 1, 65535⟩]⟩,
  ⟨0xe0104, 0x100, 3, 0x4, 1, .ro, [0x0], []⟩,
  ⟨0xe0140, 0x4, 14, 0x4, 1, .rw, [0x6, 0x3, 0x3, 0x3, 0x3, 0x3, 0x3, 0x3, 0x3, 0x200004, 0x1000005, 0x1000005, 0x1000005, 0x1000005], [⟨0, 3, 0, 7⟩, ⟨16, 16, 0, 65535⟩]⟩,
  ⟨0xe0240, 0x4, 9, 0x4, 1, .rw, [0x6, 0x2, 0x2, 0x2, 0x2, 0x2, 0x2, 0x2, 0x2], [⟨0, 3, 0, 7⟩, ⟨16, 16, 0, 65535⟩]⟩,
  ⟨0xe0340, 0x4, 7, 0x4, 1, .rw, [0x5, 0x6, 0x5, 0x6, 0x6, 0x1, 0x0], [⟨0, 3, 0, 7⟩, ⟨16, 16, 0, 65535⟩]⟩,
  ⟨0xe0178, 0x100, 3, 0x4, 1, .ro, [0x0], []⟩,
  ⟨0xe0180, 0x8, 14, 0x4, 1, .wide, [0x0], []⟩,
  ⟨0xe0280, 0x8, 9, 0x4, 1, .wide, [0x0], []⟩,
  ⟨0xe0380, 0x8, 7, 0x4, 1, .wide, [0x0], []⟩]
def rowsARB : List RegRow := rowsARB0

/-- Register rows of block TWN, part 0. -/
def rowsTWN0 : List RegRow := [
  ⟨0xf0000, 0x4, 1, 0x4, 1, .ro, [0x1], []⟩,
  ⟨0xf0004, 0x4, 1, 0x4, 1, .rw, [0x4a], [⟨0, 1, 0, 1⟩, ⟨1, 1, 0, 1⟩, ⟨2, 1, 0, 1⟩, ⟨3, 1, 0, 1⟩, ⟨4, 3, 0, 4⟩]⟩,
  ⟨0xf0008, 0x4, 1, 0x4, 1, .sqc, [0x0], []⟩,
  ⟨0xf000c, 0x4, 1, 0x4, 1, .rw, [0x0], [⟨0, 24, 0, 16777215⟩]⟩,
  ⟨0xf0010, 0x4, 1, 0x4, 1, .ro, [0x0], []⟩,
  ⟨0xf0014, 0x4, 1, 0x4, 1, .rw, [0x14], [⟨0, 10, 2, 1000⟩]⟩,
  ⟨0xf0018, 0x4, 1, 0x4, 1, .rw, [0x5], [⟨0, 10, 0, 1023⟩]⟩,
  ⟨0xf001c, 0x4, 1, 0x4, 1, .rw, [0x3e8], [⟨0, 17, 1, 100000⟩]⟩,
  ⟨0xf0020, 0x4, 1, 0x4, 1, .rw, [0x7ff], [⟨0, 11, 1, 2047⟩]⟩,
  ⟨0xf0024, 0x4, 1, 0x4, 1, .w1p, [0x0], []⟩,
  ⟨0xf0028, 0x4, 1, 0x4, 1, .kg, [0x0], [⟨0, 1, 0, 1⟩]⟩,
  ⟨0xf002c, 0x4, 1, 0x4, 1, .kg, [0x0], [⟨0, 1, 0, 1⟩, ⟨1, 1, 0, 1⟩]⟩,
  ⟨0xf0030, 0x4, 1, 0x4, 1, .ro, [0x0], []⟩,
  ⟨0xf0034, 0x4, 1, 0x4, 1, .ro, [0x0], []⟩,
  ⟨0xf0038, 0x4, 1, 0x4, 1, .ro, [0x0], []⟩,
  ⟨0xf003c, 0x4, 1, 0x4, 1, .ro, [0x0], []⟩,
  ⟨0xf0040, 0x4, 1, 0x4, 1, .ro, [0x0], []⟩,
  ⟨0xf0044, 0x4, 1, 0x4, 1, .ro, [0x0], []⟩,
  ⟨0xf0048, 0x4, 1, 0x4, 1, .ro, [0x0], []⟩,
  ⟨0xf004c, 0x4, 1, 0x4, 1, .ro, [0x0], []⟩,
  ⟨0xf0050, 0x4, 1, 0x4, 1, .ro, [0x0], []⟩,
  ⟨0xf0054, 0x4, 1, 0x4, 1, .ro, [0x0], []⟩,
  ⟨0xf0058, 0x4, 1, 0x4, 1, .ro, [0x0], []⟩,
  ⟨0xf0060, 0x4, 1, 0x4, 1, .ro, [0x0], []⟩]
/-- Register rows of block TWN, part 1. -/
def rowsTWN1 : List RegRow := [
  ⟨0xf0064, 0x4, 1, 0x4, 1, .rw, [0x0], [⟨0, 2, 0, 3⟩]⟩,
  ⟨0xf0068, 0x4, 1, 0x4, 1, .rw, [0x0], [⟨0, 3, 0, 7⟩]⟩,
  ⟨0xf006c, 0x4, 1, 0x4, 1, .ro, [0x0], []⟩,
  ⟨0xf0070, 0x4, 1, 0x4, 1, .ro, [0x0], []⟩,
  ⟨0xf0074, 0x4, 1, 0x4, 1, .rw, [0x103e8], [⟨0, 16, 0, 65535⟩, ⟨16, 1, 0, 1⟩]⟩,
  ⟨0xf0078, 0x4, 1, 0x4, 1, .ro, [0x0], []⟩,
  ⟨0xf0080, 0x4, 1, 0x4, 1, .rw, [0x0], [⟨0, 12, 0, 4095⟩]⟩,
  ⟨0xf0084, 0x4, 1, 0x4, 1, .rw, [0x0], [⟨0, 4, 0, 15⟩]⟩,
  ⟨0xf0088, 0x4, 1, 0x4, 1, .ro, [0x0], []⟩,
  ⟨0xf0090, 0x4, 1, 0x4, 1, .rw, [0x0], [⟨0, 4, 0, 15⟩]⟩,
  ⟨0xf0094, 0x4, 1, 0x4, 1, .ro, [0x0], []⟩,
  ⟨0xf0098, 0x4, 1, 0x4, 1, .rw, [0x0], [⟨0, 1, 0, 1⟩, ⟨4, 2, 0, 3⟩, ⟨8, 6, 0, 35⟩]⟩,
  ⟨0xf009c, 0x4, 1, 0x4, 1, .rw, [0x0], [⟨0, 5, 0, 31⟩]⟩,
  ⟨0xf00a0, 0x4, 1, 0x4, 1, .ro, [0x0], []⟩,
  ⟨0xf0100, 0x4, 1, 0x4, 1, .wide, [0x0], []⟩,
  ⟨0xf0108, 0x4, 1, 0x4, 1, .wide, [0x0], []⟩,
  ⟨0xf0110, 0x4, 1, 0x4, 1, .wide, [0x0], []⟩,
  ⟨0xf0118, 0x4, 1, 0x4, 1, .wide, [0x0], []⟩,
  ⟨0xf0120, 0x4, 1, 0x4, 1, .wide, [0x0], []⟩,
  ⟨0xf0128, 0x4, 1, 0x4, 1, .wide, [0x0], []⟩,
  ⟨0xf0130, 0x4, 1, 0x4, 1, .wide, [0x0], []⟩,
  ⟨0xf0138, 0x4, 1, 0x4, 1, .wide, [0x0], []⟩,
  ⟨0xf0140, 0x4, 1, 0x4, 1, .wide, [0x0], []⟩,
  ⟨0xf0148, 0x4, 1, 0x4, 1, .wide, [0x0], []⟩]
/-- Register rows of block TWN, part 2. -/
def rowsTWN2 : List RegRow := [
  ⟨0xf0150, 0x4, 1, 0x4, 1, .wide, [0x0], []⟩,
  ⟨0xf0158, 0x4, 1, 0x4, 1, .wide, [0x0], []⟩,
  ⟨0xf0160, 0x4, 1, 0x4, 1, .wide, [0x0], []⟩,
  ⟨0xf0168, 0x4, 1, 0x4, 1, .wide, [0x0], []⟩,
  ⟨0xf0170, 0x4, 1, 0x4, 1, .wide, [0x0], []⟩,
  ⟨0xf0178, 0x4, 1, 0x4, 1, .wide, [0x0], []⟩,
  ⟨0xf0180, 0x4, 1, 0x4, 1, .wide, [0x0], []⟩,
  ⟨0xf0188, 0x4, 1, 0x4, 1, .wide, [0x0], []⟩]
def rowsTWN : List RegRow := rowsTWN0 ++ rowsTWN1 ++ rowsTWN2

/-- Register rows of block HSK, part 0. -/
def rowsHSK0 : List RegRow := [
  ⟨0x100000, 0x4, 1, 0x4, 1, .ro, [0x1], []⟩,
  ⟨0x100004, 0x4, 1, 0x4, 1, .rw, [0x1], [⟨0, 1, 0, 1⟩, ⟨1, 1, 0, 1⟩]⟩,
  ⟨0x100008, 0x4, 1, 0x4, 1, .sqc, [0x0], []⟩,
  ⟨0x10000c, 0x4, 1, 0x4, 1, .rw, [0x0], [⟨0, 24, 0, 16777215⟩]⟩,
  ⟨0x100010, 0x4, 1, 0x4, 1, .ro, [0x4], []⟩,
  ⟨0x100014, 0x4, 1, 0x4, 1, .rw, [0x3e8], [⟨0, 14, 100, 10000⟩]⟩,
  ⟨0x100018, 0x4, 1, 0x4, 1, .ro, [0x0], []⟩,
  ⟨0x10001c, 0x4, 1, 0x4, 1, .ro, [0x0], []⟩,
  ⟨0x100020, 0x4, 1, 0x4, 1, .ro, [0x0], []⟩,
  ⟨0x100024, 0x4, 1, 0x4, 1, .ro, [0x0], []⟩,
  ⟨0x100028, 0x4, 1, 0x4, 1, .ro, [0x0], []⟩,
  ⟨0x10002c, 0x4, 1, 0x4, 1, .ro, [0x0], []⟩,
  ⟨0x100030, 0x4, 1, 0x4, 1, .rw, [0x0], [⟨0, 16, 0, 65535⟩, ⟨16, 1, 0, 1⟩]⟩,
  ⟨0x100040, 0x4, 1, 0x4, 1, .rw, [0x0], [⟨0, 8, 3, 6⟩]⟩,
  ⟨0x100044, 0x4, 7, 0x4, 1, .rw, [0x0], [⟨0, 32, 0, 4294967295⟩]⟩,
  ⟨0x100060, 0x4, 1, 0x4, 1, .w1p, [0x0], []⟩,
  ⟨0x100064, 0x4, 1, 0x4, 1, .ro, [0x0], []⟩,
  ⟨0x100070, 0x4, 1, 0x4, 1, .rw, [0x0], [⟨0, 14, 0, 16383⟩]⟩,
  ⟨0x100074, 0x4, 1, 0x4, 1, .rw, [0x0], [⟨0, 32, 0, 4294967295⟩]⟩,
  ⟨0x100078, 0x4, 1, 0x4, 1, .rw, [0x0], [⟨0, 16, 0, 65535⟩]⟩,
  ⟨0x10007c, 0x4, 1, 0x4, 1, .w1p, [0x0], []⟩,
  ⟨0x100080, 0x4, 1, 0x4, 1, .rw, [0x0], [⟨0, 4, 0, 15⟩]⟩,
  ⟨0x100084, 0x4, 1, 0x4, 1, .ro, [0x0], []⟩,
  ⟨0x100090, 0x4, 1, 0x4, 1, .rw, [0x0], [⟨0, 32, 0, 4294967295⟩]⟩]
/-- Register rows of block HSK, part 1. -/
def rowsHSK1 : List RegRow := [
  ⟨0x100094, 0x4, 1, 0x4, 1, .rw, [0x0], [⟨0, 16, 0, 65535⟩]⟩,
  ⟨0x100098, 0x4, 1, 0x4, 1, .rw, [0x0], [⟨0, 32, 0, 4294967295⟩]⟩,
  ⟨0x10009c, 0x4, 1, 0x4, 1, .rw, [0x0], [⟨0, 16, 0, 65535⟩]⟩,
  ⟨0x1000a0, 0x4, 1, 0x4, 1, .rw, [0x88b6], [⟨0, 16, 0, 65535⟩]⟩,
  ⟨0x100100, 0x4, 1, 0x4, 1, .wide, [0x0], []⟩,
  ⟨0x100108, 0x4, 1, 0x4, 1, .wide, [0x0], []⟩,
  ⟨0x100110, 0x4, 1, 0x4, 1, .wide, [0x0], []⟩,
  ⟨0x100118, 0x4, 1, 0x4, 1, .wide, [0x0], []⟩,
  ⟨0x100120, 0x4, 1, 0x4, 1, .wide, [0x0], []⟩,
  ⟨0x100128, 0x4, 1, 0x4, 1, .wide, [0x0], []⟩,
  ⟨0x100130, 0x4, 1, 0x4, 1, .wide, [0x0], []⟩,
  ⟨0x100138, 0x4, 1, 0x4, 1, .wide, [0x0], []⟩,
  ⟨0x100140, 0x4, 1, 0x4, 1, .wide, [0x0], []⟩,
  ⟨0x100148, 0x4, 1, 0x4, 1, .wide, [0x0], []⟩]
def rowsHSK : List RegRow := rowsHSK0 ++ rowsHSK1

/-- Register rows of block POD, part 0. -/
def rowsPOD0 : List RegRow := [
  ⟨0x200000, 0x40000, 4, 0x4, 1, .ro, [0x100, 0x101, 0x102, 0x103], []⟩,
  ⟨0x200004, 0x40000, 4, 0x4, 1, .rw, [0x2], [⟨0, 1, 0, 1⟩, ⟨1, 1, 0, 1⟩]⟩,
  ⟨0x200008, 0x40000, 4, 0x4, 1, .sqc, [0x0], []⟩,
  ⟨0x20000c, 0x40000, 4, 0x4, 1, .rw, [0x0], [⟨0, 24, 0, 16777215⟩]⟩,
  ⟨0x200010, 0x40000, 4, 0x4, 1, .w1p, [0x0], []⟩,
  ⟨0x200014, 0x40000, 4, 0x4, 1, .ro, [0x0], []⟩,
  ⟨0x200020, 0x40000, 4, 0x4, 1, .rw, [0x218], [⟨0, 8, 0, 255⟩, ⟨8, 4, 0, 15⟩, ⟨12, 1, 0, 1⟩, ⟨13, 1, 0, 1⟩]⟩,
  ⟨0x200024, 0x40000, 4, 0x4, 1, .rw, [0x200], [⟨0, 10, 0, 1023⟩]⟩,
  ⟨0x200028, 0x40000, 4, 0x4, 1, .ro, [0x0], []⟩,
  ⟨0x200030, 0x40000, 4, 0x4, 1, .rw, [0x820], [⟨0, 8, 0, 255⟩, ⟨8, 4, 0, 15⟩]⟩,
  ⟨0x200034, 0x40000, 4, 0x4, 1, .ro, [0x0], []⟩,
  ⟨0x200040, 0x40000, 4, 0x4, 1, .rw, [0xa01], [⟨0, 2, 0, 1⟩, ⟨4, 10, 10, 200⟩]⟩,
  ⟨0x200044, 0x40000, 4, 0x4, 1, .rw, [0x15b], [⟨0, 16, 0, 65535⟩]⟩,
  ⟨0x200048, 0x40000, 4, 0x4, 1, .rw, [0x0], [⟨0, 16, -2000, 2000⟩]⟩,
  ⟨0x20004c, 0x40000, 4, 0x4, 1, .ro, [0x0], []⟩,
  ⟨0x200050, 0x40000, 4, 0x4, 1, .rw, [0x20400c80], [⟨0, 8, 0, 255⟩, ⟨8, 5, 6, 24⟩, ⟨16, 8, 0, 255⟩, ⟨24, 8, 0, 255⟩]⟩,
  ⟨0x200054, 0x40000, 4, 0x4, 1, .rw, [0x20], [⟨0, 7, 0, 127⟩]⟩,
  ⟨0x200058, 0x40000, 4, 0x4, 1, .ro, [0x0], []⟩,
  ⟨0x20005c, 0x40000, 4, 0x4, 1, .ro, [0x0], []⟩,
  ⟨0x200060, 0x40000, 4, 0x4, 1, .rw, [0x7], [⟨0, 1, 0, 1⟩, ⟨1, 1, 0, 1⟩, ⟨2, 1, 0, 1⟩]⟩,
  ⟨0x200064, 0x40000, 4, 0x4, 1, .ro, [0x0], []⟩,
  ⟨0x200070, 0x40000, 4, 0x4, 1, .rw, [0x10c10], [⟨0, 5, 1, 16⟩, ⟨8, 5, 8, 16⟩, ⟨16, 1, 0, 1⟩]⟩,
  ⟨0x200074, 0x40000, 4, 0x4, 1, .ro, [0x410], []⟩,
  ⟨0x200080, 0x40000, 4, 0x4, 15, .ro, [0x0], []⟩]
/-- Register rows of block POD, part 1. -/
def rowsPOD1 : List RegRow := [
  ⟨0x2000c0, 0x40000, 4, 0x4, 2, .ro, [0x0], []⟩,
  ⟨0x2000d0, 0x40000, 4, 0x4, 1, .rw, [0x6404], [⟨0, 8, 0, 255⟩, ⟨8, 16, 1, 65535⟩]⟩,
  ⟨0x2000e0, 0x40000, 4, 0x4, 4, .ro, [0x0], []⟩,
  ⟨0x200100, 0x40000, 4, 0x4, 1, .wide, [0x0], []⟩,
  ⟨0x200108, 0x40000, 4, 0x4, 1, .wide, [0x0], []⟩,
  ⟨0x200110, 0x40000, 4, 0x4, 1, .wide, [0x0], []⟩,
  ⟨0x200118, 0x40000, 4, 0x4, 1, .wide, [0x0], []⟩,
  ⟨0x200120, 0x40000, 4, 0x4, 1, .wide, [0x0], []⟩,
  ⟨0x200128, 0x40000, 4, 0x4, 1, .wide, [0x0], []⟩,
  ⟨0x200130, 0x40000, 4, 0x4, 1, .wide, [0x0], []⟩,
  ⟨0x200138, 0x40000, 4, 0x4, 1, .wide, [0x0], []⟩,
  ⟨0x200140, 0x40000, 4, 0x4, 1, .wide, [0x0], []⟩,
  ⟨0x200148, 0x40000, 4, 0x4, 1, .wide, [0x0], []⟩,
  ⟨0x200150, 0x40000, 4, 0x4, 1, .wide, [0x0], []⟩,
  ⟨0x200158, 0x40000, 4, 0x4, 1, .wide, [0x0], []⟩,
  ⟨0x200160, 0x40000, 4, 0x4, 1, .wide, [0x0], []⟩,
  ⟨0x200168, 0x40000, 4, 0x4, 1, .wide, [0x0], []⟩,
  ⟨0x200170, 0x40000, 4, 0x4, 1, .wide, [0x0], []⟩,
  ⟨0x200178, 0x40000, 4, 0x4, 1, .wide, [0x0], []⟩,
  ⟨0x200180, 0x40000, 4, 0x4, 1, .wide, [0x0], []⟩,
  ⟨0x200188, 0x40000, 4, 0x4, 1, .wide, [0x0], []⟩,
  ⟨0x200200, 0x40000, 4, 0x4, 1, .rw, [0x0], [⟨0, 3, 0, 7⟩, ⟨8, 2, 0, 3⟩]⟩,
  ⟨0x200204, 0x40000, 4, 0x4, 1, .rw, [0x0], [⟨0, 9, 0, 511⟩]⟩,
  ⟨0x200208, 0x40000, 4, 0x4, 1, .rw, [0x0], [⟨0, 32, 0, 4294967295⟩]⟩]
/-- Register rows of block POD, part 2. -/
def rowsPOD2 : List RegRow := [
  ⟨0x20020c, 0x40000, 4, 0x4, 1, .w1p, [0x0], []⟩,
  ⟨0x200210, 0x40000, 4, 0x4, 1, .rw, [0x0], [⟨0, 16, 0, 65535⟩]⟩,
  ⟨0x200214, 0x40000, 4, 0x4, 1, .ro, [0x81f07000], []⟩,
  ⟨0x200300, 0x40000, 4, 0x4, 1, .rw, [0x0], [⟨0, 12, 0, 4095⟩, ⟨12, 2, 0, 3⟩]⟩,
  ⟨0x200304, 0x40000, 4, 0x4, 1, .ro, [0x0], []⟩,
  ⟨0x200308, 0x40000, 4, 0x4, 1, .rw, [0x0], [⟨0, 1, 0, 1⟩]⟩,
  ⟨0x210000, 0x40000, 4, 0x4, 1, .rw, [0x0], [⟨1, 1, 0, 1⟩]⟩,
  ⟨0x210004, 0x40000, 4, 0x4, 1, .sqc, [0x0], []⟩,
  ⟨0x210008, 0x40000, 4, 0x4, 1, .rw, [0x0], [⟨0, 24, 0, 16777215⟩]⟩,
  ⟨0x210010, 0x40000, 4, 0x4, 1, .rw, [0x300], [⟨0, 10, 0, 1023⟩, ⟨16, 10, 0, 1023⟩]⟩,
  ⟨0x210014, 0x40000, 4, 0x4, 1, .rw, [0x1010], [⟨0, 6, 0, 40⟩, ⟨8, 6, 0, 40⟩]⟩,
  ⟨0x210018, 0x40000, 4, 0x4, 1, .rw, [0x80], [⟨0, 8, 0, 255⟩]⟩,
  ⟨0x21001c, 0x40000, 4, 0x4, 1, .ro, [0x0], []⟩,
  ⟨0x210020, 0x40000, 4, 0x4, 1, .ro, [0x0], []⟩,
  ⟨0x210040, 0x40000, 4, 0x4, 4, .rw, [0x25150a02, 0x80674f39, 0xdac6b098, 0xfffdf5ea], [⟨0, 32, 0, 4294967295⟩]⟩,
  ⟨0x210050, 0x40000, 4, 0x4, 4, .rw, [0xdaeaf5fd, 0x8098b0c6, 0x25394f67, 0x20a15], [⟨0, 32, 0, 4294967295⟩]⟩,
  ⟨0x210080, 0x40000, 4, 0x4, 1, .rw, [0x0], [⟨0, 3, 0, 7⟩, ⟨8, 2, 0, 3⟩]⟩,
  ⟨0x210084, 0x40000, 4, 0x4, 1, .rw, [0x0], [⟨0, 9, 0, 511⟩]⟩,
  ⟨0x210088, 0x40000, 4, 0x4, 1, .rw, [0x0], [⟨0, 32, 0, 4294967295⟩]⟩,
  ⟨0x21008c, 0x40000, 4, 0x4, 1, .w1p, [0x0], []⟩,
  ⟨0x210090, 0x40000, 4, 0x4, 1, .rw, [0x0], [⟨0, 16, 0, 65535⟩]⟩,
  ⟨0x210094, 0x40000, 4, 0x4, 1, .ro, [0x80007000], []⟩,
  ⟨0x210100, 0x40000, 4, 0x4, 1, .wide, [0x0], []⟩,
  ⟨0x210108, 0x40000, 4, 0x4, 1, .wide, [0x0], []⟩]
/-- Register rows of block POD, part 3. -/
def rowsPOD3 : List RegRow := [
  ⟨0x210110, 0x40000, 4, 0x4, 1, .wide, [0x0], []⟩,
  ⟨0x210118, 0x40000, 4, 0x4, 1, .wide, [0x0], []⟩,
  ⟨0x210120, 0x40000, 4, 0x4, 1, .wide, [0x0], []⟩,
  ⟨0x210128, 0x40000, 4, 0x4, 1, .wide, [0x0], []⟩]
def rowsPOD : List RegRow := rowsPOD0 ++ rowsPOD1 ++ rowsPOD2 ++ rowsPOD3

/-- The rows of block `b`, numbered as Table REG-1 numbers the blocks. -/
def rowsOf (b : Nat) : List RegRow :=
  match b with
  | 0 => rowsDEV
  | 1 => rowsBOOT
  | 2 => rowsCLK
  | 3 => rowsPWR
  | 4 => rowsFLT
  | 5 => rowsNTM
  | 6 => rowsACT
  | 7 => rowsDSF
  | 8 => rowsUSQ
  | 9 => rowsUBT
  | 10 => rowsLSC
  | 11 => rowsHPE
  | 12 => rowsCLS
  | 13 => rowsHRD
  | 14 => rowsARB
  | 15 => rowsTWN
  | 16 => rowsHSK
  | _ => rowsPOD

/-- The block whose span holds an address (R649, Table REG-1). -/
def blockOf (a : Nat) : Option Nat :=
  if a < 0x110000 then some (a / 0x10000)
  else if 0x200000 ≤ a ∧ a < 0x300000 then some (17 + (a - 0x200000) / 0x40000)
  else none

/-- The position of `a` in a row, counted over both of the row's dimensions. -/
def RegRow.index (r : RegRow) (a : Nat) : Option Nat :=
  if a < r.addr then none else
  let o := a - r.addr
  let i := if r.count = 1 then 0 else min (o / r.stride) (r.count - 1)
  let o2 := o - i * r.stride

  let j := if r.count2 = 1 then 0 else o2 / r.stride2
  let rest := o2 - j * r.stride2
  let fits := rest = 0 ∨ (r.access = .wide ∧ rest = 4)
  if fits ∧ i < r.count ∧ j < r.count2 then some (i * r.count2 + j) else none

/-- The row and the index of the register at `a` (bits [1:0] of the address ignored, R648). -/
def regRow (a : Nat) : Option (RegRow × Nat) :=
  match blockOf a with
  | none => none
  | some b => (rowsOf b).findSome? (fun r => (r.index (a / 4 * 4)).map (fun i => (r, i)))

/-- The reset value of register index `i` of a row. -/
def RegRow.resetAt (r : RegRow) (i : Nat) : Word :=
  BitVec.ofNat 32 (if r.reset.length = r.count * r.count2 then r.reset.getD i 0
    else if r.reset.length = r.count2 then r.reset.getD (i % r.count2) 0 else r.reset.getD 0 0)

/-- What a register holds right after reset: the spec's value, 0 where no register is. -/
def resetWord (a : Nat) : Word :=
  if a = Reg.DEV_INT_BLK_EN then 0x1FFFFF else
  match regRow a with
  | none => 0
  | some (r, i) => r.resetAt i

/-- The sum of 2^i over the bits of a field's value placed at its bits (R657). -/
def Fld.mask (f : Fld) : Word := BitVec.ofNat 32 ((2 ^ f.width - 1) * 2 ^ f.lo)

/-- The field's value in a word, sign-extended where the field's least value is negative. -/
def Fld.value (f : Fld) (w : Word) : Int :=
  let raw : Nat := w.toNat / 2 ^ f.lo % 2 ^ f.width
  if f.least < 0 ∧ 2 ^ (f.width - 1) ≤ raw then (raw : Int) - 2 ^ f.width else raw

/-- R657: the word a register holds after a write: each field takes its new value unless that value is outside
the field's stated range; bits of no field are unchanged. -/
def mergeFields (flds : List Fld) (old new : Word) : Word :=
  flds.foldl (fun w f =>
    let v := f.value new
    if f.least ≤ v ∧ v ≤ f.most then (w &&& ~~~ f.mask) ||| (new &&& f.mask) else w) old

end Sys2Proof.Machine
end

