-- ==== Sys2Proof/Machine/Tab.lean ====
section
/-! DEFINITION. Reading and writing the sparse tables, in the one canonical form: keys strictly rising and no entry
equal to the default, so that equal tables are equal data. -/

namespace Sys2Proof.Tab

variable {α : Type}

/-- The entry listed under a key. -/
def find? (t : Tab α) (k : Nat) : Option α :=
  match t with
  | [] => none
  | (j, v) :: r => if j = k then some v else find? r k

/-- The entry under a key, `d` where none is listed. -/
def get (d : α) (t : Tab α) (k : Nat) : α := (find? t k).getD d

/-- List `v` under `k`, keeping the keys rising. -/
def insert (t : Tab α) (k : Nat) (v : α) : Tab α :=
  match t with
  | [] => [(k, v)]
  | (j, w) :: r =>
    if k < j then (k, v) :: (j, w) :: r
    else if k = j then (k, v) :: r
    else (j, w) :: insert r k v

/-- Take the entry under `k` away. -/
def erase (t : Tab α) (k : Nat) : Tab α :=
  match t with
  | [] => []
  | (j, w) :: r => if j = k then erase r k else (j, w) :: erase r k

/-- Write `v` under `k`; the default is not listed. -/
def set [DecidableEq α] (d : α) (t : Tab α) (k : Nat) (v : α) : Tab α :=
  if v = d then erase t k else insert t k v

/-- Change the entry under `k` by a function. -/
def modify [DecidableEq α] (d : α) (t : Tab α) (k : Nat) (f : α → α) : Tab α := set d t k (f (get d t k))

/-- The keys strictly rise from `lo`. -/
def rising (lo : Nat) (t : Tab α) : Bool :=
  match t with
  | [] => true
  | (j, _) :: r => lo ≤ j && rising (j + 1) r

/-- The canonical form: keys strictly rising, and no entry that its key's default `d` already gives. -/
def wf [DecidableEq α] (d : Nat → α) (t : Tab α) : Bool :=
  rising 0 t && t.all (fun e => decide (e.2 ≠ d e.1))

end Sys2Proof.Tab
end

