-- ==== Sys2Proof/Machine/State.lean ====
section
/-! DEFINITION. The state of the block as plain data, and the state after reset. Register words that software writes
and reads back are in `regs` and `wide`; what a register only shows is held once, in the structure of its chapter. -/

namespace Sys2Proof.Machine

/-- Why the block stops. No meaning raises one: every command of the table has an effect that the spec gives.
`unreachable` is the name a step would stop under; nothing raises it, so it is safe. -/
inductive Fault where
  | unreachable
  deriving DecidableEq, Repr

/-- Why a command has no meaning. -/
inductive Refusal where
  /-- Raised by an arm of `exec` whose command is not modelled; safe: the block stops there. -/
  | notModelled (mnemonic : String)
  deriving DecidableEq, Repr

/-! ## Chapter 18: access -/

/-- A block's guard while armed (R662): the initiator recorded, and the tick count at arming. -/
structure Guard where
  ini : Nat
  armedAt : Nat
  deriving DecidableEq, Repr

/-- The host management SPI (R651 to R654). READY is `boot.step > 3`. -/
structure Spi where
  /-- posted writes not complete, oldest first, at most 64: address and word -/
  queue : List (Nat × Word)
  err : Bool
  deriving DecidableEq, Repr

/-! ## Chapter 17: clocks -/

/-- Root sources (Table CLK-1), in code order. -/
inductive RootSource where
  | ref | ds | hold | href
  deriving DecidableEq, Repr

/-- A crossing's state (Table CLK-8). -/
structure Crossing where
  ovrFlag : Bool
  resyncing : Bool
  overrun : Wide
  flush : Wide
  resync : Word
  deriving DecidableEq, Repr

structure Clk where
  source : RootSource
  /-- the root channel in use (R628), none while no channel is -/
  rootCh : Option Nat
  /-- channels that have met R629 for 10 ms and not failed since -/
  qualified : BitVec 4
  dsLock : Bool
  dsUsed : Bool
  /-- w (R625) -/
  word : Word
  /-- the frozen word (R631) -/
  holdWord : Option Word
  phaseErr : Int
  /-- clock monitors of R633 that see a good clock -/
  good : BitVec 4
  /-- the measurement of CLK_FREQ running -/
  freqBusy : Bool
  /-- CLK_TEST.FORCE_REF -/
  forceRef : Bool
  crossings : Tab Crossing
  deriving DecidableEq, Repr

/-! ## Chapter 16: faults -/

/-- One entry of the rule table (Table FLT-8): words 0 to 3, its totals, its own counter and window start. -/
structure FltRule where
  w0 : Word
  w1 : Word
  w2 : Word
  w3 : Word
  hits : Wide
  severes : Wide
  count : Nat
  windowAt : Nat
  deriving DecidableEq, Repr

/-- One tracker entry (R607). -/
structure Tracked where
  rule : Nat
  source : BitVec 18
  count : Nat
  windowAt : Nat
  lastAt : Nat
  deriving DecidableEq, Repr

/-- The fault record while valid (R615 to R617). -/
structure FltRecord where
  msg : FaultMsg
  ns32 : Word
  pp : BitVec 8
  rule : Nat
  react : Nat
  severe : Bool
  maxReact : Nat
  condPresent : Bool
  secondary : Option (BitVec 18 × BitVec 8)
  secCount : Nat
  overflow : Bool
  deriving DecidableEq, Repr

/-- A region in reset and the crossings whose handshake it waits for (R31, R643). -/
structure RegionReset where
  source : BitVec 18
  crossings : List Nat
  deriving DecidableEq, Repr

structure Flt where
  rules : Tab FltRule
  tracker : List Tracked
  record : Option FltRecord
  recSeq : BitVec 8
  /-- condition list (R618): entry number and the SOURCE and KIND it names -/
  conds : Tab (Option (BitVec 18 × BitVec 8))
  /-- messages no collector has accepted, in the order raised; the first of each source is the one offered (R604) -/
  offered : List FaultMsg
  /-- Pods offline by R611 -/
  podOffline : BitVec 4
  /-- Pods whose automatic restart is running (AUTO_MS) -/
  autoRunning : BitVec 4
  /-- SAFE_SILENCE in force, and the SOURCE that caused it -/
  safe : Option (BitVec 18)
  isoCls : BitVec 8
  isoUsq : BitVec 128
  /-- regions in reset -/
  resetting : List RegionReset
  /-- tick counts of the severe events of the last 3,600 s, oldest first -/
  severeAt : List Nat
  /-- tick counts of the reactions "Pod offline" or heavier of the last 3,600 s -/
  heavyAt : List Nat
  deriving DecidableEq, Repr

/-! ## Chapter 14: start-up -/

/-- A programmable fuse field (Table BOOT-8). -/
structure Fuse where
  value : Nat
  programmed : Bool
  bad : Bool
  deriving DecidableEq, Repr

/-- Controller status codes of BOOT_MCUn_STATUS. -/
inductive McuState where
  | absent | running | restarting | halted
  deriving DecidableEq, Repr

/-- A management controller as the block sees it: its code, its recorded CRC and its status (R562, R570). -/
structure Mcu where
  state : McuState
  entry : Word
  load : Word
  code : List Byte
  crc : Word
  /-- the instruction SRAM no longer holds what was loaded (R592, banks 6 to 9) -/
  corrupt : Bool
  restarts : BitVec 16
  bad : Bool
  deriving DecidableEq, Repr

/-- One schedule entry (Table BOOT-7). -/
structure SchedEntry where
  slot : Nat
  periodic : Bool
  mask : BitVec 16
  leadMs : Nat
  /-- absolute: TIME in pips since the epoch; periodic: the period in seconds -/
  time : Nat
  deriving DecidableEq, Repr

/-- A pass-through NVM command in progress (R569): its operation, address and length. -/
structure NvmOp where
  op : Nat
  addr : Nat
  len : Nat
  deriving DecidableEq, Repr

structure Boot where
  step : Nat
  slot : Bool
  halted : Bool
  failCode : Nat
  fallback : Bool
  /-- tick count at reset release -/
  releasedAt : Nat
  /-- BOOT_T_LOCK and BOOT_T_OPER once taken -/
  lockedAt : Option Word
  operAt : Option Word
  fuses : Tab Fuse
  /-- a fuse programming in progress: field and value -/
  fuseBusy : Option (Nat × Nat)
  fuseResult : Nat
  /-- the unit's serial number, low word (DEV_UNIT, ACT_SERIAL_LO) -/
  unit : Word
  /-- the registration key K_reg (R209), 32 bytes in fuses -/
  kreg : List Byte
  /-- main NVM, 32 MiB; an unlisted byte reads 0xFF (erased) -/
  nvm : Tab Byte
  nvmBusy : Option NvmOp
  /-- ENABLES of the image applied -/
  enables : Word
  mcus : Tab Mcu
  schedule : List SchedEntry
  /-- Sprout's writes are in progress (requester 10 stands for Sprout, R560) -/
  sprout : Bool
  deriving DecidableEq, Repr

/-- A hardware semaphore: its owner (15 free) and ABANDONED (R573 to R575). -/
structure Sem where
  owner : Nat
  abandoned : Bool
  deriving DecidableEq, Repr

/-! ## Chapter 15: power -/

/-- Modes of Table PWR-2, in code order. -/
inductive Mode where
  | active | doze | cyclic | deep | warm
  deriving DecidableEq, Repr

/-- PWR_MODE.PHASE. -/
inductive Phase where
  | steady | entering | waking | listen | sleepPeriod
  deriving DecidableEq, Repr

/-- One entry of the refusal log (R585). -/
structure RefusalLog where
  mode : Nat
  code : Nat
  abort : Bool
  ns32 : Word
  pp : BitVec 8
  deriving DecidableEq, Repr

/-- PWR_LAST_WAKE and its time. -/
structure LastWake where
  source : Nat
  seen : BitVec 10
  ns32 : Word
  pp : BitVec 8
  deriving DecidableEq, Repr

structure Pwr where
  mode : Mode
  phase : Phase
  /-- the mode an entry in progress goes to, or a wake in progress came from -/
  target : Mode
  keptPod : Nat
  /-- REQ_PENDING, with the mode asked for (R584) and the tick count of the refusal -/
  reqPending : Option (Mode × Nat)
  /-- the acknowledgement of a WAKE, queued on arrival in Active -/
  wakeAck : Option (Nat × Byte)
  /-- SLEEP_MS and LISTEN_MS of the cycle in force (R593, R595) -/
  periods : Nat × Nat
  /-- a request held while a sequence runs (R583) -/
  held : Option Nat
  /-- domains on, bits of Table PWR-1 -/
  on : BitVec 15
  failed : BitVec 15
  /-- domains being switched on -/
  switching : BitVec 15
  /-- retries of the switch-on in progress, per domain -/
  retries : Tab Nat
  /-- domains in their full domain reset (R589) -/
  fullReset : BitVec 15
  log : List RefusalLog
  lastWake : Option LastWake
  lostBanks : BitVec 15
  /-- stored signatures of the retained banks (R591) -/
  sigs : Tab Word
  /-- Pods whose transmit bias is on (R580) -/
  bias : BitVec 4
  /-- pseudo-channels in self-refresh (R581) -/
  selfRefresh : BitVec 64
  /-- WAKE_FAIL pin (R589) -/
  wakeFail : Bool
  deriving DecidableEq, Repr

/-! ## Chapter 19: supplies, sensors and test access -/

/-- TAP instructions of Table ELP-11. -/
inductive TapInstr where
  | extest | samplePreload | idcode | clamp | highz | extestPulse | extestTrain | bypass
  deriving DecidableEq, Repr

structure Pads where
  /-- rails of Table ELP-1 that are good, in the order of the log entry on monitor numbers -/
  railGood : BitVec 22
  /-- RESET_N taken as asserted -/
  inReset : Bool
  /-- dies whose TEMP condition is present -/
  tempAlarm : BitVec 8
  /-- trips of R308 latched, which hold PODn_AMP_KILL_N low (R309) -/
  tripped : BitVec 4
  /-- none while TRST_N holds the TAP in reset -/
  tap : Option TapInstr
  deriving DecidableEq, Repr

/-! ## Chapter 8: network time -/

/-- Time states, in the order of their codes (R324). -/
inductive TimeState where
  | unset | acquire | locked | holdover | manual
  deriving DecidableEq, Repr

/-- One latched mark (R321). `tick` is the tick count at the mark. -/
structure Latch where
  ch : Nat
  mfLow : BitVec 16
  mark : Nat
  tick : Nat
  dDown : Int
  deriving DecidableEq, Repr

/-- A TIME_OF_DAY that is held (R322): SF_COUNT, LAUNCH in pips since the epoch, TRACEABLE. -/
structure Tod where
  sf : Nat
  launch : Nat
  traceable : Bool
  /-- tick count at which it was held -/
  tick : Nat
  deriving DecidableEq, Repr

/-- One trigger output. START, PERIOD, WIDTH and COUNT as taken at the arm (R340); `next` is the index k of the next edge. -/
structure Trig where
  armed : Bool
  done : Bool
  late : Bool
  start : Nat
  period : Nat
  widthNs : Nat
  count : Nat
  next : Nat
  produced : Nat
  periodic : Bool
  deriving DecidableEq, Repr

/-- One capture entry. -/
structure CapEntry where
  time : Nat
  rising : Bool
  stepBefore : Bool
  deriving DecidableEq, Repr

/-- One capture input (R344, R345). -/
structure Cap where
  store : List CapEntry
  hold : CapEntry
  holdValid : Bool
  lastEdge : Option Nat
  stepPending : Bool
  deriving DecidableEq, Repr

/-- One timed-commit slot (R346 to R350); `status` is 0 idle, 1 armed, 2 fired, 3 refused. -/
structure Slot where
  status : Nat
  time : Nat
  mask : BitVec 16
  late : Bool
  holdover : Bool
  podDefer : Bool
  empty : BitVec 7
  firedNs : Word
  firedPp : BitVec 8
  deriving DecidableEq, Repr

structure Ntm where
  /-- network time in pips since the PTP epoch (R313) -/
  time : Nat
  /-- fraction of a pip, in 2^-32 pp -/
  frac : Nat
  rate : Int
  rateI : Int
  state : TimeState
  everSet : Bool
  lockCount : Nat
  hrefInUse : Bool
  traceable : Bool
  forced : Bool
  /-- whole seconds of the last holdover that ended, and the tick count at which the last one began -/
  holdElapsed : Nat
  holdAt : Nat
  specEnded : Bool
  tch : Option Nat
  lastErr : Int
  lastMf : BitVec 16
  lastTraceable : Bool
  lastSf : Option Nat
  /-- tick count at the mark of the last accepted measurement, none where n is absent (R323) -/
  prevTick : Option Nat
  /-- tick count since which NTM_TOD_TIMEOUT runs: the last accepted measurement or setting of the time -/
  acceptTick : Option Nat
  latches : List Latch
  heldTod : Option Tod
  hrefPresent : Bool
  hrefValid : Bool
  hrefLast : Option Nat
  intervals : List Nat
  hrefRate : Int
  trigs : Tab Trig
  caps : Tab Cap
  slots : Tab Slot
  /-- Delay_Resp sent per port in the second named first (R337) -/
  dresp : Tab (Nat × Nat)
  /-- sequenceId of the next Sync and the next Announce per port -/
  ptpSeq : Tab (BitVec 16 × BitVec 16)
  /-- the schedule of the image has been armed (R563) -/
  scheduled : Bool
  /-- Pods with a commit deferred by R43: downstream bits 0 to 3, upstream bits 4 to 7 -/
  deferred : BitVec 8
  deriving DecidableEq, Repr

/-! ## Chapter 11: the Hoard and the arbiters -/

/-- One pseudo-channel (Table HRD-5). -/
structure PseudoCh where
  corr : Wide
  uncor : Wide
  pos : Nat
  passes : Word
  scrubCorr : Word
  deriving DecidableEq, Repr

structure Hrd where
  usFree : Nat
  dsFree : Nat
  usDesc : Nat
  dsDesc : Nat
  pcs : Tab PseudoCh
  /-- cells to be retired when next free, and those retired, per stack: units as pc * 2^22 + unit -/
  failing : List Nat
  retired0 : List Nat
  retired1 : List Nat
  lostCells : Nat
  lastUncor : Option Word
  deriving DecidableEq, Repr

/-- One arbiter. A resource is 0 for arbiters 0 and 1, the pseudo-channel for arbiter 2. -/
structure ArbInst where
  hiThr : Nat
  window : Nat
  quota : Tab Nat
  used : Tab Nat
  /-- holder of each resource -/
  holder : Tab Nat
  /-- waiting requesters as resource * 16 + requester, in the order they came -/
  waiting : List Nat
  /-- last requester granted at a priority, by resource * 8 + priority -/
  last : Tab Nat
  freezeDone : Bool
  masked : BitVec 14
  /-- tick count at which the window began -/
  startAt : Nat
  deriving DecidableEq, Repr

structure Arb where
  i0 : ArbInst
  i1 : ArbInst
  i2 : ArbInst
  /-- a fabric grant that runs on (R448): its requester, and the tick count at which it ends -/
  extended : Option (Nat × Nat)
  deriving DecidableEq, Repr

/-! ## Chapter 3: Pods -/

/-- A block the Pod is decoding (R99 to R113, R127). -/
structure Block where
  /-- network time of its detection symbol's first sample -/
  start : Nat
  /-- its block mark (R116), and that DSF has taken it -/
  mark : Nat
  marked : Bool
  /-- its mark showed a grid slip (R150) -/
  slip : Bool
  /-- iteration limit in force at its start (R135) -/
  limit : Nat
  /-- power of the detection symbol, 0.25 dB -/
  power : Int
  tx : Bool
  /-- where a capture cut it (S_i), none while it was not captured -/
  cutAt : Option Nat
  /-- coded bits per symbol of its profile; 0 while the profile it names has no active definition -/
  cBits : Nat
  /-- its number in DSF's block count -/
  number : Nat
  /-- next codeword to deliver -/
  nextCw : Nat
  deriving DecidableEq, Repr

/-- A pending profile definition (R126, R148): words, named multiframe [15:0], and the due instant once it is known. -/
structure PendingProf where
  words : Tab Word
  mf : BitVec 16
  due : Option Nat
  deriving DecidableEq, Repr

/-- One profile index: active, pending and staging copies. -/
structure Prof where
  active : Option (Tab Word)
  pending : Option PendingProf
  staging : Tab Word
  deriving DecidableEq, Repr

structure Pod where
  calBusy : Bool
  calPass : Bool
  /-- Sprout waits for this calibration (step 8) -/
  calSprout : Bool
  /-- a Pod restart (R611) in progress -/
  restarting : Bool
  /-- blocks being decoded, oldest first -/
  decoding : List Block
  /-- the current block (from its freeze to its release) -/
  current : Option Block
  /-- predicted start of the next block; none while no grid is held -/
  predicted : Option Nat
  /-- gain loop released to acquire -/
  acquiring : Bool
  /-- consecutive block periods without a detection, up to 64 -/
  missRun : Nat
  /-- gain-control DAC output (R91) -/
  dacOut : BitVec 10
  /-- dispersion value (ps/nm) and source that take effect in the next release window -/
  cdcNext : Option (Int × Nat)
  /-- the scan of R95 is running -/
  scanning : Bool
  losInd : Bool
  /-- counter value the free words of the last complete block's channel estimate begin at, and the copy held -/
  eqSeed : Option Nat
  eqHeld : Option Nat
  rxProf : Tab Prof
  txProf : Tab Prof
  /-- intervals of loop tests that overlap blocks being decoded (R536) -/
  loops : List (Nat × Nat)
  /-- PODn_GATE_SENSE -/
  sense : Bool
  deriving DecidableEq, Repr

/-! ## Chapter 4: framing -/

inductive FaState where
  | hunt | presync | sync
  deriving DecidableEq, Repr

inductive MfState where
  | hunt | presync | sync
  deriving DecidableEq, Repr

/-- A frame-alignment candidate (R152): confirmations and the block number expected next. -/
structure Cand where
  count : Nat
  expect : Nat
  deriving DecidableEq, Repr

/-- A frame header as far as alignment uses it. -/
structure FrameHdr where
  frame : Nat
  mf : BitVec 16
  /-- block number of the frame's block 0 -/
  block : Nat
  /-- mark of block 0 -/
  mark : Nat
  /-- tick count when the mark was received -/
  tick : Nat
  dh : Bool
  tx : Bool
  deriving DecidableEq, Repr

/-- A DEG or FFR window (R158 to R160). -/
structure Window where
  start : Nat
  active : Bool
  /-- a masking defect overlapped it -/
  masked : Bool
  /-- corrected bits or KIND 2 codewords -/
  errors : Nat
  /-- codewords counted -/
  total : Nat
  /-- consecutive evaluated windows at or below the clear threshold -/
  clears : Nat
  deriving DecidableEq, Repr

/-- One performance bin (Table DSF-5). -/
structure Bin where
  start : Nat
  valid : Bool
  jump : Bool
  holdover : Bool
  unset : Bool
  partialBin : Bool
  final : Bool
  day : Bool
  corr : Wide
  uncor : Wide
  es : Word
  ses : Word
  uas : Word
  /-- defect seconds, in the order of Table DSF-3 -/
  defectS : Tab Word
  abandon : Word
  reorderDrop : Wide
  authFail : Wide
  deriving DecidableEq, Repr

/-- A classified second (Table DSF-4). -/
structure SecClass where
  sec : Nat
  es : Bool
  ses : Bool
  deriving DecidableEq, Repr

structure DsfCh where
  fa : FaState
  cands : List Cand
  misses : Nat
  mf : MfState
  mfCand : Option FrameHdr
  mfCount : Nat
  /-- blocks counted (R149), and the number of the last block 0 in SYNC -/
  blockCount : Nat
  block0 : Nat
  /-- number of the block whose sync check was made last -/
  checked : Option Nat
  /-- mark of block 0 of the frame in progress, and the tick count then -/
  block0Mark : Nat
  block0Tick : Nat
  lastMark : Option Nat
  /-- block periods without a mark, and consecutive marks -/
  noMark : Nat
  markRun : Nat
  /-- the header space of the frame has been processed -/
  hdrDone : Bool
  lastHdr : Option FrameHdr
  lastTx : Bool
  /-- profile vector in force, and the one received for the next frame -/
  pvec : Option (List Nat)
  pvecNext : Option (List Nat)
  /-- the rest of this block's Link data area is not parsed -/
  skipRest : Bool
  /-- defects declared: LOS LOB LOF LOMF DEG FFR LOK -/
  defects : BitVec 7
  deg : Window
  ffr : Window
  lok : Window
  /-- authentication failures of each Link in the LOK window -/
  lokFails : Tab Nat
  /-- the second in progress: codewords, those of KIND 2 or 3, defects seen -/
  secCw : Nat
  secBad : Nat
  secDefects : BitVec 7
  /-- run towards a change of availability (R166), newest first, and availability -/
  run : List SecClass
  unavailable : Bool
  cur15 : Bin
  cur24 : Bin
  hist15 : List Bin
  hist24 : List Bin
  /-- marks of frames with a valid header: frame identity and mark, newest first -/
  frameMarks : List (Nat × Nat)
  /-- skew measurements of the run in progress, newest first, and its last frame -/
  skewRun : List Int
  skewFrame : Nat
  skewReady : Bool
  skew : Int
  skewRange : Bool
  admitted : Bool
  /-- asleep by a power mode (R586) -/
  asleep : Bool
  deriving DecidableEq, Repr

/-- A Link segment (R60) as reorder holds it. -/
structure Segment where
  first : Bool
  last : Bool
  payload : List Byte
  /-- timestamp of R317 -/
  stamp : Nat
  deriving DecidableEq, Repr

/-- An entry of the skew store or of reorder: its channel, its sequence number, the segment (none: MISSING) and the time
it is released, or was. -/
structure Held where
  ch : Nat
  seq : BitVec 12
  seg : Option Segment
  time : Nat
  deriving DecidableEq, Repr

/-- A member-mask change held for each channel's frame 0 of multiframe `mf` (R182, R186). -/
structure MaskChange where
  mask : BitVec 4
  mf : BitVec 16
  /-- channels that have reached it -/
  reached : BitVec 4
  deriving DecidableEq, Repr

structure DsfLink where
  linkId : BitVec 16
  en : Bool
  mapped : Bool
  members : BitVec 4
  mask : BitVec 4
  change : Option MaskChange
  effective : BitVec 4
  window : Nat
  timeoutUs : Nat
  next : BitVec 12
  synced : Bool
  skewStore : List Held
  reorder : List Held
  /-- the open frame: its bytes so far, and its stamp while one is open -/
  openBytes : List Byte
  openStamp : Option Nat
  gapSkip : Wide
  forcedSkip : Wide
  lateDisc : Wide
  overflowDisc : Wide
  nonmember : Wide
  reasmDisc : Wide
  deriving DecidableEq, Repr

/-- Work on one Link: its context, the frames that closed (newest first), the reorder drops made, and whether bit 47 of a
per-Link counter became 1. -/
structure LinkRun where
  link : DsfLink
  closed : List (List Byte × Nat)
  drops : Nat
  half : Bool
  deriving DecidableEq, Repr

/-- A Link frame that reassembly passed to authentication. -/
structure LinkFrame where
  link : Nat
  bytes : List Byte
  stamp : Nat
  deriving DecidableEq, Repr

structure Dsf where
  chans : Tab DsfCh
  links : Tab DsfLink
  /-- reassembled Link frames waiting for authentication, oldest first -/
  frames : List LinkFrame
  skewRef : Option Nat
  /-- the network-time second in progress -/
  second : Nat
  /-- the read buffer of R170 -/
  snap : Option Bin
  snapDone : Bool
  deriving DecidableEq, Repr

/-! ## Chapter 5: activation -/

/-- Terminal states of Table ACT-1. -/
inductive TState where
  | t0 | t1 | t2 | t3 | t4 | t5 | t6 | t7
  deriving DecidableEq, Repr

/-- An upstream control message (R74) before it is framed: TYPE, SEQ and body. -/
structure UpMsg where
  type : Nat
  seq : Byte
  body : List Byte
  deriving DecidableEq, Repr

/-- A ranging request armed on a channel (R204). -/
structure ArmedReq where
  unranged : Bool
  seq : Byte
  /-- tick count at which it lapses -/
  until_ : Nat
  deriving DecidableEq, Repr

/-- A channel's delays. `rtdOld` governs grants of frames before `from_` (R207). -/
structure ActCh where
  rtd : Option Nat
  rtdOld : Option Nat
  from_ : Nat
  dDown : Int
  dUp : Int
  armed : Option ArmedReq
  provisional : Bool
  rangings : BitVec 16
  upEn : Bool
  guard : Nat
  deriving DecidableEq, Repr

/-- A CHANNEL_SET that is held (R220): the channels that have not reached its frame 0. -/
structure HeldSet where
  mf : BitVec 16
  /-- network time at which M begins, once it is known (R148) -/
  due : Option Nat
  upEn : BitVec 4
  guard : Nat
  entries : List (BitVec 16 × BitVec 4)
  carrier : Nat
  left : BitVec 4
  deriving DecidableEq, Repr

/-- The SILENCE latch (R224 to R226). -/
structure Silence where
  broadcast : Bool
  /-- tick count at expiry; none while indefinite -/
  until_ : Option Nat
  /-- the controllers, halted when it came, have still to move the state to T6 (R224) -/
  owed : Bool
  deriving DecidableEq, Repr

/-- A management request that waits: tunnelled, or in-band on a port (R229, R423). -/
structure MgmtReq where
  tag : Nat
  seq : Byte
  op : Nat
  fixed : Bool
  c : Nat
  addr : Nat
  data : List Word
  malformed : Bool
  /-- source address of an in-band request -/
  src : List Byte
  deriving DecidableEq, Repr

/-- The last reply of an initiator: TAG, SEQ (or source) and body (R232). -/
structure MgmtReply where
  tag : Nat
  seq : Byte
  src : List Byte
  body : List Byte
  deriving DecidableEq, Repr

structure Act where
  state : TState
  prior : TState
  anchor : Option Nat
  tid : Option (BitVec 10)
  /-- REG_NONCE in use -/
  nonce : Option (List Byte)
  chans : Tab ActCh
  /-- last SEQ acted on of the own stream and of the broadcast stream, with the answer to repeat (R76) -/
  own : Option (Byte × Option UpMsg)
  bcast : Option (Byte × Option UpMsg)
  uq : List UpMsg
  skip : Nat
  annCount : Nat
  silence : Option Silence
  /-- an UNSILENCE acknowledgement owed on leaving T6 (R227) -/
  unsilenceAck : Option UpMsg
  /-- tick counts at which ACT_TO_RANGE and ACT_TO_HELD expire -/
  toRange : Option Nat
  toHeld : Option Nat
  noCeilingSet : Bool
  held : Option HeldSet
  tunnel : List MgmtReq
  tunnelLast : Option MgmtReply
  /-- SLEEP_ALLOW recorded: MODE, SLEEP_MS, LISTEN_MS -/
  permit : Nat
  sleepMs : Nat
  listenMs : Nat
  deriving DecidableEq, Repr

/-! ## Chapter 9: link security -/

inductive SlotState where
  | empty | next | current | old
  deriving DecidableEq, Repr

structure KeySlot where
  state : SlotState
  key : List Byte
  salt : Word
  epoch : BitVec 15
  twin : Bool
  /-- upstream: next counter, up to 2^48; downstream: CTR of the last frame -/
  ctr : Nat
  nearEnd : Bool
  /-- mirrored next counter (R372) -/
  mirror : Nat
  deriving DecidableEq, Repr

/-- Why an upstream Link is held, in the order of HELD_CAUSE. -/
inductive HeldCause where
  | none | noKey | exhausted | erased | discarding
  deriving DecidableEq, Repr

/-- One Link and direction (Table LSC-7). -/
structure LinkKeys where
  a : KeySlot
  b : KeySlot
  shadow : Option (BitVec 15)
  shadowEpoch : BitVec 15
  /-- a scheduled switch: epoch and AT in pips -/
  sched : Option (BitVec 15 × Nat)
  held : HeldCause
  /-- tick count at which HOLD_MS expires -/
  holdUntil : Option Nat
  /-- tick count at which the OLD slot is cleared -/
  graceUntil : Option Nat
  frames : Wide
  fails : Wide
  heldDisc : Wide
  /-- twin state held for epochs no slot has: epoch and counter (R361) -/
  mirrors : List (BitVec 15 × Nat)
  deriving DecidableEq, Repr

structure Lsc where
  kek : Option (List Byte)
  /-- by 2 × local Link index + direction (0 downstream, 1 upstream) -/
  keys : Tab LinkKeys
  clearCause : Nat
  /-- a clear under R359 has left the upstream slots empty (R379) -/
  erased : Bool
  deriving DecidableEq, Repr

/-! ## Chapter 6: upstream and egress queues -/

/-- A frame in a queue. -/
structure QFrame where
  id : Nat
  /-- the Ethernet frame: upstream without its FCS, egress with it -/
  data : List Byte
  /-- queued length (R242) -/
  len : Nat
  /-- first byte of the frame in the queue's chain of cells -/
  start : Nat
  visible : Bool
  /-- network time at which it became visible -/
  seenAt : Nat
  /-- the protected form, once encrypted (R356) -/
  prot : List Byte
  /-- the Link it was encrypted for -/
  link : Nat
  /-- payload bytes decided: above 0 while the frame is open -/
  sent : Nat
  /-- network time at admission -/
  admitAt : Nat
  /-- 40-bit timestamp of R315 in pips -/
  stamp : Nat
  /-- twin position, count and check value at its end (R520) -/
  pos : Nat
  f : Nat
  acc : Word
  deriving DecidableEq, Repr

/-- A sampling record (R270). -/
structure LatRec where
  start : Nat
  step : Bool
  depthMin : Nat
  depthMax : Nat
  depthMean : Nat
  delayMin : Nat
  delayMax : Nat
  delayMean : Nat
  samples : Nat
  deriving DecidableEq, Repr

/-- A queue's samples of the period in progress in which it held a frame; every other sample was 0 and 0. -/
structure LatAcc where
  n : Nat
  depthMin : Nat
  depthMax : Nat
  depthSum : Nat
  delayMin : Nat
  delayMax : Nat
  delaySum : Nat
  deriving DecidableEq, Repr

structure Queue where
  /-- word 0 as written: LINK, ALLOC, CLASS, ENABLE -/
  link : Nat
  alloc : Nat
  cls : Nat
  enable : Bool
  weight : Nat
  rate : Nat
  burst : Nat
  maxDepth : Nat
  /-- binding in force -/
  linkF : Nat
  allocF : Nat
  bindPending : Bool
  frames : List QFrame
  inTurn : Bool
  bucket : Int
  deficit : Int
  /-- end of the chain of cells -/
  tail : Nat
  sh0 : Option Word
  sh2 : Option Word
  sh3 : Option Word
  enqFrames : Wide
  enqBytes : Wide
  sentFrames : Wide
  sentBytes : Wide
  fragments : Wide
  dropDepth : Wide
  dropHoard : Wide
  neverFits : Wide
  flushed : Wide
  dropDisabled : Wide
  lat : LatAcc
  last : LatAcc
  snap : Option LatRec
  /-- twin state (Table TWN-10) -/
  pos : Nat
  acc : Word
  f : Nat
  sentPos : Nat
  aligned : Bool
  srcS : Bool
  trim : Option Nat
  trimmed : Wide
  lastTrim : Option (Nat × Nat × Word)
  /-- comparisons that wait for F (R524): F, POS, ACC and the tick count of their end -/
  waits : List (Nat × Nat × Word × Nat)
  /-- tick count of the last admission -/
  admittedAt : Option Nat
  /-- admitted a frame since the last CHECK sent -/
  checkDue : Bool
  deriving DecidableEq, Repr

/-- Upstream words of a Link (Table USQ-7). -/
structure ULink where
  fragEn : Bool
  turn : Nat
  openQueue : Option Nat
  nextSeq : BitVec 12
  segments : Wide
  deriving DecidableEq, Repr

/-- An allocation (Table USQ-8). -/
structure Alloc where
  id : BitVec 16
  valid : Bool
  report : Bool
  hist : List Nat
  ptr : Nat
  lastCode : Nat
  grants : Wide
  neverFits : Wide
  deriving DecidableEq, Repr

inductive GrantKind where
  | announce
  /-- with a ranging reply, or with queued messages alone -/
  | ranging (reply : Bool)
  | alloc (a : Nat)
  deriving DecidableEq, Repr

/-- A grant the map decoder has accepted. -/
structure Grant where
  ch : Nat
  kind : GrantKind
  allocId : BitVec 16
  /-- the granted interval begins (network time at the head end) -/
  tg : Nat
  /-- launch instant L -/
  launch : Nat
  len : Nat
  prof : Nat
  cBits : Nat
  guard : Nat
  /-- the announcement or ranging reply it carries -/
  msg : Option UpMsg
  deriving DecidableEq, Repr

/-- A Link segment decided: its queue, its frame, the bytes charged, and its place in the segment area. -/
structure Place where
  queue : Nat
  frame : Nat
  charged : Nat
  off : Nat
  deriving DecidableEq, Repr

/-- A burst that has passed its first test. -/
structure Burst where
  g : Grant
  batch : Nat
  /-- segment-area capacity and bytes left -/
  cap : Nat
  space : Nat
  area : List Byte
  started : Bool
  finished : Bool
  ctrl : Bool
  msgs : List UpMsg
  passed : List Nat
  places : List Place
  /-- frames whose last segment it carries: queue and frame -/
  frames : List (Nat × Nat)
  reports : List (BitVec 16 × Nat)
  launched : Bool
  bseq : BitVec 16
  /-- the preceding burst ends where this one begins, and is open (R297) -/
  joined : Bool
  /-- programmed ramps in pips, as used -/
  rampUp : Nat
  rampDown : Nat
  deriving DecidableEq, Repr

structure Usq where
  queues : Tab Queue
  links : Tab ULink
  allocs : Tab Alloc
  nextId : Nat
  /-- frames that have left their queue and are not released (R433), with the queue -/
  flight : List (Nat × QFrame)
  /-- grants decoded whose T_D has not come -/
  grants : List Grant
  /-- microseconds of T_G of the batches begun that have not passed -/
  ran : List Nat
  /-- batch of the decision made last, and its place in the round -/
  cursor : Nat
  /-- sampling period in progress: start, step mark, samples -/
  latStart : Nat
  latStep : Bool
  latN : Nat
  /-- a period abandoned by a write is not recorded (R271) -/
  latOff : Bool
  /-- last completed period: start, step mark, samples -/
  latLast : Option (Nat × Bool × Nat)
  deriving DecidableEq, Repr

/-! ## Chapter 7: bursts -/

structure UbtCh where
  bseq : BitVec 16
  bursts : List Burst
  /-- light runs emitted in the last 10 ms, newest first: begin and end in network time -/
  runs : List (Nat × Nat)
  /-- end of the last burst launched -/
  lastEnd : Nat
  cause : Nat
  stage : Nat
  deriving DecidableEq, Repr

/-! ## Chapter 13: twin operation -/

/-- A claim (R504): EXPIRY of the LEASE_GRANT where there is one, and the network time at which it falls due. -/
structure Claim where
  expiry : Option Nat
  due : Nat
  solo : Bool
  deriving DecidableEq, Repr

/-- A lane of the twin link. -/
structure Lane where
  lock : Bool
  pre : Nat
  main : Nat
  post : Nat
  ready : Bool
  cv : Word
  deriving DecidableEq, Repr

/-- A key slot as the peer reports it (KEYMETA). -/
structure PeerSlot where
  state : Nat
  epoch : BitVec 16
  salt : Word
  kcv : List Byte
  deriving DecidableEq, Repr

/-- The lease (R502 to R514). -/
structure TwnLease where
  /-- lease timer in pips -/
  left : Nat
  /-- the Acorn is held, takeover preparation done -/
  holds : Bool
  /-- takeover preparation in progress -/
  preparing : Bool
  forceOff : Bool
  forceOn : Bool
  solo : Bool
  orphan : Bool
  sync : Nat
  eligible : Bool
  peerEligible : Bool
  lostByExpiry : Bool
  paired : Bool
  takeKind : Nat
  /-- some device has held the Acorn since the last handshake -/
  heldSince : Bool
  /-- this device treats the peer as claiming (R511) -/
  yielded : Bool
  claim : Option Claim
  /-- the claim waits for a final MARK in transit (R546) -/
  markWait : Bool
  rid : Word
  /-- RID and EXPIRY of the RENEW not acknowledged -/
  renew : Option (Word × Nat)
  /-- cause of the last discard of a LEASE_GRANT, and its tick count -/
  cause : Nat
  discAt : Option Nat
  /-- the eligibility and claim readiness last reported in STATE -/
  toldElig : Bool
  toldReady : Bool
  /-- the final MARK is owed (R527), and RELEASE after it -/
  finalOwed : Bool
  releaseOwed : Bool
  deriving DecidableEq, Repr

/-- What this device knows of its peer. -/
structure TwnPeer where
  holds : Bool
  ready : Bool
  expiry : Option Nat
  serial : Nat
  gen : Word
  /-- peer time less own time in pips (R514), its measurements in hand, and the last ECHO received: its T3 and the
  time it came -/
  timeOfs : Int
  echoes : List Int
  echo : Option (Nat × Nat)
  slots : Tab PeerSlot
  diverged : List Nat
  /-- Table TWN-11: page 0, and page 1 by (index × 4 + channel) × 32 + word -/
  words : Tab Word
  bins : Tab Word
  /-- a final MARK received since the previous holder's lease began -/
  finalSeen : Bool
  /-- NEXT_SEQ and TURN of the last MARK received, by Link -/
  markLinks : Tab (Nat × Nat)
  /-- the last SHAPER values received: by queue B and deficit; by allocation PTR, HISTORY, MAXG -/
  shQueues : Tab (Int × Int)
  shAllocs : Tab (Nat × Nat × Nat)
  deriving DecidableEq, Repr

/-- The mirror this device sends or applies. -/
structure TwnMirror where
  gen : Word
  bulkGen : Option Word
  bulk : Nat
  /-- what the last MARK sent held, by queue and by Link -/
  sentQueues : Tab Nat
  sentLinks : Tab (Nat × Nat)
  /-- next counters of the last CTR sent, by slot -/
  sentCtrs : Tab Nat
  /-- tick count of the last MARK sent or received -/
  markTick : Option Nat
  /-- message SEQ per class -/
  seqs : Tab Word
  deriving DecidableEq, Repr

/-- The twin link (R539 to R545). -/
structure TwnLink where
  up : Bool
  training : Bool
  rate : Nat
  target : Nat
  width : Nat
  rxGood : Byte
  txUse : Byte
  peerGood : Byte
  lanes : Tab Lane
  loopFar : Bool
  /-- tick count at which the link was lost -/
  lostAt : Option Nat
  deriving DecidableEq, Repr

/-- Self-test and health (R535 to R537). -/
structure TwnTest where
  health : Tab Word
  tested : BitVec 4
  passed : BitVec 4
  testAt : Option Nat
  /-- tick counts of loop-test failures of the last 24 h -/
  failAt : List Nat
  /-- uncorrectable codewords and code violations at the last report, and tick counts of uncorrectable Hoard errors -/
  uncorBase : Nat
  cvBase : Nat
  hoardAt : List Nat
  genDiffAt : Option Nat
  deriving DecidableEq, Repr

structure Twn where
  lease : TwnLease
  peer : TwnPeer
  mir : TwnMirror
  link : TwnLink
  test : TwnTest
  deriving DecidableEq, Repr

/-! ## Chapter 10: host ports and the packet engine -/

/-- A frame that waits for its first pass: its source (0 to 7 host ports, 8 port S, 9 a downstream Link), the local Link
index, the frame with its FCS (without one where OVERSIZE_TRUNC is set), and its stamp in pips. -/
structure PktIn where
  source : Nat
  link : Nat
  data : List Byte
  stamp : Nat
  ovs : Bool
  deriving DecidableEq, Repr

/-- An action (Table CLS-6). -/
structure Action where
  a0 : Word
  a1 : Word
  a2 : Word
  deriving DecidableEq, Repr

/-- One entry of the exact-match table (Table CLS-4). -/
structure TblEntry where
  valid : Bool
  profile : Nat
  pass : Nat
  gen : Nat
  key : BitVec 320
  act : Action
  hits : Wide
  deriving DecidableEq, Repr

/-- A pass that has been made: its profile, its result, whether it was PARSE_INCOMPLETE, and its fields F_e with their
widths. -/
structure Pass where
  prof : Nat
  act : Action
  incomplete : Bool
  fields : List (Nat × Nat)
  deriving DecidableEq, Repr

/-- A packet that waits for its second pass: the pipeline that asks, its generation, its LEN_CONFLICT mark, its first
pass, the tick count of the request, and whether its arbiter has granted it. -/
structure Recirc where
  pipe : Nat
  pkt : PktIn
  gen : Nat
  conflict : Bool
  first : Pass
  tick : Nat
  granted : Bool
  deriving DecidableEq, Repr

structure Cls where
  bank0 : Tab TblEntry
  bank1 : Tab TblEntry
  stash : Tab TblEntry
  stage : TblEntry
  /-- CLS_TBL_RESULT -/
  result : Word
  /-- select entries: CLS_SEL_DATA and its SRC_MASK -/
  sel : Tab (Word × Word)
  /-- profiles applied, by number, and the staging copy: words of Table CLS-5 -/
  profs : Tab (Tab Word)
  profStage : Tab Word
  /-- CLS_LINK_DEFQ by local Link index -/
  links : Tab Word
  /-- spread groups: CLS_SG_CFG and CLS_SG_MAP as applied -/
  sgs : Tab (Word × Word)
  ind : Tab Word
  active : Nat
  drained : Bool
  recirc : List Recirc
  /-- last host port a first pass was admitted from (R38) -/
  lastPort : Nat
  deriving DecidableEq, Repr

/-- One host port. -/
structure HostPort where
  up : Bool
  localFault : Bool
  remoteFault : Bool
  /-- lanes of the port locked -/
  locked : Byte
  /-- the frame in the transmit buffer: its queue and number -/
  tx : Option (Nat × Nat)
  /-- tick count at which a pause ends (R391) -/
  pauseUntil : Option Nat
  /-- EN was written 0: a frame that ends while EN is 0 was being received then (R395) -/
  rxCut : Bool
  /-- round pointer of the weighted group (R273) -/
  ptr : Nat
  /-- PTP messages diverted and not handled, with the MAC stamp in pips; management frames diverted and not handled -/
  ptp : List (List Byte × Nat)
  mgmtIn : List (List Byte)
  /-- management requests waiting, at most 8, and the last reply (R424) -/
  mgmt : List MgmtReq
  mgmtLast : Option MgmtReply
  deriving DecidableEq, Repr

/-! ## Chapter 12: the Husk endpoint and the Shell -/

inductive LinkState where
  | absent | up | down
  deriving DecidableEq, Repr

/-- A START or STOP of a timed commit kept while the Husk is down (R470): slot, STOP, the slot's TIME and the body. -/
structure HeldStart where
  slot : Nat
  stop : Bool
  time : Nat
  body : List Byte
  deriving DecidableEq, Repr

/-- The core-side endpoint of the Husk. -/
structure Hsk where
  link : LinkState
  /-- fused asymmetry and nominal latency (R466) -/
  latAsym : Int
  latNom : Int
  txSeq : Word
  beacons : Nat
  /-- D_IN once 16 echoes are in -/
  dIn : Option Int
  /-- T_TX of beacons with ECHO_REQ, by SEQ, and the RT_i in hand -/
  echoTx : Tab Nat
  rts : List Int
  /-- messages the Shell has not taken and messages the endpoint has not taken, in the order sent -/
  toShell : List HuskMsg
  toCore : List HuskMsg
  held : List HeldStart
  /-- slots whose START was sent or kept (R349) -/
  starts : List Nat
  health : List Byte
  /-- TYPE and SEQ of the message sent by software that is not acknowledged -/
  cmd : Option (Byte × Word)
  result : Word
  stage : Tab Word
  /-- tick count since which credit is withheld (R483) -/
  stalledAt : Option Nat
  deriving DecidableEq, Repr

inductive ShellState where
  | boot | safe | idle | run
  deriving DecidableEq, Repr

inductive ShellTime where
  | unsync | locked | holdover
  deriving DecidableEq, Repr

/-- A record in the store (R480): SEQ, KIND and every byte before the trailer; the trailer once it is authenticated. -/
structure Rec where
  seq : BitVec 64
  kind : Nat
  body : List Byte
  trailer : Option (List Byte)
  deriving DecidableEq, Repr

/-- A definition that runs: start of its interval in Shell time, marks of the interval, and the calibration words in
force for it (R488). -/
structure RunDef where
  start : Nat
  isPartial : Bool
  step : Bool
  sawUnsync : Bool
  sawHoldover : Bool
  cal : List Word
  deriving DecidableEq, Repr

inductive CapState where
  | armed | filling | draining
  deriving DecidableEq, Repr

/-- The capture (R484, R485). -/
structure ShellCap where
  st : CapState
  id : Word
  convs : BitVec 16
  evidence : Bool
  at_ : Nat
  bytes : Nat
  step : Bool
  samples : List Byte
  spans : List (Nat × Nat)
  /-- segments drained -/
  seg : Nat
  deriving DecidableEq, Repr

/-- What the Shell keeps in its flash and its one-time-programmable storage. -/
structure ShellNv where
  /-- the boot pointer names slot B -/
  pointerB : Bool
  imageA : Tab Byte
  imageB : Tab Byte
  totalA : Nat
  totalB : Nat
  bootCount : Word
  /-- wrapped record key and its KEY_GEN -/
  wrapped : Option (List Byte)
  keyGen : BitVec 16
  cfgSeq : Word
  /-- K_dev (R486) -/
  kdev : List Byte
  /-- configuration-key slots 0 to 3 -/
  digests : Tab (List Byte)
  /-- fuses blown of the event counter (R492) -/
  events : Nat
  audit : List (List Byte)
  /-- words of the parameter space as last written -/
  words : Tab Word
  links : Tab ConvLink
  /-- channel pairs set complex -/
  pairs : BitVec 8
  defs : Tab MeasDef
  twice : Bool
  deriving DecidableEq, Repr

structure Shell where
  nv : ShellNv
  powered : Bool
  st : ShellState
  /-- running image is slot B -/
  slotB : Bool
  swId : BitVec 64
  time : ShellTime
  /-- Shell time less network time, in pips -/
  ofs : Int
  /-- a beacon has been used since UNSYNC was entered -/
  stepped : Bool
  lockRun : Nat
  lastErr : Int
  lastCore : Nat
  /-- tick count of the last beacon -/
  beaconTick : Nat
  /-- the engine's key register -/
  key : Option (List Byte)
  /-- a record key that waits for the next interval boundary (R491) -/
  keyNext : Option (List Byte × BitVec 16)
  alarm : Bool
  faults : Word
  temp : Byte
  txSeq : Word
  ack : Byte × Byte × Word
  store : List Rec
  nextSeq : BitVec 64
  recDisc : Word
  resync : Word
  /-- converter links aligned -/
  up : BitVec 4
  running : Tab RunDef
  /-- START_ID, DEFMASK and AT of each pending start; DEFMASK and AT of each stop -/
  starts : List (BitVec 16 × BitVec 16 × Nat)
  stops : List (BitVec 16 × Nat)
  cap : Option ShellCap
  ftrigs : Tab Trig
  /-- ADJ of each field trigger, signed pips (R341) -/
  ftrigAdj : Tab Int
  deriving DecidableEq, Repr

/-! ## The state -/

/-- What the block has sent or answered, newest first: the effect of a command outside the block. -/
inductive Out where
  /-- a register read: requester, address, word -/
  | regRead (ini : Nat) (addr : Nat) (value : Word)
  /-- a word of an SPI read: token good, and the word -/
  | spiWord (good : Bool) (value : Word)
  | spiStatus (value : Byte)
  /-- a control message taken from a header space (R74): channel and bytes -/
  | control (ch : Nat) (bytes : List Byte)
  /-- a burst sent to its end, or cut at an instant: channel, L, header and segment-area bytes before scrambling
  (R284), PROF and LEN -/
  | burst (ch : Nat) (launch : Nat) (header : List Byte) (area : List Byte) (prof len : Nat) (cutAt : Option Nat)
  /-- a frame sent on a host port, from its destination address to its FCS -/
  | frame (port : Nat) (bytes : List Byte)
  /-- an active edge: of trigger t (0 to 7), of SYSREF j (8 + j) or of field trigger n (12 + n), and the pip it is at
  the ball -/
  | edge (pin : Nat) (time : Int)
  /-- the whole mirrored state of a generation, in class 4 (R531): the spec numbers no table kinds -/
  | bulk (gen : Word)
  /-- a LOOP ordered set: start (R545) -/
  | twinLoop (start : Bool)
  /-- a twin-link message (R516) -/
  | twin (bytes : List Byte)
  /-- a word shifted out of the TAP (R699) -/
  | tdo (value : Word)
  deriving DecidableEq, Repr

structure State where
  /-- commands waiting, first in, first out -/
  pending : List Instr
  /-- time-base ticks since reset -/
  ticks : Nat
  /-- the model's own counter: free values drawn so far -/
  fresh : Nat
  /-- register words by address; an unlisted one holds its reset value (`resetWord`) -/
  regs : Tab Word
  /-- 48-bit counters, by the address of the low word -/
  wide : Tab Wide
  /-- flags raised in the command being run, by status register; empty between commands -/
  evt : Tab Word
  out : List Out
  spi : Spi
  guards : Tab Guard
  clk : Clk
  flt : Flt
  boot : Boot
  sems : Tab Sem
  pwr : Pwr
  pads : Pads
  ntm : Ntm
  hrd : Hrd
  arb : Arb
  pods : Tab Pod
  dsf : Dsf
  act : Act
  lsc : Lsc
  usq : Usq
  ubt : Tab UbtCh
  twn : Twn
  /-- frames that wait for their first pass, oldest first -/
  arrivals : List PktIn
  ports : Tab HostPort
  cls : Cls
  hsk : Hsk
  shell : Shell
  deriving DecidableEq, Repr

/-! ## What a table's unlisted entry is -/

def Prof.reset : Prof := ⟨none, none, []⟩

def Pod.reset : Pod :=
  { calBusy := false, calPass := false, calSprout := false, restarting := false, decoding := [], current := none
    predicted := none, acquiring := true, missRun := 0, dacOut := 0x200, cdcNext := none, scanning := false
    losInd := false, eqSeed := none, eqHeld := none, rxProf := [], txProf := [], loops := [], sense := false }

def Window.reset : Window := ⟨0, true, false, 0, 0, 0⟩

def Bin.empty (day : Bool) : Bin :=
  { start := 0, valid := false, jump := false, holdover := false, unset := false, partialBin := false, final := false
    day := day, corr := 0, uncor := 0, es := 0, ses := 0, uas := 0, defectS := [], abandon := 0, reorderDrop := 0
    authFail := 0 }

/-- A bin in progress from reset: network time was never set and the channel is off. -/
def Bin.first (day : Bool) : Bin := { Bin.empty day with valid := true, unset := true, partialBin := true }

def DsfCh.reset : DsfCh :=
  { fa := .hunt, cands := [], misses := 0, mf := .hunt, mfCand := none, mfCount := 0, blockCount := 0, block0 := 0, checked := none, block0Mark := 0, block0Tick := 0
    lastMark := none, noMark := 0, markRun := 0, hdrDone := false, lastHdr := none, lastTx := false, pvec := none
    pvecNext := none, skipRest := false, defects := 4, deg := .reset, ffr := .reset, lok := .reset, lokFails := []
    secCw := 0, secBad := 0, secDefects := 0, run := [], unavailable := false, cur15 := Bin.first false
    cur24 := Bin.first true, hist15 := [], hist24 := [], frameMarks := [], skewRun := [], skewFrame := 0
    skewReady := false, skew := 0, skewRange := false, admitted := false, asleep := false }

def DsfLink.reset : DsfLink :=
  { linkId := 0, en := false, mapped := false, members := 0, mask := 0, change := none, effective := 0, window := 256
    timeoutUs := 20, next := 0, synced := false, skewStore := [], reorder := [], openBytes := [], openStamp := none
    gapSkip := 0, forcedSkip := 0, lateDisc := 0, overflowDisc := 0, nonmember := 0, reasmDisc := 0 }

def Crossing.reset : Crossing := ⟨false, false, 0, 0, 0⟩

def Mcu.reset : Mcu := ⟨.absent, 0, 0, [], 0, false, 0, false⟩

def Sem.free : Sem := ⟨15, false⟩

def Fuse.blank : Fuse := ⟨0, false, false⟩

def Trig.reset : Trig := ⟨false, false, false, 0, 0, 0, 0, 0, 0, false⟩

def Cap.reset : Cap := ⟨[], ⟨0, false, false⟩, false, none, false⟩

def Slot.reset : Slot := ⟨0, 0, 0, false, false, false, 0, 0, 0⟩

def PseudoCh.reset : PseudoCh := ⟨0, 0, 0, 0, 0⟩

def FltRule.off : FltRule := ⟨0, 0, 0, 0, 0, 0, 0, 0⟩

/-- A rule at reset (Table FLT-9). -/
def FltRule.ofTable (src srcMask kind kindMask n windowUs scope minor severe : Nat) : FltRule :=
  ⟨BitVec.ofNat 32 (src + kind * 2 ^ 18 + 2 ^ 26 + scope * 2 ^ 27), BitVec.ofNat 32 (srcMask + kindMask * 2 ^ 18),
    BitVec.ofNat 32 (n + minor * 2 ^ 8 + severe * 2 ^ 12), BitVec.ofNat 32 windowUs, 0, 0, 0, 0⟩

/-- Table FLT-9. -/
def rulesAtReset : Tab FltRule :=
  [ (0, .ofTable 0x27800 0x3F800 0x0D 0xFF 1 1 0 0 7),
    (1, .ofTable 0x27800 0x3F800 0x0E 0xFF 1 1 0 0 7),
    (2, .ofTable 0x27800 0x3F800 0x0F 0xFF 1 1 0 0 7),
    (3, .ofTable 0x27800 0x3F800 0x10 0xFF 1 1 0 0 1),
    (4, .ofTable 0 0 0x0A 0xFF 1 1 0 0 6),
    (5, .ofTable 0 0 0x0B 0xFF 16 1000000 0 1 6),
    (6, .ofTable 0x30000 0x30000 0x03 0xFF 64 1000000 0 1 7),
    (7, .ofTable 0 0 0x02 0xFF 255 1000000 1 0 1),
    (8, .ofTable 0x01800 0x27800 0 0 3 10000 1 0 2),
    (9, .ofTable 0x02800 0x27800 0 0 3 10000 1 0 2),
    (10, .ofTable 0x24000 0x3F800 0 0 3 10000 1 0 2),
    (11, .ofTable 0x22000 0x3F800 0 0 3 10000 1 0 2),
    (12, .ofTable 0x20800 0x3F800 0x08 0xFF 3 10000000 0 1 4),
    (13, .ofTable 0 0x20000 0 0 8 1000000 1 1 5),
    (63, .ofTable 0 0 0 0 16 1000000 1 1 1) ]

def ArbInst.reset (quota : Tab Nat) : ArbInst :=
  { hiThr := 4, window := 64, quota := quota, used := [], holder := [], waiting := [], last := [], freezeDone := false
    masked := 0, startAt := 0 }

def ActCh.reset : ActCh :=
  { rtd := none, rtdOld := none, from_ := 0, dDown := 0, dUp := 0, armed := none, provisional := false, rangings := 0
    upEn := true, guard := 2 }

def KeySlot.empty : KeySlot := ⟨.empty, [], 0, 0, false, 0, false, 0⟩

def LinkKeys.reset : LinkKeys :=
  { a := .empty, b := .empty, shadow := none, shadowEpoch := 0, sched := none, held := .none, holdUntil := none
    graceUntil := none, frames := 0, fails := 0, heldDisc := 0, mirrors := [] }

def LatAcc.zero : LatAcc := ⟨0, 0, 0, 0, 0, 0, 0⟩

def Queue.reset : Queue :=
  { link := 0, alloc := 0, cls := 0, enable := false, weight := 1, rate := 0, burst := 16464, maxDepth := 0x40000
    linkF := 0, allocF := 0, bindPending := false, frames := [], inTurn := false, bucket := 0, deficit := 0, tail := 0
    sh0 := none, sh2 := none, sh3 := none, enqFrames := 0, enqBytes := 0, sentFrames := 0, sentBytes := 0
    fragments := 0, dropDepth := 0, dropHoard := 0, neverFits := 0, flushed := 0, dropDisabled := 0, lat := .zero
    last := .zero, snap := none, pos := 0, acc := 0, f := 0, sentPos := 0, aligned := false, srcS := false
    trim := none, trimmed := 0, lastTrim := none, waits := [], admittedAt := none, checkDue := false }

def ULink.reset : ULink := ⟨false, 0, none, 0, 0⟩

def Alloc.reset : Alloc := ⟨0, false, true, [], 0, 0, 0, 0⟩

def UbtCh.reset : UbtCh := ⟨0, [], [], 0, 0, 0⟩

def Lane.reset : Lane := ⟨false, 0, 48, 8, false, 0⟩

def Act.reset : Act :=
  { state := .t0, prior := .t0, anchor := none, tid := none, nonce := none, chans := [], own := none, bcast := none
    uq := [], skip := 0, annCount := 0, silence := none, unsilenceAck := none, toRange := none, toHeld := none
    noCeilingSet := false, held := none, tunnel := [], tunnelLast := none, permit := 0, sleepMs := 0, listenMs := 0 }

def Lsc.reset : Lsc := ⟨none, [], 0, false⟩

def Usq.reset : Usq :=
  { queues := [], links := [], allocs := [], nextId := 0, flight := [], grants := [], ran := [], cursor := 0, latStart := 0, latStep := false
    latN := 0, latOff := false, latLast := none }

def Twn.reset : Twn :=
  { lease := { left := 0, holds := false, preparing := false, forceOff := false, forceOn := false, solo := false
               orphan := false, sync := 0, eligible := false, peerEligible := false, lostByExpiry := false
               paired := false, takeKind := 0, heldSince := false, yielded := false, claim := none, markWait := false
               rid := 0, renew := none, cause := 0, discAt := none, toldElig := false, toldReady := false, finalOwed := false, releaseOwed := false }
    peer := { holds := false, ready := false, expiry := none, serial := 0, gen := 0, timeOfs := 0, echoes := [], echo := none, slots := []
              diverged := [], words := [], bins := [], finalSeen := false, markLinks := [], shQueues := []
              shAllocs := [] }
    mir := ⟨0, none, 0, [], [], [], none, []⟩
    link := { up := false, training := false, rate := 0, target := 0, width := 0, rxGood := 0, txUse := 0
              peerGood := 0, lanes := [], loopFar := false, lostAt := none }
    test := { health := [], tested := 0, passed := 0, testAt := none, failAt := [], uncorBase := 0, cvBase := 0
              hoardAt := [], genDiffAt := none } }

def Action.none : Action := ⟨0, 0, 0⟩

def TblEntry.empty : TblEntry := ⟨false, 0, 0, 0, 0, .none, 0⟩

def Cls.reset : Cls :=
  { bank0 := [], bank1 := [], stash := [], stage := .empty, result := 0, sel := [], profs := [], profStage := []
    links := [], sgs := [], ind := [], active := 0, drained := true, recirc := [], lastPort := 7 }

def HostPort.reset : HostPort :=
  { up := false, localFault := false, remoteFault := false, locked := 0, tx := none, pauseUntil := none, rxCut := false, ptr := 0
    ptp := [], mgmtIn := [], mgmt := [], mgmtLast := none }

def Hsk.reset : Hsk :=
  { link := .absent, latAsym := 0, latNom := 0, txSeq := 0, beacons := 0, dIn := none, echoTx := [], rts := []
    toShell := [], toCore := [], held := [], starts := [], health := [], cmd := none, result := 0, stage := []
    stalledAt := none }

def ConvLink.off : ConvLink := ⟨false, 0, 1, 0, 1, 32, 1, 1, false, 1500, 1000, 0⟩

def MeasDef.off : MeasDef := ⟨false, .spectrum, 0, 10, 0, false, 0, 0, 1, 0, 0, [], 0⟩

def RunDef.none : RunDef := ⟨0, false, false, false, false, []⟩

def ShellNv.blank : ShellNv :=
  { pointerB := false, imageA := [], imageB := [], totalA := 0, totalB := 0, bootCount := 0, wrapped := none, keyGen := 0
    cfgSeq := 0, kdev := List.replicate 32 0, digests := [], events := 0, audit := [], words := [], links := [], pairs := 0
    defs := [], twice := false }

/-- The Shell while it has no supplies. -/
def Shell.unpowered (nv : ShellNv) : Shell :=
  { nv := nv, powered := false, st := .boot, slotB := false, swId := 0, time := .unsync, ofs := 0, stepped := false
    lockRun := 0, lastErr := 0, lastCore := 0, beaconTick := 0, key := none, keyNext := none, alarm := false, faults := 0
    temp := 0, txSeq := 0, ack := (0, 0, 0), store := [], nextSeq := 0, recDisc := 0, resync := 0, up := 0, running := []
    starts := [], stops := [], cap := none, ftrigs := [], ftrigAdj := [] }

/-! ## Reset (Table ORG-11, Table BOOT-1): the state right after the release of a package reset, with Sprout at step 3.
What the spec gives no value for is a model's choice that a log entry names. -/

def Boot.reset : Boot :=
  { step := 3, slot := false, halted := false, failCode := 0, fallback := false, releasedAt := 0, lockedAt := none
    operAt := none, fuses := [], fuseBusy := none, fuseResult := 0, unit := 0, kreg := List.replicate 32 0, nvm := []
    nvmBusy := none, enables := 0, mcus := [], schedule := [], sprout := false }

def Clk.reset : Clk :=
  { source := .ref, rootCh := none, qualified := 0, dsLock := false, dsUsed := false, word := 0, holdWord := none
    phaseErr := 0, good := 0xF, freqBusy := false, forceRef := false, crossings := [] }

def Flt.reset : Flt :=
  { rules := rulesAtReset, tracker := [], record := none, recSeq := 0, conds := [], offered := [], podOffline := 0
    autoRunning := 0, safe := none, isoCls := 0, isoUsq := 0, resetting := [], severeAt := [], heavyAt := [] }

/-- Every domain is on (PWR_DOMAIN). -/
def Pwr.reset : Pwr :=
  { mode := .active, phase := .steady, target := .active, keptPod := 0, reqPending := none, wakeAck := none
    periods := (0, 0), held := none, on := 0x7FFF, failed := 0, switching := 0, retries := [], fullReset := 0, log := []
    lastWake := none, lostBanks := 0, sigs := [], bias := 0xF, selfRefresh := 0, wakeFail := false }

/-- Every supply monitor is good and no condition stands; TRST_N holds the TAP in reset. -/
def Pads.reset : Pads := ⟨0x3FFFFF, false, 0, 0, none⟩

def Ntm.reset : Ntm :=
  { time := 0, frac := 0, rate := 0, rateI := 0, state := .unset, everSet := false, lockCount := 0, hrefInUse := false
    traceable := false, forced := false, holdElapsed := 0, holdAt := 0, specEnded := false, tch := none, lastErr := 0
    lastMf := 0, lastTraceable := false, lastSf := none, prevTick := none, acceptTick := none, latches := []
    heldTod := none, hrefPresent := false, hrefValid := false, hrefLast := none, intervals := [], hrefRate := 0
    trigs := [], caps := [], slots := [], dresp := [], ptpSeq := [], scheduled := false, deferred := 0 }

/-- The whole Hoard is free, partitioned at 32 GiB upstream (Table HRD-1). -/
def Hrd.reset : Hrd :=
  { usFree := 130023424, dsFree := 64503808, usDesc := 4194304, dsDesc := 2097152, pcs := [], failing := []
    retired0 := [], retired1 := [], lostCells := 0, lastUncor := none }

/-- Quotas of Table ARB-2. -/
def Arb.reset : Arb :=
  ⟨.reset [(9, 32), (10, 256), (11, 256), (12, 256), (13, 256)], .reset [], .reset [], none⟩

def Dsf.reset : Dsf :=
  { chans := [], links := [], frames := [], skewRef := none, second := 0, snap := none, snapDone := false }

/-- The registers whose reset values hold the unit number: the addresses of the host ports and of port S (R428), and the
PTP clock identity. -/
def unitRegs (u : Word) : Tab Word :=
  let n := u.toNat
  let lo (p : Nat) : Word := BitVec.ofNat 32 (n % 2 ^ 24 * 256 + p)
  let hi : Word := BitVec.ofNat 32 (0x200 + n / 2 ^ 24)
  let t := Tab.set 0 [] Reg.NTM_PTP_CLKID_LO u
  let t := (List.range 8).foldl (fun t p =>
    Tab.set 0 (Tab.set 0 t (Reg.HPE_Pp_ADDR_LO p) (lo p)) (Reg.HPE_Pp_ADDR_HI p) hi) t
  Tab.set 0 (Tab.set 0 t Reg.HSK_PS_SA_LO (lo 8)) Reg.HSK_PS_SA_HI hi

/-- Right after reset release: nothing waits, every register holds its reset value. -/
def State.reset : State :=
  { pending := [], ticks := 0, fresh := 0, regs := unitRegs Boot.reset.unit, wide := [], evt := [], out := [], spi := ⟨[], false⟩, guards := []
    clk := .reset, flt := .reset, boot := .reset, sems := [], pwr := .reset, pads := .reset, ntm := .reset, hrd := .reset
    arb := .reset, pods := [], dsf := .reset, act := .reset, lsc := .reset, usq := .reset, ubt := [], twn := .reset
    arrivals := [], ports := [], cls := .reset, hsk := .reset, shell := Shell.unpowered ShellNv.blank }

end Sys2Proof.Machine
end

