-- ==== Sys2Proof/Machine/Ops.lean ====
section
/-! DEFINITION. The operations every chapter shares: bit fields, register words, 48-bit counters, status flags with
their sequence number, the fault messages a source offers, time stamps and the passing of time. -/

namespace Sys2Proof.Machine

open Host (Outcome)

/-! ## Bit fields -/

/-- Bits [hi:lo] of a number. -/
def bitsOf (n hi lo : Nat) : Nat := n / 2 ^ lo % 2 ^ (hi - lo + 1)

/-- `n` with its bits [hi:lo] replaced by those of `v`. -/
def setBits (n hi lo v : Nat) : Nat :=
  n - bitsOf n hi lo * 2 ^ lo + v % 2 ^ (hi - lo + 1) * 2 ^ lo

/-- A flag as a number. -/
def b2n (b : Bool) : Nat := if b then 1 else 0

/-- A word made of fields: (value, width, lowest bit). -/
def packWord (fs : List (Nat × Nat × Nat)) : Word :=
  BitVec.ofNat 32 (fs.foldl (fun a f => a + f.1 % 2 ^ f.2.1 * 2 ^ f.2.2) 0)

/-- The two's complement value of a number's low `w` bits. -/
def signedOf (w n : Nat) : Int :=
  let m := n % 2 ^ w
  if 2 ^ (w - 1) ≤ m then (m : Int) - 2 ^ w else m

/-- A number held to a range. -/
def clampInt (x lo hi : Int) : Int := if x < lo then lo else if hi < x then hi else x

/-- A signed value in 32 bits, saturating. -/
def satWord (x : Int) : Word := BitVec.ofInt 32 (clampInt x (-2 ^ 31) (2 ^ 31 - 1))

/-- Set or clear bit `i` of a bit vector. -/
def putBit {w : Nat} (v : BitVec w) (i : Nat) (b : Bool) : BitVec w :=
  if b then v ||| BitVec.ofNat w (2 ^ i) else v &&& ~~~ BitVec.ofNat w (2 ^ i)

/-- The indexes of the set bits of a bit vector, rising. -/
def bitList {w : Nat} (v : BitVec w) : List Nat := (List.range w).filter (fun i => v.getLsbD i)

/-- The least element of a list that is not empty. -/
def leastOf (l : List Nat) : Option Nat :=
  l.foldl (fun a x => match a with
    | none => some x
    | some y => some (min x y)) none

/-! ## Register words (R648, R656) -/

/-- The stored word of a register. -/
def State.reg (s : State) (a : Nat) : Word := (Tab.find? s.regs a).getD (resetWord a)

/-- Store a word in a register. -/
def State.setReg (s : State) (a : Nat) (v : Word) : State :=
  { s with regs := Tab.set (resetWord a) s.regs a v }

/-- Bits [hi:lo] of a register. -/
def State.fld (s : State) (a hi lo : Nat) : Nat := bitsOf (s.reg a).toNat hi lo

/-- One bit of a register. -/
def State.rbit (s : State) (a i : Nat) : Bool := (s.reg a).getLsbD i

/-- A status flag is set, or is being set by the command that runs. -/
def State.flagged (s : State) (a i : Nat) : Bool := s.rbit a i || (Tab.get 0 s.evt a).getLsbD i

/-- Replace bits [hi:lo] of a register. -/
def State.setFld (s : State) (a hi lo v : Nat) : State :=
  s.setReg a (BitVec.ofNat 32 (setBits (s.reg a).toNat hi lo v))

/-- Add to a 32-bit wrapping count held in a register. -/
def State.bump32 (s : State) (a n : Nat) : State := s.setReg a (s.reg a + BitVec.ofNat 32 n)

/-! ## Status registers (R658) -/

/-- Raise flag `i` of the status register at `a`: one event of the core cycle of this command. -/
def State.raise (s : State) (a i : Nat) : State :=
  { s with evt := Tab.modify 0 s.evt a (fun w => putBit w i true) }

def State.raiseIf (s : State) (c : Bool) (a i : Nat) : State := if c then s.raise a i else s

/-- R658: one core cycle's events in a status register: SEQ advances by 1 modulo 256 and the flags are set. -/
def sqcEvent (w flags : Word) : Word :=
  BitVec.ofNat 32 ((bitsOf w.toNat 31 24 + 1) % 256 * 2 ^ 24 + ((w ||| flags).toNat % 2 ^ 24))

/-- A status register takes its events: (address, flags). -/
def State.takeEvents (s : State) (e : Nat × Word) : State := s.setReg e.1 (sqcEvent (s.reg e.1) e.2)

/-- The core cycle ends: every status register with events takes them. -/
def State.commit (s : State) : State := s.evt.foldl State.takeEvents { s with evt := [] }

/-- A command that has run: the next state. -/
def done (s : State) : Outcome State Fault Refusal := .next s.commit

/-! ## 48-bit counters (R667, and the half-range flags of each chapter) -/

/-- The status register and the bit of CNT_HALF for the counter at `a`. -/
def halfFlag (a : Nat) : Nat × Nat :=
  match blockOf a with
  | some 0 => (Reg.DEV_STATUS, 2)
  | some 1 => (Reg.BOOT_STATUS, 11)
  | some 2 => (Reg.CLK_STATUS, 8)
  | some 3 => (Reg.PWR_STATUS, 8)
  | some 4 => (Reg.FLT_STATUS, 12)
  | some 5 => (Reg.NTM_STATUS, 15)
  | some 6 => (Reg.ACT_STATUS, 15)
  | some 7 => if 0x70400 ≤ a then (Reg.DSF_CHn_EVENT ((a - 0x70400) / 0x100), 19) else (Reg.DSF_STATUS, 3)
  | some 8 => (Reg.USQ_STATUS, 7)
  | some 9 => (Reg.UBT_STATUS, 9)
  | some 10 => (Reg.LSC_STATUS, 12)
  | some 11 => (Reg.HPE_Pp_STATUS ((a - 0xB1000) / 0x200), 2)
  | some 12 => (Reg.CLS_STATUS, 9)
  | some 13 => (Reg.HRD_STATUS, 6)
  | some 14 => (Reg.ARB_STATUS, 6)
  | some 15 => (Reg.TWN_STATUS, 16)
  | some 16 => (Reg.HSK_STATUS, 7)
  | some b =>
    let n := b - 17
    if a % 0x40000 < 0x10000 then (Reg.POD_RX_STATUS n, 13) else (Reg.POD_TX_STATUS n, 6)
  | none => (Reg.DEV_STATUS, 2)

/-- The count a 48-bit counter holds. -/
def State.cnt (s : State) (a : Nat) : Wide := Tab.get 0 s.wide a

/-- Add `n` to a 48-bit counter; bit 47 becoming 1 sets the block's CNT_HALF. -/
def State.count (s : State) (a n : Nat) : State :=
  let old := s.cnt a
  let new := old + BitVec.ofNat 48 n
  let s := { s with wide := Tab.set 0 s.wide a new }
  if !old.getLsbD 47 && new.getLsbD 47 then s.raise (halfFlag a).1 (halfFlag a).2 else s

def State.bump (s : State) (a : Nat) : State := s.count a 1
def State.bumpIf (s : State) (c : Bool) (a : Nat) : State := if c then s.bump a else s

/-- A 48-bit count held in a chapter's own table: the new count, and whether bit 47 became 1. -/
def wideAdd (old : Wide) (n : Nat) : Wide × Bool :=
  let new := old + BitVec.ofNat 48 n
  (new, !old.getLsbD 47 && new.getLsbD 47)

/-! ## Time (R313 to R315) -/

/-- Pips in a second. -/
def pipsPerSec : Nat := 256000000000

/-- NS32 of a time in pips (R315). -/
def ns32Of (t : Nat) : Word := BitVec.ofNat 32 (t / 256)

/-- The pips of a time (R313). -/
def ppOf (t : Nat) : BitVec 8 := BitVec.ofNat 8 t

def secOf (t : Nat) : Nat := t / pipsPerSec % 2 ^ 48
def nsOf (t : Nat) : Nat := t / 256 % 1000000000

/-- A time from seconds, nanoseconds and pips. -/
def mkTime (sec ns pp : Nat) : Nat := (sec * 1000000000 + ns) * 256 + pp

/-- The 48-bit seconds count wraps. -/
def wrapTime (t : Nat) : Nat := t % (2 ^ 48 * pipsPerSec)

/-- Network time in pips. -/
def State.now (s : State) : Nat := s.ntm.time

/-- The pips `k` ticks advance the time base by, and the fraction after them: `k` times the rule of R314 in one
(the carries of the fraction telescope). -/
def tickAdvance (frac : Nat) (rate : Int) (k : Nat) : Nat × Nat :=
  let acc : Int := frac + k * rate
  (((200 * k : Nat) + acc / 2 ^ 32).toNat, (acc % 2 ^ 32).toNat)

/-- `k` time-base ticks pass: network time advances by R314, the lease timer (R330, R502) runs down by the same advance,
and the tick count rises. Nothing falls due by itself: what is due is a command. -/
def State.passTicks (s : State) (k : Nat) : State :=
  let (adv, frac) := tickAdvance s.ntm.frac s.ntm.rate k
  { s with
    ticks := s.ticks + k
    ntm := { s.ntm with time := wrapTime (s.ntm.time + adv), frac := frac }
    twn := { s.twn with lease := { s.twn.lease with left := s.twn.lease.left - adv } } }

/-- Ticks until network time is first at or after `t`; 0 when it already is. -/
def State.ticksTo (s : State) (t : Nat) : Nat :=
  if t ≤ s.ntm.time then 0 else
  let r : Int := 200 * 2 ^ 32 + s.ntm.rate
  (((t - s.ntm.time : Nat) * 2 ^ 32 - (s.ntm.frac : Int) + r - 1) / r).toNat

/-- Time passes until network time is at or after `t`: the command says that this instant has come. -/
def State.passTo (s : State) (t : Nat) : State := s.passTicks (s.ticksTo t)

/-- Time passes until the tick count is at least `k`. -/
def State.passToTick (s : State) (k : Nat) : State := s.passTicks (k - s.ticks)

/-- Ticks in a microsecond (1.28 GHz). -/
def ticksPerUs : Nat := 1280

/-! ## Free values -/

/-- Draw a free word. -/
def State.drawWord (s : State) : Word × State := (Config.freeWord s.fresh, { s with fresh := s.fresh + 1 })

/-- Draw a free choice. -/
def State.drawBit (s : State) : Bool × State := (Config.freeBit s.fresh, { s with fresh := s.fresh + 1 })

/-- Draw a free number below `n` (0 where `n` is 0). -/
def State.drawBelow (s : State) (n : Nat) : Nat × State :=
  (Config.freeNat s.fresh % n, { s with fresh := s.fresh + 1 })

/-! ## Fault messages (R603, R604) -/

def flagCond : Nat := 0
def flagEnd : Nat := 1
def flagRepeat : Nat := 4
def flagTest : Nat := 5

/-- A source ID (R21). -/
def sourceId (die region cluster unit : Nat) : BitVec 18 :=
  BitVec.ofNat 18 (die * 32768 + region * 2048 + cluster * 64 + unit)

def srcDie (x : BitVec 18) : Nat := bitsOf x.toNat 17 15
def srcRegion (x : BitVec 18) : Nat := bitsOf x.toNat 14 11
def srcCluster (x : BitVec 18) : Nat := bitsOf x.toNat 10 6
def srcUnit (x : BitVec 18) : Nat := bitsOf x.toNat 5 0

def msgIsEnd (m : FaultMsg) : Bool := m.flags.getLsbD flagEnd

/-- R604: a source raises a message. A further event of the KIND its waiting message has is coalesced into it. -/
def offerMsg (l : List FaultMsg) (m : FaultMsg) : List FaultMsg :=
  match l with
  | [] => [m]
  | x :: r =>
    if x.source = m.source ∧ x.kind = m.kind ∧ !msgIsEnd x ∧ !msgIsEnd m then
      { x with flags := putBit x.flags flagRepeat true } :: r
    else x :: offerMsg r m

def State.offer (s : State) (m : FaultMsg) : State :=
  { s with flt := { s.flt with offered := offerMsg s.flt.offered m } }

/-- Raise a fault: source, KIND, CONTEXT and FLAGS. -/
def State.fault (s : State) (source : BitVec 18) (kind ctx flags : Nat) : State :=
  s.offer ⟨source, BitVec.ofNat 8 kind, BitVec.ofNat 40 ctx, BitVec.ofNat 6 flags⟩

/-- Package-level source (R22). -/
def pkgSource (cluster : Nat) : BitVec 18 := sourceId 4 15 cluster 0

/-- A core region's source. -/
def coreSource (region cluster : Nat) : BitVec 18 := sourceId 4 region cluster 0

/-! ## The Hoard's error correction (R435, R438) -/

/-- An error found at a unit of a pseudo-channel: counts, HRD_LAST_UNCOR, the fault, and a failing cell (R439). -/
def State.hbmError (s : State) (x unit : Nat) (r : ScrubResult) (lost : Bool) : State :=
  let stack := x / 32
  let source := sourceId (6 + stack) (x / 2 % 16) (x % 2) 0
  let p := Tab.get PseudoCh.reset s.hrd.pcs x
  match r with
  | .corrected =>
    let (v, h) := wideAdd p.corr 1
    let s := { s with hrd := { s.hrd with pcs := Tab.set PseudoCh.reset s.hrd.pcs x { p with corr := v } } }
    let s := (s.raiseIf h Reg.HRD_STATUS 6).raise Reg.HRD_STATUS 1
    (s.bump (Reg.HRD_CNT_CORR_S0 + 8 * stack)).fault source 0x02 unit 8
  | _ =>
    let (v, h) := wideAdd p.uncor 1
    let link := decide (r = ScrubResult.uncorrLink)
    let skew := decide (r = ScrubResult.uncorrSkew)
    let s := { s with
      hrd := { s.hrd with
        pcs := Tab.set PseudoCh.reset s.hrd.pcs x { p with uncor := v }
        lastUncor := some (packWord [(x, 6, 0), (unit, 22, 6), (b2n link, 1, 28), (b2n skew, 1, 29), (1, 1, 31)])
        failing := if decide (r = ScrubResult.uncorrCell) && !(s.hrd.failing ++ s.hrd.retired0 ++ s.hrd.retired1).contains (x * 2 ^ 22 + unit)
          then s.hrd.failing ++ [x * 2 ^ 22 + unit] else s.hrd.failing }
      twn := { s.twn with test := { s.twn.test with hoardAt := s.ticks :: s.twn.test.hoardAt } } }
    let s := ((s.raiseIf h Reg.HRD_STATUS 6).raise Reg.HRD_STATUS 2).raiseIf link Reg.HRD_STATUS 4
    (s.bump (Reg.HRD_CNT_UNCOR_S0 + 8 * stack)).fault source 0x03
      (unit + b2n link * 2 ^ 22 + b2n skew * 2 ^ 23) (b2n lost * 4)

/-! ## What the block sends -/

def State.send (s : State) (o : Out) : State := { s with out := o :: s.out }

/-! ## Sub-states -/

def State.pod (s : State) (n : Nat) : Pod := Tab.get Pod.reset s.pods n
def State.modPod (s : State) (n : Nat) (f : Pod → Pod) : State :=
  { s with pods := Tab.modify Pod.reset s.pods n f }

def State.chan (s : State) (n : Nat) : DsfCh := Tab.get DsfCh.reset s.dsf.chans n
def State.modChan (s : State) (n : Nat) (f : DsfCh → DsfCh) : State :=
  { s with dsf := { s.dsf with chans := Tab.modify DsfCh.reset s.dsf.chans n f } }

def State.dlink (s : State) (i : Nat) : DsfLink := Tab.get DsfLink.reset s.dsf.links i
def State.setDlink (s : State) (i : Nat) (l : DsfLink) : State :=
  { s with dsf := { s.dsf with links := Tab.set DsfLink.reset s.dsf.links i l } }

def State.crossing (s : State) (x : Nat) : Crossing := Tab.get Crossing.reset s.clk.crossings x
def State.modCrossing (s : State) (x : Nat) (f : Crossing → Crossing) : State :=
  { s with clk := { s.clk with crossings := Tab.modify Crossing.reset s.clk.crossings x f } }

def State.fuse (s : State) (i : Nat) : Fuse := Tab.get Fuse.blank s.boot.fuses i
def State.mcu (s : State) (i : Nat) : Mcu := Tab.get Mcu.reset s.boot.mcus i
def State.setMcu (s : State) (i : Nat) (m : Mcu) : State :=
  { s with boot := { s.boot with mcus := Tab.set Mcu.reset s.boot.mcus i m } }
def State.sem (s : State) (k : Nat) : Sem := Tab.get Sem.free s.sems k
def State.setSem (s : State) (k : Nat) (x : Sem) : State := { s with sems := Tab.set Sem.free s.sems k x }
def State.rule (s : State) (k : Nat) : FltRule := Tab.get FltRule.off s.flt.rules k
def State.setRule (s : State) (k : Nat) (r : FltRule) : State :=
  { s with flt := { s.flt with rules := Tab.set FltRule.off s.flt.rules k r } }
def State.trig (s : State) (t : Nat) : Trig := Tab.get Trig.reset s.ntm.trigs t
def State.setTrig (s : State) (t : Nat) (x : Trig) : State :=
  { s with ntm := { s.ntm with trigs := Tab.set Trig.reset s.ntm.trigs t x } }
def State.cap (s : State) (c : Nat) : Cap := Tab.get Cap.reset s.ntm.caps c
def State.setCap (s : State) (c : Nat) (x : Cap) : State :=
  { s with ntm := { s.ntm with caps := Tab.set Cap.reset s.ntm.caps c x } }
def State.tcSlot (s : State) (i : Nat) : Slot := Tab.get Slot.reset s.ntm.slots i
def State.setTcSlot (s : State) (i : Nat) (x : Slot) : State :=
  { s with ntm := { s.ntm with slots := Tab.set Slot.reset s.ntm.slots i x } }
def State.pc (s : State) (x : Nat) : PseudoCh := Tab.get PseudoCh.reset s.hrd.pcs x
def State.setPc (s : State) (x : Nat) (p : PseudoCh) : State :=
  { s with hrd := { s.hrd with pcs := Tab.set PseudoCh.reset s.hrd.pcs x p } }

def State.modNtm (s : State) (f : Ntm → Ntm) : State := { s with ntm := f s.ntm }
def State.modClk (s : State) (f : Clk → Clk) : State := { s with clk := f s.clk }
def State.modFlt (s : State) (f : Flt → Flt) : State := { s with flt := f s.flt }
def State.modBoot (s : State) (f : Boot → Boot) : State := { s with boot := f s.boot }
def State.modPwr (s : State) (f : Pwr → Pwr) : State := { s with pwr := f s.pwr }
def State.modPads (s : State) (f : Pads → Pads) : State := { s with pads := f s.pads }
def State.modHrd (s : State) (f : Hrd → Hrd) : State := { s with hrd := f s.hrd }
def State.modDsf (s : State) (f : Dsf → Dsf) : State := { s with dsf := f s.dsf }
def State.modAct (s : State) (f : Act → Act) : State := { s with act := f s.act }
def State.modLsc (s : State) (f : Lsc → Lsc) : State := { s with lsc := f s.lsc }
def State.modUsq (s : State) (f : Usq → Usq) : State := { s with usq := f s.usq }
def State.modLease (s : State) (f : TwnLease → TwnLease) : State := { s with twn := { s.twn with lease := f s.twn.lease } }
def State.modPeer (s : State) (f : TwnPeer → TwnPeer) : State := { s with twn := { s.twn with peer := f s.twn.peer } }
def State.modMir (s : State) (f : TwnMirror → TwnMirror) : State := { s with twn := { s.twn with mir := f s.twn.mir } }
def State.modLinkT (s : State) (f : TwnLink → TwnLink) : State := { s with twn := { s.twn with link := f s.twn.link } }
def State.modTest (s : State) (f : TwnTest → TwnTest) : State := { s with twn := { s.twn with test := f s.twn.test } }
def State.queue (s : State) (q : Nat) : Queue := Tab.get Queue.reset s.usq.queues q
def State.modQueue (s : State) (q : Nat) (f : Queue → Queue) : State :=
  { s with usq := { s.usq with queues := Tab.modify Queue.reset s.usq.queues q f } }
def State.ulink (s : State) (i : Nat) : ULink := Tab.get ULink.reset s.usq.links i
def State.modUlink (s : State) (i : Nat) (f : ULink → ULink) : State :=
  { s with usq := { s.usq with links := Tab.modify ULink.reset s.usq.links i f } }
def State.alloc (s : State) (a : Nat) : Alloc := Tab.get Alloc.reset s.usq.allocs a
def State.modAlloc (s : State) (a : Nat) (f : Alloc → Alloc) : State :=
  { s with usq := { s.usq with allocs := Tab.modify Alloc.reset s.usq.allocs a f } }
def State.ubtCh (s : State) (n : Nat) : UbtCh := Tab.get UbtCh.reset s.ubt n
def State.modUbt (s : State) (n : Nat) (f : UbtCh → UbtCh) : State :=
  { s with ubt := Tab.modify UbtCh.reset s.ubt n f }
def State.keys (s : State) (k : Nat) : LinkKeys := Tab.get LinkKeys.reset s.lsc.keys k
def State.setKeys (s : State) (k : Nat) (x : LinkKeys) : State :=
  { s with lsc := { s.lsc with keys := Tab.set LinkKeys.reset s.lsc.keys k x } }
def State.modTwn (s : State) (f : Twn → Twn) : State := { s with twn := f s.twn }

def State.modCls (s : State) (f : Cls → Cls) : State := { s with cls := f s.cls }
def State.port (s : State) (p : Nat) : HostPort := Tab.get HostPort.reset s.ports p
def State.modPort (s : State) (p : Nat) (f : HostPort → HostPort) : State :=
  { s with ports := Tab.modify HostPort.reset s.ports p f }

/-! ## Initiators (R575, R664) -/

/-- A semaphore is freed with ABANDONED. -/
def State.abandonSem (s : State) (k : Nat) : State := (s.setSem k ⟨15, true⟩).raise Reg.DEV_STATUS 0

/-- An initiator resets: its guards disarm, and its semaphores are freed with ABANDONED. The host management SPI loses a
semaphore only by DEV_SEM_FORCE. -/
def State.initiatorReset (s : State) (ini : Nat) : State :=
  let s := { s with guards := s.guards.filter (fun e => e.2.ini ≠ ini) }
  if ini = 0 then s
  else ((List.range 32).filter (fun k => (s.sem k).owner = ini)).foldl State.abandonSem s

/-! ## Conditions several chapters read -/

/-- A region is in reset. -/
def State.inReset (s : State) (die region : Nat) : Bool :=
  s.flt.resetting.any (fun r => srcDie r.source == die && srcRegion r.source == region)

/-- A region of the core die is in reset. -/
def State.coreReset (s : State) (region : Nat) : Bool := s.inReset 4 region

/-- A region in reset that stops reception of channel n (R705; CIF for every channel). -/
def State.rxRegionReset (s : State) (n : Nat) : Bool :=
  s.coreReset 13 || s.flt.resetting.any (fun r => srcDie r.source == n && [0, 10, 1, 2, 3, 4, 5].contains (srcRegion r.source))

/-- A region in reset that stops transmission of channel n (R705; CIF for every channel). -/
def State.txRegionReset (s : State) (n : Nat) : Bool :=
  s.coreReset 13 || s.flt.resetting.any (fun r => srcDie r.source == n && [0, 10, 6, 7, 8].contains (srcRegion r.source))

/-- Pod n is in service: its domain is on, it has passed calibration and is not calibrating (R143), and no fault reaction
has taken it offline (R611). -/
def State.podInService (s : State) (n : Nat) : Bool :=
  s.pwr.on.getLsbD n && !s.flt.podOffline.getLsbD n && !(s.pod n).calBusy && (s.pod n).calPass

/-- PODn_AMP_KILL_N is low: a trip is latched (R309), start-up holds the pads (R680), the TAP holds an instruction
(R700), or the Pod's domain is off (Table PWR-4). -/
def State.killLow (s : State) (n : Nat) : Bool :=
  s.pads.tripped.getLsbD n || s.pads.tap.isSome || decide (s.boot.step < 8) || !s.pwr.on.getLsbD n

/-- Channel n is enabled in DSF. -/
def State.chEnabled (s : State) (n : Nat) : Bool := s.rbit Reg.DSF_CTRL n

def State.mfSync (s : State) (n : Nat) : Bool := (s.chan n).mf == .sync

/-- R162: LOS, LOB or LOF declared; a channel asleep by a mode does not count as downstream-lost (R586). -/
def State.dsLost (s : State) (n : Nat) : Bool :=
  !(s.chan n).asleep && ((s.chan n).defects.getLsbD 0 || (s.chan n).defects.getLsbD 1 || (s.chan n).defects.getLsbD 2)

def State.actCh (s : State) (n : Nat) : ActCh := Tab.get ActCh.reset s.act.chans n
def State.modActCh (s : State) (n : Nat) (f : ActCh → ActCh) : State :=
  { s with act := { s.act with chans := Tab.modify ActCh.reset s.act.chans n f } }
/-- Channel n holds an RTD_n (R203). -/
def State.ranged (s : State) (n : Nat) : Bool := (s.actCh n).rtd.isSome

/-- A channel is time-eligible (before R320). -/
def State.timeEligible (s : State) (n : Nat) : Bool :=
  s.ranged n && s.mfSync n && !s.dsLost n && s.podInService n

/-- Instance 2 of the arbiter is frozen: all Hoard traffic stops (R445). -/
def State.hoardFrozen (s : State) : Bool := s.rbit (Reg.ARB_Ii_CTRL 2) 0

/-- MODE of a host port. -/
def State.portMode (s : State) (p : Nat) : Nat := s.fld (Reg.HPE_Pp_CFG p) 2 1
def State.portEn (s : State) (p : Nat) : Bool := s.rbit (Reg.HPE_Pp_CFG p) 0
/-- Lanes of a host port. -/
def State.portLanes (s : State) (p : Nat) : Nat := 2 ^ s.portMode p

/-- The SerDes quads of a port's lanes. -/
def State.portQuads (s : State) (p : Nat) : List Nat :=
  let base := s.fld (Reg.HPE_Pp_CFG p) 7 3
  (List.range 8).filter (fun q => decide (base < 4 * q + 4) && decide (4 * q < base + s.portLanes p))

/-- Every quad of the port is powered (domains Q0 to Q7 of Table PWR-1). -/
def State.portPowered (s : State) (p : Nat) : Bool := (s.portQuads p).all (fun q => s.pwr.on.getLsbD (5 + q))

/-- R387: the up state of a host port. With HOST_REFCLK lost no lane holds lock. -/
def State.portUp (s : State) (p : Nat) : Bool :=
  let x := s.port p
  s.portEn p && decide (x.locked.toNat % 2 ^ s.portLanes p = 2 ^ s.portLanes p - 1) && !x.localFault && !x.remoteFault &&
    s.clk.good.getLsbD 3 && s.portPowered p

/-- A change of what R387 reads. -/
def State.portCheck (s : State) (p : Nat) : State :=
  let up := s.portUp p
  if up = (s.port p).up then s else (s.modPort p (fun x => { x with up := up })).raise (Reg.HPE_Pp_STATUS p) 0

/-- The lowest channel number that meets a condition. -/
def lowestCh (p : Nat → Bool) : Option Nat := (List.range 4).find? p

end Sys2Proof.Machine
end

