-- ==== Sys2Proof/Machine/BootStore.lean ====
section
/-! DEFINITION. The stores a reset keeps (chapter 14): the fuses and the main NVM, and what is left in them where a write is
interrupted (R567, Table BOOT-11). -/

namespace Sys2Proof.Machine

/-- A free number of `n` bits. -/
def State.drawBits (s : State) (n : Nat) : Nat × State :=
  (List.range ((n + 31) / 32)).foldl (fun (r : Nat × State) i =>
    let (w, t) := r.2.drawWord
    ((r.1 + w.toNat * 2 ^ (32 * i)) % 2 ^ n, t)) (0, s)

/-! ## Fuses -/

/-- Bits of a field of Table BOOT-8; none past field 8. -/
def fuseBits (f : Nat) : Nat := [10, 20, 20, 384, 384, 384, 384, 4, 64].getD f 0

def State.setFuse (s : State) (f : Nat) (x : Fuse) : State :=
  s.modBoot (fun b => { b with fuses := Tab.set Fuse.blank b.fuses f x })

/-- A field whose programming fails or is interrupted holds an open value and is BAD (R567). -/
def State.breakFuse (s : State) (f : Nat) : State :=
  let (x, t) := s.drawBits (fuseBits f)
  t.setFuse f ⟨x, true, true⟩

/-! ## The NVM -/

/-- `n` bytes from address `a` on, of a table listed from `a` on; an unlisted byte is erased. -/
def fillFrom (t : Tab Byte) (a : Nat) : Nat → List Byte
  | 0 => []
  | n + 1 => match t with
    | [] => 0xFF :: fillFrom [] (a + 1) n
    | (j, v) :: r => if j = a then v :: fillFrom r (a + 1) n else 0xFF :: fillFrom ((j, v) :: r) (a + 1) n

def nvmBytes (t : Tab Byte) (a n : Nat) : List Byte := fillFrom (t.dropWhile (fun e => decide (e.1 < a))) a n

/-- Bytes from `a` on are replaced; an erased byte is not listed. -/
def nvmPut (t : Tab Byte) (a : Nat) (b : List Byte) : Tab Byte :=
  t.filter (fun e => decide (e.1 < a)) ++
    (((List.range b.length).zip b).map (fun e => (a + e.1, e.2))).filter (fun e => decide (e.2 ≠ 0xFF)) ++
    t.filter (fun e => decide (a + b.length ≤ e.1))

/-- Bytes that an erase clears. -/
def eraseSize (op : Nat) : Nat := if op = 3 then 4096 else 65536

def State.putNvm (s : State) (a : Nat) (b : List Byte) : State :=
  s.modBoot (fun x => { x with nvm := nvmPut x.nvm a b })

/-- The page or the sector an interrupted PROGRAM or ERASE leaves with open content (Table BOOT-11). -/
def State.nvmBroken (s : State) (o : NvmOp) : State :=
  let len := if o.op = 2 then 256 else if o.op = 3 ∨ o.op = 4 then eraseSize o.op else 0
  let base := if o.op = 2 then o.addr / 256 * 256 else o.addr
  let bytes := (List.range len).map (fun i => BitVec.ofNat 8 (Config.freeWord (s.fresh + i)).toNat)
  if len = 0 then s else ({ s with fresh := s.fresh + len }).putNvm base bytes

/-- A reset interrupts what is being programmed. -/
def State.breakBoot (s : State) : State :=
  let s := match s.boot.fuseBusy with
    | some (f, _) => s.breakFuse f
    | none => s
  let s := match s.boot.nvmBusy with
    | some o => s.nvmBroken o
    | none => s
  s.modBoot (fun b => { b with fuseBusy := none, nvmBusy := none })

end Sys2Proof.Machine
end

