-- ==== Sys2Proof/Machine/Clk.lean ====
section
/-! DEFINITION. Clocks and crossings (chapter 17), the time channel and the entry into holdover (R320, R325, R327),
which move the root, and the commands of the clock monitors, the root and the crossings. -/

namespace Sys2Proof.Machine

open Host (Outcome)

/-! ## The root (R625 to R632) -/

/-- R628: the root channel. -/
def State.chooseRootCh (s : State) : Option Nat :=
  if s.rbit Reg.CLK_CTRL 0 then
    match s.ntm.tch with
    | some n => some n
    | none =>
      match s.act.anchor with
      | some a => if s.mfSync a then some a else lowestCh (fun n => s.chEnabled n && s.mfSync n)
      | none => lowestCh (fun n => s.chEnabled n && s.mfSync n)
  else some (s.fld Reg.CLK_CTRL 2 1)

/-- The conditions of R629 that the block itself holds; the fourth is reported by DS_RANGE. -/
def State.mayQualify (s : State) (n : Nat) : Bool := s.mfSync n && !s.dsLost n && s.podInService n

/-- R627: the first source that applies. -/
def State.chooseSource (s : State) : RootSource :=
  if s.clk.forceRef then .ref
  else if s.ntm.state = .holdover then (if s.ntm.hrefInUse then .href else .hold)
  else
    match s.clk.rootCh with
    | some n => if s.clk.qualified.getLsbD n then .ds else if s.clk.dsUsed then .hold else .ref
    | none => if s.clk.dsUsed then .hold else .ref

/-- R630, R631: move the root to a source. The word a steered source settles at is measured, not stated: a free word. -/
def State.setSource (s : State) (src : RootSource) : State :=
  if src = s.clk.source then s else
  let leavingDs := s.clk.source = .ds
  let (frozen, s) := if leavingDs then s.drawWord else (s.clk.holdWord.getD 0, s)
  let s := if leavingDs then (s.modClk (fun c => { c with holdWord := some frozen, dsLock := false })).bump
    Reg.CLK_CNT_DS_LOSS else s
  let (steered, s) := if src = .ds ∨ src = .href then s.drawWord else (0, s)
  let w := match src with
    | .ref => 0
    | .hold => s.clk.holdWord.getD 0
    | _ => steered
  ((s.modClk (fun c => { c with source := src, word := w, dsUsed := c.dsUsed || src = .ds })).raise
    Reg.CLK_STATUS 0).bump Reg.CLK_CNT_SRC_CHG

/-- The root after any change of what R627 to R629 read: channels that fail a condition of R629 lose qualification, the
root channel and the source are chosen again. -/
def State.reroot (s : State) : State :=
  let q := (List.range 4).foldl (fun (q : BitVec 4) n => if s.mayQualify n then q else putBit q n false) s.clk.qualified
  let lostLock := s.clk.dsLock
  let s := s.modClk (fun c => { c with qualified := q })
  let s := s.modClk (fun c => { c with rootCh := s.chooseRootCh })
  let s := s.setSource s.chooseSource
  s.raiseIf (lostLock && !s.clk.dsLock) Reg.CLK_STATUS 1

/-! ## Time channel and holdover -/

/-- R320: the time channel. -/
def State.chooseTch (s : State) : Option Nat :=
  if s.rbit Reg.NTM_CTRL 4 then
    let n := s.fld Reg.NTM_CTRL 6 5
    if s.timeEligible n then some n else none
  else
    match s.act.anchor with
    | some a => if s.timeEligible a then some a else lowestCh s.timeEligible
    | none => lowestCh s.timeEligible

/-- A change of time state (R324). -/
def State.setTimeState (s : State) (st : TimeState) : State :=
  if s.ntm.state = st then s else
  let last := if st = .locked then none else s.ntm.hrefLast
  let last := if s.ntm.state = .locked then none else last
  (s.modNtm (fun n => { n with state := st, lockCount := 0, hrefLast := last })).raise Reg.NTM_STATUS 0

/-- R325, R327: holdover is entered from ACQUIRE or LOCKED. -/
def State.enterHoldover (s : State) (forced : Bool) : State :=
  if s.ntm.state = .acquire ∨ s.ntm.state = .locked then
    let useHref := s.rbit Reg.NTM_CTRL 2 && s.ntm.hrefValid
    let s := s.modNtm (fun n => { n with
      holdAt := s.ticks, specEnded := false, hrefInUse := useHref, prevTick := none
      rate := if useHref then n.hrefRate else n.rateI })
    let s := (s.setTimeState .holdover).modNtm (fun n => { n with forced := forced })
    (s.raise Reg.NTM_STATUS 2).bump Reg.NTM_CNT_HOLD
  else if s.ntm.state = .holdover then s.modNtm (fun n => { n with forced := n.forced || forced })
  else s

/-- Every rule that watches channel conditions, taken once at the end of a command that may change one: the time channel
(R320), holdover when none is time-eligible (R325), the root (R627 to R629). -/
def State.reconsider (s : State) : State :=
  let t := s.chooseTch
  let s := if t = s.ntm.tch then s else
    (s.modNtm (fun n => { n with tch := t, prevTick := none })).raise Reg.NTM_STATUS 6
  let s := if (List.range 4).any s.timeEligible then s else
    (if s.ntm.state = .acquire ∨ s.ntm.state = .locked then s.enterHoldover false else s)
  s.reroot

/-! ## Crossings (R635 to R645) -/

/-- KIND, FROM and TO of a crossing (Table CLK-4). -/
def crossingKind (x : Nat) : Nat × Nat × Nat :=
  if x < 32 then
    let p := 1 + x / 8
    match x % 8 with
    | 0 => (2, p, 5)
    | 1 => (2, p, 5)
    | 2 => (1, p, 5)
    | 3 => (2, 5, p)
    | 4 => (2, 5, p)
    | 5 => (1, 6, p)
    | 6 => (3, 5, p)
    | _ => (3, p, 5)
  else if x < 36 then (if x < 34 then 1 else 3, if x = 33 then 5 else 6, if x = 33 then 6 else 5)
  else if x < 44 then (2, 8 + (x - 36), 5)
  else if x < 52 then (2, 5, 7)
  else if x < 60 then (4, 8 + (x - 52), 6)
  else if x < 68 then (4, 7, 6)
  else if x < 70 then (2, 5, 16 + (x - 68))
  else if x = 70 then (2, 5, 18)
  else if x = 71 then (2, 18, 5)
  else if x = 72 then (4, 18, 6)
  else if x < 77 then (4, 24, 6)
  else if x = 77 then (4, 22, 6)
  else if x = 78 then (2, 21, 5)
  else if x = 79 then (2, 5, 23)
  else if x = 80 then (2, 24, 5)
  else (3, 5, 21)

/-- R640: an item or event lost at a crossing. -/
def State.overrun (s : State) (x : Nat) : State :=
  let first := !(s.crossing x).ovrFlag
  let s := s.modCrossing x (fun c => { c with ovrFlag := true, overrun := c.overrun + 1 })
  let s := (s.raise Reg.CLK_STATUS 5).bump Reg.CLK_CNT_OVERRUN
  let s := s.setReg Reg.CLK_X_LAST (packWord [(x, 8, 0), (s.fld Reg.CLK_X_LAST 15 8, 8, 8), (1, 1, 16)])
  if first then s.fault (sourceId 4 0 0 0) 0x07 x 0
  else
    { s with flt := { s.flt with offered := s.flt.offered.map (fun m =>
        if m.source = sourceId 4 0 0 0 ∧ m.kind = 0x07 then { m with flags := putBit m.flags flagRepeat true } else m) } }

/-- R643: a crossing's handshake begins: both ends are cleared. -/
def State.resyncStart (s : State) (x flushed : Nat) : State :=
  s.modCrossing x (fun c => { c with
    resyncing := true, ovrFlag := false, flush := c.flush + BitVec.ofNat 48 flushed, resync := c.resync + 1 })
  |>.bump Reg.CLK_CNT_RESYNC

/-- Crossings a reset of a region resynchronises: those that end in the region (the model's assignment). -/
def regionCrossings (source : BitVec 18) : List Nat :=
  let die := srcDie source
  let n := 8 * die
  if die < 4 then
    match srcRegion source with
    | 0 => [n + 4, n + 6, n + 7]
    | 1 => [n, n + 1, n + 2]
    | 2 => [n, n + 1, n + 5]
    | 5 => [n]
    | 6 => [n + 3]
    | 7 => [n + 3, n + 5]
    | 10 => (List.range 8).map (n + ·)
    | _ => []
  else
    match srcRegion source with
    | 0 => [78, 79, 80, 81]
    | 2 => [32, 33, 34, 35] ++ (List.range 16).map (52 + ·) ++ (List.range 6).map (72 + ·)
    | 3 => [0, 8, 16, 24, 1, 9, 17, 25]
    | 5 => [3, 11, 19, 27]
    | 7 => (List.range 16).map (36 + ·)
    | 9 => [68, 69]
    | 11 => [70, 71]
    | 13 => List.range 32
    | _ => []

/-! ## Commands -/

/-- `ROOT_QUALIFY` (R629): the root channel has met every condition for 10 ms. -/
def execRootQualify (ch : Chan) (s : State) : Outcome State Fault Refusal :=
  let s := s.reroot
  if s.clk.rootCh = some ch.val ∧ s.mayQualify ch then
    done ((s.modClk (fun c => { c with qualified := putBit c.qualified ch true })).reroot)
  else done s

/-- `DS_RANGE` (R629): the root channel's recovered clock is out of range. -/
def execDsRange (s : State) : Outcome State Fault Refusal :=
  let s := s.raise Reg.CLK_STATUS 2
  match s.clk.rootCh with
  | some n => done ((s.modClk (fun c => { c with qualified := putBit c.qualified n false })).reroot)
  | none => done s

/-- `DS_LOCK` (R632): in DS, the phase error has stayed within 1,024 pp for 10 ms. -/
def execDsLock (phase : Int) (s : State) : Outcome State Fault Refusal :=
  if s.clk.source = .ds then
    let s' := s.modClk (fun c => { c with phaseErr := phase })
    if phase.natAbs ≤ 1024 ∧ !s.clk.dsLock then
      done ((s'.modClk (fun c => { c with dsLock := true })).raise Reg.CLK_STATUS 1)
    else done s'
  else done s

/-- `DS_LOCK_LOSS` (R632): the phase error exceeds 4,096 pp. -/
def execDsLockLoss (phase : Int) (s : State) : Outcome State Fault Refusal :=
  if s.clk.source = .ds then
    let s' := s.modClk (fun c => { c with phaseErr := phase })
    if 4096 < phase.natAbs ∧ s.clk.dsLock then
      done ((s'.modClk (fun c => { c with dsLock := false })).raise Reg.CLK_STATUS 1)
    else done s'
  else done s

/-- `FREQ_DONE` (R647): the measurement loads CLK_FREQ, a signed 31-bit ppb count with VALID. -/
def execFreqDone (ppb : Int) (s : State) : Outcome State Fault Refusal :=
  if s.clk.freqBusy then
    let s := s.setReg Reg.CLK_FREQ (BitVec.ofInt 32 (ppb % 2 ^ 31) ||| 0x80000000)
    done ((s.modClk (fun c => { c with freqBusy := false })).raise Reg.CLK_STATUS 7)
  else done s

/-- `RESYNC_DONE` (R643): the handshake of a crossing completes; a region in reset that waits only for it leaves reset. -/
def execResyncDone (x : Fin 82) (s : State) : Outcome State Fault Refusal :=
  let s := s.modCrossing x (fun c => { c with resyncing := false })
  let left := (s.flt.resetting.map (fun r => { r with crossings := r.crossings.filter (· ≠ x.val) })).filter
    (fun r => !r.crossings.isEmpty)
  done ((s.modFlt (fun f => { f with resetting := left })).reconsider)

/-- `RESYNC_TIMEOUT` (R645): a fault, and the handshake starts again. -/
def execResyncTimeout (x : Fin 82) (s : State) : Outcome State Fault Refusal :=
  if (s.crossing x).resyncing then
    let s := (s.raise Reg.CLK_STATUS 6).bump Reg.CLK_CNT_RESYNC_TO
    let s := s.setReg Reg.CLK_X_LAST (packWord [(s.fld Reg.CLK_X_LAST 7 0, 8, 0), (x, 8, 8), (1, 1, 16)])
    done ((s.fault (sourceId 4 0 0 0) 0x05 x 0).resyncStart x 0)
  else done s

end Sys2Proof.Machine
end

