-- ==== Sys2Proof/Machine/Crypto.lean ====
section
/-! DEFINITION. The checks and ciphers the spec names by their standards: CRC-16, CRC-32, CRC-32C, AES-256 with its
modes CMAC, GCM and Key Wrap, the KDF of NIST SP 800-108 in counter mode, SHA-384 and ECDSA over P-384. Byte strings are
lists, first byte first. -/

namespace Sys2Proof.Crypto

/-! ## Byte strings -/

/-- `n` bytes of a number, most significant first. -/
def beBytes (n v : Nat) : List Byte := (List.range n).map (fun i => BitVec.ofNat 8 (v / 256 ^ (n - 1 - i)))

/-- The number a byte string holds, most significant byte first. -/
def beNat (b : List Byte) : Nat := b.foldl (fun a x => a * 256 + x.toNat) 0

/-- `n` bytes of a number, least significant first. -/
def leBytes (n v : Nat) : List Byte := (List.range n).map (fun i => BitVec.ofNat 8 (v / 256 ^ i))

def leNat (b : List Byte) : Nat := b.foldr (fun x a => a * 256 + x.toNat) 0

def xorBytes (a b : List Byte) : List Byte := a.zipWith (· ^^^ ·) b

/-- The bytes at an offset. -/
def slice (b : List Byte) (off n : Nat) : List Byte := (b.drop off).take n

/-- Pieces of `k` bytes; `fuel` bounds their number. -/
def pieces (k : Nat) (b : List Byte) : Nat → List (List Byte)
  | 0 => []
  | fuel + 1 => if b.isEmpty then [] else b.take k :: pieces k (b.drop k) fuel

def blocks (b : List Byte) : List (List Byte) := pieces 16 b (b.length / 16 + 1)

/-! ## CRCs -/

/-- CRC-16 of R61: polynomial 0x1021, initial value 0xFFFF, no reflection. -/
def crc16 (b : List Byte) : BitVec 16 :=
  b.foldl (fun (c : BitVec 16) x =>
    (List.range 8).foldl (fun c _ => if c.msb then (c <<< 1) ^^^ 0x1021#16 else c <<< 1)
      (c ^^^ BitVec.ofNat 16 (x.toNat * 256))) 0xFFFF#16

/-- One byte of a reflected 32-bit CRC. -/
def crcByte (poly : Word) (c : Word) (x : Byte) : Word :=
  (List.range 8).foldl (fun c _ => if c.getLsbD 0 then (c >>> 1) ^^^ poly else c >>> 1) (c ^^^ x.setWidth 32)

/-- CRC-32 of R704. -/
def crc32 (b : List Byte) : Word := ~~~ (b.foldl (crcByte 0xEDB88320#32) 0xFFFFFFFF#32)

/-- CRC-32C started from a register value, not inverted (R408). -/
def crc32cRaw (init : Word) (b : List Byte) : Word := b.foldl (crcByte 0x82F63B78#32) init

/-! ## AES-256 (FIPS 197) -/

/-- The substitution table, a row of 16 bytes to a number, the first most significant. -/
def sbox : List Nat :=
  [0x637c777bf26b6fc53001672bfed7ab76,
   0xca82c97dfa5947f0add4a2af9ca472c0,
   0xb7fd9326363ff7cc34a5e5f171d83115,
   0x04c723c31896059a071280e2eb27b275,
   0x09832c1a1b6e5aa0523bd6b329e32f84,
   0x53d100ed20fcb15b6acbbe394a4c58cf,
   0xd0efaafb434d338545f9027f503c9fa8,
   0x51a3408f929d38f5bcb6da2110fff3d2,
   0xcd0c13ec5f974417c4a77e3d645d1973,
   0x60814fdc222a908846eeb814de5e0bdb,
   0xe0323a0a4906245cc2d3ac629195e479,
   0xe7c8376d8dd54ea96c56f4ea657aae08,
   0xba78252e1ca6b4c6e8dd741f4bbd8b8a,
   0x703eb5664803f60e613557b986c11d9e,
   0xe1f8981169d98e949b1e87e9ce5528df,
   0x8ca1890dbfe6426841992d0fb054bb16]

def invSbox : List Nat :=
  [0x52096ad53036a538bf40a39e81f3d7fb,
   0x7ce339829b2fff87348e4344c4dee9cb,
   0x547b9432a6c2233dee4c950b42fac34e,
   0x082ea16628d924b2765ba2496d8bd125,
   0x72f8f66486689816d4a45ccc5d65b692,
   0x6c704850fdedb9da5e154657a78d9d84,
   0x90d8ab008cbcd30af7e45805b8b34506,
   0xd02c1e8fca3f0f02c1afbd0301138a6b,
   0x3a9111414f67dcea97f2cfcef0b4e673,
   0x96ac7422e7ad3585e2f937e81c75df6e,
   0x47f11a711d29c5896fb7620eaa18be1b,
   0xfc563e4bc6d279209adbc0fe78cd5af4,
   0x1fdda8338807c731b11210592780ec5f,
   0x60517fa919b54a0d2de57a9f93c99cef,
   0xa0e03b4dae2af5b0c8ebbb3c83539961,
   0x172b047eba77d626e169146355210c7d]

/-- The byte of a table of 16 rows. The cipher works on a block, a round key or a word as one number, its first byte most
significant, by operations of `Nat` that the kernel computes. -/
def tableByte (t : List Nat) (x : Nat) : Nat :=
  Nat.mod (Nat.shiftRight (t.getD (Nat.div x 16) 0) (Nat.mul 8 (Nat.sub 15 (Nat.mod x 16)))) 256

/-- Byte `i` of a block. -/
def byteAt (s i : Nat) : Nat := Nat.mod (Nat.shiftRight s (Nat.mul 8 (Nat.sub 15 i))) 256

/-- The block of 16 bytes given by their places. -/
def ofBytes (f : Nat → Nat) : Nat := (List.range 16).foldl (fun a i => Nat.add (Nat.mul 256 a) (f i)) 0

/-- SubBytes and ShiftRows, and their inverses. -/
def subShift (s : Nat) : Nat := ofBytes (fun i => tableByte sbox (byteAt s ((i + 4 * (i % 4)) % 16)))
def invSubShift (s : Nat) : Nat := ofBytes (fun i => tableByte invSbox (byteAt s ((i + 12 * (i % 4)) % 16)))

/-- Every byte multiplied by x in GF(2^8). -/
def xtime (s : Nat) : Nat :=
  Nat.xor (Nat.mul 2 (Nat.land s 0x7F7F7F7F7F7F7F7F7F7F7F7F7F7F7F7F))
    (Nat.mul 0x1B (Nat.land (Nat.shiftRight s 7) 0x01010101010101010101010101010101))

/-- Every byte in the place of the one above it in its column, the first in the last place. -/
def rotColumns (s : Nat) : Nat :=
  Nat.lor (Nat.mul 256 (Nat.land s 0x00FFFFFF00FFFFFF00FFFFFF00FFFFFF))
    (Nat.land (Nat.shiftRight s 24) 0x000000FF000000FF000000FF000000FF)

/-- Every column multiplied by the circulant of 2, 3, 1, 1. -/
def mixColumns (s : Nat) : Nat :=
  let r := rotColumns s
  Nat.xor (xtime (Nat.xor s r)) (Nat.xor r (Nat.xor (rotColumns r) (rotColumns (rotColumns r))))

/-- Every column multiplied by the circulant of 14, 11, 13, 9: that of 5, 0, 4, 0 before that of 2, 3, 1, 1. -/
def invMixColumns (s : Nat) : Nat :=
  mixColumns (Nat.xor s (xtime (xtime (Nat.xor s (rotColumns (rotColumns s))))))

def subWord (w : Nat) : Nat :=
  [24, 16, 8, 0].foldl (fun a i => Nat.add (Nat.mul 256 a) (tableByte sbox (Nat.mod (Nat.shiftRight w i) 256))) 0

/-- The next word of the key schedule after `prev`, `i` words in, from the word eight before it. -/
def nextWord (i prev back : Nat) : Nat :=
  Nat.xor back (if i % 8 = 0 then
      Nat.xor (subWord (Nat.add (Nat.mul 256 (Nat.mod prev (2 ^ 24))) (Nat.shiftRight prev 24))) (2 ^ (23 + i / 8))
    else if i % 8 = 4 then subWord prev else prev)

/-- The 60 words of the key schedule; `ws` holds those made so far, newest first. -/
def expandFrom (ws : List Nat) : Nat → List Nat
  | 0 => ws
  | k + 1 => expandFrom (nextWord ws.length (ws.getD 0 0) (ws.getD 7 0) :: ws) k

/-- Four words of the key schedule at a time. -/
def fours : List Nat → List Nat
  | a :: b :: c :: d :: r => Nat.add (Nat.mul (2 ^ 32) (Nat.add (Nat.mul (2 ^ 32) (Nat.add (Nat.mul (2 ^ 32) a) b)) c)) d
      :: fours r
  | _ => []

/-- The 15 round keys. -/
def roundKeys (key : List Byte) : List Nat :=
  fours (expandFrom ((pieces 4 key 8).map beNat).reverse 52).reverse

/-- AES-256 of one block. -/
def aes (key blk : List Byte) : List Byte :=
  match roundKeys key with
  | [] => []
  | k0 :: ks =>
    let s := (ks.take 13).foldl (fun s k => Nat.xor (mixColumns (subShift s)) k) (Nat.xor (beNat blk) k0)
    beBytes 16 (Nat.xor (subShift s) (ks.getD 13 0))

/-- The inverse cipher. -/
def aesInv (key blk : List Byte) : List Byte :=
  match (roundKeys key).reverse with
  | [] => []
  | k14 :: ks =>
    let s := (ks.take 13).foldl (fun s k => invMixColumns (Nat.xor (invSubShift s) k)) (Nat.xor (beNat blk) k14)
    beBytes 16 (Nat.xor (invSubShift s) (ks.getD 13 0))

/-! ## CMAC (NIST SP 800-38B) and the KDF of SP 800-108 -/

/-- Doubling in GF(2^128). -/
def dbl (b : List Byte) : List Byte :=
  let n := beNat b
  beBytes 16 (if 2 ^ 127 ≤ n then (2 * n % 2 ^ 128) ^^^ 0x87 else 2 * n)

def cmac (key msg : List Byte) : List Byte :=
  let k1 := dbl (aes key (List.replicate 16 0))
  let bs := blocks msg
  let n := max bs.length 1 - 1
  let last := bs.getD n []
  let tail := if last.length = 16 then xorBytes last k1
    else xorBytes (last ++ [0x80#8] ++ List.replicate (15 - last.length) 0) (dbl k1)
  aes key (xorBytes tail ((bs.take n).foldl (fun c b => aes key (xorBytes c b)) (List.replicate 16 0)))

/-! ## GCM (NIST SP 800-38D) -/

/-- Product in GF(2^128) as GCM numbers bits. -/
def ghashMul (x y : Nat) : Nat :=
  ((List.range 128).foldl (fun (s : Nat × Nat) i =>
    (if x.testBit (127 - i) then s.1 ^^^ s.2 else s.1,
      if s.2.testBit 0 then (s.2 / 2) ^^^ (0xE1 * 2 ^ 120) else s.2 / 2)) (0, y)).1

/-- Zero bytes up to a whole block. -/
def padBlock (b : List Byte) : List Byte := b ++ List.replicate ((16 - b.length % 16) % 16) 0

def ghash (h : Nat) (data : List Byte) : Nat :=
  (blocks data).foldl (fun a b => ghashMul (a ^^^ beNat b) h) 0

/-- Counter mode from a counter block, which is incremented before each use. -/
def ctrMode (key : List Byte) (j : Nat) (data : List Byte) : List Byte :=
  ((blocks data).foldl (fun (s : Nat × List (List Byte)) b =>
    let j := s.1 / 2 ^ 32 * 2 ^ 32 + (s.1 + 1) % 2 ^ 32
    (j, xorBytes b (aes key (beBytes 16 j)) :: s.2)) (j, [])).2.reverse.flatten

/-- The tag over additional data and ciphertext, with a 96-bit IV. -/
def gcmTag (key iv aad ct : List Byte) : List Byte :=
  let h := beNat (aes key (List.replicate 16 0))
  let s := ghash h (padBlock aad ++ padBlock ct ++ beBytes 8 (8 * aad.length) ++ beBytes 8 (8 * ct.length))
  xorBytes (beBytes 16 s) (aes key (iv ++ [0, 0, 0, 1]))

/-- Encryption: ciphertext and tag. -/
def gcmSeal (key iv aad pt : List Byte) : List Byte × List Byte :=
  let ct := ctrMode key (beNat (iv ++ [0, 0, 0, 1])) pt
  (ct, gcmTag key iv aad ct)

/-- Decryption: the plaintext where the tag verifies. -/
def gcmOpen (key iv aad ct tag : List Byte) : Option (List Byte) :=
  if gcmTag key iv aad ct = tag then some (ctrMode key (beNat (iv ++ [0, 0, 0, 1])) ct) else none

/-! ## AES Key Wrap (NIST SP 800-38F, KW) -/

/-- Unwrap: the key data where the integrity check holds. -/
def kwUnwrap (kek wrapped : List Byte) : Option (List Byte) :=
  let n := wrapped.length / 8 - 1
  let r := pieces 8 (wrapped.drop 8) (n + 1)
  let step (s : List Byte × List (List Byte)) (t : Nat) : List Byte × List (List Byte) :=
    let i := (t - 1) % n
    let b := aesInv kek (beBytes 8 (beNat s.1 ^^^ t) ++ s.2.getD i [])
    (b.take 8, s.2.set i (b.drop 8))
  let (a, r) := ((List.range (6 * n)).map (fun k => 6 * n - k)).foldl step (wrapped.take 8, r)
  if a = List.replicate 8 0xA6#8 then some r.flatten else none

/-- Wrap. -/
def kwWrap (kek key : List Byte) : List Byte :=
  let n := key.length / 8
  let step (s : List Byte × List (List Byte)) (t : Nat) : List Byte × List (List Byte) :=
    let i := (t - 1) % n
    let b := aes kek (s.1 ++ s.2.getD i [])
    (beBytes 8 (beNat (b.take 8) ^^^ t), s.2.set i (b.drop 8))
  let (a, r) := ((List.range (6 * n)).map (· + 1)).foldl step (List.replicate 8 0xA6#8, pieces 8 key (n + 1))
  a ++ r.flatten

/-! ## SHA-384 (FIPS 180-4) -/

def shaK : List Nat :=
  [0x428a2f98d728ae22, 0x7137449123ef65cd, 0xb5c0fbcfec4d3b2f, 0xe9b5dba58189dbbc, 0x3956c25bf348b538] ++
  [0x59f111f1b605d019, 0x923f82a4af194f9b, 0xab1c5ed5da6d8118, 0xd807aa98a3030242, 0x12835b0145706fbe] ++
  [0x243185be4ee4b28c, 0x550c7dc3d5ffb4e2, 0x72be5d74f27b896f, 0x80deb1fe3b1696b1, 0x9bdc06a725c71235] ++
  [0xc19bf174cf692694, 0xe49b69c19ef14ad2, 0xefbe4786384f25e3, 0x0fc19dc68b8cd5b5, 0x240ca1cc77ac9c65] ++
  [0x2de92c6f592b0275, 0x4a7484aa6ea6e483, 0x5cb0a9dcbd41fbd4, 0x76f988da831153b5, 0x983e5152ee66dfab] ++
  [0xa831c66d2db43210, 0xb00327c898fb213f, 0xbf597fc7beef0ee4, 0xc6e00bf33da88fc2, 0xd5a79147930aa725] ++
  [0x06ca6351e003826f, 0x142929670a0e6e70, 0x27b70a8546d22ffc, 0x2e1b21385c26c926, 0x4d2c6dfc5ac42aed] ++
  [0x53380d139d95b3df, 0x650a73548baf63de, 0x766a0abb3c77b2a8, 0x81c2c92e47edaee6, 0x92722c851482353b] ++
  [0xa2bfe8a14cf10364, 0xa81a664bbc423001, 0xc24b8b70d0f89791, 0xc76c51a30654be30, 0xd192e819d6ef5218] ++
  [0xd69906245565a910, 0xf40e35855771202a, 0x106aa07032bbd1b8, 0x19a4c116b8d2d0c8, 0x1e376c085141ab53] ++
  [0x2748774cdf8eeb99, 0x34b0bcb5e19b48a8, 0x391c0cb3c5c95a63, 0x4ed8aa4ae3418acb, 0x5b9cca4f7763e373] ++
  [0x682e6ff3d6b2b8a3, 0x748f82ee5defb2fc, 0x78a5636f43172f60, 0x84c87814a1f0ab72, 0x8cc702081a6439ec] ++
  [0x90befffa23631e28, 0xa4506cebde82bde9, 0xbef9a3f7b2c67915, 0xc67178f2e372532b, 0xca273eceea26619c] ++
  [0xd186b8c721c0c207, 0xeada7dd6cde0eb1e, 0xf57d4f7fee6ed178, 0x06f067aa72176fba, 0x0a637dc5a2c898a6] ++
  [0x113f9804bef90dae, 0x1b710b35131c471b, 0x28db77f523047d84, 0x32caab7b40c72493, 0x3c9ebe0a15c9bebc] ++
  [0x431d67c49c100d4c, 0x4cc5d4becb3e42b6, 0x597f299cfc657e2a, 0x5fcb6fab3ad6faec, 0x6c44198c4a475817]

def shaInit : List Nat :=
  [0xcbbb9d5dc1059ed8, 0x629a292a367cd507, 0x9159015a3070dd17, 0x152fecd8f70e5939, 0x67332667ffc00b31, 0x8eb44a8768581511, 0xdb0c2e0d64f98fa7, 0x47b5481dbefa4fa4]

/-- A sum in 64 bits. -/
def add64 (x y : Nat) : Nat := Nat.mod (Nat.add x y) 18446744073709551616

/-- A word of 64 bits rotated right. -/
def rotr64 (x n : Nat) : Nat := Nat.lor (Nat.shiftRight x n) (Nat.mod (Nat.shiftLeft x (Nat.sub 64 n)) 18446744073709551616)

def sigma0 (x : Nat) : Nat := Nat.xor (Nat.xor (rotr64 x 1) (rotr64 x 8)) (Nat.shiftRight x 7)
def sigma1 (x : Nat) : Nat := Nat.xor (Nat.xor (rotr64 x 19) (rotr64 x 61)) (Nat.shiftRight x 6)
def bigSigma0 (x : Nat) : Nat := Nat.xor (Nat.xor (rotr64 x 28) (rotr64 x 34)) (rotr64 x 39)
def bigSigma1 (x : Nat) : Nat := Nat.xor (Nat.xor (rotr64 x 14) (rotr64 x 18)) (rotr64 x 41)

/-- The message schedule; `ws` holds the words made so far, newest first. -/
def shaSchedule (ws : List Nat) : Nat → List Nat
  | 0 => ws
  | k + 1 =>
    shaSchedule (add64 (add64 (sigma1 (ws.getD 1 0)) (ws.getD 6 0)) (add64 (sigma0 (ws.getD 14 0)) (ws.getD 15 0)) :: ws) k

/-- One round, with its constant and its word of the schedule. -/
def shaRound (h : List Nat) (kw : Nat × Nat) : List Nat :=
  match h with
  | [a, b, c, d, e, f, g, hh] =>
    let ch := Nat.xor (Nat.land e f) (Nat.land (Nat.xor e 18446744073709551615) g)
    let t1 := add64 (add64 (add64 hh (bigSigma1 e)) (add64 ch kw.1)) kw.2
    let t2 := add64 (bigSigma0 a) (Nat.xor (Nat.xor (Nat.land a b) (Nat.land a c)) (Nat.land b c))
    [add64 t1 t2, a, b, c, add64 d t1, e, f, g]
  | _ => h

def shaBlock (h : List Nat) (blk : List Byte) : List Nat :=
  let ws := (shaSchedule ((pieces 8 blk 16).map beNat).reverse 64).reverse
  h.zipWith add64 ((shaK.zip ws).foldl shaRound h)

/-- SHA-384, as 48 bytes. -/
def sha384 (b : List Byte) : List Byte :=
  let pad := b ++ [0x80#8] ++ List.replicate ((239 - b.length % 128) % 128) 0 ++ beBytes 16 (8 * b.length)
  let h := (pieces 128 pad (pad.length / 128 + 1)).foldl shaBlock shaInit
  (h.take 6).flatMap (fun x => beBytes 8 x)

/-! ## ECDSA over P-384 (FIPS 186) -/

def p384 : Nat := 2 ^ 384 - 2 ^ 128 - 2 ^ 96 + 2 ^ 32 - 1
def n384 : Nat :=
  0xffffffffffffffffffffffffffffffffffffffffffffffffc7634d81f4372ddf581a0db248b0a77aecec196accc52973
def b384 : Nat :=
  0xb3312fa7e23ee7e4988e056be3f82d19181d9c6efe8141120314088f5013875ac656398d8a2ed19d2a85c8edd3ec2aef
def g384 : Nat × Nat :=
  (0xaa87ca22be8b05378eb1c71ef320ad746e1d3b628ba79b9859f741e082542a385502f25dbf55296c3a545e3872760ab7,
    0x3617de4a96262c6f5d9e98bf9292dc29f8f41dbd289a147ce9da3113b5f0b8c00a60b1ce1d7e819d7a431d7c90ea0e5f)

/-- Powers modulo `m`, for exponents of at most `fuel` bits. -/
def powMod (m b e : Nat) : Nat → Nat
  | 0 => 1 % m
  | fuel + 1 =>
    let h := powMod m (b * b % m) (e / 2) fuel
    if e % 2 = 1 then h * b % m else h

/-- The inverse modulo a prime of 384 bits. -/
def invMod (m a : Nat) : Nat := powMod m a (m - 2) 384

/-- A point of P-384 as (X, Y, Z): it stands for (X / Z², Y / Z³), and Z = 0 for the point at infinity. -/
abbrev EcPoint := Nat × Nat × Nat

def ecDouble : EcPoint → EcPoint
  | (x, y, z) =>
    let d := z * z % p384
    let g := y * y % p384
    let b := x * g % p384
    let a := 3 * ((x + p384 - d) * (x + d) % p384) % p384
    let x3 := (a * a + 8 * p384 - 8 * b) % p384
    (x3, (a * (4 * b + p384 - x3) + 8 * p384 * p384 - 8 * g * g) % p384, 2 * y * z % p384)

def ecAdd : EcPoint → EcPoint → EcPoint
  | (x1, y1, z1), (x2, y2, z2) =>
    if z1 = 0 then (x2, y2, z2)
    else if z2 = 0 then (x1, y1, z1)
    else
      let w1 := z1 * z1 % p384
      let w2 := z2 * z2 % p384
      let u := x1 * w2 % p384
      let v := y1 * (w2 * z2) % p384
      let h := (x2 * w1 + p384 - u) % p384
      let r := (y2 * (w1 * z1) + p384 - v) % p384
      if h = 0 then (if r = 0 then ecDouble (x1, y1, z1) else (0, 1, 0))
      else
        let h2 := h * h % p384
        let h3 := h * h2 % p384
        let q := u * h2 % p384
        let x3 := (r * r + 3 * p384 - h3 - 2 * q) % p384
        (x3, (r * (q + p384 - x3) + p384 * p384 - v * h3) % p384, h * (z1 * z2) % p384)

def ecMul (k : Nat) (p : EcPoint) : Nat → EcPoint
  | 0 => (0, 1, 0)
  | fuel + 1 =>
    let h := ecMul (k / 2) (ecDouble p) fuel
    if k % 2 = 1 then ecAdd h p else h

/-- Signature check of a digest: public key x and y, signature r and s, 48 bytes each. -/
def ecdsaOk (digest pub sig : List Byte) : Bool :=
  let e := beNat digest
  let x := beNat (pub.take 48)
  let y := beNat (pub.drop 48)
  let r := beNat (sig.take 48)
  let s := beNat (sig.drop 48)
  let onCurve := decide (x < p384) && decide (y < p384) && (y * y % p384 == (x * x * x + (p384 - 3) * x + b384) % p384)
  if onCurve && decide (0 < r) && decide (r < n384) && decide (0 < s) && decide (s < n384) then
    let w := invMod n384 s
    let (px, _, pz) := ecAdd (ecMul (e * w % n384) (g384.1, g384.2, 1) 384) (ecMul (r * w % n384) (x, y, 1) 384)
    let i := invMod p384 pz
    pz != 0 && px * (i * i) % p384 % n384 == r
  else false

end Sys2Proof.Crypto
end

