-- ==== Sys2Proof/Machine/TwinMsg.lean ====
section
/-! DEFINITION. Messages of the twin link (R516) and the NTIME field, as the chapters that send them use them. -/

namespace Sys2Proof.Machine

open Crypto (beBytes beNat slice)

/-! ## Twin-link messages (R516) -/

/-- The class of a message (Table TWN-3). -/
def twinClass (type : Nat) : Nat :=
  if type ≤ 0x06 then 1
  else if type ≤ 0x11 then 2
  else if type ≤ 0x21 then 3
  else if type ≤ 0x33 then 4
  else if type ≤ 0x43 then 5
  else 6

/-- A message can be sent: the link is up, no loop runs, and, but for HELLO, the handshake has succeeded. -/
def State.canTwin (s : State) (type : Nat) : Bool :=
  s.twn.link.up && !s.twn.link.loopFar && s.fld Reg.TWN_LOOP 1 0 == 0 && (type == 1 || s.twn.lease.paired)

/-- Send a twin-link message of a class: header, body and CRC. -/
def State.sendClass (s : State) (c type : Nat) (body : List Byte) : State :=
  if !s.canTwin type then s else
  let seq := Tab.get 0 s.twn.mir.seqs c
  let m := beBytes 1 type ++ beBytes 1 0 ++ beBytes 2 body.length ++ beBytes 4 seq.toNat ++ body
  (s.modMir (fun x => { x with seqs := Tab.set 0 x.seqs c (seq + 1) })).send
    (.twin (m ++ beBytes 4 (Crypto.crc32 m).toNat))

/-- Send a twin-link message in the class its TYPE has. -/
def State.sendTwin (s : State) (type : Nat) (body : List Byte) : State := s.sendClass (twinClass type) type body

/-- An NTIME field (chapter 5): seconds, nanoseconds, pips. -/
def ntimeBytes (t : Nat) : List Byte := beBytes 6 (secOf t) ++ beBytes 4 (nsOf t) ++ beBytes 1 (t % 256)

/-- The time an NTIME field holds. -/
def ntimeOf (b : List Byte) : Nat := mkTime (beNat (slice b 0 6)) (beNat (slice b 6 4)) (beNat (slice b 10 1))

/-- R215: a nanosecond field with bits [31:30] not 0 or above 999,999,999. -/
def ntimeOk (b : List Byte) : Bool := decide (beNat (slice b 6 4) ≤ 999999999)

end Sys2Proof.Machine
end

