-- ==== Sys2Proof/Machine/Dsf.lean ====
section
/-! DEFINITION. Downstream framing (chapter 4): block counting, frame and multiframe alignment, defects and their
windows, the performance bins, and the skew of the channels. -/

namespace Sys2Proof.Machine

open Host (Outcome)

/-- Pips in a block period (Table SCA-2). -/
def blockPips : Nat := 1600000

/-! ## Performance bins (R164 to R171) -/

/-- PM_EN and the channel enabled. -/
def State.pmOn (s : State) (n : Nat) : Bool := s.rbit Reg.DSF_CTRL 4 && s.chEnabled n

/-- Change both current bins of a channel. -/
def State.inBins (s : State) (n : Nat) (f : Bin → Bin) : State :=
  if s.pmOn n then s.modChan n (fun c => { c with cur15 := f c.cur15, cur24 := f c.cur24 }) else s

/-- Change the bins, current and past, that contain a second. -/
def binsOf (sec : Nat) (f : Bin → Bin) (c : DsfCh) : DsfCh :=
  let g (len : Nat) (b : Bin) : Bin :=
    if b.valid && decide (b.start ≤ sec) && decide (sec < b.start + len) && !b.final then f b else b
  { c with
    cur15 := g 900 c.cur15, cur24 := g 86400 c.cur24
    hist15 := c.hist15.map (g 900), hist24 := c.hist24.map (g 86400) }

/-- Where a second counts while it is provisional: ES and SES, or UAS inside an unavailable period (R166). -/
def countSecond (uas : Bool) (x : SecClass) (add : Word) (b : Bin) : Bin :=
  if uas then { b with uas := b.uas + add }
  else { b with es := if x.es then b.es + add else b.es, ses := if x.ses then b.ses + add else b.ses }

/-- R165, R166: a classified second enters the bins; the tenth second of a run changes availability, and the ten seconds
of the run move between UAS and ES, SES. -/
def addSecond (x : SecClass) (c : DsfCh) : DsfCh :=
  let c := binsOf x.sec (countSecond c.unavailable x 1) c
  let turning := x.ses != c.unavailable
  let run := if turning then (x :: c.run) else []
  if run.length < 10 then { c with run := run }
  else
    let u := c.unavailable
    let c := run.foldl (fun c y => binsOf y.sec (fun b => countSecond (!u) y 1 (countSecond u y (-1) b)) c) c
    { c with unavailable := !u, run := [] }

/-! ## Defects (R157 to R163) -/

/-- The defects that mask a defect (Table DSF-3). -/
def maskedBy (d : Nat) : List Nat := match d with
  | 1 => [0]
  | 2 => [0, 1]
  | 3 => [0, 1, 2]
  | 4 => [0, 1, 2]
  | 5 => [0, 1, 2]
  | _ => []

def DsfCh.isMasked (c : DsfCh) (d : Nat) : Bool := (maskedBy d).any (fun m => c.defects.getLsbD m)

/-- The declaration condition of the defects that are conditions of state. -/
def State.defectHolds (s : State) (n d : Nat) : Bool :=
  let c := s.chan n
  match d with
  | 1 => decide (s.fld Reg.DSF_LOB_CTRL 7 0 ≤ c.noMark)
  | 2 => c.fa != .sync
  | 3 => c.fa == .sync && c.mf != .sync
  | _ => false

/-- Clear a declared defect, with its flag (R163). -/
def State.clearOne (s : State) (n d : Nat) : State :=
  if (s.chan n).defects.getLsbD d then
    (s.modChan n (fun c => { c with defects := putBit c.defects d false })).raise (Reg.DSF_CHn_EVENT n) (7 + d)
  else s

/-- Declare a defect: not on a channel that is off or asleep, nor while a defect that masks it is declared. What it
masks is cleared, and windows it overlaps are not evaluated. -/
def State.declare (s : State) (n d : Nat) : State :=
  let c := s.chan n
  if !s.chEnabled n || c.asleep || c.isMasked d || c.defects.getLsbD d then s else
  let s := s.modChan n (fun c => { c with
    defects := putBit c.defects d true, secDefects := putBit c.secDefects d true
    deg := if d < 3 then { c.deg with masked := true } else c.deg
    ffr := if d < 3 then { c.ffr with masked := true } else c.ffr })
  let s := s.raise (Reg.DSF_CHn_EVENT n) d
  [1, 2, 3, 4, 5].foldl (fun s e => if (maskedBy e).contains d then s.clearOne n e else s) s

/-- Clear a defect; a defect it masked is declared at this instant if its condition holds and nothing else masks it. -/
def State.undeclare (s : State) (n d : Nat) : State :=
  if !(s.chan n).defects.getLsbD d then s else
  let s := s.clearOne n d
  [1, 2, 3].foldl (fun s e => if (maskedBy e).contains d && s.defectHolds n e then s.declare n e else s) s

/-! ## Skew (R172, R173) -/

/-- R172: choose a reference where none is held. Every applied skew is rebased on a READY one; otherwise runs restart. -/
def State.chooseRef (s : State) : State :=
  match s.dsf.skewRef with
  | some _ => s
  | none =>
    match lowestCh (fun n => s.mfSync n && (s.chan n).skewReady) with
    | some r =>
      let s0 := (s.chan r).skew
      let s := (List.range 4).foldl (fun s n => s.modChan n (fun c => { c with
        skew := if c.skewReady then c.skew - s0 else c.skew, skewRun := c.skewRun.map (· - s0) })) s
      s.modDsf (fun d => { d with skewRef := some r })
    | none =>
      match lowestCh s.mfSync with
      | some r =>
        let s := (List.range 4).foldl (fun s n => s.modChan n (fun c => { c with skewRun := [] })) s
        s.modDsf (fun d => { d with skewRef := some r })
      | none => s

/-- A channel leaves MF_SYNC: READY is lost, and a reference that left is replaced. -/
def State.leaveMfSync (s : State) (n : Nat) : State :=
  let s := s.modChan n (fun c => { c with skewReady := false, skewRun := [] })
  let s := if s.dsf.skewRef = some n then s.modDsf (fun d => { d with skewRef := none }) else s
  s.chooseRef

/-- BOOT_T_LOCK: microseconds from reset release to the first MF_SYNC (R550). -/
def State.timeLock (s : State) : State :=
  if s.boot.lockedAt.isSome then s
  else s.modBoot (fun b => { b with lockedAt := some (BitVec.ofNat 32 ((s.ticks - b.releasedAt) / ticksPerUs)) })

/-- Step 9 of Sprout ends with the first MF_SYNC of a channel of ENABLES.CH (Table BOOT-1). -/
def State.acquired (s : State) (n : Nat) : State :=
  if s.boot.step = 9 ∧ s.boot.enables.getLsbD n then s.modBoot (fun b => { b with step := 10 }) else s

/-- Multiframe alignment takes a state (Table DSF-2), with LOMF and the skew rules that follow. -/
def State.setMf (s : State) (n : Nat) (st : MfState) : State :=
  let was := (s.chan n).mf
  let s := s.modChan n (fun c => { c with mf := st, mfCand := if st = .hunt then none else c.mfCand })
  if was = .sync ∧ st ≠ .sync then
    let s := s.leaveMfSync n
    if s.defectHolds n 3 then s.declare n 3 else s
  else if st = .sync ∧ was ≠ .sync then (((s.undeclare n 3).chooseRef).timeLock).acquired n
  else s

/-- Frame alignment takes a state, with LOF, LOMF and multiframe alignment that follow. -/
def State.setFa (s : State) (n : Nat) (st : FaState) : State :=
  let was := (s.chan n).fa
  let s := s.modChan n (fun c => { c with fa := st, misses := 0, cands := if st = .presync then c.cands else [] })
  if was = .sync ∧ st ≠ .sync then (s.setMf n .hunt).declare n 2
  else if st = .sync ∧ was ≠ .sync then
    let s := s.modChan n (fun c => { c with
      block0 := c.blockCount, block0Mark := c.lastMark.getD s.now, block0Tick := s.ticks, pvec := none
      pvecNext := none, hdrDone := false })
    let s := s.undeclare n 2
    if s.defectHolds n 3 then s.declare n 3 else s
  else s

/-- Row 1 of Table DSF-1 for a defect declared. -/
def State.declareHunt (s : State) (n d : Nat) : State := (s.declare n d).setFa n .hunt

/-! ## Frame alignment (R151 to R154) -/

/-- Table DSF-1 for one block period: `hit` says that the block's codeword 0 matched SYNC. Its first row keeps a channel
with LOS or LOB declared in HUNT. -/
def State.align (s : State) (n : Nat) (hit : Bool) : State :=
  let c := s.chan n
  if c.defects.getLsbD 0 || c.defects.getLsbD 1 then s else
  match c.fa with
  | .hunt =>
    if hit then
      (s.modChan n (fun c => { c with cands := [⟨1, c.blockCount + 20⟩] })).setFa n .presync
    else s
  | .presync =>
    match c.cands.find? (fun x => x.expect = c.blockCount) with
    | some x =>
      if hit then
        if s.fld Reg.DSF_FA_CTRL 3 0 ≤ x.count + 1 then s.setFa n .sync
        else s.modChan n (fun c => { c with cands := c.cands.map (fun y =>
          if y.expect = c.blockCount then ⟨y.count + 1, y.expect + 20⟩ else y) })
      else
        let left := c.cands.filter (fun y => y.expect ≠ c.blockCount)
        let s := (s.modChan n (fun c => { c with cands := left })).bump (Reg.DSF_CHn_CNT_FALSE_CAND n)
        if left.isEmpty then s.setFa n .hunt else s
    | none =>
      if !hit then s
      else if c.cands.length < 4 then
        s.modChan n (fun c => { c with cands := c.cands ++ [⟨1, c.blockCount + 20⟩] })
      else s.bump (Reg.DSF_CHn_CNT_CAND_FULL n)
  | .sync =>
    if c.blockCount ≠ c.block0 then s
    else if hit then s.modChan n (fun c => { c with misses := 0 })
    else
      let s := (s.modChan n (fun c => { c with misses := c.misses + 1 })).bump (Reg.DSF_CHn_CNT_SYNC_MISS n)
      if s.fld Reg.DSF_FA_CTRL 8 4 ≤ (s.chan n).misses then s.setFa n .hunt else s

/-- A block period begins: in SYNC, the block after block 19 is block 0 of the next frame, which takes the profile
vector received, or reuses the one in force (R57). -/
def State.nextBlock (s : State) (n : Nat) : State :=
  let s := s.modChan n (fun c => { c with blockCount := c.blockCount + 1, skipRest := false })
  let c := s.chan n
  if c.fa = .sync ∧ c.block0 + 20 ≤ c.blockCount then
    let reuse := c.pvecNext.isNone && c.pvec.isSome
    let s := s.modChan n (fun c => { c with
      block0 := c.blockCount, block0Mark := c.block0Mark + 20 * blockPips, block0Tick := c.block0Tick + 160000
      hdrDone := false, pvec := if c.pvecNext.isSome then c.pvecNext else c.pvec
      pvecNext := none })
    s.bumpIf reuse (Reg.DSF_CHn_CNT_PVEC_REUSE n)
  else s

/-- `k` lost block periods, none of which matches. -/
def State.lostBlocks (s : State) (n : Nat) : Nat → State
  | 0 => s
  | k + 1 => (((s.nextBlock n).align n false)).lostBlocks n k

/-! ## Windows (R158 to R160) -/

/-- End of the window that began at `start` (pips), of a length in milliseconds. -/
def windowEnd (start ms : Nat) : Nat := (start / (ms * 256000000) + 1) * (ms * 256000000)

/-- A window restarts at an instant; `active` says that it begins at a boundary. -/
def Window.restart (w : Window) (at_ : Nat) (active : Bool) (masked : Bool) : Window :=
  { w with start := at_, active := active, masked := masked, errors := 0, total := 0 }

/-- R160: a write or a step abandons the windows of a kind; they begin again at the next boundary. -/
def State.abandonWindows (s : State) (deg ffr lok : Bool) : State :=
  (List.range 4).foldl (fun s n => s.modChan n (fun c => { c with
    deg := if deg then c.deg.restart s.now false false else c.deg
    ffr := if ffr then c.ffr.restart s.now false false else c.ffr
    lok := if lok then c.lok.restart s.now false false else c.lok
    lokFails := if lok then [] else c.lokFails })) s

/-- The windows and counts a delivered codeword enters (R139, R158, R159, R165). -/
def State.countCodeword (s : State) (n kind corr : Nat) : State :=
  let s := s.modChan n (fun c => { c with
    secCw := c.secCw + 1, secBad := c.secBad + (if 2 ≤ kind then 1 else 0)
    deg := if c.deg.active && decide (kind ≤ 1) then
      { c.deg with errors := c.deg.errors + corr, total := c.deg.total + 1 } else c.deg
    ffr := if c.ffr.active && decide (kind ≤ 2) then
      { c.ffr with errors := c.ffr.errors + (if kind = 2 then 1 else 0), total := c.ffr.total + 1 } else c.ffr })
  s.inBins n (fun b => { b with
    corr := b.corr + BitVec.ofNat 48 corr, uncor := if kind = 2 then b.uncor + 1 else b.uncor })

/-- The end of a window of defect `d` with its evaluation: `above` and `below` compare with the thresholds. -/
def State.judgeWindow (s : State) (n d : Nat) (w : Window) (above below : Bool)
    (put : Window → DsfCh → DsfCh) : State :=
  if !w.active || w.masked || w.total = 0 then s
  else
    let clears := if below then w.clears + 1 else 0
    let s := s.modChan n (put { w with clears := clears })
    if above then s.declare n d
    else if 2 ≤ clears then s.undeclare n d
    else s

/-! ## Commands -/

/-- `LOB_DECLARE` (R157): no block mark in LOB_SET consecutive block periods. -/
def execLobDeclare (ch : Chan) (s : State) : Outcome State Fault Refusal :=
  let set := s.fld Reg.DSF_LOB_CTRL 7 0
  let s := match (s.chan ch).lastMark with
    | some m => s.passTo (m + set * blockPips)
    | none => s
  let s := s.modChan ch (fun c => { c with noMark := max c.noMark set, markRun := 0 })
  done ((s.declareHunt ch 1).reconsider)

/-- A write of the LOS indication as DSF sees it (R93, R157). -/
def State.losFromPod (s : State) (n : Nat) (up : Bool) : State :=
  if up then s.declareHunt n 0 else s.undeclare n 0

/-- `LOS_INDICATION` (R93): the Pod's indication changes. -/
def execLosIndication (ch : Chan) (up : Bool) (s : State) : Outcome State Fault Refusal :=
  if (s.pod ch).losInd = up then done s else
  let s := (s.modPod ch (fun p => { p with losInd := up })).raise (Reg.POD_RX_STATUS ch) 2
  done ((s.losFromPod ch up).reconsider)

/-- `DEG_WINDOW_END` (R158). -/
def execDegWindowEnd (ch : Chan) (s : State) : Outcome State Fault Refusal :=
  let w := (s.chan ch).deg
  let s := s.passTo (windowEnd w.start (s.fld Reg.DSF_DEG_CTRL 31 16))
  let e := min (s.fld Reg.DSF_DEG_CTRL 5 4) 2
  -- a threshold above 1e-2 is treated as 1e-2
  let m := if e = 0 then min (s.fld Reg.DSF_DEG_CTRL 3 0) 1 else s.fld Reg.DSF_DEG_CTRL 3 0
  let h := s.fld Reg.DSF_DEG_CTRL 7 6
  let above := decide (m * 14336 * w.total < w.errors * 10 ^ (e + 2))
  let below := decide (w.errors * 10 ^ (e + 2) * 2 ^ h ≤ m * 14336 * w.total)
  let s := s.judgeWindow ch 4 w above below (fun w c => { c with deg := w })
  let c := s.chan ch
  done (s.modChan ch (fun x => { x with deg := x.deg.restart s.now true (c.isMasked 4) }))

/-- `FFR_WINDOW_END` (R159). -/
def execFfrWindowEnd (ch : Chan) (s : State) : Outcome State Fault Refusal :=
  let w := (s.chan ch).ffr
  let s := s.passTo (windowEnd w.start (s.fld Reg.DSF_FFR_CTRL 31 16))
  let m := s.fld Reg.DSF_FFR_CTRL 3 0
  let e := max (s.fld Reg.DSF_FFR_CTRL 7 4) 1
  let h := s.fld Reg.DSF_FFR_CTRL 9 8
  let above := decide (m * w.total < w.errors * 10 ^ e)
  let below := decide (w.errors * 10 ^ e * 2 ^ h ≤ m * w.total)
  let s := s.judgeWindow ch 5 w above below (fun w c => { c with ffr := w })
  let c := s.chan ch
  done (s.modChan ch (fun x => { x with ffr := x.ffr.restart s.now true (c.isMasked 5) }))

/-- The Links of a LOK window that reached LOK_THR failures, lowest local index first (R161). -/
def State.lokLinks (s : State) (n : Nat) : List Nat :=
  ((s.chan n).lokFails.filter (fun e => s.fld Reg.DSF_LOK_CTRL 15 0 ≤ e.2)).map (·.1)

/-- `LOK_WINDOW_END` (R157, R161). -/
def execLokWindowEnd (ch : Chan) (s : State) : Outcome State Fault Refusal :=
  let w := (s.chan ch).lok
  let s := s.passTo (windowEnd w.start (s.fld Reg.DSF_LOK_CTRL 31 16))
  let bad := s.lokLinks ch
  let s := if w.active && bad.isEmpty then s.undeclare ch 6 else s
  done (s.modChan ch (fun c => { c with lok := c.lok.restart s.now true false, lokFails := [] }))

/-- An authentication failure of a Link counts against every member channel (R161, R171). -/
def State.authFailure (s : State) (link : Nat) : State :=
  let mask := (s.dlink link).mask
  let s := match lowestCh (fun n => mask.getLsbD n) with
    | some n => s.inBins n (fun b => { b with authFail := b.authFail + 1 })
    | none => s
  (bitList mask).foldl (fun s n =>
    if !(s.chan n).lok.active then s else
    let s := s.modChan n (fun c => { c with lokFails := Tab.modify 0 c.lokFails link (· + 1) })
    if s.fld Reg.DSF_LOK_CTRL 15 0 ≤ Tab.get 0 (s.chan n).lokFails link ∧ !(s.chan n).defects.getLsbD 6 then
      let s := s.declare n 6
      if (s.chan n).defects.getLsbD 6 then
        s.setReg Reg.DSF_LOK_LINK (packWord [((s.lokLinks n).headD link, 12, 0), (1, 1, 12)]) else s
    else s) s

/-- `SECOND_END` (R165): the second in progress ends on every channel. Holdover seconds count here too (R325), and a
second of holdover or of unset time marks the bins (R168). -/
def execSecondEnd (s : State) : Outcome State Fault Refusal :=
  let sec := s.dsf.second
  let s := s.passTo ((sec + 1) * pipsPerSec)
  let s := (List.range 4).foldl (fun s n =>
    let c := s.chan n
    let seen := c.secDefects ||| c.defects
    let down := seen.getLsbD 0 || seen.getLsbD 1 || seen.getLsbD 2
    let ses := down || decide (s.fld Reg.DSF_SES_CTRL 9 0 * c.secCw ≤ c.secBad * 1000)
    let es := down || decide (0 < c.secBad)
    let mark (b : Bin) : Bin := { b with
      defectS := (bitList seen).foldl (fun t d => Tab.modify 0 t d (· + 1)) b.defectS }
    let s := if s.pmOn n then s.modChan n (fun c => addSecond ⟨sec, es, ses⟩ (binsOf sec mark c)) else s
    s.modChan n (fun c => { c with
      secCw := 0, secBad := 0, secDefects := c.defects
      cur15 := { c.cur15 with
        holdover := c.cur15.holdover || s.ntm.state == .holdover, unset := c.cur15.unset || !s.ntm.everSet
        partialBin := c.cur15.partialBin || !s.pmOn n || c.asleep }
      cur24 := { c.cur24 with
        holdover := c.cur24.holdover || s.ntm.state == .holdover, unset := c.cur24.unset || !s.ntm.everSet
        partialBin := c.cur24.partialBin || !s.pmOn n || c.asleep } })) s
  let s := if s.ntm.state = .holdover then s.modNtm (fun n => { n with holdElapsed := n.holdElapsed + 1 }) else s
  done (s.modDsf (fun d => { d with second := s.now / pipsPerSec }))

/-- The start of the bin of a kind that contains a second (R164). -/
def State.binStart (s : State) (day : Bool) (sec : Nat) : Nat :=
  if day then
    let o := 900 * s.fld Reg.DSF_PM_CTRL 6 0
    (sec + 86400 - o) / 86400 * 86400 + o - 86400
  else sec / 900 * 900

/-- The end of a bin that starts at `start`: the first bin boundary after it (R164). -/
def State.binEnd (s : State) (day : Bool) (start : Nat) : Nat :=
  let len := if day then 86400 else 900
  let o := if day then 900 * s.fld Reg.DSF_PM_CTRL 6 0 else 0
  start + len - (start + 3 * len - o) % len

/-- A new current bin. -/
def State.newBin (s : State) (n : Nat) (day : Bool) (start : Nat) : Bin :=
  { Bin.empty day with
    start := start, valid := true, unset := !s.ntm.everSet, holdover := s.ntm.state == .holdover
    partialBin := !s.pmOn n || (s.chan n).asleep }

/-- R167: the current bin of a kind moves into history, and `b` is the new current bin. -/
def DsfCh.endBin (c : DsfCh) (day : Bool) (b : Bin) : DsfCh :=
  if day then { c with hist24 := (c.cur24 :: c.hist24).take 2, cur24 := b }
  else { c with hist15 := (c.cur15 :: c.hist15).take 32, cur15 := b }

/-- `BIN_END` (R167): a 15-minute or 24-hour bin ends on every channel. -/
def execBinEnd (day : Bool) (s : State) : Outcome State Fault Refusal :=
  let cur := if day then (s.chan 0).cur24 else (s.chan 0).cur15
  let s := s.passTo (s.binEnd day cur.start * pipsPerSec)
  done ((List.range 4).foldl (fun s n =>
    let b := s.newBin n day (s.binStart day (s.now / pipsPerSec))
    s.modChan n (fun c => c.endBin day b)) s)

/-- One word of a bin record (Table DSF-5). -/
def Bin.word (b : Bin) (w : Nat) : Word :=
  let lo (x : Wide) : Word := x.setWidth 32
  let hi (x : Wide) : Word := BitVec.ofNat 32 (x.toNat / 2 ^ 32)
  match w with
  | 0 => BitVec.ofNat 32 b.start
  | 1 => packWord [(b.start / 2 ^ 32, 16, 0), (b2n b.valid, 1, 16), (b2n (b.jump || b.holdover || b.unset), 1, 17),
      (b2n b.jump, 1, 18), (b2n b.holdover, 1, 19), (b2n b.unset, 1, 20), (b2n b.partialBin, 1, 21),
      (b2n b.final, 1, 22), (b2n b.day, 1, 23)]
  | 2 => lo b.corr
  | 3 => hi b.corr
  | 4 => lo b.uncor
  | 5 => hi b.uncor
  | 6 => b.es
  | 7 => b.ses
  | 8 => b.uas
  | 16 => b.abandon
  | 17 => lo b.reorderDrop
  | 18 => hi b.reorderDrop
  | 19 => lo b.authFail
  | 20 => hi b.authFail
  | w => if 9 ≤ w ∧ w ≤ 15 then Tab.get 0 b.defectS (w - 9) else 0

/-- `BIN_FINAL` (R167): ten seconds after its end, the newest ended bin is final. For a bin that a step of network time
ended (R168), the command itself says that the ten seconds have passed. -/
def execBinFinal (day : Bool) (s : State) : Outcome State Fault Refusal :=
  let fin (l : List Bin) : List Bin := match l with
    | [] => []
    | b :: r => { b with final := true } :: r
  let newest := if day then (s.chan 0).hist24 else (s.chan 0).hist15
  match newest with
  | [] => done s
  | b :: _ =>
    let cur := if day then (s.chan 0).cur24 else (s.chan 0).cur15
    let s := if cur.start = s.binEnd day b.start then s.passTo ((s.binEnd day b.start + 10) * pipsPerSec) else s
    let s := (List.range 4).foldl (fun s n => s.modChan n (fun c =>
      if day then { c with hist24 := fin c.hist24 } else { c with hist15 := fin c.hist15 })) s
    let s := (List.range 4).foldl (fun s n =>
      let c := s.chan n
      match (if day then c.hist24 else c.hist15) with
      | [] => s
      | x :: _ => s.sendTwin 0x41 ((List.range 24).flatMap (fun w => Crypto.beBytes 4 (x.word w).toNat))) s
    done (s.raise Reg.DSF_STATUS (if day then 1 else 0))

/-- R168: a step of network time takes the current bins: `old` is the time before it. -/
def State.stepBins (s : State) : State :=
  let sec := s.now / pipsPerSec
  let s := (List.range 4).foldl (fun s n =>
    let one (day : Bool) (cur : Bin) (c : DsfCh) : DsfCh :=
      if cur.start ≤ sec ∧ sec < s.binEnd day cur.start then
        if day then { c with cur24 := { cur with jump := true } } else { c with cur15 := { cur with jump := true } }
      else
        let ended := { cur with jump := true, partialBin := true }
        let fresh := { s.newBin n day (s.binStart day sec) with jump := true, partialBin := true }
        if day then { c with hist24 := (ended :: c.hist24).take 2, cur24 := fresh }
        else { c with hist15 := (ended :: c.hist15).take 32, cur15 := fresh }
    s.modChan n (fun c => one true c.cur24 (one false c.cur15 c))) s
  s.modDsf (fun d => { d with second := sec })

/-- The bin DSF_PM_SEL selects. -/
def State.selectedBin (s : State) : Bin :=
  let c := s.chan (s.fld Reg.DSF_PM_SEL 1 0)
  let i := s.fld Reg.DSF_PM_SEL 13 8
  if i = 0 then c.cur15
  else if i ≤ 32 then c.hist15.getD (i - 1) (Bin.empty false)
  else if i = 33 then c.cur24
  else c.hist24.getD (i - 34) (Bin.empty true)

/-- A skew measurement of channel `n` for a frame (R172, R173): eight consecutive frames within 512 pp of their mean
make the skew READY, or renew it. -/
def State.measureSkew (s : State) (n frame : Nat) (v : Int) : State :=
  let c := s.chan n
  let run := if (c.skewFrame + 1) % (65536 * 8000) = frame ∧ !c.skewRun.isEmpty then (v :: c.skewRun) else [v]
  let s := s.modChan n (fun c => { c with skewFrame := frame, skewRun := run })
  if run.length < 8 then s else
  let mean : Int := (2 * run.foldl (· + ·) 0 + 8) / 16
  if run.all (fun x => (8 * x - run.foldl (· + ·) 0).natAbs ≤ 8 * 512) then
    let first := !c.skewReady
    let s := s.modChan n (fun c => { c with skewRun := [], skewReady := true, skew := mean })
    s.raiseIf first (Reg.DSF_CHn_EVENT n) 14
  else s.modChan n (fun c => { c with skewRun := run.take 7 })

/-- A frame with a valid header on channel `n` in MF_SYNC: its mark is compared with the reference's mark of the same
frame, whichever of the two arrives later. -/
def State.skewFrame (s : State) (n frame mark : Nat) : State :=
  let s := s.modChan n (fun c => { c with frameMarks := ((frame, mark) :: c.frameMarks).take 16 })
  match s.dsf.skewRef with
  | none => s
  | some r =>
    let markOf (k : Nat) : Option Nat := ((s.chan k).frameMarks.find? (fun e => e.1 = frame)).map (·.2)
    if n = r then
      (List.range 4).foldl (fun s k =>
        if !s.mfSync k then s else
        match markOf k with
        | some m => s.measureSkew k frame ((m : Int) - mark)
        | none => s) s
    else
      match markOf r with
      | some m => s.measureSkew n frame ((mark : Int) - m)
      | none => s

end Sys2Proof.Machine
end

