-- ==== Sys2Proof/Machine/DsfLink.lean ====
section
/-! DEFINITION. Bonding (chapter 4): the skew store, reorder (R178, R180), reassembly (R64) and the members of a Link. -/

namespace Sys2Proof.Machine

open Host (Outcome)

/-! ## Reassembly (R64) -/

/-- One discard of R64, counted in REASM_DISC. -/
def LinkRun.discard (r : LinkRun) : LinkRun :=
  let (n, h) := wideAdd r.link.reasmDisc 1
  { r with link := { r.link with reasmDisc := n }, half := r.half || h }

/-- A gap: the open frame is discarded. Later segments without FIRST find no frame open. -/
def LinkRun.gap (r : LinkRun) : LinkRun :=
  match r.link.openStamp with
  | some _ => { r with link := { r.link with openStamp := none, openBytes := [] } }.discard
  | none => r

/-- A segment in sequence order (R64). -/
def LinkRun.pass (r : LinkRun) (g : Segment) : LinkRun :=
  let r := if g.first then
      { r.gap with link := { r.gap.link with openStamp := some g.stamp, openBytes := [] } }
    else r
  match r.link.openStamp with
  | none => r.discard
  | some t =>
    let bytes := r.link.openBytes ++ g.payload
    if 16448 < bytes.length then r.gap
    else if g.last then
      { r with link := { r.link with openStamp := none, openBytes := [] }, closed := (bytes, t) :: r.closed }
    else { r with link := { r.link with openBytes := bytes } }

/-! ## Reorder (R178) -/

def DsfLink.heldTotal (l : DsfLink) : Nat := l.skewStore.length + l.reorder.length

/-- Add to one of a Link's counters that are reorder drops (R176). -/
def LinkRun.drop (r : LinkRun) (get : DsfLink → Wide) (put : Wide → DsfLink → DsfLink) : LinkRun :=
  let (n, h) := wideAdd (get r.link) 1
  { r with link := put n r.link, drops := r.drops + 1, half := r.half || h }

def LinkRun.gapSkip (r : LinkRun) : LinkRun := r.drop (·.gapSkip) (fun n l => { l with gapSkip := n })
def LinkRun.forcedSkip (r : LinkRun) : LinkRun := r.drop (·.forcedSkip) (fun n l => { l with forcedSkip := n })
def LinkRun.lateDisc (r : LinkRun) : LinkRun := r.drop (·.lateDisc) (fun n l => { l with lateDisc := n })
def LinkRun.overflowDisc (r : LinkRun) : LinkRun := r.drop (·.overflowDisc) (fun n l => { l with overflowDisc := n })
def LinkRun.nonmember (r : LinkRun) : LinkRun := r.drop (·.nonmember) (fun n l => { l with nonmember := n })

def LinkRun.advance (r : LinkRun) : LinkRun := { r with link := { r.link with next := r.link.next + 1 } }

/-- deliver_run, for at most `fuel` entries; `fuel` is the number held. -/
def LinkRun.deliverRun (r : LinkRun) : Nat → LinkRun
  | 0 => r
  | fuel + 1 =>
    match r.link.reorder.find? (fun e => e.seq = r.link.next) with
    | none => r
    | some e =>
      let r := { r with link := { r.link with reorder := r.link.reorder.filter (fun x => x.seq ≠ r.link.next) } }
      let r := match e.seg with
        | none => r.gap
        | some g => r.pass g
      r.advance.deliverRun fuel

def LinkRun.deliver (r : LinkRun) : LinkRun := r.deliverRun r.link.reorder.length

/-- The skips of force: up to the next number held. -/
def LinkRun.forceSkips (r : LinkRun) : Nat → LinkRun
  | 0 => r
  | fuel + 1 =>
    if r.link.reorder.any (fun e => e.seq = r.link.next) then r
    else (r.gap.forcedSkip.advance).forceSkips fuel

/-- force (R178). -/
def LinkRun.force (r : LinkRun) : LinkRun := (r.forceSkips 4096).deliver

/-- R177: a smaller W forces skips until the count fits, while reorder holds something. -/
def LinkRun.fit (r : LinkRun) : Nat → LinkRun
  | 0 => r
  | fuel + 1 =>
    if r.link.window < r.link.heldTotal ∧ !r.link.reorder.isEmpty then r.force.fit fuel else r

/-- on arrival: a segment, or a MISSING number, enters the skew store. -/
def LinkRun.arrive (r : LinkRun) (e : Held) : LinkRun :=
  let full := r.link.window ≤ r.link.heldTotal
  if full ∧ r.link.reorder.isEmpty then r.overflowDisc
  else
    let r := if full then r.force else r
    { r with link := { r.link with skewStore := r.link.skewStore ++ [e] } }

/-- on release: an entry leaves the skew store. -/
def LinkRun.release (r : LinkRun) (e : Held) : LinkRun :=
  let l := r.link
  let l := if l.synced then l else { l with next := e.seq, synced := true }
  let d := (e.seq - l.next).toNat
  let r := { r with link := l }
  if 2048 ≤ d ∨ l.reorder.any (fun x => x.seq = e.seq) then r.lateDisc
  else ({ r with link := { l with reorder := l.reorder ++ [e] } } : LinkRun).deliver

/-- The loop of the timeout: while the oldest entry has been held for the timeout. -/
def LinkRun.expire (r : LinkRun) (now : Nat) : Nat → LinkRun
  | 0 => r
  | fuel + 1 =>
    match leastOf (r.link.reorder.map (·.time)) with
    | none => r
    | some t =>
      if t + r.link.timeoutUs * 256000 ≤ now then ((r.gap.gapSkip.advance).deliver).expire now fuel else r

/-- R180: a Link with a single effective member. -/
def LinkRun.single (r : LinkRun) (seq : BitVec 12) (seg : Option Segment) : LinkRun :=
  let l := if r.link.synced then r.link else { r.link with next := seq, synced := true }
  let d := (seq - l.next).toNat
  let r := { r with link := l }
  let after (r : LinkRun) : LinkRun :=
    let r := match seg with
      | none => r.gap
      | some g => r.pass g
    { r with link := { r.link with next := seq + 1 } }
  if 2048 ≤ d then { r.lateDisc with link := { r.lateDisc.link with next := seq + 1 } }
  else
    let (n, h) := wideAdd l.gapSkip d
    after (if d = 0 then r else
      { r.gap with link := { r.gap.link with gapSkip := n }, drops := r.drops + d, half := r.half || h })

/-- Run work on Link `i`: its context is stored, closed frames pass to authentication, reorder drops enter the bins of the
lowest member (R171), and CNT_HALF follows R189. -/
def State.onLink (s : State) (i : Nat) (f : LinkRun → LinkRun) : State :=
  let r := f ⟨s.dlink i, [], 0, false⟩
  let mask := (s.dlink i).mask
  let s := s.setDlink i r.link
  let s := s.modDsf (fun d => { d with frames := d.frames ++ r.closed.reverse.map (fun c => ⟨i, c.1, c.2⟩) })
  let s := match lowestCh (fun n => mask.getLsbD n) with
    | some n => if r.drops = 0 then s else
        s.inBins n (fun b => { b with reorderDrop := b.reorderDrop + BitVec.ofNat 48 r.drops })
    | none => s
  s.raiseIf r.half Reg.DSF_STATUS 3

/-! ## Members (R174, R179 to R187) -/

/-- The member mask that governs channel `n`: a held change takes effect on each channel at its own frame 0 (R186). -/
def DsfLink.maskOn (l : DsfLink) (n : Nat) : BitVec 4 :=
  match l.change with
  | some c => if c.reached.getLsbD n then c.mask else l.mask
  | none => l.mask

/-- The Link's mask, as channel `n` sees it, names that channel alone and the channel is in MF_SYNC: it is the effective
member without admission (R180). -/
def State.soleMember (s : State) (l : DsfLink) (n : Nat) : Bool :=
  decide ((bitList (l.maskOn n)).length ≤ 1) && (l.maskOn n).getLsbD n && s.mfSync n

/-- The effective members of a Link: those admitted, and a sole member. -/
def State.effectiveOf (s : State) (l : DsfLink) : List Nat :=
  (List.range 4).filter (fun n => l.effective.getLsbD n || s.soleMember l n)

/-- H_c (R174): the largest applied skew of the Link's effective members less that of `c`, in pips. -/
def State.holdTime (s : State) (l : DsfLink) (c : Nat) : Nat :=
  let m := (s.effectiveOf l).foldl (fun a n => max a (s.chan n).skew) (s.chan c).skew
  (m - (s.chan c).skew).toNat

/-- A Link's segments are accepted on channel `n` (R181, R182): the mask names it, and it is an effective member. -/
def State.accepts (s : State) (l : DsfLink) (n : Nat) : Bool :=
  if (bitList (l.maskOn n)).length ≤ 1 then s.soleMember l n else (l.maskOn n).getLsbD n && l.effective.getLsbD n

/-- A Link is treated as bonded while it has several effective members, and until it holds nothing (R180). -/
def State.bonded (s : State) (l : DsfLink) : Bool :=
  decide (2 ≤ (s.effectiveOf l).length) || !l.skewStore.isEmpty || !l.reorder.isEmpty

/-- R182: a channel that the mask no longer names is an effective member until its last segment has left the skew
store. -/
def DsfLink.leave (l : DsfLink) (n : Nat) : DsfLink :=
  if (l.maskOn n).getLsbD n || l.skewStore.any (fun e => e.ch = n) then l
  else { l with effective := putBit l.effective n false }

/-- A segment of local Link `i` on channel `n` (last two rows of Table SCA-6, R174, R180, R181). One on a channel that the
mask names and that is not admitted yet counts in EARLY_JOIN alone (R184, DEDUCED). -/
def State.linkSegment (s : State) (i n : Nat) (seq : BitVec 12) (seg : Option Segment) (arrival : Nat) : State :=
  let l := s.dlink i
  if !s.accepts l n then
    if 2 ≤ (bitList (l.maskOn n)).length ∧ (l.maskOn n).getLsbD n then s.bump (Reg.DSF_CHn_CNT_EARLY_JOIN n)
    else (s.onLink i (·.nonmember)).bump (Reg.DSF_CHn_CNT_NONMEMBER n)
  else if s.bonded l then
    s.onLink i (fun r => r.arrive ⟨n, seq, seg, arrival + s.holdTime l n⟩)
  else s.onLink i (fun r => r.single seq seg)

/-- Everything DSF holds for a Link is discarded, counted in REASM_DISC (R187). -/
def LinkRun.clear (r : LinkRun) : LinkRun :=
  let n := r.link.heldTotal + (if r.link.openStamp.isSome then 1 else 0)
  let (c, h) := wideAdd r.link.reasmDisc n
  { r with
    half := r.half || h
    link := { r.link with
      skewStore := [], reorder := [], openStamp := none, openBytes := [], synced := false, reasmDisc := c } }

/-- A mask takes effect on channel `n` (R182, R184, R186, R220): a channel removed leaves the effective members once the
skew store holds nothing of it; the mask in force is the new one once every channel concerned has reached its frame 0. -/
def State.maskReached (s : State) (i n : Nat) : State :=
  let l := s.dlink i
  match l.change with
  | none => s
  | some c =>
    let reached := putBit c.reached n true
    let concerned := (l.mask ||| c.mask).toNat
    let allDone := (List.range 4).all (fun k => !(BitVec.ofNat 4 concerned).getLsbD k || reached.getLsbD k || !s.mfSync k)
    let one (m : BitVec 4) : Bool := decide ((bitList m).length ≤ 1)
    let l := if allDone then
        { l with
          mask := c.mask, change := none
          synced := l.synced && !(one l.mask && !one c.mask) }
      else { l with change := some { c with reached := reached } }
    let l := l.leave n
    s.setDlink i l

/-- A member-mask change that no channel can time applies at once (R186). -/
def State.maskAtOnce (s : State) (i : Nat) (mask : BitVec 4) : State :=
  let l := s.dlink i
  let one (m : BitVec 4) : Bool := decide ((bitList m).length ≤ 1)
  s.setDlink i { l with
    mask := mask, change := none, effective := l.effective &&& mask
    synced := l.synced && !(one l.mask && !one mask) }

/-- R186: a host write of MEMBERS names the next multiframe of the lowest channel in MF_SYNC of the new mask. -/
def State.holdMask (s : State) (i : Nat) (mask : BitVec 4) : State :=
  let basis := if mask = 0 then (s.dlink i).mask else mask
  match lowestCh (fun n => basis.getLsbD n && s.mfSync n) with
  | none => s.maskAtOnce i mask
  | some n =>
    let mf := match (s.chan n).lastHdr with
      | some h => h.mf + 1
      | none => 0
    s.setDlink i { s.dlink i with change := some ⟨mask, mf, 0⟩ }

/-- R183: a channel leaves every group. -/
def State.removeChannel (s : State) (n : Nat) : State :=
  let s := s.modDsf (fun d => { d with links := d.links.map (fun e =>
    (e.1, { e.2 with effective := putBit e.2.effective n false })) })
  let s := { s with dsf := { s.dsf with links := s.dsf.links.filter (fun e => e.2 ≠ DsfLink.reset) } }
  (s.modChan n (fun c => { c with admitted := false })).raise (Reg.DSF_CHn_EVENT n) 17

/-- R175: the applied skew of `n` is within 250 µs of every effective member's. -/
def State.skewInRange (s : State) (l : DsfLink) (n : Nat) : Bool :=
  (s.effectiveOf l).all (fun m => ((s.chan n).skew - (s.chan m).skew).natAbs ≤ 250 * 256000)

/-- R184 for channel `n` and Link `i`, at the frame 0 that names them; one already admitted stays. -/
def State.admitMember (s : State) (i n : Nat) : State :=
  let l := s.dlink i
  if l.effective.getLsbD n || !(s.chan n).skewReady then s
  else if !s.skewInRange l n then
    (s.modChan n (fun c => { c with skewRange := true })).raise (Reg.DSF_CHn_EVENT n) 15
  else
    let s := s.setDlink i { l with effective := putBit l.effective n true }
    (s.modChan n (fun c => { c with admitted := true, skewRange := false })).raise (Reg.DSF_CHn_EVENT n) 18

/-! ## The reorder words (R177, R187) -/

/-- Reorder descriptors reserved: the sum of W over Links with two or more members. -/
def State.poolUsed (s : State) (except_ : Option Nat) : Nat :=
  s.dsf.links.foldl (fun a e =>
    if some e.1 = except_ ∨ (bitList e.2.mask).length < 2 then a else a + e.2.window) 0

/-- R177: a write of reorder word 0. -/
def State.writeLinkWord0 (s : State) (i : Nat) (v : Word) : State :=
  let w := bitsOf v.toNat 14 0
  let t := bitsOf v.toNat 25 16
  let l := s.dlink i
  let sum := s.poolUsed (some i) + (if 2 ≤ (bitList l.mask).length then w else 0)
  if w < 64 ∨ 16384 < w ∨ t < 1 ∨ 1000 < t ∨ (1048576 < sum ∧ s.poolUsed none < sum) then s.raise Reg.DSF_STATUS 2
  else
    s.onLink i (fun r => ({ r with link := { r.link with window := w, timeoutUs := t } } : LinkRun).fit r.link.heldTotal)

/-- R187: a write of Link word 12. A reserved LINK_ID is also counted in ACT_CNT_RSVD_MAP (R223). -/
def State.writeLinkWord12 (s : State) (i : Nat) (v : Word) : State :=
  let id := BitVec.ofNat 16 (bitsOf v.toNat 15 0)
  let en := v.getLsbD 16
  let mem := BitVec.ofNat 4 (bitsOf v.toNat 23 20)
  let l := s.dlink i
  if 0xFFF0 ≤ id.toNat then ((s.raise Reg.DSF_STATUS 2).raise Reg.ACT_STATUS 14).bump Reg.ACT_CNT_RSVD_MAP
  else if en && s.dsf.links.any (fun e => e.1 ≠ i && e.2.mapped && e.2.linkId == id) then s.raise Reg.DSF_STATUS 2
  else
    let remap := (en && !l.en) || (l.en && decide (l.linkId ≠ id)) || !en
    let s := if remap then s.onLink i LinkRun.clear else s
    let l := s.dlink i
    let s := s.setDlink i { l with linkId := id, en := en, mapped := en, members := mem }
    if mem = (s.dlink i).mask ∧ (s.dlink i).change.isNone then s else s.holdMask i mem

/-- A word of the Link window (Table DSF-9). -/
def State.linkWord (s : State) (i w : Nat) : Word :=
  let l := s.dlink i
  let lo (x : Wide) : Word := x.setWidth 32
  let hi (x : Wide) : Word := BitVec.ofNat 32 (x.toNat / 2 ^ 32)
  match w with
  | 0 => packWord [(l.window, 15, 0), (l.timeoutUs, 10, 16)]
  | 1 => packWord [(l.next.toNat, 12, 0), (l.heldTotal, 15, 12), (b2n l.synced, 1, 28)]
  | 2 => lo l.gapSkip | 3 => hi l.gapSkip
  | 4 => lo l.forcedSkip | 5 => hi l.forcedSkip
  | 6 => lo l.lateDisc | 7 => hi l.lateDisc
  | 8 => lo l.overflowDisc | 9 => hi l.overflowDisc
  | 10 => lo l.nonmember | 11 => hi l.nonmember
  | 12 => packWord [(l.linkId.toNat, 16, 0), (b2n l.en, 1, 16), (l.members.toNat, 4, 20)]
  | 13 => packWord [(l.mask.toNat, 4, 0), ((s.effectiveOf l).foldl (fun a n => a + 2 ^ n) 0, 4, 4), (b2n l.mapped, 1, 8)]
  | 14 => lo l.reasmDisc | 15 => hi l.reasmDisc
  | _ => 0

/-! ## Commands -/

/-- `SKEW_STORE_RELEASE` (R174, R178): the entry of the Link whose release comes first, and of entries released at the
same instant the one of the lowest channel, enters reorder; one that cannot be read back is handed on as missing (Table
HRD-2). A frozen Hoard holds it (R445). -/
def execSkewStoreRelease (link : Fin 4096) (err : Option ReadError) (s : State) : Outcome State Fault Refusal :=
  if s.coreReset 3 then done s else
  let store := (s.dlink link).skewStore
  let key (e : Held) : Nat := e.time * 4 + e.ch
  match leastOf (store.map key) with
  | none => done s
  | some k =>
    match store.find? (fun e => key e = k) with
    | none => done s
    | some e =>
      if s.hoardFrozen then done s
      else
        let s := s.passTo e.time
        let lost : Bool := match err with
          | some x => decide (x.result ≠ .corrected)
          | none => false
        let s := match err with
          | some x => s.hbmError x.pc x.unit.toNat (if lost then .uncorrSkew else .corrected) lost
          | none => s
        done (s.onLink link (fun r =>
          ({ r with link := ({ r.link with skewStore := r.link.skewStore.erase e } : DsfLink).leave e.ch } : LinkRun).release
            (if lost then { e with seg := none } else e)))

/-- `REORDER_TIMEOUT` (R178): the oldest entry that reorder holds reaches the timeout. -/
def execReorderTimeout (link : Fin 4096) (s : State) : Outcome State Fault Refusal :=
  if s.coreReset 3 then done s else
  let l := s.dlink link
  match leastOf (l.reorder.map (·.time)) with
  | none => done s
  | some t =>
    let s := s.passTo (t + l.timeoutUs * 256000)
    done (s.onLink link (fun r => r.expire s.now 4096))

/-- `CHANNEL_REMOVE` (R183). -/
def execChannelRemove (ch : Chan) (s : State) : Outcome State Fault Refusal :=
  if s.dsLost ch || s.flt.podOffline.getLsbD ch then done (s.removeChannel ch) else done s

/-- `CHANNEL_ADMIT` (R184): frame 0 of the named multiframe has arrived on the channel. -/
def execChannelAdmit (ch : Chan) (link : Fin 4096) (s : State) : Outcome State Fault Refusal :=
  let l := s.dlink link
  let listed := match l.change with
    | some c => c.mask.getLsbD ch
    | none => l.mask.getLsbD ch
  if listed && s.mfSync ch then done (s.admitMember link ch) else done s

/-- `MASK_APPLY` (R186): a held member mask reaches the channel's frame 0 of M. -/
def execMaskApply (ch : Chan) (link : Fin 4096) (s : State) : Outcome State Fault Refusal :=
  match (s.dlink link).change with
  | none => done s
  | some c =>
    let s := if c.mask.getLsbD ch && (2 ≤ (bitList c.mask).length) then s.admitMember link ch else s
    done (s.maskReached link ch)

end Sys2Proof.Machine
end

