-- ==== Sys2Proof/Machine/Line.lean ====
section
/-! DEFINITION. The line code as functions of bits and bytes alone: scrambler, the two LDPC codes, the preamble symbols
and the loading of subcarriers (chapters 2, 3 and 7). -/

namespace Sys2Proof.Line

open Crypto

/-! ## Sequences -/

/-- A bit sequence with s(k) = s(k − a) + s(k − b), a the register's length, begun with the register all ones: its first
`a` bits are ones. `reg` holds the last `a` bits, oldest first. -/
def lfsr (a b : Nat) (reg : List Bool) : Nat → List Bool
  | 0 => []
  | n + 1 =>
    let out := reg.headD true
    let fb := xor out (reg.getD (a - b) true)
    out :: lfsr a b (reg.drop 1 ++ [fb]) n

/-- The first `n` bits of the scrambler (R56, R284). -/
def scramblerBits (n : Nat) : List Bool := lfsr 31 28 (List.replicate 31 true) n

/-- The bits of a byte string, most significant bit first. -/
def bitsOfBytes (b : List Byte) : List Bool := b.flatMap (fun x => (List.range 8).map (fun i => x.getLsbD (7 - i)))

/-- Bytes from bits, most significant bit first. -/
def bytesOfBits (b : List Bool) : Nat → List Byte
  | 0 => []
  | n + 1 => BitVec.ofNat 8 ((b.take 8).foldl (fun a x => 2 * a + (if x then 1 else 0)) 0) :: bytesOfBits (b.drop 8) n

/-- Scrambling, and descrambling, of a byte string whose first bit the generator starts at. -/
def scramble (b : List Byte) : List Byte :=
  xorBytes b (bytesOfBits (scramblerBits (8 * b.length)) b.length)

/-- The QPSK sequence Q (R85): signs of the real and imaginary part of Q(i), true for negative. -/
def qpsk (n : Nat) : List (Bool × Bool) :=
  let bits := lfsr 11 9 (List.replicate 11 true) (2 * n)
  (List.range n).map (fun i => (bits.getD (2 * i) false, bits.getD (2 * i + 1) false))

/-! ## Subcarriers (R83, R84, R86) -/

/-- The bin of an active index. -/
def binOf (i : Nat) : Int := if i ≤ 1855 then (i : Int) - 1856 else (i : Int) - 1855

/-- The active indices of the detection symbol's loaded bins: bin number a multiple of 4. -/
def detectionIndices : List Nat := (List.range 3712).filter (fun i => decide (binOf i % 4 = 0))

def isPilot (i : Nat) : Bool := i % 29 == 14

/-- The active indices of the data subcarriers, rising. -/
def dataIndices : List Nat := (List.range 3712).filter (fun i => !isPilot i)

/-! ## Mapping (R128) -/

/-- The inverse of the binary-reflected Gray code, for labels of up to 3 bits. -/
def grayInv (label : Nat) : Nat := (label ^^^ (label / 2)) ^^^ (label / 4)

/-- The level a label of `m` bits selects. -/
def level (m label : Nat) : Int := 2 * (grayInv label : Int) - (2 ^ m - 1)

/-- Coded bits per symbol of a profile: C = 2 × Σ b(i) (R125). -/
def cBits (b : List Nat) : Nat := 2 * b.foldl (· + ·) 0

/-- Codewords of a downstream block (R129). -/
def codewordsOf (c : Nat) : Nat := 248 * c / 14336

/-- Segment-area bytes of a burst (R258). -/
def capacity (len c : Nat) : Nat := (len - 5) * c / 7168 * 672

/-! ## LDPC codes (R131, R282) -/

/-- The column `c` of a codeword, as a number whose most significant bit is the column's bit 0. -/
def column (w : List Byte) (c : Nat) : BitVec 256 := BitVec.ofNat 256 (beNat (slice w (32 * c) 32))

/-- Table POD-2. -/
def offsetsDown (a : Nat) : List Nat :=
  [[0, 1, 3, 6], [0, 2, 3, 7], [0, 1, 4, 5], [0, 2, 5, 6], [0, 3, 4, 7], [0, 1, 2, 4]].getD a []

/-- Table UBT-2. -/
def offsetsUp (a : Nat) : List Nat := [[0, 1, 2, 4], [0, 1, 3, 5], [0, 2, 3, 6]].getD a []

/-- The shift of the entry in row `i`, column `c` of the downstream base matrix. -/
def shiftDown (i c : Nat) : Option Nat :=
  if c < 48 then
    if (offsetsDown (c / 8)).contains ((i + 8 - c % 8) % 8) then some ((61 * i + 47 * c + 13 * i * c) % 256) else none
  else if c = 48 then
    match i with
    | 0 => some 1
    | 4 => some 0
    | 7 => some 1
    | _ => none
  else if i + 49 = c ∨ i + 48 = c then some 0 else none

/-- The shift of the entry in row `i`, column `c` of the upstream base matrix. -/
def shiftUp (i c : Nat) : Option Nat :=
  if c < 21 then
    if (offsetsUp (c / 7)).contains ((i + 7 - c % 7) % 7) then some ((29 * i + 83 * c + 11 * i * c) % 256) else none
  else if c = 21 then
    match i with
    | 0 => some 1
    | 3 => some 0
    | 6 => some 1
    | _ => none
  else if i + 22 = c ∨ i + 21 = c then some 0 else none

/-- The sum of the checks of row `i` over the columns below `n`. -/
def rowSum (shift : Nat → Nat → Option Nat) (w : List Byte) (n i : Nat) : BitVec 256 :=
  (List.range n).foldl (fun a c => match shift i c with
    | some s => a ^^^ (column w c).rotateLeft s
    | none => a) 0

/-- All 2,048 parity equations of a downstream codeword of 1,792 bytes hold (R133). -/
def parityDown (w : List Byte) : Bool := (List.range 8).all (fun i => rowSum shiftDown w 56 i == 0)

/-- All 1,792 checks of an upstream codeword of 896 bytes hold. -/
def parityUp (w : List Byte) : Bool := (List.range 7).all (fun i => rowSum shiftUp w 28 i == 0)

/-- The systematic codeword of 672 information bytes (R283). -/
def encodeUp (info : List Byte) : List Byte :=
  let sums := (List.range 7).map (rowSum shiftUp info 21)
  let p0 := sums.foldl (· ^^^ ·) 0
  let rest := (List.range 6).foldl (fun (ps : List (BitVec 256)) i =>
    let own := match shiftUp i 21 with
      | some s => p0.rotateLeft s
      | none => 0
    let prev := if i = 0 then 0 else ps.headD 0
    (sums.getD i 0 ^^^ own ^^^ prev) :: ps) []
  info ++ (p0 :: rest.reverse).flatMap (fun p => beBytes 32 p.toNat)

/-- The coded form of a burst: header and segment area scrambled as one sequence, each 672 bytes one codeword (R284,
R285). -/
def encodeBurst (header area : List Byte) : List (List Byte) :=
  let info := scramble (header ++ area)
  (pieces 672 info (info.length / 672)).map encodeUp

/-- Bits in which two byte strings differ. -/
def distance (a b : List Byte) : Nat :=
  (xorBytes a b).foldl (fun n x => n + ((List.range 8).filter (fun i => x.getLsbD i)).length) 0

/-! ## SLE headers (Table SCA-4) -/

/-- The eight bytes of an SLE header. -/
def sleHeader (linkId len : Nat) (first last : Bool) (seq : Nat) : List Byte :=
  let top := beBytes 6 (linkId % 65536 * 2 ^ 32 + len % 16384 * 2 ^ 18 + (if first then 2 ^ 17 else 0) +
    (if last then 2 ^ 16 else 0) + seq % 4096 * 16)
  top ++ beBytes 2 (crc16 top).toNat

/-- HCS verifies. -/
def hcsOk (h : List Byte) : Bool := beNat (slice h 6 2) == (crc16 (h.take 6)).toNat

/-- The byte count a message adds, framed (R74). -/
def frameMsg (tid type : Nat) (rsp : Bool) (seq : Byte) (body : List Byte) : List Byte :=
  let m := beBytes 2 (tid * 64 + type * 2 + (if rsp then 1 else 0)) ++ beBytes 2 body.length ++ [seq, 0, 0, 0] ++ body
  m ++ beBytes 4 (crc32 m).toNat

end Sys2Proof.Line
end

