-- ==== Sys2Proof/Machine/Queues.lean ====
section
/-! DEFINITION. The queues of chapter 6 and the cells of the Hoard they hold (R432, R433): admission, release, return and
discard of frames, bindings, shapers, and the twin's positions (R520). -/

namespace Sys2Proof.Machine

open Host (Outcome)
open Crypto (leBytes beBytes)

/-! ## Fuses and twin operation as other chapters read them -/

/-- A fused ceiling (Table BOOT-8): none while blank. A BAD launch-power ceiling acts as blank, a BAD shaper ceiling as
1 Mb/s (R567). -/
def State.ceiling (s : State) (field : Nat) : Option Nat :=
  if (s.fuse field).bad then (if field = 0 then none else some 1)
  else if (s.fuse field).programmed then some (s.fuse field).value else none

def State.twinOn (s : State) : Bool := s.rbit Reg.ACT_TWIN_CFG 0
def State.twinBit (s : State) : Bool := s.rbit Reg.ACT_TWIN_CFG 1

/-- The Acorn is held (R197, R502): by a device without twin operation always, and otherwise while the lease timer runs
and the takeover preparation is done. FORCE_OFF and FORCE_ON are the overrides of TWN_ACORN_OVR. -/
def State.acorn (s : State) : Bool :=
  let l := s.twn.lease
  let looped := (List.range 4).all (fun n => s.rbit (Reg.POD_TX_CTRL n) 1)
  if !s.twinOn then true
  else if l.forceOn && looped then true
  else if l.forceOff then false
  else l.holds && decide (0 < l.left)

/-- This device is the standby of a pair whose mirror is in use (R518). -/
def State.standby (s : State) : Bool := s.twinOn && !s.twn.lease.holds

/-- A queue becomes UNALIGNED (R525). -/
def State.unalign (s : State) (q : Nat) : State :=
  if q < 4096 ∧ (s.queue q).aligned then
    ((s.modQueue q (fun x => { x with aligned := false })).bump Reg.TWN_CNT_UNALIGNED).raise Reg.TWN_STATUS 12
  else s

/-! ## Counters inside contexts -/

/-- Add to a 48-bit count of a queue; its bit 47 becoming 1 sets USQ_STATUS.CNT_HALF (R275). -/
def State.countQueue (s : State) (q n : Nat) (get : Queue → Wide) (put : Queue → Wide → Queue) : State :=
  let (v, h) := wideAdd (get (s.queue q)) n
  (s.modQueue q (fun x => put x v)).raiseIf h Reg.USQ_STATUS 7

def State.countUlink (s : State) (i n : Nat) : State :=
  let (v, h) := wideAdd (s.ulink i).segments n
  (s.modUlink i (fun x => { x with segments := v })).raiseIf h Reg.USQ_STATUS 7

def State.countAlloc (s : State) (a n : Nat) (get : Alloc → Wide) (put : Alloc → Wide → Alloc) : State :=
  let (v, h) := wideAdd (get (s.alloc a)) n
  (s.modAlloc a (fun x => put x v)).raiseIf h Reg.USQ_STATUS 7

/-! ## Cells (R432, R433, R439) -/

def isUs (q : Nat) : Bool := decide (q < 4096)

/-- First and last cell of a frame in its queue's chain. -/
def QFrame.firstCell (f : QFrame) : Nat := f.start / 256
def QFrame.lastCell (f : QFrame) : Nat := (f.start + f.len - 1) / 256

def QFrame.covers (f : QFrame) (c : Nat) : Bool := decide (f.firstCell ≤ c) && decide (c ≤ f.lastCell)

/-- No cell of either partition is allocated. -/
def State.hoardEmpty (s : State) : Bool :=
  s.usq.queues.all (fun e => e.2.frames.isEmpty) && s.usq.flight.isEmpty && decide (s.hrd.lostCells = 0)

/-- Frames of a queue that hold cells. -/
def State.liveFrames (s : State) (q : Nat) : List QFrame :=
  (s.queue q).frames ++ (s.usq.flight.filter (fun e => e.1 = q)).map (·.2)

/-- The upstream partition takes the low addresses (the model's choice); addresses rotate through the 64 pseudo-channels
(R429), so a unit number below UP_GIB × 65,536 is upstream. -/
def State.unitIsUs (s : State) (u : Nat) : Bool := decide (u % 2 ^ 22 < s.fld Reg.HRD_PART 5 0 * 65536)

/-- Cells return to a partition; failing ones among them are retired. Which cell a failing one is, the spec does not
say: the first of its partition to come free (R439). -/
def State.freeCells (s : State) (us : Bool) (cells descs : Nat) : State :=
  let gone := (s.hrd.failing.filter (fun u => s.unitIsUs u == us)).take cells
  let to0 := gone.filter (fun u => u / 2 ^ 22 < 32)
  let to1 := gone.filter (fun u => 32 ≤ u / 2 ^ 22)
  let room0 := 4096 - s.hrd.retired0.length
  let room1 := 4096 - s.hrd.retired1.length
  let lost := min to0.length room0 + min to1.length room1
  let full := decide (room0 < to0.length) || decide (room1 < to1.length)
  let s := s.modHrd (fun h => { h with
    failing := h.failing.filter (fun u => !gone.contains u)
    retired0 := h.retired0 ++ to0.take room0
    retired1 := h.retired1 ++ to1.take room1
    usFree := if us then h.usFree + cells - lost else h.usFree
    dsFree := if us then h.dsFree else h.dsFree + cells - lost
    usDesc := if us then h.usDesc + descs else h.usDesc
    dsDesc := if us then h.dsDesc else h.dsDesc + descs })
  s.raiseIf full Reg.HRD_STATUS 5

/-- A frame that is no longer held by its queue or in flight gives back the cells no other frame has bytes in. -/
def State.releaseCells (s : State) (q : Nat) (f : QFrame) : State :=
  let others := (s.liveFrames q).filter (fun x => x.id ≠ f.id)
  let cells := (List.range (f.lastCell + 1 - f.firstCell)).filter (fun k =>
    !others.any (fun x => x.covers (f.firstCell + k)))
  s.freeCells (isUs q) cells.length 1

/-- Unused room in the tail cell of a queue. -/
def State.tailRoom (s : State) (q : Nat) : Nat :=
  let t := (s.queue q).tail
  if (s.liveFrames q).any (fun f => f.covers ((t - 1) / 256)) then (256 - t % 256) % 256 else 0

/-! ## Bindings (R239) -/

/-- The open state of a queue's head frame. -/
def Queue.isOpen (q : Queue) : Bool := match q.frames with
  | f :: _ => decide (0 < f.sent)
  | [] => false

def Queue.depth (q : Queue) : Nat := q.frames.foldl (fun a f => a + f.len) 0

/-- A held binding takes effect. -/
def Queue.bind (q : Queue) : Queue := { q with linkF := q.link, allocF := q.alloc, bindPending := false }

/-- A queue whose open state has ended: its Link is free again. A binding held is applied by BIND_APPLY. -/
def State.closeLink (s : State) (q : Nat) : State :=
  let l := (s.queue q).linkF
  if (s.ulink l).openQueue = some q then s.modUlink l (fun x => { x with openQueue := none }) else s

/-! ## Release, return and discard of frames -/

/-- Take a frame away from its queue: cells and descriptor return. -/
def State.dropFrame (s : State) (q : Nat) (f : QFrame) : State :=
  let s := if 0 < f.sent then s.closeLink q else s
  let s := s.modQueue q (fun x => { x with frames := x.frames.filter (fun y => y.id ≠ f.id) })
  s.releaseCells q f

/-- A frame whose last segment, or last byte, was sent is released. -/
def State.releaseFlight (s : State) (q id : Nat) : State :=
  match s.usq.flight.find? (fun e => e.1 = q ∧ e.2.id = id) with
  | none => s
  | some e =>
    let s := s.modUsq (fun u => { u with flight := u.flight.filter (fun x => ¬ (x.1 = q ∧ x.2.id = id)) })
    s.releaseCells q e.2

/-- Insert a frame by its place in the chain. -/
def insertFrame (f : QFrame) : List QFrame → List QFrame
  | [] => [f]
  | g :: r => if f.start < g.start then f :: g :: r else g :: insertFrame f r

/-- A frame returns whole to the head of its queue (R265): it is encrypted afresh when next placed. The Link's open state
is cleared: a later frame of the queue that is open starts again, as the head end discards it at the returned frame's
FIRST segment (R64). -/
def State.returnFrame (s : State) (q id : Nat) : State :=
  let back (f : QFrame) (n : Nat) : QFrame := { f with id := n, sent := 0, prot := [] }
  let n := s.usq.nextId
  match s.usq.flight.find? (fun e => e.1 = q ∧ e.2.id = id) with
  | some e =>
    let s := s.modUsq (fun u => { u with
      nextId := n + 1, flight := u.flight.filter (fun x => ¬ (x.1 = q ∧ x.2.id = id)) })
    (((s.closeLink q).modQueue q (fun x => { x with
      frames := insertFrame (back e.2 n) (x.frames.map (fun f => { f with sent := 0 })) }))).bump Reg.USQ_CNT_ABANDON_FRAMES
  | none =>
    if (s.queue q).frames.any (fun f => f.id = id) then
      let s := (s.modUsq (fun u => { u with nextId := n + 1 })).closeLink q
      (s.modQueue q (fun x => { x with frames := x.frames.map (fun f => if f.id = id then back f n else f) })).bump
        Reg.USQ_CNT_ABANDON_FRAMES
    else s

/-- Discard every frame of a queue (R245). -/
def State.flushQueue (s : State) (q : Nat) : State :=
  let fs := (s.queue q).frames
  let s := fs.foldl (fun s f => s.dropFrame q f) s
  let s := s.countQueue q fs.length (·.flushed) (fun x v => { x with flushed := v })
  s.unalign q

/-! ## Shapers (R246 to R249) -/

/-- R_eff in Mb/s; none while unshaped. -/
def State.rateOf (s : State) (q : Nat) : Option Nat :=
  let r := (s.queue q).rate
  match s.ceiling (if isUs q then 1 else 2) with
  | none => if r = 0 then none else some r
  | some c => some (if r = 0 then c else min r c)

def State.rateClamped (s : State) (q : Nat) : Bool := match s.ceiling (if isUs q then 1 else 2) with
  | none => false
  | some c => decide (c < (s.queue q).rate)

/-- One refill of a queue. -/
def State.refill (s : State) (q : Nat) : State :=
  match s.rateOf q with
  | none => s.modQueue q (fun x => { x with bucket := 0 })
  | some r => s.modQueue q (fun x => { x with bucket := min (x.bucket + r) (8 * x.burst) })

/-- The charge of a decision. An unshaped queue's B is held at 0. -/
def State.charge (s : State) (q bytes : Nat) : State :=
  match s.rateOf q with
  | none => s
  | some _ => s.modQueue q (fun x => { x with bucket := x.bucket - 8 * bytes })

/-! ## Queue words (Table USQ-6) -/

/-- A write of word 2: RATE (R246, R248). -/
def State.writeRate (s : State) (q : Nat) (v : Word) : State :=
  let s := s.modQueue q (fun x => { x with rate := bitsOf v.toNat 19 0 })
  s.raiseIf (s.rateClamped q) Reg.USQ_STATUS 2

/-- A write of word 3: BURST (R248). -/
def State.writeBurst (s : State) (q : Nat) (v : Word) : State :=
  let b := bitsOf v.toNat 23 0
  s.modQueue q (fun x => { x with burst := b, bucket := if b < x.burst then min x.bucket (8 * b) else x.bucket })

/-- Another enabled queue of the allocation holds the strict rank (R238). -/
def State.rankTaken (s : State) (q alloc cls : Nat) : Bool :=
  s.usq.queues.any (fun e => e.1 ≠ q && isUs e.1 && e.2.enable && e.2.alloc == alloc && e.2.cls == cls)

/-- A write of word 0 (R236, R238, R239, R249). -/
def State.writeQueue0 (s : State) (q : Nat) (v : Word) : State :=
  let link := bitsOf v.toNat 11 0
  let alloc := bitsOf v.toNat 19 12
  let cls := bitsOf v.toNat 22 20
  let en := v.getLsbD 24
  if isUs q && (decide (5 ≤ cls) || (en && decide (1 ≤ cls) && s.rankTaken q alloc cls)) then s.raise Reg.USQ_STATUS 0
  else
    let x := s.queue q
    let moved := isUs q && (decide (link ≠ x.linkF) || decide (alloc ≠ x.allocF))
    let s := s.modQueue q (fun x => { x with
      link := link, alloc := alloc, cls := cls, enable := en
      bucket := if en && !x.enable then 0 else x.bucket
      deficit := if en && !x.enable then 0 else x.deficit })
    if moved && x.isOpen then
      (s.modQueue q (fun x => { x with bindPending := true })).bumpIf (!x.bindPending) Reg.USQ_CNT_BIND_DEFER
    else s.modQueue q Queue.bind

/-- R240: the written shadow words of the words that the committed sets name are applied. -/
def State.commitQueues (s : State) (bind rate : Bool) : State :=
  let keys := s.usq.queues.map (·.1)
  keys.foldl (fun s q =>
    let x := s.queue q
    let s := match bind, x.sh0 with
      | true, some w => (s.writeQueue0 q w).modQueue q (fun x => { x with sh0 := none })
      | _, _ => s
    let s := match rate, x.sh2 with
      | true, some w => (s.writeRate q w).modQueue q (fun x => { x with sh2 := none })
      | _, _ => s
    match rate, x.sh3 with
      | true, some w => (s.writeBurst q w).modQueue q (fun x => { x with sh3 := none })
      | _, _ => s) s

/-! ## Admission (R242 to R244, R432, R520) -/

/-- The descriptors and cells a frame takes, or none. -/
def State.hasRoom (s : State) (q len : Nat) : Bool :=
  let need := (len - s.tailRoom q + 255) / 256
  if isUs q then decide (need ≤ s.hrd.usFree) && decide (0 < s.hrd.usDesc)
  else decide (need ≤ s.hrd.dsFree) && decide (0 < s.hrd.dsDesc)

/-- The twin position and check value after a frame (R520). -/
def Queue.nextPos (x : Queue) (len : Nat) (fcs : List Byte) : Queue :=
  { x with
    pos := (x.pos + len) % 2 ^ 48, f := (x.f + 1) % 2 ^ 48
    acc := Crypto.crc32cRaw x.acc (beBytes 2 len ++ fcs), checkDue := true }

/-- A frame that the standby discards at admission under a pending trim, or a MARK (R522). -/
def State.trimCount (s : State) (q : Nat) (x : QFrame) : State :=
  let s := s.countQueue q 1 (·.trimmed) (fun x v => { x with trimmed := v })
  (s.modQueue q (fun y => { y with lastTrim := some (x.f, x.pos, x.acc) })).bump Reg.TWN_CNT_TRIMMED

/-- R524: a comparison that waits for frame F is made when the queue reaches it. -/
def State.settleWaits (s : State) (q : Nat) : State :=
  let x := s.queue q
  let due := x.waits.filter (fun w => w.1 = x.f)
  if due.isEmpty then s else
  let s := s.modQueue q (fun x => { x with waits := x.waits.filter (fun w => w.1 ≠ x.f) })
  if due.all (fun w => w.2.1 = x.pos && w.2.2.1 = x.acc) then s else s.unalign q

/-- Admit a frame to queue `q`: `len` is its queued length, `fcs` its FCS as received. -/
def State.admitFrame (s : State) (q : Nat) (data : List Byte) (len stamp : Nat) (fcs : List Byte) : State :=
  let x := s.queue q
  let drop (s : State) : State := (s.raise Reg.USQ_STATUS 6).unalign q
  if !x.enable then drop (s.countQueue q 1 (·.dropDisabled) (fun x v => { x with dropDisabled := v }))
  else if isUs q && (s.keys (2 * x.linkF + 1)).held == .discarding then
    let k := s.keys (2 * x.linkF + 1)
    let (v, h) := wideAdd k.heldDisc 1
    (((s.setKeys (2 * x.linkF + 1) { k with heldDisc := v }).raiseIf h Reg.LSC_STATUS 12).bump
      Reg.LSC_CNT_HELD_DISC).raise Reg.LSC_STATUS 10
  else if x.maxDepth ≠ 0 ∧ x.maxDepth * 4096 < x.depth + len then
    drop (s.countQueue q 1 (·.dropDepth) (fun x v => { x with dropDepth := v }))
  else if !s.hasRoom q len then
    drop (s.countQueue q 1 (·.dropHoard) (fun x v => { x with dropHoard := v }))
  else
    let need := (len - s.tailRoom q + 255) / 256
    let y := x.nextPos len fcs
    let start := if s.tailRoom q = 0 then (x.tail + 255) / 256 * 256 else x.tail
    let f : QFrame :=
      { id := s.usq.nextId, data := data, len := len, start := start, visible := false, seenAt := 0, prot := []
        link := x.linkF, sent := 0, admitAt := s.now, stamp := stamp, pos := y.pos, f := y.f, acc := y.acc }
    let s := (s.modQueue q (fun _ => { y with admittedAt := some s.ticks })).settleWaits q
    let s := s.countQueue q 1 (·.enqFrames) (fun x v => { x with enqFrames := v })
    let s := s.countQueue q len (·.enqBytes) (fun x v => { x with enqBytes := v })
    let trimmed := match x.trim with
      | some t => decide (y.pos ≤ t)
      | none => false
    if trimmed then
      (s.trimCount q f).modQueue q (fun x => { x with trim := if x.trim = some y.pos then none else x.trim })
    else
      let s := if x.trim.isSome then (s.modQueue q (fun x => { x with trim := none })).unalign q else s
      let s := s.modHrd (fun h => if isUs q then { h with usFree := h.usFree - need, usDesc := h.usDesc - 1 }
        else { h with dsFree := h.dsFree - need, dsDesc := h.dsDesc - 1 })
      let s := s.modUsq (fun u => { u with nextId := u.nextId + 1 })
      s.modQueue q (fun x => { x with frames := x.frames ++ [f], tail := start + len })

/-! ## Commands of chapter 6 that concern one queue -/

/-- `FRAME_VISIBLE` (R244): the last cell of the oldest frame still being written is written. -/
def execFrameVisible (queue : Fin 8192) (s : State) : Outcome State Fault Refusal :=
  match (s.queue queue).frames.find? (fun f => !f.visible) with
  | none => done s
  | some f =>
    done (s.modQueue queue (fun x => { x with frames := x.frames.map (fun y =>
      if y.id = f.id then { y with visible := true, seenAt := s.now } else y) }))

/-- `SHAPER_REFILL` (R247): one refill of every shaped queue. With a fused ceiling every queue of its direction is
shaped. -/
def execShaperRefill (s : State) : Outcome State Fault Refusal :=
  let listed := s.usq.queues.map (·.1)
  let us := if (s.ceiling 1).isSome then List.range 4096 else listed.filter isUs
  let eg := if (s.ceiling 2).isSome then (List.range 4096).map (· + 4096) else listed.filter (fun q => !isUs q)
  done ((us ++ eg).foldl State.refill s)

/-- `QUEUE_SAMPLE` (R269): one sample of every queue; a queue that holds no visible frame samples 0 and 0. -/
def execQueueSample (s : State) : Outcome State Fault Refusal :=
  let one (x : Queue) : Queue :=
    if x.frames.isEmpty then x
    else
      let d := (x.depth + 255) / 256
      let h := match x.frames with
        | f :: _ => if f.visible then min ((s.now - f.seenAt) / 256) (2 ^ 32 - 1) else 0
        | [] => 0
      let a := x.lat
      { x with lat :=
        { n := a.n + 1
          depthMin := if a.n = 0 then d else min a.depthMin d
          depthMax := max a.depthMax d
          depthSum := a.depthSum + d
          delayMin := if a.n = 0 then h else min a.delayMin h
          delayMax := max a.delayMax h
          delaySum := a.delaySum + h } }
  done (s.modUsq (fun u => { u with
    latN := if u.latOff then u.latN else u.latN + 1
    queues := if u.latOff then u.queues else u.queues.map (fun e => (e.1, one e.2)) }))

/-- A sampling period ends and the next begins at `start`: every queue's results replace the previous ones. -/
def State.endPeriod (s : State) (start : Nat) (step : Bool) : State :=
  let u := s.usq
  let qs := u.queues.map (fun e =>
    (e.1, if u.latOff then { e.2 with lat := .zero } else { e.2 with last := e.2.lat, lat := .zero }))
  let s := s.modUsq (fun u => { u with
    queues := qs.filter (fun e => e.2 ≠ Queue.reset)
    latLast := if u.latOff then u.latLast else some (u.latStart, u.latStep || step, u.latN)
    latStart := start, latStep := false, latN := 0, latOff := false })
  s.raiseIf (!u.latOff) Reg.USQ_STATUS 3

/-- `LAT_PERIOD_END` (R270). -/
def execLatPeriodEnd (s : State) : Outcome State Fault Refusal :=
  let p := s.fld Reg.USQ_LAT_PERIOD 19 0 * 256000
  let s := s.passTo ((s.usq.latStart / p + 1) * p)
  done (s.endPeriod (s.now / p * p) false)

/-- R272: the last completed record of a queue. -/
def State.latRecord (s : State) (q : Nat) : Option LatRec :=
  match s.usq.latLast with
  | none => none
  | some (start, step, n) =>
    let a := (s.queue q).last
    let low (v : Nat) : Nat := if a.n < n then 0 else v
    some ⟨start, step, low a.depthMin, a.depthMax, a.depthSum / max n 1, low a.delayMin, a.delayMax, a.delaySum / max n 1,
      n⟩

/-- `BIND_APPLY` (R239): a held binding takes effect once the queue has no open frame. -/
def execBindApply (queue : Fin 8192) (s : State) : Outcome State Fault Refusal :=
  let x := s.queue queue
  if x.bindPending && !x.isOpen then done (s.modQueue queue Queue.bind) else done s

end Sys2Proof.Machine
end

