-- ==== Sys2Proof/Machine/Lsc.lean ====
section
/-! DEFINITION. Link security (chapter 9): the key store, installing and switching keys, encryption and authentication of
Link frames, held Links. -/

namespace Sys2Proof.Machine

open Host (Outcome)
open Crypto (beBytes leBytes beNat slice)

/-! ## Slots -/

def LinkKeys.slots (k : LinkKeys) : List KeySlot := [k.a, k.b]

def LinkKeys.current? (k : LinkKeys) : Option KeySlot := k.slots.find? (fun x => x.state = .current)

/-- Change the slots in a state. -/
def LinkKeys.mapSlots (k : LinkKeys) (f : KeySlot → KeySlot) : LinkKeys := { k with a := f k.a, b := f k.b }

/-- The 24-bit key check value (R358). -/
def KeySlot.kcv (x : KeySlot) : List Byte :=
  if x.state = .empty then [0, 0, 0] else (Crypto.aes x.key (List.replicate 16 0)).take 3

def slotCode (x : SlotState) : Nat := match x with
  | .empty => 0 | .next => 1 | .current => 2 | .old => 3

def heldCode (x : HeldCause) : Nat := match x with
  | .none => 0 | .noKey => 1 | .exhausted => 2 | .erased => 3 | .discarding => 4

/-- KEYMETA of one Link and direction (Table TWN-3). -/
def State.sendKeymeta (s : State) (i : Nat) (up : Bool) : State :=
  let k := s.keys (2 * i + b2n up)
  let one (x : KeySlot) (slot : Nat) : List Byte :=
    beBytes 2 i ++ beBytes 1 (b2n up + 2 * slot) ++ beBytes 1 (slotCode x.state) ++
      beBytes 2 (x.epoch.toNat + 2 ^ 15 * b2n x.twin) ++ beBytes 4 x.salt.toNat ++ x.kcv
  if s.twn.lease.holds then s.sendTwin 0x10 (one k.a 0 ++ one k.b 1) else s

/-- Add to a 48-bit word of Table LSC-7. -/
def State.countKeys (s : State) (k n : Nat) (get : LinkKeys → Wide) (put : LinkKeys → Wide → LinkKeys) : State :=
  let (v, h) := wideAdd (get (s.keys k)) n
  (s.setKeys k (put (s.keys k) v)).raiseIf h Reg.LSC_STATUS 12

/-! ## Held Links (R370, R371) -/

/-- Counter value at which a slot is exhausted. -/
def ctrEnd : Nat := 2 ^ 48

def LinkKeys.usable (k : LinkKeys) : Bool := match k.current? with
  | some x => decide (x.ctr < ctrEnd)
  | none => false

/-- The frames of a Link in the discarding state, but for an open one, are discarded. -/
def State.discardHeld (s : State) (i : Nat) : State :=
  let qs := (s.usq.queues.filter (fun e => isUs e.1 && e.2.linkF == i)).map (·.1)
  qs.foldl (fun s q =>
    let fs := (s.queue q).frames.filter (fun f => f.sent = 0)
    let n := fs.length
    let s := fs.foldl (fun s f => s.dropFrame q f) s
    if n = 0 then s else
    ((s.countKeys (2 * i + 1) n (·.heldDisc) (fun k v => { k with heldDisc := v })).count
      Reg.LSC_CNT_HELD_DISC n).raise Reg.LSC_STATUS 10) s

/-- A Link's held state after its mapping or its CURRENT slot may have changed. -/
def State.updateHeld (s : State) (i : Nat) : State :=
  let k := s.keys (2 * i + 1)
  if !(s.dlink i).mapped then
    if k.held = .none then s else s.setKeys (2 * i + 1) { k with held := .none, holdUntil := none }
  else if k.usable then
    if k.held = .none then s else s.setKeys (2 * i + 1) { k with held := .none, holdUntil := none }
  else if k.held ≠ .none then s
  else
    let cause : HeldCause := match k.current? with
      | some _ => .exhausted
      | none => if s.lsc.erased then .erased else .noKey
    let ms := s.fld Reg.LSC_HOLD_CTRL 15 0
    let s := s.raise Reg.LSC_STATUS 9
    if ms = 0 then (s.setKeys (2 * i + 1) { k with held := .discarding, holdUntil := none }).discardHeld i
    else
      s.setKeys (2 * i + 1) { k with
        held := cause, holdUntil := if ms = 65535 then none else some (s.ticks + ms * 1000 * ticksPerUs) }

/-! ## Clearing (R359, R377, R379) -/

/-- The key store is cleared. -/
def State.clearKeys (s : State) (cause : Nat) : State :=
  let had := (s.lsc.keys.filter (fun e => e.2.a.state ≠ .empty || e.2.b.state ≠ .empty)).map (·.1)
  let one (k : LinkKeys) : LinkKeys := { k with a := .empty, b := .empty, graceUntil := none }
  let s := s.modLsc (fun l => { l with
    kek := none, clearCause := cause, erased := true
    keys := (l.keys.map (fun e => (e.1, one e.2))).filter (fun e => e.2 ≠ LinkKeys.reset) })
  let s := (s.raise Reg.LSC_STATUS 8).bumpIf (decide (cause ≠ 7)) Reg.LSC_CNT_ERASES
  let s := (s.dsf.links.map (·.1)).foldl (fun s i =>
    let s := s.updateHeld i
    let k := s.keys (2 * i + 1)
    if k.held = .noKey ∨ k.held = .exhausted then s.setKeys (2 * i + 1) { k with held := .erased } else s) s
  had.foldl (fun s k => s.sendKeymeta (k / 2) (k % 2 = 1)) s

/-- R377: an alarm clears the key store where ERASE_ON_ALARM is set. -/
def State.alarmErase (s : State) (cause : Nat) : State :=
  if s.rbit Reg.LSC_CTRL 0 then s.clearKeys cause else s

/-! ## Installing (R360, R361) -/

/-- R373: the next counter at a takeover, or at an installation with twin state held. -/
def skippedCtr (own mirror : Nat) : Nat := min (max own (mirror + 2 ^ 24)) ctrEnd

/-- KEY_NEAR_END for a slot whose next counter is at or above 2^48 − 2^32, once (R369). -/
def State.nearEnd (s : State) (i : Nat) : State :=
  let k := s.keys (2 * i + 1)
  let due (x : KeySlot) : Bool := x.state != .empty && !x.nearEnd && decide (2 ^ 48 - 2 ^ 32 ≤ x.ctr)
  if k.slots.any due then
    let s := s.setKeys (2 * i + 1) (k.mapSlots (fun x => if due x then { x with nearEnd := true } else x))
    ((s.raise Reg.LSC_STATUS 0).setReg Reg.LSC_NEAR_LINK (packWord [(i, 12, 0), (1, 1, 16)])).count
      Reg.LSC_CNT_NEAR_END ((k.slots.filter due).length)
  else s

/-- The slot chosen by R361: EMPTY, else OLD, else NEXT. -/
def LinkKeys.place (k : LinkKeys) (x : KeySlot) : LinkKeys :=
  if k.a.state = .empty then { k with a := x }
  else if k.b.state = .empty then { k with b := x }
  else if k.a.state = .old then { k with a := x, graceUntil := none }
  else if k.b.state = .old then { k with b := x, graceUntil := none }
  else if k.a.state = .next then { k with a := x }
  else { k with b := x }

/-- The install check and its STATUS (Table LSC-3); `dir` holds the two direction bits. -/
def State.installKey (s : State) (link : Option Nat) (dir : Nat) (epoch : BitVec 15) (salt : Word)
    (wrapped : List Byte) : Nat × State :=
  let refuse (n : Nat) : Nat × State := (n, (s.raise Reg.LSC_STATUS 3).bump Reg.LSC_CNT_KEY_REFUSED)
  match s.lsc.kek with
  | none => refuse 1
  | some kek =>
    match link with
    | none => refuse 2
    | some i =>
      if dir % 4 = 0 ∨ dir % 4 = 3 then refuse 3
      else
        match Crypto.kwUnwrap kek wrapped with
        | none => refuse 4
        | some key =>
          let up := decide (dir % 4 = 2)
          let kx := 2 * i + b2n up
          let k := s.keys kx
          if k.slots.any (fun x => x.state ≠ .empty ∧ x.epoch = epoch) then refuse 5
          else
            let mirror := ((k.mirrors.find? (fun m => m.1 = epoch)).map (·.2)).getD 0
            let x : KeySlot :=
              { state := if k.current?.isSome then .next else .current
                key := key, salt := salt, epoch := epoch, twin := up && s.twinBit
                ctr := if up && k.mirrors.any (fun m => m.1 = epoch) then skippedCtr 0 mirror else 0
                nearEnd := false, mirror := mirror }
            let s := s.setKeys kx (k.place x)
            let s := (s.raise Reg.LSC_STATUS 2).raiseIf (decide (x.ctr = ctrEnd)) Reg.LSC_STATUS 1
            let s := if up then (s.nearEnd i).updateHeld i else s
            (0, s.sendKeymeta i up)

/-! ## Switching (R365 to R368) -/

/-- A switch is applied to a Link and direction (R366). -/
def State.applySwitch (s : State) (i : Nat) (up : Bool) (epoch : BitVec 15) : State :=
  let kx := 2 * i + b2n up
  let k := s.keys kx
  let hit (x : KeySlot) : Bool := (x.state == .next || x.state == .current) && x.epoch == epoch
  if !k.slots.any hit then (s.raise Reg.LSC_STATUS 5).bump Reg.LSC_CNT_SW_FAIL
  else
    let move (x : KeySlot) : KeySlot :=
      if hit x then { x with state := .current }
      else if x.state = .current then (if up then .empty else { x with state := .old })
      else x
    let k' := k.mapSlots move
    let grace := if k'.slots.any (fun x => x.state = .old) then
        (if k.slots.any (fun x => x.state = .old) then k.graceUntil
          else some (s.ticks + s.fld Reg.LSC_GRACE 15 0 * 1000 * ticksPerUs)) else none
    let s := (s.setKeys kx { k' with graceUntil := grace }).raise Reg.LSC_STATUS 4
    let s := if up then s.updateHeld i else s
    s.sendKeymeta i up

/-- R367: a KEYS commit applies every valid shadow as a switch, and clears the shadows. Answers whether one was valid. -/
def State.commitKeys (s : State) : Bool × State :=
  let due := s.lsc.keys.filter (fun e => e.2.shadow.isSome)
  (!due.isEmpty, due.foldl (fun s e =>
    let s := match e.2.shadow with
      | some ep => s.applySwitch (e.1 / 2) (e.1 % 2 = 1) ep
      | none => s
    s.setKeys e.1 { s.keys e.1 with shadow := none }) s)

/-! ## Frames -/

/-- The IV of R354. -/
def ivOf (salt : Word) (keyid ctr : Nat) : List Byte := beBytes 4 salt.toNat ++ beBytes 2 keyid ++ beBytes 6 ctr

/-- The additional data of R353. -/
def aadOf (linkId keyid ctr : Nat) : List Byte := beBytes 2 linkId ++ beBytes 2 keyid ++ beBytes 6 ctr

/-- The protected form of an Ethernet frame without its FCS (Table LSC-1). -/
def protect (key : List Byte) (salt : Word) (linkId keyid ctr : Nat) (pt : List Byte) : List Byte :=
  let (ct, tag) := Crypto.gcmSeal key (ivOf salt keyid ctr) (aadOf linkId keyid ctr) pt
  beBytes 2 keyid ++ beBytes 6 ctr ++ ct ++ tag

/-- R356: encrypt a frame of local Link `i` with its CURRENT slot. The caller has found the Link not held, and takes note
of a slot exhausted by the frame (R370) once the frame has left its queue or is open. -/
def State.encryptFrame (s : State) (i : Nat) (pt : List Byte) : List Byte × State :=
  let k := s.keys (2 * i + 1)
  match k.current? with
  | none => ([], s)
  | some x =>
    let keyid := x.epoch.toNat + 2 ^ 15 * b2n x.twin
    let out := protect x.key x.salt (s.dlink i).linkId.toNat keyid x.ctr pt
    let step (y : KeySlot) : KeySlot := if y.state = .current then { y with ctr := y.ctr + 1 } else y
    let s := s.setKeys (2 * i + 1) (k.mapSlots step)
    let s := (s.countKeys (2 * i + 1) 1 (·.frames) (fun k v => { k with frames := v })).bump Reg.LSC_CNT_ENC_FRAMES
    let s := s.nearEnd i
    (out, s.raiseIf (decide (x.ctr + 1 = ctrEnd)) Reg.LSC_STATUS 1)

/-- A failed downstream frame (R375, R376). -/
def State.authFail (s : State) (i reason : Nat) : State :=
  let s := s.bump (if reason = 1 then Reg.LSC_CNT_MALFORMED else if reason = 2 then Reg.LSC_CNT_NO_KEY
    else Reg.LSC_CNT_AUTH_FAIL)
  let s := s.countKeys (2 * i) 1 (·.fails) (fun k v => { k with fails := v })
  let s := (s.raise Reg.LSC_STATUS 6).setReg Reg.LSC_FAIL_LINK (packWord [(i, 12, 0), (reason, 2, 16), (1, 1, 20)])
  s.authFailure i

/-- `LINK_FRAME_AUTH` (R375): the oldest reassembled Link frame is decrypted and released, or fails. -/
def execLinkFrameAuth (s : State) : Outcome State Fault Refusal :=
  if s.coreReset 6 then done s else
  match s.dsf.frames with
  | [] => done s
  | f :: r =>
    let s := s.modDsf (fun d => { d with frames := r })
    let i := f.link
    if f.bytes.length < 24 then done (s.authFail i 1)
    else
      let keyid := beNat (slice f.bytes 0 2)
      let ctr := beNat (slice f.bytes 2 6)
      let k := s.keys (2 * i)
      match k.slots.find? (fun x => x.state ≠ .empty ∧ x.epoch.toNat = keyid % 2 ^ 15) with
      | none => done (s.authFail i 2)
      | some x =>
        let n := f.bytes.length - 24
        match Crypto.gcmOpen x.key (ivOf x.salt keyid ctr) (aadOf (s.dlink i).linkId.toNat keyid ctr)
            (slice f.bytes 8 n) (f.bytes.drop (8 + n)) with
        | none => done (s.authFail i 3)
        | some pt =>
          let mark (y : KeySlot) : KeySlot :=
            if y.state = x.state ∧ y.epoch = x.epoch then { y with twin := decide (2 ^ 15 ≤ keyid), ctr := ctr } else y
          let s := s.setKeys (2 * i) (k.mapSlots mark)
          let s := (s.countKeys (2 * i) 1 (·.frames) (fun k v => { k with frames := v })).bump Reg.LSC_CNT_DEC_OK
          if s.standby && !s.rbit Reg.TWN_CTRL 2 then done (s.bump Reg.TWN_CNT_DS_SUPPRESS)
          else
            let data := pt ++ leBytes 4 (Crypto.crc32 pt).toNat
            done { s with arrivals := s.arrivals ++ [⟨9, i, data, f.stamp, false⟩] }

/-! ## Timed commands -/

/-- `GRACE_EXPIRY` (R366): LSC_GRACE after a downstream switch, the OLD slot is cleared to EMPTY. -/
def execGraceExpiry (link : Fin 4096) (s : State) : Outcome State Fault Refusal :=
  let kx := 2 * link.val
  match (s.keys kx).graceUntil with
  | none => done s
  | some t =>
    let s := s.passToTick t
    let k := s.keys kx
    let s := s.setKeys kx { k.mapSlots (fun x => if x.state = .old then .empty else x) with graceUntil := none }
    done (s.sendKeymeta link false)

/-- `HOLD_EXPIRY` (R370): a held Link enters the discarding state. -/
def execHoldExpiry (link : Fin 4096) (s : State) : Outcome State Fault Refusal :=
  let kx := 2 * link.val + 1
  match (s.keys kx).holdUntil with
  | none => done s
  | some t =>
    let s := s.passToTick t
    done ((s.setKeys kx { s.keys kx with held := .discarding, holdUntil := none }).discardHeld link)

/-! ## Register writes of chapter 9 -/

/-- LSC_KL_CMD.LOAD (R360): install the staged key, then zero the wrap words. -/
def State.keyLoad (s : State) : State :=
  let i := s.fld Reg.LSC_KL_CTRL 11 0
  let link := if (s.dlink i).mapped then some i else none
  let dir := if s.rbit Reg.LSC_KL_CTRL 12 then 2 else 1
  let wrapped := (List.range 10).flatMap (fun w => beBytes 4 (s.reg (Reg.LSC_KL_WRAP w)).toNat)
  let (st, s) := s.installKey link dir (BitVec.ofNat 15 (s.fld Reg.LSC_KL_CTRL 30 16)) (s.reg Reg.LSC_KL_SALT) wrapped
  let s := (List.range 10).foldl (fun s w => s.setReg (Reg.LSC_KL_WRAP w) 0) s
  s.setReg Reg.LSC_KL_RESULT (packWord [(st, 3, 0), (1, 1, 8)])

/-- A word of the Link window (Table LSC-7). -/
def State.keyWord (s : State) (kx w : Nat) : Word :=
  let k := s.keys kx
  let up := kx % 2 = 1
  let lo (x : Nat) : Word := BitVec.ofNat 32 x
  let hi (x : Nat) (x' : KeySlot) : Word := packWord [(x / 2 ^ 32, 16, 0), ((x'.kcv.getD 2 0).toNat, 8, 24)]
  let id (x : KeySlot) : Word := packWord [(x.epoch.toNat, 15, 0), (b2n x.twin, 1, 15), (beNat (x.kcv.take 2), 16, 16)]
  let near := (k.current?.map (·.nearEnd)).getD false
  match w with
  | 0 => packWord [(slotCode k.a.state, 2, 0), (slotCode k.b.state, 2, 2), (b2n (up && k.held != .none), 1, 4),
      (if up then heldCode k.held else 0, 3, 5), (b2n near, 1, 8), (b2n k.sched.isSome, 1, 9)]
  | 1 => packWord [((k.shadow.getD k.shadowEpoch).toNat, 15, 0), (b2n k.shadow.isSome, 1, 15)]
  | 2 => id k.a
  | 3 => k.a.salt
  | 4 => lo k.a.ctr
  | 5 => hi k.a.ctr k.a
  | 6 => id k.b
  | 7 => k.b.salt
  | 8 => lo k.b.ctr
  | 9 => hi k.b.ctr k.b
  | 10 => match k.sched with
    | some (_, t) => ns32Of t
    | none => 0
  | 11 => match k.sched with
    | some (e, t) => packWord [(t % 256, 8, 0), (e.toNat, 15, 8)]
    | none => 0
  | 12 => k.frames.setWidth 32
  | 13 => BitVec.ofNat 32 (k.frames.toNat / 2 ^ 32)
  | 14 => k.fails.setWidth 32
  | 15 => BitVec.ofNat 32 (k.fails.toNat / 2 ^ 32)
  | 16 => k.heldDisc.setWidth 32
  | 17 => BitVec.ofNat 32 (k.heldDisc.toNat / 2 ^ 32)
  | 18 => lo k.a.mirror
  | 19 => lo (k.a.mirror / 2 ^ 32)
  | 20 => lo k.b.mirror
  | 21 => lo (k.b.mirror / 2 ^ 32)
  | _ => 0

/-- A write of word 1: the switch shadow (R367). -/
def State.writeKeyWord1 (s : State) (kx : Nat) (v : Word) : State :=
  let e := BitVec.ofNat 15 (bitsOf v.toNat 14 0)
  s.setKeys kx { s.keys kx with shadow := if v.getLsbD 15 then some e else none, shadowEpoch := e }

end Sys2Proof.Machine
end

