-- ==== Sys2Proof/Machine/Ubt.lean ====
section
/-! DEFINITION. The Burst Gate and the bursts it lets out (chapter 7): the conditions of Table UBT-6, both tests, cuts and
abandonments, light runs and the rogue-light detector. -/

namespace Sys2Proof.Machine

open Host (Outcome)
open Crypto (beBytes)

/-! ## The upstream control queue (R218) -/

/-- A message is created. -/
def State.queueMsg (s : State) (m : UpMsg) : State :=
  if s.act.uq.length < 64 then s.modAct (fun a => { a with uq := a.uq ++ [m] })
  else (s.bump Reg.ACT_CNT_UQ_DROP).raise Reg.ACT_STATUS 12

/-- Messages of a burst that was discarded, abandoned or cut return to the head. -/
def State.returnMsgs (s : State) (ms : List UpMsg) : State :=
  let all := ms ++ s.act.uq
  let lost := all.length - 64
  let s := s.modAct (fun a => { a with uq := all.take 64 })
  if lost = 0 then s else (s.count Reg.ACT_CNT_UQ_DROP lost).raise Reg.ACT_STATUS 12

/-! ## Geometry of a burst -/

def symbolPips : Nat := 6400

def Burst.end_ (b : Burst) : Nat := b.g.launch + b.g.len * symbolPips

/-- Begin of the light run the burst belongs to. -/
def Burst.runStart (b : Burst) : Nat := b.g.launch - b.rampUp
def Burst.runEnd (b : Burst) : Nat := b.end_ + b.rampDown

/-- The instant of the second test and of the launch (R303, R707). -/
def Burst.testAt (b : Burst) : Nat := if b.joined then b.g.launch else b.g.launch - b.rampUp

def State.rampUpOf (s : State) (n : Nat) : Nat := 256 * s.fld (Reg.POD_TX_RAMP n) 5 0

/-- R295: the ramp-down used under a guard, and whether it was shortened. -/
def State.rampDownOf (s : State) (n guard : Nat) : Nat × Bool :=
  let up := s.fld (Reg.POD_TX_RAMP n) 5 0
  let down := s.fld (Reg.POD_TX_RAMP n) 13 8
  if guard * 25 < up + down then (256 * (guard * 25 - up), true) else (256 * down, false)

/-! ## Light (R304, R305) -/

def tenMs : Nat := 2560000000

/-- How much of an interval lies in another. -/
def overlap (a b lo hi : Nat) : Nat := min b hi - max a lo

/-- Where the light counted for a burst begins: a joined burst's own part, or the whole light run once the burst before it
has ended. -/
def State.lightFrom (s : State) (n : Nat) (b : Burst) : Nat :=
  if b.joined && (s.ubtCh n).bursts.any (fun x => x.end_ == b.g.launch) then b.g.launch else b.runStart

/-- Light of a channel in the 10 ms ending at `e`, without burst `b`: emitted, open and planned. -/
def State.lightBefore (s : State) (n : Nat) (b : Burst) (e : Nat) : Nat :=
  let u := s.ubtCh n
  let emitted := u.runs.foldl (fun a r => a + overlap r.1 r.2 (e - tenMs) e) 0
  let planned := (u.bursts.filter (fun x => x.g ≠ b.g)).foldl (fun a x =>
    a + overlap (s.lightFrom n x) x.runEnd (e - tenMs) e) 0
  emitted + planned

/-- R305: the duty budget covers the burst's light. -/
def State.dutyOk (s : State) (n : Nat) (b : Burst) : Bool :=
  let e := b.runEnd
  let own := e - s.lightFrom n b
  decide (s.lightBefore n b e + own ≤ s.fld Reg.UBT_GATE_LIMITS 5 0 * 40000000)

/-- R304. -/
def Burst.runOk (b : Burst) : Bool := decide (b.runEnd - b.runStart ≤ 2000080 * 256)

/-- R208: the burst begins at or after the end of every earlier burst of the channel. -/
def State.collides (s : State) (n : Nat) (b : Burst) : Bool :=
  let u := s.ubtCh n
  decide (b.g.launch < u.lastEnd) ||
    u.bursts.any (fun x => x.g ≠ b.g && decide (x.g.tg < b.g.tg) && decide (b.g.launch < x.end_))

/-! ## The conditions of Table UBT-6 -/

/-- The grant kinds the published state permits (Table ACT-1). -/
def State.permits (s : State) (n : Nat) (k : GrantKind) : Bool :=
  s.rbit Reg.UBT_CTRL n &&
  match k, s.act.state with
  | .announce, .t2 => s.act.anchor == some n
  | .ranging _, .t3 => true
  | .ranging _, .t4 => true
  | .ranging _, .t7 => true
  | .alloc _, .t4 => s.ranged n && (s.actCh n).upEn
  | _, _ => false

/-- Conditions 1 to 6: those watched while the gate is open. -/
def State.watched (s : State) (n : Nat) (k : GrantKind) (code : Nat) : Bool := match code with
  | 1 => s.act.silence.isNone
  | 2 => s.flt.safe.isNone
  | 3 => !s.killLow n
  | 4 => (s.ceiling 0).isSome
  | 5 => s.podInService n && !s.rbit (Reg.POD_TX_CTRL n) 1 && !s.txRegionReset n
  | 6 => match k with
    | .alloc _ => s.acorn
    | .ranging _ => true
    | .announce => s.act.state == .t2
  | _ => true

/-- The codes of the conditions that fail for a burst at a test. Condition 12 holds by construction: bursts come only
from grants the decoder accepted, and last as long as they do. -/
def State.gateFails (s : State) (n : Nat) (b : Burst) : List Nat :=
  (List.range 12).map (· + 1) |>.filter (fun c =>
    if c ≤ 6 then !s.watched n b.g.kind c
    else match c with
      | 7 => !s.permits n b.g.kind
      | 8 => s.dsLost n
      | 9 => !s.dutyOk n b
      | 10 => !b.runOk
      | 11 => s.collides n b
      | _ => false)

/-- A failure is recorded with its lowest code, at a stage (1 first test, 2 second test, 3 after opening). -/
def State.recordCause (s : State) (n code stage : Nat) : State :=
  let s := s.bump (Reg.UBT_CNT_CAUSE code)
  let s := s.modUbt n (fun u => { u with cause := code, stage := stage })
  if code = 11 then (s.bump Reg.ACT_CNT_ADV_COLLIDE).raise Reg.ACT_STATUS 11 else s

/-- Conditions 9 and 10 have flags of their own. -/
def State.limitFlags (s : State) (fails : List Nat) : State :=
  (s.raiseIf (fails.contains 9) Reg.UBT_STATUS 6).raiseIf (fails.contains 10) Reg.UBT_STATUS 7

/-! ## Leaving without being sent whole (R39, R40, Table USQ-1) -/

/-- Frames and messages of a burst that is abandoned or cut return. -/
def State.withdraw (s : State) (b : Burst) : State :=
  let s := if b.g.kind = .announce then s.modAct (fun a => { a with annCount := a.annCount - 1 }) else s
  let ids := (b.places.map (fun p => (p.queue, p.frame))).eraseDups
  let s := ids.foldl (fun s e => s.returnFrame e.1 e.2) s
  let s := s.raiseIf (!ids.isEmpty) Reg.USQ_STATUS 5
  s.returnMsgs b.msgs

def State.dropBurst (s : State) (n : Nat) (b : Burst) : State :=
  s.modUbt n (fun u => { u with bursts := u.bursts.filter (fun x => x.g ≠ b.g) })

/-- Bursts that begin where burst `b` was to end stand alone again, with their own ramp-up. -/
def State.standAlone (s : State) (n : Nat) (b : Burst) : State :=
  let up := s.rampUpOf n
  s.modUbt n (fun u => { u with bursts := u.bursts.map (fun y =>
    if y.joined && y.g.launch == b.end_ then { y with joined := false, rampUp := up } else y) })

/-- A burst that was to follow a burst without a gap stands alone again, or is abandoned where its ramp-up would have
begun already (R297). -/
def State.unjoin (s : State) (n : Nat) (b : Burst) : State :=
  let up := s.rampUpOf n
  match (s.ubtCh n).bursts.find? (fun x => x.joined && x.g.launch == b.end_) with
  | none => s
  | some x =>
    if s.now < x.g.launch - up then s.standAlone n b
    else
      let s := ((s.dropBurst n x).withdraw x).bump (Reg.UBT_CHn_CNT_ABANDON n)
      (s.standAlone n x).raise Reg.UBT_STATUS 3

/-- The header of a burst (Table UBT-3). -/
def State.burstHeader (s : State) (b : Burst) : List Byte :=
  let tid := match b.g.kind with
    | .announce => 1023
    | _ => ((s.act.tid).getD 1023).toNat
  let lease := match b.g.kind with
    | .alloc _ => true
    | _ => false
  let reps := b.reports.flatMap (fun r => beBytes 2 r.1.toNat ++ beBytes 1 r.2)
  let h := beBytes 2 tid ++ beBytes 2 b.g.allocId.toNat ++
    beBytes 4 (b.g.len + b.g.prof * 2 ^ 17 + b.g.ch * 2 ^ 20) ++ beBytes 2 b.bseq.toNat ++
    beBytes 1 (b2n lease + 2 * b2n s.twinOn + 4 * b2n s.twinBit + 8 * b2n b.ctrl) ++ [0] ++
    beBytes 2 b.reports.length ++ [0, 0] ++ reps
  let h := h ++ beBytes 4 (Crypto.crc32 h).toNat
  h ++ List.replicate (2688 - h.length) 0

/-- A light run ends at an instant. -/
def State.endRun (s : State) (n start stop : Nat) : State :=
  let stop := max start stop
  let s := s.modUbt n (fun u => { u with
    runs := ((start, stop) :: u.runs).filter (fun r => s.now < r.2 + tenMs) })
  s.count (Reg.UBT_CHn_CNT_LIGHT_US n) ((stop - start) / 256000)

/-- The burst before a joined burst ends with its own ramp-down after all: the joined one is not sent (R297, R304). -/
def State.rejoin (s : State) (n : Nat) (b : Burst) : State :=
  if !b.joined then s
  else if (s.ubtCh n).bursts.any (fun x => x.end_ == b.g.launch) then
    s.modUbt n (fun u => { u with bursts := u.bursts.map (fun x =>
      if x.end_ = b.g.launch then { x with rampDown := (s.rampDownOf n x.g.guard).1 } else x) })
  else s.endRun n b.runStart (b.g.launch + (s.rampDownOf n b.g.guard).1)

/-- Abandon a burst that has not begun. -/
def State.abandon (s : State) (n : Nat) (b : Burst) : State :=
  (((s.dropBurst n b).withdraw b).rejoin n b).unjoin n b

/-- Symbols and codewords of a burst sent by an instant. -/
def State.countSent (s : State) (n : Nat) (b : Burst) (at_ : Nat) : State :=
  let sym := min b.g.len ((at_ - b.g.launch) / symbolPips)
  let cws := if sym < 5 then 0 else 4 + (sym - 5) * b.g.cBits / 7168
  (s.count (Reg.POD_TX_CNT_SYMBOLS n) sym).count (Reg.POD_TX_CNT_CWS n) cws

/-- The gate cuts an open burst (R298, R303): `code` is none for late data. -/
def State.cut (s : State) (n : Nat) (b : Burst) (code : Option Nat) : State :=
  let s := s.send (.burst n b.g.launch (s.burstHeader b) b.area b.g.prof b.g.len (some s.now))
  let s := ((s.countSent n b s.now).dropBurst n b).withdraw b
  let s := s.endRun n b.runStart s.now
  let s := s.modUbt n (fun u => { u with lastEnd := min b.end_ s.now })
  let s := match code with
    | some c => s.recordCause n c 3
    | none => s
  let s := ((s.bump (Reg.UBT_CHn_CNT_CUT n)).raise Reg.UBT_STATUS 2).bump (Reg.POD_TX_CNT_CUT n)
  (s.raise (Reg.POD_TX_STATUS n) 0).unjoin n b

/-- The open burst of a channel. -/
def State.openBurst (s : State) (n : Nat) : Option Burst := (s.ubtCh n).bursts.find? (·.launched)

/-- Conditions 1 to 6 are watched while a gate is open: the lowest that fails cuts the burst. -/
def State.watchGate (s : State) : State :=
  (List.range 4).foldl (fun s n =>
    match s.openBurst n with
    | none => s
    | some b =>
      match [1, 2, 3, 4, 5, 6].find? (fun c => !s.watched n b.g.kind c) with
      | some c => s.cut n b (some c)
      | none => s) s

/-- Pod n stops transmitting (R39, R705): bursts decided and not begun are abandoned, and an open one is cut. -/
def State.stopChannel (s : State) (n : Nat) : State :=
  let s := s.watchGate
  ((s.ubtCh n).bursts.filter (fun b => !b.launched)).foldl (fun s b => s.abandon n b) s

/-! ## Commands -/

/-- A burst of a channel that has not begun, the earliest first. -/
def State.nextBurst (s : State) (n : Nat) : Option Burst :=
  let l := (s.ubtCh n).bursts.filter (fun b => !b.launched)
  match leastOf (l.map (fun b => b.testAt)) with
  | none => none
  | some t => l.find? (fun b => b.testAt = t)

/-- `SECOND_TEST` (R303, R707). -/
def execSecondTest (ch : Chan) (s : State) : Outcome State Fault Refusal :=
  match s.nextBurst ch with
  | none => done s
  | some b =>
    let s := s.passTo b.testAt
    let fails := s.gateFails ch b
    let s := s.limitFlags fails
    match fails with
    | c :: _ =>
      let s := (s.recordCause ch c 2).abandon ch b
      done ((s.bump (Reg.UBT_CHn_CNT_ABANDON ch)).raise Reg.UBT_STATUS 3)
    | [] =>
      let seq := (s.ubtCh ch).bseq
      let (_, clip) := s.rampDownOf ch b.g.guard
      let s := s.modUbt ch (fun u => { u with
        bseq := seq + 1
        bursts := u.bursts.map (fun x => if x.g = b.g then { x with launched := true, bseq := seq } else x) })
      let s := s.modPwr (fun p => { p with bias := putBit p.bias ch true })
      let s := s.raiseIf clip (Reg.POD_TX_STATUS ch) 5
      let s := match b.g.kind with
        | .announce => s.bump Reg.ACT_CNT_ANN_SENT
        | .ranging _ => s.bump Reg.ACT_CNT_RANGE_SENT
        | .alloc _ => s
      done ((s.bump (Reg.UBT_CHn_CNT_BURSTS ch)).bump (Reg.POD_TX_CNT_BURSTS ch))

/-- A frame whose last segment a burst carried was sent (R433, R521). -/
def State.frameSent (s : State) (q id : Nat) : State :=
  match s.usq.flight.find? (fun e => e.1 = q ∧ e.2.id = id) with
  | none => s
  | some e =>
    let s := s.countQueue q 1 (·.sentFrames) (fun x v => { x with sentFrames := v })
    (s.modQueue q (fun x => { x with sentPos := e.2.pos })).releaseFlight q id

/-- `BURST_END` (R290): the open burst's last symbol and its ramp-down end. -/
def execBurstEnd (ch : Chan) (s : State) : Outcome State Fault Refusal :=
  match s.openBurst ch with
  | none => done s
  | some b =>
    let s := s.passTo b.runEnd
    let s := s.send (.burst ch b.g.launch (s.burstHeader b) b.area b.g.prof b.g.len none)
    let s := (s.countSent ch b b.end_).dropBurst ch b
    let s := b.places.foldl (fun s p =>
      s.countQueue p.queue p.charged (·.sentBytes) (fun x v => { x with sentBytes := v })) s
    let s := b.frames.foldl (fun s e => s.frameSent e.1 e.2) s
    let follows := (s.ubtCh ch).bursts.any (fun x => x.joined && x.g.launch == b.end_)
    let s := if follows then s else s.endRun ch b.runStart b.runEnd
    done (s.modUbt ch (fun u => { u with lastEnd := b.end_ }))

/-- `LATE_DATA` (R300). -/
def execLateData (ch : Chan) (s : State) : Outcome State Fault Refusal :=
  match s.openBurst ch with
  | none => done s
  | some b =>
    let s := (s.cut ch b none).raise (Reg.POD_TX_STATUS ch) 1
    done (s.fault (sourceId ch 7 0 0) 0x09 b.bseq.toNat 0)

/-- `ROGUE_TRIP` (R308): the run of light exceeded 2,100 µs (`long`), or there was light while commanded off. -/
def execRogueTrip (ch : Chan) (long : Bool) (s : State) : Outcome State Fault Refusal :=
  let s := s.modPod ch (fun p => { p with sense := true })
  let s := s.modPads (fun p => { p with tripped := putBit p.tripped ch true })
  let s := (s.raise (Reg.POD_TX_STATUS ch) 2).raise Reg.UBT_STATUS 8
  let s := s.watchGate
  done (s.fault (sourceId ch 8 0 0) 0x0A (if long then 1 else 2) 0)

/-- `SENSE_LOW` (R310): it is counted while the gate commands a level above the off-level. -/
def execSenseLow (ch : Chan) (s : State) : Outcome State Fault Refusal :=
  let s := s.modPod ch (fun p => { p with sense := false })
  match s.openBurst ch with
  | none => done s
  | some _ => done ((s.bump (Reg.POD_TX_CNT_SENSE_LOW ch)).raise (Reg.POD_TX_STATUS ch) 3)

/-- UBT_ROGUE_CLR (R309): `off` names the Pods whose sense has read off for at least 10 µs. -/
def State.rogueClear (s : State) (bits off : BitVec 4) : State :=
  (bitList bits).foldl (fun s n =>
    if off.getLsbD n then
      let s := s.modPod n (fun p => { p with sense := false })
      s.modPads (fun p => { p with tripped := putBit p.tripped n false })
    else s.bump Reg.UBT_CNT_ROGUE_CLR_REF) s

/-- `BIAS_OFF` (R580): no ramp-up begins within 200 µs of the last light run. In Active the transmit path stays biased. -/
def execBiasOff (ch : Chan) (s : State) : Outcome State Fault Refusal :=
  match s.openBurst ch, s.pwr.mode with
  | none, .active => done s
  | some _, _ => done s
  | none, _ => done (s.modPwr (fun p => { p with bias := putBit p.bias ch false }))

/-! ## Placing the burst to the pip (R291) and the envelope (R293, R294) -/

/-- The issue of a burst: ticks after the tick at or before L′ is the first result, whole samples after that tick the
second, sixteenths of a sample the third. `tickTime` is that tick's network time. -/
def placement (launch dacDelay tickTime : Nat) : Nat × Nat × Nat :=
  let p := launch - dacDelay - tickTime
  let pos := (2 * p * 264 + 25) / 50
  (pos / 2112, pos % 2112 / 16, pos % 16)

/-- The on-level of Pod n (R293). -/
def State.onLevel (s : State) (n : Nat) : Nat := min (s.fld (Reg.POD_TX_GATE n) 9 0) ((s.ceiling 0).getD 0)

/-- Gate output at step k of a ramp with table entry `t` (R294). -/
def rampLevel (on off t : Nat) : Nat := if off ≤ on then off + (on - off) * t / 255 else off - ((off - on) * t + 254) / 255

end Sys2Proof.Machine
end

