-- ==== Sys2Proof/Machine/Wake.lean ====
section
/-! DEFINITION. The power controller's decisions (chapter 15): requests and their refusers, wake sources, the return to
Active, and the grid of listen windows. -/

namespace Sys2Proof.Machine

open Host (Outcome)
open Crypto (beBytes beNat slice)

/-! ## Modes and domains (R578, R579) -/

def modeCode (m : Mode) : Nat := match m with
  | .active => 0 | .doze => 1 | .cyclic => 2 | .deep => 3 | .warm => 4

def modeOf (c : Nat) : Option Mode := match c with
  | 0 => some .active | 1 => some .doze | 2 => some .cyclic | 3 => some .deep | 4 => some .warm | _ => none

/-- Pods of ENABLES.CH. -/
def State.enabledPods (s : State) : List Nat := (List.range 4).filter (fun n => s.boot.enables.getLsbD n)

/-- Quads of enabled ports. -/
def State.enabledQuads (s : State) : List Nat :=
  ((List.range 8).filter s.portEn).flatMap (fun p => s.portQuads p)

/-- A set of domains. -/
def domains (l : List Nat) : BitVec 15 := l.foldl (fun w d => putBit w d true) 0

/-- What Active holds on: after Deep Sleep the domains of R596, otherwise every Pod, PE, both stacks and the quads as
they are. -/
def State.activeDomains (s : State) (deep : Bool) : BitVec 15 :=
  if deep then domains (s.enabledPods ++ [4] ++ (s.enabledQuads.map (5 + ·)) ++ [13, 14])
  else s.pwr.on ||| domains [0, 1, 2, 3, 4, 13, 14]

/-- What a mode holds on once it is entered (Table PWR-2). -/
def State.heldOn (s : State) (m : Mode) (kept : Nat) : BitVec 15 := match m with
  | .active => s.pwr.on
  | .doze => s.pwr.on
  | .cyclic => s.pwr.on &&& ~~~ domains [0, 1, 2, 3]
  | .deep => 0
  | .warm => s.pwr.on &&& ~~~ domains ([0, 1, 2, 3].filter (· ≠ kept))

/-- Domains begin switching on (R588): those that are off and not failed. -/
def State.switchOn (s : State) (ds : BitVec 15) : State :=
  let new := ds &&& ~~~ s.pwr.on &&& ~~~ s.pwr.failed &&& ~~~ s.pwr.switching
  s.modPwr (fun p => { p with
    switching := p.switching ||| new
    retries := p.retries.filter (fun (e : Nat × Nat) => !new.getLsbD e.1) })

/-- An entry or a wake is in progress. -/
def State.inSequence (s : State) : Bool := s.pwr.phase == .entering || s.pwr.phase == .waking

/-! ## Listen windows (R593) -/

/-- P, in pips. -/
def State.cyclePips (s : State) : Nat := (s.pwr.periods.1 + s.pwr.periods.2) * 256000000

/-- Network time lies inside a listen window. -/
def State.inWindow (s : State) : Bool :=
  s.cyclePips != 0 && decide (s.now % s.cyclePips < s.pwr.periods.2 * 256000000)

/-- The phase of a mode in which no sequence runs. -/
def State.restPhase (s : State) (m : Mode) : Phase :=
  if m = .cyclic then (if s.inWindow then .listen else .sleepPeriod) else .steady

/-! ## Refusals (R585) -/

/-- CAPTURE of the last Shell health. -/
def State.captureArmed (s : State) : Bool := beNat (slice s.hsk.health 22 1) != 0

/-- The skew store of some Link holds a segment. -/
def State.skewHeld (s : State) : Bool := s.dsf.links.any (fun (e : Nat × DsfLink) => !e.2.skewStore.isEmpty)

/-- A refuser of Table PWR-3 applies to a mode other than Active. Code 11, a wake source, is an event here: it aborts an
entry when it fires. -/
def State.refuses (s : State) (m : Mode) (code : Nat) : Bool :=
  let warm := m == .warm
  let sleep := m == .cyclic || m == .deep
  match code with
  | 1 => decide (s.boot.step < 11)
  | 2 => (s.act.state != .t4 && s.act.state != .t7) || (warm && !s.standby)
  | 3 => !warm && decide (s.act.permit < modeCode m)
  | 4 => if warm then s.acorn else sleep && s.acorn && s.twinOn
  | 5 => warm && s.twn.lease.sync != 3
  | 6 => sleep && s.ntm.state != .locked
  | 7 => sleep && s.ntm.slots.any (fun (e : Nat × Slot) => e.2.status == 1)
  | 8 => m == .deep && (!s.hoardEmpty || s.skewHeld)
  | 9 => m == .deep && s.captureArmed
  | 10 => m == .deep && (s.boot.fuseBusy.isSome || s.boot.nvmBusy.isSome)
  | _ => false

def State.refuser (s : State) (m : Mode) : Option Nat := ((List.range 10).map (· + 1)).find? (s.refuses m)

/-- The newest entry of the refusal log. -/
def State.logRefusal (s : State) (m : Mode) (code : Nat) (abort : Bool) : State :=
  let e : RefusalLog := ⟨modeCode m, code, abort, ns32Of s.now, ppOf s.now⟩
  let s := s.modPwr (fun p => { p with log := (e :: p.log).take 8 })
  let s := (s.bump (Reg.PWR_CNT_REFUSE code)).bumpIf abort Reg.PWR_CNT_ABORT
  s.raise Reg.PWR_STATUS (if abort then 2 else 1)

/-- An entry is aborted: the device stays in its mode. -/
def State.abortEntry (s : State) (code : Nat) : State :=
  let m := s.pwr.target
  (s.modPwr (fun p => { p with phase := s.restPhase p.mode, target := p.mode })).logRefusal m code true

/-- The time channel, and otherwise the lowest ranged channel: the Pod Warm Standby keeps (R582). -/
def State.podToKeep (s : State) : Nat := s.ntm.tch.getD ((lowestCh s.ranged).getD 0)

/-- A request for a mode other than Active (R584, R585). -/
def State.requestMode (s : State) (m : Mode) : State :=
  match s.refuser m with
  | some code =>
    let s := s.logRefusal m code false
    if code = 3 then
      let s := s.modPwr (fun p => { p with reqPending := some (m, s.ticks) })
      (s.queueMsg ⟨13, 0, beBytes 1 (modeCode m) ++ [0, 0, 0]⟩).raise Reg.PWR_STATUS 7
    else s
  | none =>
    let kept := s.podToKeep
    s.modPwr (fun p => { p with phase := .entering, target := m, keptPod := if m = .warm then kept else p.keptPod })

/-! ## Wake sources (R598) -/

/-- Enable mask of a mode. -/
def State.wakeMask (s : State) (m : Mode) : Nat := match m with
  | .active => 0
  | .doze => s.fld Reg.PWR_WK_EN_DOZE 9 0
  | .cyclic => s.fld Reg.PWR_WK_EN_CYC 9 0
  | .deep => s.fld Reg.PWR_WK_EN_DEEP 9 0
  | .warm => s.fld Reg.PWR_WK_EN_WARM 9 0

/-- HOST_CMD acts in every mode, ACORN in Warm Standby, whatever their bits hold. -/
def State.wakeEnabled (s : State) (m : Mode) (source : Nat) : Bool :=
  m != .active && (source == 0 || (source == 8 && m == .warm) || (s.wakeMask m).testBit source)

/-- The mode changes. -/
def State.setMode (s : State) (m : Mode) : State :=
  if s.pwr.mode = m then s else (s.modPwr (fun p => { p with mode := m })).raise Reg.PWR_STATUS 0

/-- The device returns to Active: its domains begin switching on; the transmit paths are biased; the acknowledgement of a
WAKE is queued (R217). -/
def State.toActive (s : State) : State :=
  let from_ := s.pwr.mode
  let s := (s.setMode .active).switchOn (s.activeDomains (from_ == .deep))
  let ack := s.pwr.wakeAck
  let s := s.modPwr (fun p => { p with
    phase := if p.switching = 0 then .steady else .waking
    target := from_, bias := 0xF, selfRefresh := 0, wakeAck := none })
  match ack with
  | some (type, seq) => s.queueMsg ⟨type, seq, []⟩
  | none => s

/-- The firing of a source is recorded. -/
def State.countWake (s : State) (source : Nat) : State :=
  let w : LastWake := ⟨source, BitVec.ofNat 10 (2 ^ source), ns32Of s.now, ppOf s.now⟩
  (s.modPwr (fun p => { p with lastWake := some w })).bump (Reg.PWR_CNT_WAKE source) |>.raise Reg.PWR_STATUS 3

/-- A wake source fires. During an entry it aborts it with code 11 where it is enabled for the mode to be entered. -/
def State.wakeCore (s : State) (source : Nat) : State :=
  if s.pwr.phase = .entering then
    if s.wakeEnabled s.pwr.target source then (s.countWake source).abortEntry 11 else s
  else if s.wakeEnabled s.pwr.mode source then (s.countWake source).toActive
  else s

/-- A write of PWR_MODE_REQ acted on. -/
def State.modeReqCore (s : State) (code : Nat) : State :=
  match modeOf code with
  | none => s
  | some .active => s.wakeCore 0
  | some m => s.requestMode m

/-- A held request is acted on when no sequence runs (R583). -/
def State.actHeld (s : State) : State :=
  if s.inSequence then s else
  match s.pwr.held with
  | none => s
  | some c => (s.modPwr (fun p => { p with held := none })).modeReqCore c

def State.wake (s : State) (source : Nat) : State := (s.wakeCore source).actHeld

/-- A write of PWR_MODE_REQ (R583): it needs EN, and is held while a sequence runs. -/
def State.modeReq (s : State) (code : Nat) : State :=
  if !s.rbit Reg.PWR_CTRL 0 then s
  else if s.inSequence then s.modPwr (fun p => { p with held := some code })
  else s.modeReqCore code

/-- R597: Warm Standby ends because the device leaves IN_STEP. -/
def State.leaveInStep (s : State) : State := if s.pwr.mode = .warm then s.toActive.actHeld else s

/-- R597 and Table PWR-7: a claim falls due. -/
def State.claimWakes (s : State) : State :=
  if s.pwr.phase = .entering ∧ s.pwr.target = .warm then (s.abortEntry 4).actHeld
  else if s.pwr.mode = .warm then s.wake 8 else s

/-- A port is enabled: its quads are powered (R386). -/
def State.powerQuads (s : State) (p : Nat) : State := s.switchOn (domains ((s.portQuads p).map (5 + ·)))

end Sys2Proof.Machine
end

