-- ==== Sys2Proof/Machine/Fill.lean ====
section
/-! DEFINITION. Filling grants (chapter 6): batches, the decisions of R264, occupancy reports. -/

namespace Sys2Proof.Machine

open Host (Outcome)
open Crypto (slice)

/-! ## Striping (R257) -/

/-- A Link's effective upstream members. -/
def State.upMembers (s : State) (i : Nat) : List Nat :=
  (bitList (s.dlink i).mask).filter (fun m => (s.actCh m).upEn && s.ranged m && s.podInService m)

/-- Members from `from_` up, cyclic. -/
def rotateFrom (l : List Nat) (from_ : Nat) : List Nat :=
  l.filter (fun m => decide (from_ ≤ m)) ++ l.filter (fun m => decide (m < from_))

/-- The batch holds an unfinished grant on channel `m` to an allocation with a queue of Link `i`. -/
def State.batchServes (s : State) (batch i m : Nat) : Bool :=
  (s.ubtCh m).bursts.any (fun b => b.batch == batch && !b.finished &&
    match b.g.kind with
    | .alloc a => s.usq.queues.any (fun e => isUs e.1 && e.2.linkF == i && e.2.allocF == a)
    | _ => false)

/-- The striping test of Link `i` on channel `c`. -/
def State.stripeOk (s : State) (batch i c : Nat) : Bool :=
  let order := rotateFrom (s.upMembers i) (s.ulink i).turn
  match order with
  | [] => false
  | [m] => m == c
  | _ => order.contains c && (order.takeWhile (· ≠ c)).all (fun m => !s.batchServes batch i m)

/-- TURN after a segment placed on channel `c`. -/
def State.moveTurn (s : State) (i c : Nat) : State :=
  match rotateFrom (s.upMembers i) (c + 1) with
  | m :: _ => s.modUlink i (fun l => { l with turn := m })
  | [] => s

/-! ## Candidates (R252) -/

/-- need(L) of R253. -/
def need (l : Nat) : Nat := l + 8 * ((l + 16382) / 16383)

def Queue.head? (q : Queue) : Option QFrame := match q.frames with
  | f :: _ => if f.visible then some f else none
  | [] => none

/-- R508: after the loss of the twin link the holder places no further Link segment. -/
def State.placingStopped (s : State) : Bool :=
  let l := s.twn.lease
  s.twinOn && s.rbit Reg.TWN_CTRL 0 && l.holds && l.peerEligible && !s.twn.link.up && !l.orphan && !l.solo

/-- What a candidate meets apart from its bucket. -/
def State.mayServe (s : State) (b : Burst) (q : Nat) : Bool :=
  let x := s.queue q
  x.enable && x.head?.isSome && !s.flt.isoUsq.getLsbD (q / 64) && (s.dlink x.linkF).mapped &&
    (match (s.ulink x.linkF).openQueue with
      | some o => o == q
      | none => true) &&
    s.stripeOk b.batch x.linkF b.g.ch

def State.candidate (s : State) (b : Burst) (q : Nat) : Bool :=
  let x := s.queue q
  s.mayServe b q && decide (0 ≤ x.bucket) && (s.keys (2 * x.linkF + 1)).held == .none

/-- Queues served under allocation `a`. -/
def State.queuesOf (s : State) (a : Nat) : List Nat :=
  (s.usq.queues.filter (fun e => isUs e.1 && e.2.allocF == a)).map (·.1)

/-! ## Placing segments -/

/-- One SLE segment of a frame goes into a burst (R262). -/
def State.putSegment (s : State) (b : Burst) (q : Nat) (f : QFrame) (off n : Nat) (first last : Bool) : Burst × State :=
  let i := f.link
  let l := s.ulink i
  let hdr := Line.sleHeader (s.dlink i).linkId.toNat n first last l.nextSeq.toNat
  let b := { b with
    area := b.area ++ hdr ++ slice f.prot off n, space := b.space - (n + 8)
    places := b.places ++ [⟨q, f.id, n + 8, b.area.length⟩] }
  let s := s.modUlink i (fun l => { l with nextSeq := l.nextSeq + 1 })
  let s := (s.countUlink i 1).moveTurn i b.g.ch
  (b, s.charge q (n + 8))

def State.putFrame (s : State) (q : Nat) (f : QFrame) : State :=
  s.modQueue q (fun x => { x with frames := x.frames.map (fun y => if y.id = f.id then f else y) })

/-- A frame whose last segment is decided leaves its queue. -/
def State.leaveQueue (s : State) (b : Burst) (q : Nat) (f : QFrame) : Burst × State :=
  let s := s.modQueue q (fun x => { x with frames := x.frames.filter (fun y => y.id ≠ f.id) })
  ({ b with frames := b.frames ++ [(q, f.id)] }, s.modUsq (fun u => { u with flight := u.flight ++ [(q, f)] }))

/-- The head frame is encrypted as its first segment is decided (R356). -/
def State.sealHead (s : State) (q : Nat) (f : QFrame) : QFrame × State :=
  let i := (s.queue q).linkF
  let (p, s) := s.encryptFrame i f.data
  let f := { f with prot := p, link := i }
  (f, s.putFrame q f)

/-- place_whole (R253). -/
def State.placeWhole (s : State) (b : Burst) (q : Nat) (f : QFrame) : Burst × State :=
  let (f, s) := s.sealHead q f
  let (b, s) := if f.len ≤ 16383 then s.putSegment b q f 0 f.len true true
    else
      let (b, s) := s.putSegment b q f 0 16383 true false
      s.putSegment b q f 16383 (f.len - 16383) false true
  let (b, s) := s.leaveQueue b q f
  (b, s.updateHeld f.link)

/-- A first or middle fragment: the frame is open from then (R254). -/
def State.placeFirst (s : State) (b : Burst) (q : Nat) (f : QFrame) (n : Nat) : Burst × State :=
  let (f, s) := s.sealHead q f
  let (b, s) := s.putSegment b q f 0 n true false
  let s := s.putFrame q { f with sent := n }
  let s := (s.modUlink f.link (fun l => { l with openQueue := some q })).updateHeld f.link
  (b, s.countQueue q 1 (·.fragments) (fun x v => { x with fragments := v }))

/-- place_rest: the bytes placed, 0 where the continuation waits. -/
def State.placeRest (s : State) (b : Burst) (q : Nat) (f : QFrame) : Nat × Burst × State :=
  let left := f.len - f.sent
  let owe (n : Nat) (s : State) : State := s.modQueue q (fun x => { x with deficit := x.deficit - n })
  if left + 8 ≤ b.space ∧ left ≤ 16383 then
    let (b, s) := s.putSegment b q f f.sent left false true
    let (b, s) := (s.closeLink q).leaveQueue b q f
    (left + 8, b, owe (left + 8) s)
  else if 72 ≤ b.space then
    let n := min (b.space - 8) 16383
    let (b, s) := s.putSegment b q f f.sent n false false
    let s := s.putFrame q { f with sent := f.sent + n }
    (n + 8, b, owe (n + 8) (s.countQueue q 1 (·.fragments) (fun x v => { x with fragments := v })))
  else (0, b, s)

/-- R256: the head frame is discarded. -/
def State.neverFits (s : State) (a q : Nat) (f : QFrame) : State :=
  let s := s.dropFrame q f
  let s := s.countQueue q 1 (·.neverFits) (fun x v => { x with neverFits := v })
  let s := s.countAlloc a 1 (·.neverFits) (fun x v => { x with neverFits := v })
  (s.bump Reg.USQ_CNT_NEVER_FITS).raise Reg.USQ_STATUS 1

/-- try (R264): bytes placed, 0 if none. `fuel` is the number of frames held. -/
def State.tryQueue (s : State) (a q : Nat) (b : Burst) : Nat → Nat × Burst × State
  | 0 => (0, b, s)
  | fuel + 1 =>
    match (s.queue q).head? with
    | none => (0, b, s)
    | some f =>
      let l := s.ulink (s.queue q).linkF
      let pass : Burst := { b with passed := q :: b.passed }
      if need f.len ≤ b.space then
        let (b, s) := s.placeWhole b q f
        (need f.len, b, s)
      else if l.fragEn then
        if 72 ≤ b.space then
          let n := min (b.space - 8) 16383
          let (b, s) := s.placeFirst b q f n
          (n + 8, b, s)
        else (0, pass, s)
      else if (s.alloc a).hist.length = 64 ∧ (s.alloc a).hist.foldl max 0 < need f.len then
        (s.neverFits a q f).tryQueue a q b fuel
      else (0, pass, s)

/-! ## A decision (R264) -/

/-- The queue after `q` in the round of the weighted queues. -/
def nextWeighted (ws : List Nat) (q : Nat) : Nat := (rotateFrom ws (q + 1)).headD q

def State.setPtr (s : State) (a q : Nat) : State := s.modAlloc a (fun x => { x with ptr := q })

/-- The weighted part of decide. `fuel` bounds the turns; a queue needs at most 257 quanta for the longest frame. -/
def State.weightedServe (s : State) (a : Nat) (ws : List Nat) (b : Burst) : Nat → Nat × Burst × State
  | 0 => (0, b, s)
  | fuel + 1 =>
    let ready (q : Nat) : Bool := s.candidate b q && !b.passed.contains q
    if !ws.any ready then (0, b, s)
    else
      let q := (rotateFrom ws (s.alloc a).ptr).headD 0
      let next := nextWeighted ws q
      if !ready q then (s.setPtr a next).weightedServe a ws b fuel
      else
        let x := s.queue q
        let w : Int := 64 * max x.weight 1
        let s := if x.inTurn then s else
          s.modQueue q (fun x => { x with deficit := min (x.deficit + w) (w + 16456), inTurn := true })
        let len := (x.head?.map (·.len)).getD 0
        let endTurn (s : State) : State := (s.modQueue q (fun x => { x with inTurn := false })).setPtr a next
        if (need len : Int) ≤ (s.queue q).deficit then
          let (n, b, s) := s.tryQueue a q b (x.frames.length + 1)
          if 0 < n then
            let s := s.modQueue q (fun x => { x with deficit := x.deficit - n })
            let y := s.queue q
            let s := match y.head? with
              | none => endTurn (s.modQueue q (fun x => { x with deficit := 0 }))
              | some f => if y.isOpen || decide (y.deficit < need f.len) then endTurn s else s
            (n, b, s)
          else (endTurn s).weightedServe a ws b fuel
        else (endTurn s).weightedServe a ws b fuel

/-- decide: the bytes placed; 0 finishes the grant. -/
def State.decideGrant (s : State) (a : Nat) (b : Burst) : Nat × Burst × State :=
  if b.space < 8 || !s.rbit Reg.USQ_CTRL 0 || s.placingStopped then (0, b, s)
  else
    let qs := s.queuesOf a
    match qs.find? (fun q => (s.queue q).isOpen && s.mayServe b q) with
    | some q =>
      match (s.queue q).head? with
      | some f => s.placeRest b q f
      | none => (0, b, s)
    | none =>
      let strict := (List.range 4).filterMap (fun r => qs.find? (fun q =>
        (s.queue q).cls = r + 1 ∧ s.candidate b q ∧ ¬ b.passed.contains q))
      let step (acc : Nat × Burst × State) (q : Nat) : Nat × Burst × State :=
        if 0 < acc.1 then acc else acc.2.2.tryQueue a q acc.2.1 (((s.queue q).frames.length) + 1)
      let (n, b, s) := strict.foldl step (0, b, s)
      if 0 < n then (n, b, s)
      else
        let ws := qs.filter (fun q => (s.queue q).cls = 0)
        s.weightedServe a ws b (600 * (ws.length + 1))

/-! ## Control segments (R78, R261) -/

/-- The longest run of whole messages that fits: those taken, and those left. -/
def takeMsgs (room : Nat) : List UpMsg → List UpMsg × List UpMsg
  | [] => ([], [])
  | m :: r =>
    if 12 + m.body.length ≤ room then
      let (a, b) := takeMsgs (room - (12 + m.body.length)) r
      (m :: a, b)
    else ([], m :: r)

/-- The control segment of a burst's first decision. An announcement goes alone, a ranging reply first. -/
def State.placeControl (s : State) (b : Burst) : Bool × Burst × State :=
  let tid := match b.g.kind with
    | .announce => 1023
    | _ => (s.act.tid.getD 1023).toNat
  let own := b.g.msg.toList
  let room := min (b.space - 8) 16383
  let ownLen := own.foldl (fun a m => a + 12 + m.body.length) 0
  let (taken, left) := match b.g.kind with
    | .announce => ([], s.act.uq)
    | _ => takeMsgs (room - ownLen) s.act.uq
  let all := own ++ taken
  if all.isEmpty then (false, b, s)
  else
    let bytes := all.flatMap (fun m => Line.frameMsg tid m.type true m.seq m.body)
    let hdr := Line.sleHeader 0xFFFE bytes.length true true 0
    let b := { b with
      area := b.area ++ hdr ++ bytes, space := b.space - (bytes.length + 8), ctrl := true, msgs := taken }
    (true, b, (s.modAct (fun a => { a with uq := left })).bump Reg.USQ_CNT_CTRL_SEGS)

/-- R263: a grant finishes. -/
def State.finishGrant (s : State) (b : Burst) : Burst × State :=
  let fill := if 8 ≤ b.space then Line.sleHeader 0xFFFF (min (b.space - 8) 16383) false false 0 else []
  let zeros := List.replicate (b.space - fill.length) 0
  let s := s.count Reg.USQ_CNT_FILL_BYTES b.space
  let s := s.bumpIf b.places.isEmpty Reg.USQ_CNT_GRANT_EMPTY
  ({ b with area := b.area ++ fill ++ zeros, space := 0, finished := true }, s.bump Reg.USQ_CNT_GRANTS)

/-- Store a burst after a decision. -/
def State.putBurst (s : State) (b : Burst) : State :=
  s.modUbt b.g.ch (fun u => { u with bursts := u.bursts.map (fun x => if x.g = b.g then b else x) })

/-- One decision for a burst. -/
def State.decideBurst (s : State) (b : Burst) : State :=
  let (placed, b, s) := if b.started then (false, b, s) else s.placeControl { b with started := true }
  if placed then s.putBurst b
  else
    let (n, b, s) := match b.g.kind with
      | .alloc a => s.decideGrant a b
      | _ => (0, b, s)
    if 0 < n then s.putBurst b
    else
      let (b, s) := s.finishGrant b
      let s := s.putBurst b
      let open_ := (List.range 4).any (fun n => (s.ubtCh n).bursts.any (fun x => x.batch == b.batch && !x.finished))
      s.bumpIf (!open_) Reg.USQ_CNT_BATCHES

/-- Bursts still to be filled, with the key of their turn: batch, then channel, then place on the channel. -/
def State.unfilled (s : State) : List (Nat × Burst) :=
  (List.range 4).flatMap (fun n =>
    let l := (s.ubtCh n).bursts
    ((List.range l.length).zip l).filterMap (fun e =>
      if e.2.finished then none else some (e.2.batch * 8192 + n * 64 + min e.1 63 + 1, e.2)))

/-! ## Occupancy reports (R266 to R268) -/

/-- CODE of a value (R268). -/
def occupancyCode (v : Nat) : Nat :=
  if v = 0 then 0
  else ((List.range 256).find? (fun c => decide (1 ≤ c) && decide (v ≤ (8 + c % 8) * 2 ^ (c / 8) * 64))).getD 255

/-- R266. -/
def State.occupancy (s : State) (a : Nat) : Nat :=
  (s.queuesOf a).foldl (fun n q =>
    let x := s.queue q
    if !x.enable then n
    else x.frames.foldl (fun n f =>
      if !f.visible then n else if 0 < f.sent then n + (f.len - f.sent) + 8 else n + need f.len) n) 0

/-- The report entries of a batch, and LAST_CODE of each allocation reported. -/
def State.reportsOf (s : State) (batch : List Grant) : List (BitVec 16 × Nat) × State :=
  let as := (s.usq.allocs.filter (fun e => e.2.valid && e.2.report)).map (·.1)
  as.foldl (fun (r : List (BitVec 16 × Nat) × State) a =>
    let caps := batch.foldl (fun n g => if g.kind = .alloc a then n + Line.capacity g.len g.cBits else n) 0
    let code := occupancyCode (s.occupancy a - caps)
    (r.1 ++ [((s.alloc a).id, code)], r.2.modAlloc a (fun x => { x with lastCode := code }))) ([], s)

/-! ## Batches (R259) -/

def Grant.key (g : Grant) : Nat := g.tg / 256000

def State.fillLead (s : State) : Nat := 256000 * s.fld Reg.USQ_FILL_LEAD 5 0

/-- T_D of the batch a grant belongs to. -/
def State.tdOf (s : State) (key : Nat) : Option Nat :=
  (leastOf ((s.usq.grants.filter (fun g => g.key = key)).map (·.launch))).map (· - s.fillLead)

/-- A burst for a grant: whether it follows an earlier burst without a gap is settled here (R72, R297). -/
def State.newBurst (s : State) (g : Grant) (reports : List (BitVec 16 × Nat)) : Burst :=
  let cap := Line.capacity g.len g.cBits
  let (down, _) := s.rampDownOf g.ch g.guard
  let b : Burst :=
    { g := g, batch := g.key, cap := cap, space := cap, area := [], started := false, finished := false, ctrl := false
      msgs := [], passed := [], places := [], frames := []
      reports := (match g.kind with
        | .alloc _ => reports
        | _ => [])
      launched := false, bseq := 0, joined := false, rampUp := s.rampUpOf g.ch, rampDown := down }
  match (s.ubtCh g.ch).bursts.find? (fun x => x.end_ == g.launch) with
  | some p => { b with joined := true, rampUp := g.launch - p.runStart }
  | none => b

/-- First test (R303): the burst joins those of its channel, or is discarded. -/
def State.firstTest (s : State) (b : Burst) : State :=
  let n := b.g.ch
  let fails := s.gateFails n b
  let s := s.limitFlags fails
  match fails with
  | c :: _ =>
    let s := s.recordCause n c 1
    let s := if b.g.kind = .announce then s.modAct (fun a => { a with annCount := a.annCount - 1 }) else s
    (s.bump (Reg.UBT_CHn_CNT_DISC n)).raise Reg.UBT_STATUS 4
  | [] =>
    s.modUbt n (fun u => { u with
      bursts := (u.bursts.map (fun x =>
        if b.joined && x.end_ == b.g.launch then { x with rampDown := 0 } else x)) ++ [b] })

/-- `BATCH_START` (R259, R303): T_D of the earliest batch decoded comes. -/
def execBatchStart (s : State) : Outcome State Fault Refusal :=
  if s.coreReset 4 || s.coreReset 5 then done s else
  let keys := (s.usq.grants.map Grant.key).eraseDups
  match leastOf (keys.filterMap s.tdOf) with
  | none => done s
  | some td =>
    match keys.find? (fun k => s.tdOf k = some td) with
    | none => done s
    | some key =>
      let s := s.passTo td
      let batch := s.usq.grants.filter (fun g => g.key = key)
      let s := s.modUsq (fun u => { u with
        grants := u.grants.filter (fun g => g.key ≠ key)
        ran := (key :: u.ran).filter (fun k => decide (s.now < (k + 1) * 256000)) })
      let (reports, s) := s.reportsOf batch
      done (batch.foldl (fun s g => s.firstTest (s.newBurst g reports)) s)

/-! ## Void segments (R381, Table HRD-2) -/

/-- A frame whose decided segments were withdrawn: those not yet sent become void segments of the same length, and the
frame is discarded. -/
def State.voidFrame (s : State) (q id : Nat) : State :=
  let wipe (b : Burst) : Burst :=
    let hit := b.places.filter (fun p => p.queue = q ∧ p.frame = id)
    let area := hit.foldl (fun a p =>
      let sym := 5 + p.off / 672 * 7168 / max b.g.cBits 1
      if b.launched && decide (b.g.launch + sym * symbolPips ≤ s.now) then a
      else a.take p.off ++ Line.sleHeader 0xFFFD (p.charged - 8) false false 0 ++
        List.replicate (p.charged - 8) 0 ++ a.drop (p.off + p.charged)) b.area
    { b with area := area, frames := b.frames.filter (fun e => e ≠ (q, id)) }
  let s := { s with ubt := s.ubt.map (fun (e : Nat × UbtCh) => (e.1, { e.2 with bursts := e.2.bursts.map wipe })) }
  match (s.queue q).frames.find? (fun (f : QFrame) => f.id = id) with
  | some f => s.dropFrame q f
  | none => s.releaseFlight q id

/-! ## Errors met by traffic reads (Table HRD-2) -/

/-- An uncorrectable link word, met in reading frame `f` of queue `q`: that frame and every later one are discarded, and
the cells beyond the break stay allocated. Which cell of the frame it is, the read alone would tell: a free number. -/
def State.breakChain (s : State) (q : Nat) (f : QFrame) : State :=
  let later := (s.queue q).frames.filter (fun x => f.start < x.start)
  let (k, s) := s.drawBelow (f.lastCell + 1 - f.firstCell)
  let last := later.foldl (fun a x => max a x.lastCell) f.lastCell
  let s := s.voidFrame q f.id
  let before := s.hrd
  let s := later.foldl (fun s x => s.dropFrame q x) s
  let lost := last - (f.firstCell + k)
  let s := { s with hrd := { before with
    usDesc := s.hrd.usDesc, dsDesc := s.hrd.dsDesc
    usFree := if isUs q then before.usFree - (f.lastCell - (f.firstCell + k)) else before.usFree
    dsFree := if isUs q then before.dsFree else before.dsFree - (f.lastCell - (f.firstCell + k))
    lostCells := before.lostCells + lost } }
  let s := s.countQueue q (later.length + 1) (·.flushed) (fun x v => { x with flushed := v })
  (s.modQueue q (fun x => { x with tail := (x.tail + 255) / 256 * 256 })).unalign q

/-- What a traffic read of frame `f` of queue `q` met. -/
def State.readError (s : State) (q : Nat) (f : QFrame) (e : ReadError) : State :=
  match e.result with
  | .uncorrCell =>
    let s := (s.hbmError e.pc e.unit.toNat .uncorrCell true).voidFrame q f.id
    ((s.bump Reg.HRD_CNT_UNCOR_DROP).raise Reg.HRD_STATUS 3).unalign q
  | .uncorrLink => (s.hbmError e.pc e.unit.toNat .uncorrLink true).breakChain q f
  | r => s.hbmError e.pc e.unit.toNat r false

/-- The place a decision made last on a grant. -/
def State.lastPlace (s : State) (b : Burst) : Option Place :=
  match ((s.ubtCh b.g.ch).bursts.find? (fun x => x.g = b.g)) with
  | some x => if b.places.length < x.places.length then x.places.getLast? else none
  | none => none

/-- `FILL_DECISION` (R259, R264): the next decision of the round of the oldest batch that has a grant unfinished. `err` is
what the read of the frame it places met. A frozen Hoard stalls it (R445). -/
def execFillDecision (err : Option ReadError) (s : State) : Outcome State Fault Refusal :=
  if s.coreReset 4 || s.coreReset 6 then done s else
  let l := s.unfilled
  match leastOf (l.map (·.1)) with
  | none => done s
  | some k0 =>
    if s.hoardFrozen then done s
    else
      let batch := k0 / 8192
      let later := l.filter (fun e => e.1 / 8192 = batch ∧ s.usq.cursor < e.1)
      let key := (leastOf (later.map (·.1))).getD k0
      match l.find? (fun e => e.1 = key) with
      | none => done s
      | some e =>
        let s := (s.modUsq (fun u => { u with cursor := key })).decideBurst e.2
        match err, s.lastPlace e.2 with
        | some x, some p =>
          match (s.liveFrames p.queue).find? (fun f => f.id = p.frame) with
          | some f => done (s.readError p.queue f x)
          | none => done s
        | _, _ => done s

end Sys2Proof.Machine
end

