-- ==== Sys2Proof/Machine/Hoard.lean ====
section
/-! DEFINITION. The Hoard (chapter 11): its partitions and the scrubber. -/

namespace Sys2Proof.Machine

open Host (Outcome)

/-! ## Partitions (R430, R431) -/

def usCells (gib : Nat) : Nat := gib * 4063232
def dsCells (gib : Nat) : Nat := (48 - gib) * 4063232 - 507904

/-- Retired cells of a partition. -/
def State.retiredIn (s : State) (us : Bool) : Nat :=
  ((s.hrd.retired0 ++ s.hrd.retired1).filter (fun u => s.unitIsUs u == us)).length

/-- A write of HRD_PART. -/
def State.writePartition (s : State) (v : Word) : State :=
  let gib := bitsOf v.toNat 5 0
  if s.fld Reg.USQ_CTRL 1 0 = 0 ∧ s.fld Reg.DSF_CTRL 3 0 = 0 ∧ s.hoardEmpty ∧ 8 ≤ gib ∧ gib ≤ 40 then
    let s := s.setFld Reg.HRD_PART 5 0 gib
    s.modHrd (fun h => { h with
      usFree := usCells gib - s.retiredIn true, dsFree := dsCells gib - s.retiredIn false })
  else s.raise Reg.HRD_STATUS 0

/-! ## Scrubbing (R436 to R438) -/

/-- Units of a pseudo-channel. -/
def unitsPerPc : Nat := 3145728

/-- One grant of the scrubber: the unit is read, checked and written back if a correction was made. -/
def State.scrubOne (s : State) (x : Nat) (r : Option ScrubResult) : State :=
  let unit := (s.pc x).pos
  let s := match r with
    | none => s
    | some .corrected =>
      let s := s.hbmError x unit .corrected false
      s.setPc x { s.pc x with scrubCorr := (s.pc x).scrubCorr + 1 }
    | some .uncorrSkew =>
      -- the segment in the failing unit is handed to reorder as missing; which one it is, the unit alone would tell
      let s := s.hbmError x unit .uncorrSkew true
      let all := s.dsf.links.flatMap (fun (e : Nat × DsfLink) => e.2.skewStore.map (fun h => (e.1, h)))
      let (k, s) := s.drawBelow all.length
      match all[k]? with
      | none => s
      | some (i, h) =>
        let l := s.dlink i
        s.setDlink i { l with skewStore := l.skewStore.map (fun y => if y = h then { y with seg := none } else y) }
    | some r => s.hbmError x unit r false
  let p := s.pc x
  s.setPc x (if p.pos + 1 = unitsPerPc then { p with pos := 0, passes := p.passes + 1 } else { p with pos := p.pos + 1 })

/-- `SCRUB` (R436): INTERVAL has passed, and one unit of each pseudo-channel is read. A frozen Hoard gives no grant. -/
def execScrub (found : List ScrubFinding) (s : State) : Outcome State Fault Refusal :=
  if !s.rbit Reg.HRD_CTRL 0 || s.hoardFrozen then done s
  else done ((List.range 64).foldl (fun s x =>
    s.scrubOne x ((found.find? (fun f => f.pc.val = x)).map (·.result))) s)

end Sys2Proof.Machine
end

