-- ==== Sys2Proof/Machine/Arb.lean ====
section
/-! DEFINITION. The arbiter design and its three kinds of arbiter (chapter 11): priorities, quotas, masks, grants and
freezes. The commands that grant the management fabric stand beside the register access (Access.lean). -/

namespace Sys2Proof.Machine

open Host (Outcome)

def State.arbInst (s : State) (i : Nat) : ArbInst := match i with
  | 0 => s.arb.i0
  | 1 => s.arb.i1
  | _ => s.arb.i2

def State.setArb (s : State) (i : Nat) (a : ArbInst) : State := match i with
  | 0 => { s with arb := { s.arb with i0 := a } }
  | 1 => { s with arb := { s.arb with i1 := a } }
  | _ => { s with arb := { s.arb with i2 := a } }

/-- Requesters of an arbiter (Table ARB-1). -/
def requesters (i : Nat) : Nat := match i with
  | 0 => 14 | 1 => 9 | _ => 7

/-- The resource a command names: a pseudo-channel for arbiter 2. -/
def resourceOf (i pc : Nat) : Nat := if i = 2 then pc else 0

def State.prio (s : State) (i r : Nat) : Nat := s.fld (Reg.ARB_Ii_REQr i r) 2 0
def State.frozen (s : State) (i : Nat) : Bool := s.rbit (Reg.ARB_Ii_CTRL i) 0

/-- R441: the requester is masked. -/
def State.isMasked (s : State) (i r : Nat) : Bool :=
  let a := s.arbInst i
  let q := Tab.get 0 a.quota r
  q != 0 && decide (q ≤ Tab.get 0 a.used r) && decide (a.hiThr ≤ s.prio i r)

/-- The masks are taken again; MASKED for a requester that becomes masked. -/
def State.remask (s : State) (i : Nat) : State :=
  let a := s.arbInst i
  let m : BitVec 14 := (List.range (requesters i)).foldl (fun m r => if s.isMasked i r then putBit m r true else m) 0
  (s.setArb i { a with masked := m }).raiseIf (decide (m &&& ~~~ a.masked ≠ 0)) Reg.ARB_STATUS (3 + i)

/-- A requester begins to wait for a resource. -/
def State.await (s : State) (i res r : Nat) : State :=
  let a := s.arbInst i
  if a.waiting.contains (res * 16 + r) || decide (requesters i ≤ r) then s
  else s.setArb i { a with waiting := a.waiting ++ [res * 16 + r] }

/-- R442: the requester to be granted: unmasked, of the highest PRIO; among equals, the first in increasing number after
the one last granted at that PRIO, cyclically. -/
def State.pick (s : State) (i res : Nat) : Option Nat :=
  let a := s.arbInst i
  let rs := (List.range (requesters i)).filter (fun r => a.waiting.contains (res * 16 + r) && !a.masked.getLsbD r)
  let top := rs.foldl (fun m r => max m (s.prio i r)) 0
  let best := rs.filter (fun r => s.prio i r = top)
  match Tab.find? a.last (res * 8 + top) with
  | none => best.head?
  | some l =>
    match best.find? (fun r => l < r) with
    | some r => some r
    | none => best.head?

/-- A grant is given. -/
def State.giveGrant (s : State) (i res r : Nat) : State :=
  let a := s.arbInst i
  let p := s.prio i r
  let s := s.setArb i { a with
    waiting := a.waiting.filter (· ≠ res * 16 + r)
    holder := Tab.insert a.holder res r
    last := Tab.insert a.last (res * 8 + p) r
    used := if a.hiThr ≤ p then Tab.modify 0 a.used r (· + 1) else a.used }
  (s.bump (Reg.ARB_Ii_CNT_GRANTr i r)).remask i

/-- An arbitration: the requester granted, if any. -/
def State.arbitrate (s : State) (i res : Nat) (arriving : List Nat) : Option Nat × State :=
  let s := (arriving.foldl (fun s r => s.await i res r) s).remask i
  if s.frozen i || (Tab.find? (s.arbInst i).holder res).isSome then (none, s)
  else
    match s.pick i res with
    | none => (none, s)
    | some r => (some r, s.giveGrant i res r)

/-- FREEZE_DONE is reached once no grant is held. -/
def State.freezeCheck (s : State) (i : Nat) : State :=
  let a := s.arbInst i
  if s.frozen i && !a.freezeDone && a.holder.isEmpty then
    (s.setArb i { a with freezeDone := true }).raise Reg.ARB_STATUS i
  else s

/-- A grant ends. -/
def State.endGrant (s : State) (i res : Nat) : State :=
  let a := s.arbInst i
  let s := s.setArb i { a with holder := Tab.erase a.holder res }
  let s := if i = 0 then { s with arb := { s.arb with extended := none } } else s
  s.freezeCheck i

/-- A write of ARB_Ii_CTRL (R444, R445): FREEZE acts at once, HI_THR and WINDOW at the next window start. -/
def State.writeArbCtrl (s : State) (i : Nat) (merged : Word) : State :=
  let s := s.setReg (Reg.ARB_Ii_CTRL i) merged
  if s.frozen i then s.freezeCheck i else s.setArb i { s.arbInst i with freezeDone := false }

/-- `GRANT_END` (R443, R448): the grant runs to its natural end. One that its unlocking write keeps runs on for 1 µs. -/
def execGrantEnd (inst : Fin 3) (pc : Fin 64) (s : State) : Outcome State Fault Refusal :=
  let s := match inst.val, s.arb.extended with
    | 0, some (_, t) => s.passToTick t
    | _, _ => s
  done (s.endGrant inst (resourceOf inst pc))

/-- An arbiter window starts: USED is 0, and the settings written take effect (R441, R444). -/
def State.startWindow (s : State) (i : Nat) : State :=
  let quota := (List.range (requesters i)).foldl (fun t r => Tab.set 0 t r (s.fld (Reg.ARB_Ii_REQr i r) 31 16)) []
  (s.setArb i { s.arbInst i with
    hiThr := s.fld (Reg.ARB_Ii_CTRL i) 6 4, window := s.fld (Reg.ARB_Ii_CTRL i) 31 16, quota := quota, used := []
    startAt := s.ticks }).remask i

/-- `ARB_WINDOW_START` (R441, R444): USED is 0 and the settings written take effect. -/
def execArbWindowStart (inst : Fin 3) (s : State) : Outcome State Fault Refusal := done (s.startWindow inst)

/-- Cycles left in the window in units of 16; the core clock runs at 1.6 GHz, the HBM clocks at 1.171875 GHz. -/
def State.windowLeft (s : State) (i : Nat) : Nat :=
  let a := s.arbInst i
  let t := s.ticks - a.startAt
  let cycles := if i = 2 then t * 1171875 / 1280000 else t * 5 / 4
  (a.window * 16 - cycles) / 16

end Sys2Proof.Machine
end

