-- ==== Sys2Proof/Machine/Cls.lean ====
section
/-! DEFINITION. The packet engine (chapter 10): parser, keys, the exact-match table and its commands, actions, queue
resolution, rule-set generations, load spreading and capture copies. -/

namespace Sys2Proof.Machine

open Host (Outcome)
open Crypto (beBytes beNat slice leBytes)

/-! ## The exact-match table (R407 to R411) -/

/-- CRC-32C, most significant bit first, no final inversion. -/
def crcMsb (init : Word) (b : List Byte) : Word :=
  b.foldl (fun c x =>
    (List.range 8).foldl (fun (c : Word) _ => if c.msb then (c <<< 1) ^^^ 0x1EDC6F41 else c <<< 1)
      (c ^^^ (BitVec.ofNat 32 x.toNat <<< 24))) init

/-- R408: the slot of an entry in a bank. -/
def State.slotOf (s : State) (e : TblEntry) (bank : Nat) : Nat :=
  (crcMsb (s.reg (if bank = 0 then Reg.CLS_SEED0 else Reg.CLS_SEED1))
    (beBytes 1 (e.profile * 4 + e.pass * 2 + e.gen) ++ beBytes 40 e.key.toNat)).toNat % 2 ^ 15

/-- Two entries match the same lookups (R407). -/
def TblEntry.same (x y : TblEntry) : Bool :=
  x.profile == y.profile && x.pass == y.pass && x.gen == y.gen && x.key == y.key

/-- The entry at a place: bank 0, bank 1 or the stash (2). -/
def Cls.entry (c : Cls) (place index : Nat) : TblEntry := match place with
  | 0 => Tab.get .empty c.bank0 index
  | 1 => Tab.get .empty c.bank1 index
  | _ => Tab.get .empty c.stash index

def Cls.put (c : Cls) (place index : Nat) (e : TblEntry) : Cls := match place with
  | 0 => { c with bank0 := Tab.set .empty c.bank0 index e }
  | 1 => { c with bank1 := Tab.set .empty c.bank1 index e }
  | _ => { c with stash := Tab.set .empty c.stash index e }

/-- The place of the valid entry a lookup matches. -/
def State.lookup (s : State) (e : TblEntry) : Option (Nat × Nat) :=
  let hit (x : TblEntry) : Bool := x.valid && x.same e
  if hit (s.cls.entry 0 (s.slotOf e 0)) then some (0, s.slotOf e 0)
  else if hit (s.cls.entry 1 (s.slotOf e 1)) then some (1, s.slotOf e 1)
  else ((List.range 16).find? (fun i => hit (s.cls.entry 2 i))).map (fun i => (2, i))

/-- A free place of the stash. -/
def Cls.freeStash (c : Cls) : Option Nat := (List.range 16).find? (fun i => !(c.entry 2 i).valid)

/-- The search of R410. `path` is reversed: its head is path[m], and path[k] is a slot of bank k mod 2. The free place at
the end of the path, and the path. -/
def State.searchPath (s : State) (path : List Nat) : Nat → Option ((Nat × Nat) × List Nat)
  | 0 => none
  | fuel + 1 =>
    let m := path.length - 1
    let b := 1 - m % 2
    let f := s.slotOf (s.cls.entry (m % 2) (path.headD 0)) b
    let inPath := (path.zip (List.range path.length).reverse).any (fun e => e.1 = f ∧ e.2 % 2 = b)
    if !(s.cls.entry b f).valid then some ((b, f), path)
    else if m + 1 = s.fld Reg.CLS_TBL_CFG 9 0 ∨ inPath then (s.cls.freeStash).map (fun i => ((2, i), path))
    else s.searchPath (f :: path) fuel

/-- The moves of R410, from the free end of the path backward. -/
def Cls.shiftPath (c : Cls) (free : Nat × Nat) (e : TblEntry) : List Nat → Cls
  | [] => c.put free.1 free.2 e
  | slot :: rest =>
    let place := rest.length % 2
    (c.put free.1 free.2 (c.entry place slot)).shiftPath (place, slot) e rest

/-- insert of R410: the status and the place of the entry. -/
def State.insertEntry (s : State) (e : TblEntry) : Nat × (Nat × Nat) × State :=
  match s.lookup e with
  | some p => (2, p, s)
  | none =>
    let s0 := s.slotOf e 0
    let s1 := s.slotOf e 1
    if !(s.cls.entry 0 s0).valid then (0, (0, s0), s.modCls (fun c => c.put 0 s0 e))
    else if !(s.cls.entry 1 s1).valid then (0, (1, s1), s.modCls (fun c => c.put 1 s1 e))
    else
      match s.searchPath [s0] 513 with
      | none => (3, (0, 0), s)
      | some (free, path) =>
        (if free.1 = 2 then 1 else 0, (0, s0), s.modCls (fun c => c.shiftPath free e path))

/-- KEY_BITS of a profile's words (R405). -/
def keyBits (w : Tab Word) : Nat :=
  (List.range 16).foldl (fun a e =>
    if (Tab.get 0 w 0).getLsbD e then a + bitsOf (Tab.get 0 w (2 + e)).toNat 17 13 + 1 else a) 0

def State.profile (s : State) (p : Nat) : Tab Word := Tab.get [] s.cls.profs p

/-- Status 6: the entry could never match. -/
def State.entryBad (s : State) (e : TblEntry) : Bool :=
  let top := if e.pass = 0 then 320 else 304
  decide (e.key.toNat % 2 ^ (top - keyBits (s.profile e.profile)) ≠ 0)

/-- Entries of the inactive generation may not change while DRAINED = 0 (R417). -/
def State.genBusy (s : State) (gen : Nat) : Bool := !s.cls.drained && gen != s.cls.active

/-- A command completes: its result and flags (R409). -/
def State.tableDone (s : State) (status : Nat) (place : Nat × Nat) : State :=
  let s := s.modCls (fun c => { c with
    result := packWord [(place.2, 15, 0), (place.1, 2, 15), (status, 3, 17), (1, 1, 20)] })
  ((s.raise Reg.CLS_STATUS 3).raiseIf (decide (1 < status)) Reg.CLS_STATUS 4).raiseIf (status == 1) Reg.CLS_STATUS 5

/-- The staging entry as a new one. -/
def State.staged (s : State) : TblEntry := { s.cls.stage with valid := true, hits := 0 }

def State.tblInsert (s : State) : State :=
  let e := s.staged
  if s.genBusy e.gen then s.tableDone 5 (0, 0)
  else if s.entryBad e then s.tableDone 6 (0, 0)
  else
    let (st, p, s) := s.insertEntry e
    s.tableDone st p

def State.tblUpdate (s : State) : State :=
  let e := s.staged
  if s.genBusy e.gen then s.tableDone 5 (0, 0)
  else
    match s.lookup e with
    | none => s.tableDone 4 (0, 0)
    | some p => (s.modCls (fun c => c.put p.1 p.2 { c.entry p.1 p.2 with act := e.act })).tableDone 0 p

def State.tblDelete (s : State) : State :=
  let e := s.staged
  if s.genBusy e.gen then s.tableDone 5 (0, 0)
  else
    match s.lookup e with
    | none => s.tableDone 4 (0, 0)
    | some p => (s.modCls (fun c => c.put p.1 p.2 { c.entry p.1 p.2 with valid := false })).tableDone 0 p

def State.tblFind (s : State) : State :=
  match s.lookup s.staged with
  | none => s.tableDone 4 (0, 0)
  | some p => (s.modCls (fun c => { c with stage := c.entry p.1 p.2 })).tableDone 0 p

def State.tblReadSlot (s : State) : State :=
  let index := s.fld Reg.CLS_TBL_IDX 14 0
  let place := s.fld Reg.CLS_TBL_IDX 16 15
  if place = 3 ∨ (place = 2 ∧ 16 ≤ index) then s.tableDone 4 (0, 0)
  else (s.modCls (fun c => { c with stage := c.entry place index })).tableDone 0 (place, index)

def State.tblClearGen (s : State) : State :=
  let gen := s.fld Reg.CLS_TBL_GEN 0 0
  if s.genBusy gen then s.tableDone 5 (0, 0)
  else
    let one (t : Tab TblEntry) : Tab TblEntry :=
      (t.map (fun e => (e.1, if e.2.gen = gen then { e.2 with valid := false } else e.2))).filter
        (fun e => e.2 ≠ .empty)
    (s.modCls (fun c => { c with bank0 := one c.bank0, bank1 := one c.bank1, stash := one c.stash })).tableDone 0 (0, 0)

/-- CLS_TBL_CMD (Table CLS-2). Each command completes as it is given, so none is found busy; an OP that the table does
not list starts nothing. -/
def State.tableCommand (s : State) (op : Nat) : State := match op with
  | 1 => s.tblInsert
  | 2 => s.tblUpdate
  | 3 => s.tblDelete
  | 4 => s.tblFind
  | 5 => s.tblReadSlot
  | 6 => s.tblClearGen
  | _ => s

/-- Valid entries of a table. -/
def validIn (t : Tab TblEntry) (p : TblEntry → Bool) : Nat := (t.filter (fun e => e.2.valid && p e.2)).length

/-- A staging word (Table CLS-4). -/
def TblEntry.word (e : TblEntry) (w : Nat) : Word :=
  if w < 10 then BitVec.ofNat 32 (e.key.toNat / 2 ^ (32 * (9 - w)))
  else match w with
    | 10 => packWord [(e.profile, 6, 0), (e.pass, 1, 6), (e.gen, 1, 7), (b2n e.valid, 1, 8)]
    | 11 => e.act.a0
    | 12 => e.act.a1
    | 13 => e.act.a2
    | 14 => BitVec.ofNat 32 e.hits.toNat
    | _ => BitVec.ofNat 32 (e.hits.toNat / 2 ^ 32)

/-- A write of a staging word. Reserved action bits read as written 0. -/
def TblEntry.setWord (e : TblEntry) (w : Nat) (v : Word) : TblEntry :=
  if w < 10 then { e with key := BitVec.ofNat 320 (setBits e.key.toNat (32 * (9 - w) + 31) (32 * (9 - w)) v.toNat) }
  else match w with
    | 10 => { e with profile := bitsOf v.toNat 5 0, pass := bitsOf v.toNat 6 6, gen := bitsOf v.toNat 7 7 }
    | 11 => { e with act := { e.act with a0 := v &&& 0xFFFFFFFE } }
    | 12 => { e with act := { e.act with a1 := v &&& 0xFFFFFFF0 } }
    | 13 => { e with act := { e.act with a2 := v &&& 0xFFFF0000 } }
    | _ => e

/-- A write of a CLS seed (R408). -/
def State.writeSeed (s : State) (bank : Nat) (v : Word) : State :=
  let used := fun (t : Tab TblEntry) => t.any (fun e => e.2.valid)
  if used s.cls.bank0 || used s.cls.bank1 || used s.cls.stash then s.raise Reg.CLS_STATUS 4
  else s.setReg (if bank = 0 then Reg.CLS_SEED0 else Reg.CLS_SEED1) v

/-! ## Profiles, the select table and spread groups -/

/-- Word of Table CLS-5 as it reads: KEY_BITS is computed. -/
def profWord (w : Tab Word) (i : Nat) : Word :=
  if i = 1 then BitVec.ofNat 32 (bitsOf (Tab.get 0 w 1).toNat 7 0 + keyBits w * 2 ^ 16) else Tab.get 0 w i

/-- Bits of a profile word that exist. -/
def profMask (i : Nat) : Word := match i with
  | 0 => 0x1FFFFFFF
  | 1 => 0xFF
  | 18 => 0xFFFFFFFE
  | 19 => 0xFFFFFFF0
  | 20 => 0xFFFF0000
  | _ => 0x7FFFF

/-- R404: what APPLY refuses. -/
def profRefused (w : Tab Word) : Bool :=
  let w0 := (Tab.get 0 w 0).toNat
  let ext (e : Nat) : Nat := (Tab.get 0 w (2 + e)).toNat
  let on (e : Nat) : Bool := decide (bitsOf (ext e) 18 18 = 1)
  decide (320 < keyBits w) ||
    (List.range 16).any (fun e => on e &&
      (decide (bitsOf (ext e) 1 0 = 3) || (decide (bitsOf (ext e) 1 0 < 2) && decide (191 < bitsOf (ext e) 9 2)) ||
        (decide (bitsOf (ext e) 1 0 = 2) &&
          decide (31 < 8 * bitsOf (ext e) 9 2 + bitsOf (ext e) 12 10 + bitsOf (ext e) 17 13)))) ||
    (decide (bitsOf w0 16 16 = 1) && !on (bitsOf w0 20 17)) || decide (bitsOf w0 24 23 = 3)

def State.profApply (s : State) : State :=
  if profRefused s.cls.profStage then s.raise Reg.CLS_STATUS 6
  else s.modCls (fun c => { c with profs := Tab.set [] c.profs (s.fld Reg.CLS_PROF_SEL 5 0) c.profStage })

def State.profLoad (s : State) : State :=
  s.modCls (fun c => { c with profStage := Tab.get [] c.profs (s.fld Reg.CLS_PROF_SEL 5 0) })

/-- A write of CLS_SEL_DATA: the selected entry takes it and the staged SRC_MASK. -/
def State.writeSel (s : State) (v : Word) : State :=
  s.modCls (fun c => { c with sel := (Tab.set (0, 0) c.sel (s.fld Reg.CLS_SEL_IDX 5 0)
    (v &&& 0x3F07FFFF, s.reg Reg.CLS_SEL_SRC)) })

/-- A write of CLS_SG_MAP (R420). -/
def State.writeSg (s : State) (v : Word) : State :=
  if 12 < bitsOf v.toNat 15 12 ∨ 4096 < bitsOf v.toNat 11 0 + 2 ^ bitsOf v.toNat 15 12 then s.raise Reg.CLS_STATUS 7
  else s.modCls (fun c => { c with sgs := (Tab.set (0, 0) c.sgs (s.fld Reg.CLS_SG_SEL 5 0)
    (s.reg Reg.CLS_SG_CFG, v &&& 0x1FFFFFFF)) })

/-! ## Generations (R416, R417) -/

/-- Packets of the inactive generation that have not finished their last pass. -/
def State.inflight (s : State) : Nat := (s.cls.recirc.filter (fun r => r.gen ≠ s.cls.active)).length

/-- A swap; refused while DRAINED = 0. -/
def State.swapGen (s : State) : State :=
  if s.cls.drained then
    let s := s.modCls (fun c => { c with active := 1 - c.active })
    (s.modCls (fun c => { c with drained := decide (s.inflight = 0) })).raise Reg.CLS_STATUS 0
  else (s.raise Reg.CLS_STATUS 1).bump Reg.CLS_CNT_SWAP_REFUSED

/-- `DRAINED` (R416): the last packet of the inactive generation has finished. -/
def execDrained (s : State) : Outcome State Fault Refusal :=
  if !s.cls.drained && s.inflight == 0 then
    done ((s.modCls (fun c => { c with drained := true })).raise Reg.CLS_STATUS 2)
  else done s

/-! ## The parser (R398 to R403) -/

/-- Data length of a frame (R401). -/
def PktIn.dataLen (p : PktIn) : Nat := if p.ovs then p.data.length else p.data.length - 4

def PktIn.half (p : PktIn) (i : Nat) : Nat := beNat (slice p.data i 2)

/-- R398: the tag count. -/
def State.tagsOf (s : State) (p : PktIn) : Nat :=
  let outer := s.fld Reg.CLS_TPID 15 0
  let inner := s.fld Reg.CLS_TPID 31 16
  if p.half 12 = outer ∨ p.half 12 = inner then (if p.half 16 = inner then 2 else 1) else 0

/-- R399: the profile of the first pass. -/
def State.selectProfile (s : State) (p : PktIn) (t : Nat) : Nat :=
  let e := p.half (12 + 4 * t)
  let hit (j : Nat) : Bool :=
    let (d, m) := Tab.get (0, 0) s.cls.sel j
    bitsOf d.toNat 15 0 == e && d.getLsbD (16 + t) && m.getLsbD p.source
  match (List.range 64).find? hit with
  | some j => bitsOf (Tab.get (0, 0) s.cls.sel j).1.toNat 29 24
  | none => 0

/-- R402: the metadata word. -/
def metaWord (p : PktIn) (t : Nat) (conflict : Bool) : Nat :=
  (packWord [(p.source, 4, 28), (t, 2, 26), (b2n conflict, 1, 25), (b2n p.ovs, 1, 24), (p.link, 12, 12)]).toNat

/-- R400, R401: one extraction: its value and whether it is incomplete. -/
def extract (p : PktIn) (t mw : Nat) (w : Word) : Nat × Bool :=
  let base := bitsOf w.toNat 1 0
  let ofs := bitsOf w.toNat 9 2
  let bit := bitsOf w.toNat 12 10
  let width := bitsOf w.toNat 17 13 + 1
  let a := if base = 1 then 14 + 4 * t + ofs else ofs
  let last := (8 * a + bit + width - 1) / 8
  let bytes := if base = 2 then slice (beBytes 4 mw) a (last + 1 - a) else slice p.data a (last + 1 - a)
  let v := beNat bytes / 2 ^ (8 * (last + 1 - a) - bit - width) % 2 ^ width
  (v, base != 2 && (decide (191 < last) || decide (p.dataLen ≤ last)))

/-- The fields of a profile on a frame, with their widths, and whether an enabled extraction is incomplete. A field that
no complete, enabled extraction fills holds a value the spec does not state. -/
def State.fields (s : State) (p : PktIn) (t mw : Nat) (w : Tab Word) : List (Nat × Nat) × Bool × State :=
  let one (e : Nat) : (Nat × Nat) × Bool :=
    let x := Tab.get 0 w (2 + e)
    let width := bitsOf x.toNat 17 13 + 1
    let free := (Config.freeWord (s.fresh + e)).toNat % 2 ^ width
    if x.getLsbD 18 then
      let (v, bad) := extract p t mw x
      ((if bad then free else v, width), bad)
    else ((free, width), false)
  let l := (List.range 16).map one
  (l.map (·.1), l.any (·.2), { s with fresh := s.fresh + 16 })

/-- The fields a mask names, concatenated: value and bits. -/
def concatFields (fs : List (Nat × Nat)) (mask : Nat) : Nat × Nat :=
  (List.range 16).foldl (fun a e =>
    if mask / 2 ^ e % 2 = 1 then
      match fs[e]? with
      | some (v, w) => (a.1 * 2 ^ w + v, a.2 + w)
      | none => a
    else a) (0, 0)

/-- R403: the frame claims more than it holds. -/
def lenConflict (p : PktIn) (t : Nat) (w : Tab Word) : Bool :=
  let w0 := (Tab.get 0 w 0).toNat
  if bitsOf w0 16 16 = 0 then false
  else
    let (v, bad) := extract p t (metaWord p t false) (Tab.get 0 w (2 + bitsOf w0 20 17))
    let claim : Int := v * 2 ^ bitsOf w0 22 21 + bitsOf (Tab.get 0 w 1).toNat 7 0
    !bad && decide ((p.dataLen : Int) - (14 + 4 * t) < claim)

/-! ## A pass (R405 to R407, R412) -/

def Action.bit (a : Action) (i : Nat) : Bool := a.a0.getLsbD i

/-- The default action of a profile. -/
def defaultAction (w : Tab Word) : Action := ⟨Tab.get 0 w 18, Tab.get 0 w 19, Tab.get 0 w 20⟩

/-- One pass: `before` is the first pass's result for a second pass. -/
def State.makePass (s : State) (p : PktIn) (prof gen : Nat) (conflict : Bool) (before : Option Pass) : Pass × State :=
  let w := s.profile prof
  let t := s.tagsOf p
  let (fs, bad, s) := s.fields p t (metaWord p t conflict) w
  if bad then (⟨prof, defaultAction w, true, fs⟩, s.bump Reg.CLS_CNT_INCOMPLETE)
  else
    let (v, n) := concatFields fs (bitsOf (Tab.get 0 w 0).toNat 15 0)
    let key := match before with
      | none => v * 2 ^ (320 - n)
      | some r => bitsOf r.act.a2.toNat 31 16 * 2 ^ 304 + v * 2 ^ (304 - n)
    let probe : TblEntry := ⟨true, prof, b2n before.isSome, gen, BitVec.ofNat 320 key, .none, 0⟩
    match s.lookup probe with
    | none => (⟨prof, defaultAction w, false, fs⟩, s.bump Reg.CLS_CNT_MISS)
    | some (place, i) =>
      let e := s.cls.entry place i
      let (h, half) := wideAdd e.hits 1
      let s := (s.modCls (fun c => c.put place i { e with hits := h })).raiseIf half Reg.CLS_STATUS 9
      (⟨prof, e.act, false, fs⟩, s.bump Reg.CLS_CNT_HIT)

/-! ## Queue resolution and spreading (R414, R418, R419) -/

/-- Toeplitz hash of the first 320 of `n` bits of `v`. -/
def State.toeplitz (s : State) (v n : Nat) : Nat :=
  let k := (List.range 11).foldl (fun a i => a * 2 ^ 32 + (s.reg (Reg.CLS_HASH_KEY i)).toNat) 0
  (List.range (min n 320)).foldl (fun h i =>
    if v / 2 ^ (n - 1 - i) % 2 = 1 then h ^^^ (k / 2 ^ (320 - i) % 2 ^ 32) else h) 0

/-- spread(g, pkt). What MODE 3 spreads to, the spec does not say: free. -/
def State.spread (s : State) (g : Nat) (fs : List (Nat × Nat)) : Nat :=
  let (cfg, map) := Tab.get (0, 0) s.cls.sgs g
  let (v, n) := concatFields fs (bitsOf cfg.toNat 31 16)
  let e := (Tab.get 0 s.cls.ind
    (bitsOf map.toNat 11 0 + s.toeplitz v n % 2 ^ bitsOf map.toNat 15 12)).toNat
  let base := bitsOf map.toNat 28 16
  match bitsOf cfg.toNat 1 0 with
  | 0 => bitsOf e 12 0
  | 1 => (base + bitsOf e 1 0) % 8192
  | 2 => base
  | _ => Config.freeNat s.fresh % 8192

def State.linkDefq (s : State) (l : Nat) : Word := Tab.get 0x10000000 s.cls.links l

/-- resolve: the queue, or the counter of the drop. -/
def State.resolve (s : State) (p : PktIn) (passes : List Pass) : Except Nat Nat :=
  let up := p.source != 9
  let q0 := if up then s.fld (Reg.CLS_SRC_DEFQ p.source) 12 0 else bitsOf (s.linkDefq p.link).toNat 28 16
  let step (a : Nat × Option Nat × Option Nat × Option (Nat × List (Nat × Nat))) (r : Pass) :
      Nat × Option Nat × Option Nat × Option (Nat × List (Nat × Nat)) :=
    let (q, lk, al, sg) := a
    let link := bitsOf r.act.a0.toNat 23 12
    let (q, lk) := if r.act.bit 28 && up then (bitsOf (s.linkDefq link).toNat 12 0, some link) else (q, lk)
    let q := if r.act.bit 27 then bitsOf r.act.a1.toNat 31 19 else q
    let q := if r.act.bit 25 then q / 8 * 8 + bitsOf r.act.a0.toNat 3 1 else q
    let al := if r.act.bit 26 && up then some (bitsOf r.act.a0.toNat 11 4) else al
    (q, lk, al, if r.act.bit 24 then some (bitsOf r.act.a1.toNat 18 13, r.fields) else sg)
  let (q, lk, al, sg) := passes.foldl step (q0, none, none, none)
  let q := match sg with
    | some (g, fs) => s.spread g fs
    | none => q
  if up != isUs q then .error Reg.CLS_CNT_DIR_DROP
  else if (match lk with | some l => (s.queue q).linkF != l | none => false) then .error Reg.CLS_CNT_BIND_DROP
  else if (match al with | some a => (s.queue q).allocF != a | none => false) then .error Reg.CLS_CNT_BIND_DROP
  else .ok q

/-! ## Disposal of a frame (R412, R413, R421) -/

/-- A copy to capture queue `c` (R421). -/
def State.capture1 (s : State) (p : PktIn) (c reason gen : Nat) (pass incomplete conflict : Bool) : State :=
  let body := p.data.take p.dataLen
  let tag := [0x88, 0xB6] ++ beBytes 1 reason ++ beBytes 1 p.source ++
    beBytes 2 (if p.source = 9 then p.link else 0xFFFF) ++
    beBytes 1 (gen + 2 * b2n pass + 4 * b2n incomplete + 8 * b2n conflict) ++ [0]
  let body := if s.rbit (Reg.CLS_CAPQ c) 16 then body.take 12 ++ tag ++ body.drop 12 else body
  let fcs := leBytes 4 (Crypto.crc32 body).toNat
  (s.bump Reg.CLS_CNT_COPIES).admitFrame (s.fld (Reg.CLS_CAPQ c) 12 0) (body ++ fcs) (body.length + 4) p.stamp fcs

/-- The frame is offered to its queue (R242). -/
def State.offerFrame (s : State) (p : PktIn) (q : Nat) : State :=
  let body := p.data.take p.dataLen
  let fcs := p.data.drop p.dataLen
  if isUs q then
    let s := s.admitFrame q body (body.length + 24) p.stamp fcs
    if p.source = 8 then (s.modQueue q (fun x => { x with srcS := true })).unalign q else s
  else s.admitFrame q p.data p.data.length p.stamp fcs

/-- Steps 4 to 6 of R412. -/
def State.dispose (s : State) (p : PktIn) (gen : Nat) (conflict : Bool) (passes : List Pass) : State :=
  let mirror (s : State) (e : Nat × Pass) : State :=
    if e.2.act.bit 30 then
      s.capture1 p (bitsOf e.2.act.a1.toNat 12 10) 1 gen (e.1 == 1) e.2.incomplete conflict
    else s
  let s := ((List.range passes.length).zip passes).foldl mirror s
  if passes.any (fun r => r.act.bit 31) then s.bump Reg.CLS_CNT_DROP
  else
    match s.resolve p passes with
    | .error c => s.bump c
    | .ok q =>
      if p.ovs then
        let s := s.bump Reg.CLS_CNT_OVS_DROP
        if p.source < 8 && s.rbit (Reg.HPE_Pp_MAC_CTRL p.source) 1 then
          s.capture1 p (s.fld (Reg.HPE_Pp_MAC_CTRL p.source) 10 8) 3 gen false
            (passes.any (·.incomplete)) conflict
        else s
      else s.offerFrame p q

/-- R413: a refused request: the frame follows RECIRC_FAIL of the profile of the pass that asked. -/
def State.recircRefused (s : State) (counter : Nat) (p : PktIn) (gen : Nat) (conflict : Bool) (passes : List Pass) :
    State :=
  let s := (s.bump counter).raise Reg.CLS_STATUS 8
  let prof := (passes.getLast?.map (·.prof)).getD 0
  if (Tab.get 0 (s.profile prof) 0).getLsbD 28 then s.dispose p gen conflict passes else s

/-- A frame's first pass in a working pipeline. A frame that its length conflict stops (R412, step 1) has been parsed, so
that its pass may be marked PARSE_INCOMPLETE, but takes no result. -/
def State.firstPass (s : State) (p : PktIn) (pipe : Nat) (headroom : Bool) : State :=
  let s := s.bump Reg.CLS_CNT_PASS1
  let t := s.tagsOf p
  let prof := s.selectProfile p t
  let w := s.profile prof
  let conflict := lenConflict p t w
  let react := bitsOf (Tab.get 0 w 0).toNat 24 23
  let gen := s.cls.active
  let bad := (s.fields p t (metaWord p t conflict) w).2.1
  let s := s.bumpIf conflict Reg.CLS_CNT_LEN_CONFLICT
  if conflict && react == 0 then (s.bumpIf bad Reg.CLS_CNT_INCOMPLETE).bump Reg.CLS_CNT_LEN_DROP
  else if conflict && react == 2 then
    (s.bumpIf bad Reg.CLS_CNT_INCOMPLETE).capture1 p (bitsOf (Tab.get 0 w 0).toNat 27 25) 2 gen false bad true
  else
    let (r, s) := s.makePass p prof gen conflict none
    let prof2 := bitsOf r.act.a1.toNat 9 4
    if !r.act.bit 29 || r.act.bit 31 then s.dispose p gen conflict [r]
    else if !headroom then s.recircRefused Reg.CLS_CNT_RECIRC_BUDGET p gen conflict [r]
    else if 304 < keyBits (s.profile prof2) then s.recircRefused Reg.CLS_CNT_RECIRC_PROF p gen conflict [r]
    else
      (s.modCls (fun c => { c with recirc := c.recirc ++ [⟨pipe, p, gen, conflict, r, s.ticks, false⟩] })).await 1 0
        (pipe + 1)

def State.pipesWorking (s : State) : Nat := 8 - (bitList s.flt.isoCls).length

/-- The frame to be admitted next: line frames and host frames in the order they came, port S behind them (R18); with five
working pipelines or fewer, host ports in round robin (R38). -/
def State.nextArrival (s : State) : Option PktIn :=
  match s.arrivals.find? (fun p => p.source ≠ 8) with
  | none => s.arrivals.head?
  | some p =>
    if p.source = 9 ∨ 5 < s.pipesWorking then some p
    else
      let order := (List.range 8).map (fun k => (s.cls.lastPort + 1 + k) % 8)
      match order.find? (fun n => s.arrivals.any (fun x => x.source = n)) with
      | some n => s.arrivals.find? (fun x => x.source = n)
      | none => some p

/-- `FIRST_PASS` (R412): the next frame is admitted to a pipeline. `headroom` says whether the recirculation headroom of
R18 is left at that moment. Nothing is admitted while the engine is not enabled, the pipeline is isolated or the Hoard is
frozen. -/
def execFirstPass (pipe : Fin 8) (headroom : Bool) (s : State) : Outcome State Fault Refusal :=
  if s.coreReset 8 then done s else
  if !s.rbit Reg.CLS_CTRL 0 || s.flt.isoCls.getLsbD pipe || s.hoardFrozen then done s
  else
    match s.nextArrival with
    | none => done s
    | some p =>
      let s := { s with arrivals := s.arrivals.erase p }
      let s := s.modCls (fun c => { c with lastPort := if p.source < 8 then p.source else c.lastPort })
      done (s.firstPass p pipe headroom)

/-- Take a recirculation request away. -/
def State.dropRecirc (s : State) (r : Recirc) : State :=
  s.modCls (fun c => { c with recirc := c.recirc.erase r })

/-- `RECIRCULATION` (R413): the granted request runs its second pass under PROF2. -/
def execRecirculation (s : State) : Outcome State Fault Refusal :=
  if s.coreReset 8 then done s else
  match s.cls.recirc.find? (·.granted) with
  | none => done s
  | some r =>
    let s := (s.dropRecirc r).bump Reg.CLS_CNT_PASS2
    let (p2, s) := s.makePass r.pkt (bitsOf r.first.act.a1.toNat 9 4) r.gen r.conflict (some r.first)
    if p2.act.bit 29 && !p2.act.bit 31 then
      done (s.recircRefused Reg.CLS_CNT_RECIRC_SECOND r.pkt r.gen r.conflict [r.first, p2])
    else done (s.dispose r.pkt r.gen r.conflict [r.first, p2])

/-- `RECIRC_WITHDRAW` (R447): the oldest request of a pipeline, not granted in 64 core cycles, is refused. -/
def execRecircWithdraw (pipe : Fin 8) (s : State) : Outcome State Fault Refusal :=
  match s.cls.recirc.find? (fun r => r.pipe = pipe.val ∧ r.granted = false) with
  | none => done s
  | some r =>
    let s := (s.passToTick (r.tick + 52)).dropRecirc r
    let a := s.arbInst 1
    let s := if s.cls.recirc.any (fun x => x.pipe = pipe.val ∧ x.granted = false) then s
      else s.setArb 1 { a with waiting := a.waiting.filter (· ≠ pipe.val + 1) }
    done (s.recircRefused Reg.CLS_CNT_RECIRC_BUDGET r.pkt r.gen r.conflict [r.first])

end Sys2Proof.Machine
end

