-- ==== Sys2Proof/Machine/Hpe.lean ====
section
/-! DEFINITION. Host ports (chapter 10): MAC receive and transmit, pauses, port modes and the up state, and the egress
schedulers (R273). -/

namespace Sys2Proof.Machine

open Host (Outcome)
open Crypto (beBytes beNat slice leBytes)

/-! ## Statistics (R396, R397) -/

/-- Size bucket of a length (Table HPE-3). -/
def bucketOf (l : Nat) : Nat := ((List.range 9).filter (fun b => [64, 127, 255, 511, 1023, 1518, 2047, 4095, 9216].getD b 0 < l)).length

/-- Counter of the destination: unicast, multicast or broadcast. -/
def castOf (frame : List Byte) (uni multi broad : Nat) : Nat :=
  if slice frame 0 6 = List.replicate 6 0xFF then broad
  else if (frame.getD 0 0).getLsbD 0 then multi else uni

/-- A frame sent on a port: the bytes as sent. -/
def State.countTx (s : State) (p : Nat) (frame : List Byte) : State :=
  let s := (s.count (Reg.HPE_Pp_TX_OCTETS p) frame.length).bump (Reg.HPE_Pp_TX_FRAMES p)
  let s := s.bump (castOf frame (Reg.HPE_Pp_TX_UNICAST p) (Reg.HPE_Pp_TX_MULTICAST p) (Reg.HPE_Pp_TX_BROADCAST p))
  (s.bump (Reg.HPE_Pp_TX_BKT p (bucketOf frame.length))).send (.frame p frame)

/-- R394: a frame below 64 bytes is padded and takes a fresh FCS. `body` is the frame without its FCS. -/
def State.sendPadded (s : State) (p : Nat) (body : List Byte) : State :=
  let s := s.bumpIf (decide (body.length < 60)) (Reg.HPE_Pp_TX_PADDED p)
  let body := body ++ List.replicate (60 - body.length) 0
  s.countTx p (body ++ leBytes 4 (Crypto.crc32 body).toNat)

/-! ## Receive (R389 to R392) -/

/-- A message of the transport of an enabled PTP port (R335, R336). -/
def State.isPtp (s : State) (p : Nat) (f : List Byte) : Bool :=
  let c := Reg.NTM_PTPp_CTRL p
  let e := beNat (slice f 12 2)
  let ihl := (f.getD 14 0).toNat % 16 * 4
  let udp (at_ : Nat) : Bool := [319, 320].contains (beNat (slice f (at_ + 2) 2))
  s.rbit c 0 && (match s.fld c 2 1 with
    | 0 => e == 0x88F7
    | 1 => e == 0x0800 && f.getD 23 0 == 17 && udp (14 + ihl)
    | 2 => e == 0x86DD && f.getD 20 0 == 17 && udp 54
    | _ => false)

/-- R391: a pause of `q` quanta, in ticks at the port's rate. -/
def State.pauseTicks (s : State) (p q : Nat) : Nat := (q * 65536 + 10000 * s.portLanes p - 1) / (10000 * s.portLanes p)

/-- A MAC control frame is consumed. -/
def State.macControl (s : State) (p : Nat) (f : List Byte) : State :=
  if beNat (slice f 14 2) = 1 then
    let s := s.bump (Reg.HPE_Pp_RX_PAUSE p)
    if s.rbit (Reg.HPE_Pp_MAC_CTRL p) 0 then
      let q := beNat (slice f 16 2)
      let s := s.modPort p (fun x => { x with
        pauseUntil := if q = 0 then none else some (s.ticks + s.pauseTicks p q) })
      (s.bump (Reg.HPE_Pp_TX_PAUSED p)).raise (Reg.HPE_Pp_STATUS p) 4
    else s
  else s.bump (Reg.HPE_Pp_RX_CTRL p)

/-- A frame of row 6 or row 9: PTP diversion, management diversion, then the parser. -/
def State.macAccept (s : State) (p : Nat) (f : List Byte) (stamp : Nat) (ovs overrun : Bool) : State :=
  if s.isPtp p f then
    (s.modPort p (fun x => { x with ptp := x.ptp ++ [(f, stamp)] })).bump (Reg.HPE_Pp_RX_PTP p)
  else if beNat (slice f 12 2) = 0x88B5 ∧ s.rbit (Reg.HPE_Pp_MAC_CTRL p) 2 then
    s.modPort p (fun x => { x with mgmtIn := x.mgmtIn ++ [f] })
  else if overrun && (decide (s.pipesWorking ≤ 5) || s.hoardFrozen) then
    (s.bump (Reg.HPE_Pp_RX_ENGINE_OVERRUN p)).raise (Reg.HPE_Pp_STATUS p) 5
  else { s with arrivals := s.arrivals ++ [⟨p, 0, f, stamp, ovs⟩] }

/-- `MAC_RECEIVE` (R389): `frame` runs from the destination address to the FCS; `symbolError` and `startOk` are the PCS
error and the start sequence of rows 1 and 2; `stamp` is the MAC's time; `overrun` says that the engine cannot take in the
frame (R38). -/
def execMacReceive (port : Port) (frame : List Byte) (symbolError startOk : Bool) (stamp fecCorr fecUncor : Nat)
    (overrun : Bool) (s : State) : Outcome State Fault Refusal :=
  if s.coreReset 7 then done s else
  if !s.portEn port && (s.port port).rxCut then
    done ((s.modPort port (fun x => { x with rxCut := false })).bump (Reg.HPE_Pp_RX_ABORT port))
  else if !s.portUp port then done s
  else
    let p := port.val
    let l := frame.length
    let s := (s.count (Reg.HPE_Pp_RX_FEC_CORR p) fecCorr).count (Reg.HPE_Pp_RX_FEC_UNCOR p) fecUncor
    let s := s.count (Reg.HPE_Pp_RX_OCTETS_ALL p) l
    let fcsOk := decide (4 ≤ l) && frame.drop (l - 4) == leBytes 4 (Crypto.crc32 (frame.take (l - 4))).toNat
    let maxLen := s.fld (Reg.HPE_Pp_MAXLEN p) 13 0
    let ok (s : State) : State :=
      let s := (s.count (Reg.HPE_Pp_RX_OCTETS_OK p) l).bump (Reg.HPE_Pp_RX_FRAMES_OK p)
      let s := s.bump (Reg.HPE_Pp_RX_BKT p (bucketOf l))
      s.bump (castOf frame (Reg.HPE_Pp_RX_UNICAST p) (Reg.HPE_Pp_RX_MULTICAST p) (Reg.HPE_Pp_RX_BROADCAST p))
    done (
      if symbolError then s.bump (Reg.HPE_Pp_RX_SYMBOL p)
      else if !startOk then s.bump (Reg.HPE_Pp_RX_ALIGN p)
      else if l < 64 then s.bump (if fcsOk then Reg.HPE_Pp_RX_RUNT p else Reg.HPE_Pp_RX_FRAGMENT p)
      else if maxLen < l then
        if !fcsOk then s.bump (Reg.HPE_Pp_RX_JABBER p)
        else
          let s := ((ok s).bump (Reg.HPE_Pp_RX_OVERSIZE_TRUNC p)).raise (Reg.HPE_Pp_STATUS p) 3
          s.macAccept p (frame.take maxLen) stamp true overrun
      else if !fcsOk then s.bump (Reg.HPE_Pp_RX_FCS_ERR p)
      else if beNat (slice frame 12 2) = 0x8808 then (ok s).macControl p frame
      else (ok s).macAccept p frame stamp false overrun)

/-- `PAUSE_END` (R391). -/
def execPauseEnd (port : Port) (s : State) : Outcome State Fault Refusal :=
  match (s.port port).pauseUntil with
  | none => done s
  | some t => done ((s.passToTick t).modPort port (fun x => { x with pauseUntil := none }))

/-! ## The up state and the mode (R384 to R387, R395) -/

/-- `PORT_UP_CHANGE` (R387). -/
def execPortUpChange (port : Port) (locked : Byte) (localFault remoteFault : Bool) (s : State) :
    Outcome State Fault Refusal :=
  let x := s.port port
  let begins := (localFault && !x.localFault) || (remoteFault && !x.remoteFault)
  let s := s.modPort port (fun x => { x with locked := locked, localFault := localFault, remoteFault := remoteFault })
  done ((s.raiseIf begins (Reg.HPE_Pp_STATUS port) 1).portCheck port)

/-- R385: a write of HPE_Pp_CFG is refused. -/
def State.portCfgRefused (s : State) (p : Nat) (v : Word) : Bool :=
  let en := v.getLsbD 0
  let lanes := 2 ^ bitsOf v.toNat 2 1
  let base := bitsOf v.toNat 7 3
  let other (q : Nat) : Bool :=
    let b := s.fld (Reg.HPE_Pp_CFG q) 7 3
    q != p && s.portEn q && decide (b < base + lanes) && decide (base < b + s.portLanes q)
  (s.portEn p && decide (bitsOf v.toNat 7 1 ≠ s.fld (Reg.HPE_Pp_CFG p) 7 1)) ||
    (en && (decide (base % lanes ≠ 0) || decide (32 < base + lanes) || (List.range 8).any other))

/-- A write of HPE_Pp_CFG (R395). A frame sent is one step of its own; a frame being received at a write of EN = 0 is the
one whose end MAC_RECEIVE tells next. -/
def State.writePortCfg (s : State) (p : Nat) (v : Word) : State :=
  if s.portCfgRefused p v then s.raise Reg.HPE_STATUS 0
  else
    let off := s.portEn p && !v.getLsbD 0
    let s := s.setReg (Reg.HPE_Pp_CFG p) (v &&& 0xFF)
    let s := if off then
        let s := match (s.port p).tx with
          | some (q, id) => (s.releaseFlight q id).bump (Reg.HPE_Pp_TX_DISCARD p)
          | none => s
        (s.modPort p (fun x => { x with tx := none, pauseUntil := none, rxCut := true })).initiatorReset (1 + p)
      else if v.getLsbD 0 then s.modPort p (fun x => { x with rxCut := false })
      else s
    (if v.getLsbD 0 then s.powerQuads p else s).portCheck p

/-! ## Transmit (R393, R394) -/

/-- The port may start a frame: it is up and no pause runs. -/
def State.mayStart (s : State) (p : Nat) : Bool :=
  s.portUp p && (match (s.port p).pauseUntil with
    | some t => decide (t ≤ s.ticks)
    | none => true)

/-- `MAC_TRANSMIT` (R393): the frame in the transmit buffer is sent, and released with its last byte (R433). -/
def execMacTransmit (port : Port) (s : State) : Outcome State Fault Refusal :=
  if s.coreReset 7 then done s else
  match (s.port port).tx with
  | none => done s
  | some (q, id) =>
    if !s.mayStart port then done s
    else
      match s.usq.flight.find? (fun e => e.1 = q ∧ e.2.id = id) with
      | none => done (s.modPort port (fun x => { x with tx := none }))
      | some e =>
        let data := e.2.data
        let s := s.modPort port (fun x => { x with tx := none })
        let s := if data.length < 64 then s.sendPadded port (data.take (data.length - 4)) else s.countTx port data
        let s := s.countQueue q e.2.len (·.sentBytes) (fun x v => { x with sentBytes := v })
        done (s.frameSent q id)

/-! ## Egress service (R273, R274) -/

/-- An egress queue may be served. -/
def State.egressReady (s : State) (q : Nat) : Bool :=
  let x := s.queue q
  x.enable && !s.flt.isoUsq.getLsbD (q / 64) && decide (0 ≤ x.bucket) && (match x.head? with
    | some f => f.visible
    | none => false)

/-- The weighted group's turn: the queue served. `fuel` bounds the turns. -/
def State.egressWeighted (s : State) (p : Nat) (ws : List Nat) : Nat → Option Nat × State
  | 0 => (none, s)
  | fuel + 1 =>
    if !ws.any s.egressReady then (none, s)
    else
      let q := (rotateFrom ws (s.port p).ptr).headD 0
      let next := nextWeighted ws q
      let step (s : State) : State := s.modPort p (fun x => { x with ptr := next })
      if !s.egressReady q then (step s).egressWeighted p ws fuel
      else
        let w : Int := 64 * max (s.queue q).weight 1
        let s := if (s.queue q).inTurn then s else
          s.modQueue q (fun x => { x with deficit := min (x.deficit + w) (w + 16456), inTurn := true })
        let x := s.queue q
        let len := (x.head?.map (·.len)).getD 0
        let endTurn (s : State) : State := step (s.modQueue q (fun x => { x with inTurn := false }))
        if (len : Int) ≤ x.deficit then
          let left := x.deficit - len
          let s := s.modQueue q (fun x => { x with deficit := if x.frames.length ≤ 1 then 0 else left })
          let stay := match x.frames with
            | _ :: f :: _ => decide ((f.len : Int) ≤ left)
            | _ => false
          (some q, if stay then s else endTurn s)
        else (endTurn s).egressWeighted p ws fuel

/-- `EGRESS_OFFER` (R273): the port's scheduler gives its MAC the next frame. `err` is what the read of that frame met. -/
def execEgressOffer (port : Port) (err : Option ReadError) (s : State) : Outcome State Fault Refusal :=
  if s.coreReset 7 then done s else
  let base := 4096 + 512 * port.val
  if !s.portUp port || (s.port port).tx.isSome || !s.rbit Reg.USQ_CTRL 1 || s.hoardFrozen then done s
  else
    let (q, s) := match (List.range 8).find? (fun i => s.egressReady (base + i)) with
      | some i => (some (base + i), s)
      | none =>
        let ws := (s.usq.queues.map (fun (e : Nat × Queue) => e.1)).filter (fun q => decide (base + 8 ≤ q) && decide (q < base + 512) &&
          (s.queue q).enable)
        s.egressWeighted port ws (600 * (ws.length + 1))
    match q with
    | none => done s
    | some q =>
      match (s.queue q).head? with
      | none => done s
      | some f =>
        let s := s.charge q f.len
        let s := s.modQueue q (fun x => { x with frames := x.frames.drop 1 })
        let s := s.modUsq (fun u => { u with flight := u.flight ++ [(q, f)] })
        match err with
        | none => done (s.modPort port (fun x => { x with tx := some (q, f.id) }))
        | some e =>
          let s := s.readError q f e
          done (if e.result = ScrubResult.corrected ∨ e.result = ScrubResult.uncorrSkew then
            s.modPort port (fun x => { x with tx := some (q, f.id) }) else s)

end Sys2Proof.Machine
end

