-- ==== Sys2Proof/Machine/Pod.lean ====
section
/-! DEFINITION. Reception by the Pods (chapter 3): calibration, gain, dispersion, blocks and their capture, profiles,
codewords and their status, and the block marks DSF takes (R149, R150). -/

namespace Sys2Proof.Machine

open Host (Outcome)

/-- Pips of a number of samples (33 samples last 50 pp), rounded down. -/
def samplePips (k : Nat) : Nat := k * 50 / 33

/-- The Pod receives: in service, enabled, and no reset of a region that stops reception. -/
def State.podReceives (s : State) (n : Nat) : Bool :=
  s.podInService n && s.rbit (Reg.POD_RX_CTRL n) 0 && !s.rxRegionReset n

/-! ## Decoders (R35, R36) -/

/-- Decoder `d` of Pod n is isolated. -/
def State.decoderIsolated (s : State) (n d : Nat) : Bool := s.rbit (Reg.POD_REPAIR_LDP n (d / 16)) (16 + d % 16)

/-- Working decoders. -/
def State.workingDecoders (s : State) (n : Nat) : Nat :=
  ((List.range 32).filter (fun d => !s.decoderIsolated n d)).length

/-- k_max of R35. -/
def kMax (n : Nat) : Nat := (33 * n / 2 - 32) / 27

/-- ITER_EFF (R134). -/
def State.iterEff (s : State) (n : Nat) : Nat :=
  min (s.fld (Reg.POD_LDPC_CTRL n) 4 0) (kMax (s.workingDecoders n))

/-- ITER_EFF is below ITER_MAX. -/
def State.iterLowered (s : State) (n : Nat) : Bool := decide (s.iterEff n < s.fld (Reg.POD_LDPC_CTRL n) 4 0)

/-- ITER_LOWERED is raised where a change from `s` to `t` brought ITER_EFF below ITER_MAX. -/
def State.flagIter (t s : State) (n : Nat) : State :=
  t.raiseIf (!s.iterLowered n && t.iterLowered n) (Reg.POD_RX_STATUS n) 9

/-! ## Dispersion (R94 to R98) -/

/-- The applied value of POD_CDC_VALUE. -/
def State.applyCdc (s : State) (n : Nat) (v : Int) (src : Nat) : State :=
  s.setReg (Reg.POD_CDC_VALUE n) (packWord [((BitVec.ofInt 16 v).toNat, 16, 0), (src, 2, 16)])

/-- A dispersion value is determined: it takes effect in the next release window, at once while no block is current. -/
def State.setCdc (s : State) (n : Nat) (v : Int) (src : Nat) : State :=
  match (s.pod n).current with
  | none => (s.modPod n (fun p => { p with cdcNext := none })).applyCdc n v src
  | some _ => s.modPod n (fun p => { p with cdcNext := some (v, src) })

/-- Half away from zero. -/
def roundAway (num den : Int) : Int :=
  if 0 ≤ num then (2 * num + den) / (2 * den) else -((2 * -num + den) / (2 * den))

/-- R95: the value that a ranging gives; outside ±2,000 ps/nm the spec states none. -/
def State.rangedCdc (s : State) (n : Nat) (dDownNs : Int) : State :=
  if s.fld (Reg.POD_CDC_CTRL n) 1 0 ≠ 1 then s else
  let coef := signedOf 16 (s.fld (Reg.POD_CDC_COEF n) 15 0)
  let cd := roundAway (coef * dDownNs) 100000
  let s := s.modPod n (fun p => { p with scanning := false })
  if -2000 ≤ cd ∧ cd ≤ 2000 then s.setCdc n cd 2
  else
    let (k, s) := s.drawBelow 4001
    s.setCdc n ((k : Int) - 2000) 2

/-- R96: the scan begins in MODE 1. -/
def State.startScan (s : State) (n : Nat) : State :=
  if s.fld (Reg.POD_CDC_CTRL n) 1 0 = 1 then s.modPod n (fun p => { p with scanning := true }) else s

/-! ## Calibration (R142 to R145) -/

/-- A calibration begins unless one runs: isolations and spare assignments are lifted (R27), bursts abandoned or cut. -/
def State.calStart (s : State) (n : Nat) (sprout : Bool) : State :=
  if (s.pod n).calBusy then s else
  let s := s.modPod n (fun p => { p with
    calBusy := true, calSprout := sprout, decoding := [], current := none, predicted := none, acquiring := true
    missRun := 0 })
  let t := (List.range 15).foldl (fun s c => s.setReg (Reg.POD_REPAIR_EQL n c) 0) s
  let t := (List.range 2).foldl (fun s c => s.setReg (Reg.POD_REPAIR_LDP n c) 0) t
  ((t.flagIter s n).stopChannel n).reconsider

/-- The repair word a cluster's test gives (R27, Table POD-7); the last equaliser cluster has eight units. -/
def repairWord (units : Nat) (failing : BitVec 17) : Word :=
  let bad := (List.range units).filter (fun u => failing.getLsbD u)
  let spareBad := failing.getLsbD 16
  match bad with
  | [] => packWord [(b2n spareBad, 1, 5)]
  | u :: r =>
    let iso := if spareBad then bad else r
    packWord [(if spareBad then 0 else u, 4, 0), (b2n (!spareBad), 1, 4), (b2n spareBad, 1, 5),
      (iso.foldl (fun a x => a + 2 ^ x) 0, 16, 16)]

/-- A calibration completes: its results, without what start-up or a restart does next. -/
def State.calResults (s : State) (n : Nat) (r : CalReport) : State :=
  let mask (c : Nat) : BitVec 17 := r.failing.foldl (fun m e => if e.1.val = c then m ||| e.2 else m) 0
  let t := (List.range 15).foldl (fun s c =>
    s.setReg (Reg.POD_REPAIR_EQL n c) (repairWord (if c = 14 then 8 else 16) (mask c))) s
  let t := (List.range 2).foldl (fun s c => s.setReg (Reg.POD_REPAIR_LDP n c) (repairWord 16 (mask (15 + c)))) t
  let needed := (List.range 15).any (fun c => bitsOf (t.reg (Reg.POD_REPAIR_EQL n c)).toNat 31 16 ≠ 0) ||
    (List.range 2).any (fun c => bitsOf (t.reg (Reg.POD_REPAIR_LDP n c)).toNat 31 16 ≠ 0)
  let t := t.modPod n (fun p => { p with calBusy := false, calPass := r.pass })
  let t := t.setReg (Reg.POD_CAL_STATUS n) (packWord [(b2n r.pass, 1, 1), (r.failStep.toNat, 4, 8), (r.ms.toNat, 16, 16)])
  let t := t.setReg (Reg.POD_LAT n) (packWord [(r.markDelay.toNat, 16, 0), (r.cwLatency.toNat, 16, 16)])
  let t := t.setReg (Reg.POD_TX_LAT n) (packWord [(r.dacDelay.toNat, 16, 0), (r.pipeLatency.toNat, 16, 16)])
  let t := t.raise (Reg.POD_RX_STATUS n) (if r.pass then 6 else 7)
  ((t.raiseIf needed (Reg.POD_RX_STATUS n) 12).flagIter s n).reconsider

/-! ## Gain (R89 to R92) -/

/-- The RMS codes and the clip counts of a report. -/
def State.takeAdc (s : State) (n : Nat) (r : AdcReport) (flag : Bool) : State :=
  let rms (k : Nat) : Nat := (r.rms.getD k 0).toNat
  let s := s.setReg (Reg.POD_AGC_RMS n) (packWord [(rms 0, 8, 0), (rms 1, 8, 8), (rms 2, 8, 16), (rms 3, 8, 24)])
  let s := (List.range 4).foldl (fun s k => s.bump32 (Reg.POD_CLIP n k) (r.clips.getD k 0)) s
  s.raiseIf (flag && r.clips.any (fun c => decide (1056 < c))) (Reg.POD_RX_STATUS n) 8

/-- One move of the analog gain loop: towards the target, by an amount that hangs on the receiver's gain law; none with
STEP_MAX = 0. -/
def State.agcMove (s : State) (n : Nat) (r : AdcReport) : State :=
  let s := if s.rbit (Reg.POD_AGC_CTRL n) 13 then s else
    let big := r.rms.foldl (fun a x => max a x.toNat) 0
    let target := s.fld (Reg.POD_AGC_CTRL n) 7 0
    let code := s.fld (Reg.POD_AGC_DAC n) 9 0
    if big = target ∨ s.fld (Reg.POD_AGC_CTRL n) 11 8 = 0 then s else
    let up := decide (big < target) != s.rbit (Reg.POD_AGC_CTRL n) 12
    let (k, s) := s.drawBelow (if up then 1024 - code else code + 1)
    s.setFld (Reg.POD_AGC_DAC n) 9 0 (if up then code + k else k)
  s.modPod n (fun p => { p with dacOut := BitVec.ofNat 10 (s.fld (Reg.POD_AGC_DAC n) 9 0) })

/-- The current block's release (R98, R101, R106): the window in which gain and dispersion change opens. -/
def State.endBlock (s : State) (n : Nat) (complete : Bool) : State :=
  let p := s.pod n
  let s := match p.cdcNext with
    | some (v, src) => (s.modPod n (fun p => { p with cdcNext := none })).applyCdc n v src
    | none => s
  let s := s.modPod n (fun p => { p with
    current := none, acquiring := true, eqSeed := if complete then some s.fresh else p.eqSeed })
  if complete then { s with fresh := s.fresh + 14848 } else s

/-! ## Blocks (R99 to R112) -/

/-- A block starts at a detection. -/
def State.startBlock (s : State) (n position : Nat) (power : Int) (gain : BitVec 10) (cfoInt : BitVec 6)
    (cfoFrac : BitVec 16) : State :=
  let b : Block :=
    { start := position, mark := position - s.fld (Reg.POD_LAT n) 15 0, marked := false, slip := false
      limit := s.iterEff n, power := power, tx := false, cutAt := none, cBits := 0, number := 0, nextCw := 0 }
  let s := s.modPod n (fun p => { p with
    decoding := p.decoding ++ [b], current := some b, predicted := some (position + blockPips), acquiring := false
    missRun := 0 })
  let s := s.setReg (Reg.POD_FGL_GAIN n) (packWord [(gain.toNat, 10, 0)])
  let s := s.setReg (Reg.POD_CFO_STATUS n) (packWord [(cfoInt.toNat, 6, 0), (cfoFrac.toNat, 16, 16)])
  let s := s.raiseIf (decide (cfoInt.toInt.natAbs = 16)) (Reg.POD_RX_STATUS n) 3
  (s.bump (Reg.POD_CNT_BLOCKS n)).bumpIf (s.iterLowered n) (Reg.POD_CNT_LIMIT_CUT n)

/-- The oldest block whose mark DSF has not taken. -/
def Pod.unmarked (p : Pod) : Option Block := p.decoding.find? (fun b => !b.marked)

/-- Change a block wherever the Pod holds it, by its start. -/
def Pod.modBlock (p : Pod) (start : Nat) (f : Block → Block) : Pod :=
  { p with
    decoding := p.decoding.map (fun b => if b.start = start then f b else b)
    current := p.current.map (fun b => if b.start = start then f b else b) }

/-! ## Profiles (R124 to R127, R148, R286, R287) -/

/-- The 3,584 values b of a definition, from its words. -/
def profBits (t : Tab Word) : List Nat :=
  ((List.range 359).map (fun w => (Tab.get 0 t w).toNat)).flatMap (fun v =>
    (List.range 10).map (fun e => v / 8 ^ e % 8)) |>.take 3584

/-- R125: every value in 2 to 6, and C at most 28,672. -/
def profValid (t : Tab Word) : Bool :=
  (profBits t).all (fun b => decide (2 ≤ b) && decide (b ≤ 6)) && decide (Line.cBits (profBits t) ≤ 28672)

/-- The words of the reference profile: b = 4 everywhere (R124). -/
def referenceWord (w : Nat) : Word := if w < 358 then 0x24924924 else 0x924

def Pod.prof (p : Pod) (tx : Bool) (i : Nat) : Prof := Tab.get Prof.reset (if tx then p.txProf else p.rxProf) i

def State.modProf (s : State) (n : Nat) (tx : Bool) (i : Nat) (f : Prof → Prof) : State :=
  s.modPod n (fun p =>
    if tx then { p with txProf := Tab.modify Prof.reset p.txProf i f }
    else { p with rxProf := Tab.modify Prof.reset p.rxProf i f })

/-- Coded bits per symbol of the active definition of an index; none where it has none. -/
def State.profC (s : State) (n : Nat) (tx : Bool) (i : Nat) : Option Nat :=
  if i = 0 then some 28672 else ((s.pod n).prof tx i).active.map (fun t => Line.cBits (profBits t))

/-- R148: the due instant of a definition that names a multiframe, from the last valid header. -/
def dueOf (h : FrameHdr) (mf : BitVec 16) : Nat :=
  let d := (mf - h.mf).toNat
  h.mark - h.frame * 32000000 + (if d = 0 then 65536 else d) * pipsPerSec

/-- A valid definition becomes pending. -/
def State.setPending (s : State) (n : Nat) (tx : Bool) (i : Nat) (words : Tab Word) (mf : BitVec 16) : State :=
  let due := (s.chan n).lastHdr.map (fun h => dueOf h mf)
  s.modProf n tx i (fun p => { p with pending := some ⟨words, mf, due⟩ })

/-- PROF_REFUSED of a Pod (R125, R286). -/
def State.refuseProf (s : State) (n : Nat) (tx : Bool) : State :=
  if tx then s.raise (Reg.POD_TX_STATUS n) 4 else s.raise (Reg.POD_RX_STATUS n) 11

/-- ARM (R126, R287): the staging copy of the selected index is validated and becomes pending. -/
def State.armProf (s : State) (n : Nat) (tx : Bool) : State :=
  let i := s.fld (if tx then Reg.POD_TXPROF_SEL n else Reg.POD_PROF_SEL n) 2 0
  let words := ((s.pod n).prof tx i).staging
  let mf := BitVec.ofNat 16 (s.fld (if tx then Reg.POD_TXPROF_MF n else Reg.POD_PROF_MF n) 15 0)
  if i = 0 || !profValid words then s.refuseProf n tx else s.setPending n tx i words mf

/-- A pending definition becomes active. -/
def State.activateProf (s : State) (n : Nat) (tx : Bool) (i : Nat) : State :=
  match ((s.pod n).prof tx i).pending with
  | none => s
  | some p => s.modProf n tx i (fun x => { x with active := some p.words, pending := none })

/-! ## Block marks (R116, R149, R150) -/

/-- Profile index and TX bit announced for a block at place `pos` of its frame (R57). -/
def DsfCh.announced (c : DsfCh) (pos : Nat) : Nat × Bool :=
  match c.fa, c.pvec with
  | .sync, some v =>
    let nib := v.getD pos 0
    (if pos = 0 then 0 else nib % 8, decide (8 ≤ nib))
  | _, _ => (0, false)

/-- DSF takes the oldest mark of channel n. -/
def State.markBlock (s : State) (n : Nat) : State :=
  match (s.pod n).unmarked with
  | none => s
  | some b =>
    let s := s.passTo b.mark
    if !s.chEnabled n || (s.chan n).asleep then
      (s.modPod n (fun p => p.modBlock b.start (fun x => { x with marked := true, cBits := 28672 }))).bump
        (Reg.POD_CNT_BLK_TX0 n)
    else
      let c := s.chan n
      let m2 := b.mark
      let k := match c.lastMark with
        | none => 1
        | some m1 => (2 * (m2 - m1) + blockPips) / (2 * blockPips)
      let slip := match c.lastMark with
        | none => false
        | some m1 => decide (2048 < ((m2 : Int) - m1 - k * blockPips).natAbs)
      let s := if k = 0 then s else (s.lostBlocks n (k - 1)).nextBlock n
      let s := if slip then
          let s := (s.bump (Reg.DSF_CHn_CNT_SLIP n)).raise (Reg.DSF_CHn_EVENT n) 16
          if (s.chan n).fa = .sync then s else s.setFa n .hunt
        else s
      let s := s.modChan n (fun c => { c with
        lastMark := some m2, noMark := 0, markRun := if k = 1 then c.markRun + 1 else if k = 0 then max c.markRun 1 else 1
        block0Mark := if c.fa == .sync && c.blockCount == c.block0 && !c.hdrDone then m2 else c.block0Mark
        block0Tick := if c.fa == .sync && c.blockCount == c.block0 && !c.hdrDone then s.ticks else c.block0Tick })
      let s := if s.fld Reg.DSF_LOB_CTRL 15 8 ≤ (s.chan n).markRun then s.undeclare n 1 else s
      let c := s.chan n
      let (idx, tx) := c.announced (c.blockCount - c.block0)
      let cb := s.profC n false idx
      let s := s.modPod n (fun p => p.modBlock b.start (fun x => { x with
        marked := true, slip := slip, tx := tx, cBits := cb.getD 0, number := c.blockCount }))
      let s := s.modChan n (fun c => { c with lastTx := tx })
      let s := s.bump (if tx then Reg.POD_CNT_BLK_TX1 n else Reg.POD_CNT_BLK_TX0 n)
      let s := if cb.isNone then (s.bump (Reg.POD_CNT_PROF_DISC n)).raise (Reg.POD_RX_STATUS n) 10 else s
      s.reconsider

/-- A capture (R109): the current block is cut at S_i. -/
def State.capture (s : State) (n position : Nat) (b : Block) : State :=
  let s := if b.marked then s else s.markBlock n
  let tx := match (s.pod n).current with
    | some x => x.tx
    | none => b.tx
  let s := s.modPod n (fun p => p.modBlock b.start (fun x => { x with cutAt := some position }))
  let s := (s.bump (Reg.POD_CNT_ABANDON n)).bump (if tx then Reg.POD_CNT_ABN_TX1 n else Reg.POD_CNT_ABN_TX0 n)
  (s.inBins n (fun x => { x with abandon := x.abandon + 1 })).raise (Reg.POD_RX_STATUS n) 1

/-! ## Commands -/

/-- `CDC_DONE` (R95): the scan ends with its best value, or finds no block and repeats. -/
def execCdcDone (ch : Chan) (best : Option Int) (s : State) : Outcome State Fault Refusal :=
  if !(s.pod ch).scanning then done s
  else
    match best with
    | some v =>
      let s := s.modPod ch (fun p => { p with scanning := false })
      done ((s.setCdc ch v 1).raise (Reg.POD_RX_STATUS ch) 4)
    | none => done (s.raise (Reg.POD_RX_STATUS ch) 5)

/-- `AGC_HUNT_UPDATE` (R92). -/
def execAgcHuntUpdate (ch : Chan) (report : AdcReport) (s : State) : Outcome State Fault Refusal :=
  let s := s.takeAdc ch report false
  if 64 ≤ (s.pod ch).missRun ∨ (s.pod ch).predicted.isNone then done (s.agcMove ch report) else done s

/-- `GAIN_RELEASE` (R90, R91, R101, R122). -/
def execGainRelease (ch : Chan) (report : AdcReport) (noise : BitVec 16) (s : State) :
    Outcome State Fault Refusal :=
  match (s.pod ch).predicted with
  | none => done s
  | some p =>
    let s := s.passTo (p - samplePips (s.fld (Reg.POD_PRE_CTRL ch) 23 16))
    match (s.pod ch).current with
    | none => done (s.modPod ch (fun p => { p with acquiring := true }))
    | some _ =>
      let s := (s.takeAdc ch report true).setReg (Reg.POD_NOISE_VAR ch) (packWord [(noise.toNat, 16, 0)])
      done ((s.endBlock ch true).agcMove ch report)

/-- `DETECTION` (R99 to R112): `metric` is M in units of 1/256, `position` the start of the detection symbol as the Pod
measures it, `power` in 0.25 dB. -/
def execDetection (ch : Chan) (metric position : Nat) (power : Int) (gain : BitVec 10) (cfoInt : BitVec 6)
    (cfoFrac : BitVec 16) (s : State) : Outcome State Fault Refusal :=
  let s := s.passTo (position + samplePips 3200)
  if !s.podReceives ch || decide (metric < s.fld (Reg.POD_PRE_CTRL ch) 7 0) then done s
  else
    let start (s : State) : State := s.startBlock ch position power gain cfoInt cfoFrac
    match (s.pod ch).current with
    | none => done (start s)
    | some b =>
      let expected := match (s.pod ch).predicted with
        | some p => decide (33 * ((position : Int) - p).natAbs ≤ 200 * s.fld (Reg.POD_PRE_CTRL ch) 31 24)
        | none => false
      if expected then done (start (s.endBlock ch true))
      else if s.rbit (Reg.POD_RX_CTRL ch) 1 ∧
          ((2 * s.fld (Reg.POD_PRE_CTRL ch) 12 8 : Nat) : Int) ≤ power - b.power then
        done (start ((s.capture ch position b).endBlock ch false))
      else done s

/-- `BLOCK_LOST` (R103). -/
def execBlockLost (ch : Chan) (s : State) : Outcome State Fault Refusal :=
  match (s.pod ch).predicted, (s.pod ch).current with
  | some p, none =>
    let s := s.passTo (p + samplePips (4 * s.fld (Reg.POD_PRE_CTRL ch) 31 24))
    let s := s.modPod ch (fun x => { x with
      predicted := some (p + blockPips), missRun := min (x.missRun + 1) 64, acquiring := true })
    let s := s.modChan ch (fun c => { c with noMark := c.noMark + 1, markRun := 0 })
    done ((s.bump (Reg.POD_CNT_BLK_LOST ch)).raise (Reg.POD_RX_STATUS ch) 0)
  | _, _ => done s

/-- `BLOCK_MARK` (R116, R149). -/
def execBlockMark (ch : Chan) (s : State) : Outcome State Fault Refusal := done (s.markBlock ch)

/-- Codewords a block delivers (R127, R129). -/
def Block.total (b : Block) : Nat := if b.cBits = 0 then 496 else Line.codewordsOf b.cBits

/-- The symbol of the block that holds the last bit of a codeword. -/
def Block.lastSymbol (b : Block) (cw : Nat) : Nat :=
  if b.cBits = 0 then 249 else 2 + ((cw + 1) * 14336 - 1) / b.cBits

/-- KIND, CORR, ITER and the bits of a codeword (R109, R127, R133 to R138). -/
def State.judgeCodeword (s : State) (n : Nat) (b : Block) (final input : List Byte) (iter : Nat)
    (decoder : Option (Fin 32)) : Nat × Nat × Nat × List Byte :=
  let upto := b.start + (b.lastSymbol b.nextCw + 1) * symbolPips
  let cut := match b.cutAt with
    | some t => decide (t < upto)
    | none => false
  let looped := (s.pod n).loops.any (fun r => decide (r.1 < upto) && decide (b.start + b.lastSymbol (b.nextCw - 1) * symbolPips < r.2))
  if looped then (3, 0, 0, input)
  else if b.cBits = 0 then (3, 0, 0, List.replicate 1792 0)
  else if cut then (3, 0, 0, input)
  else
    match decoder with
    | none => (2, 0, 0, input)
    | some d =>
      if s.decoderIsolated n d then (2, 0, min iter b.limit, final)
      else if Line.parityDown input then
        (0, 0, if s.rbit (Reg.POD_LDPC_CTRL n) 16 then 0 else b.limit, input)
      else if b.limit = 0 then (2, 0, 0, input)
      else if Line.parityDown final ∧ !s.rbit (Reg.POD_LDPC_CTRL n) 16 then (1, Line.distance final input, b.limit, final)
      else if Line.parityDown final ∧ 1 ≤ iter ∧ iter ≤ b.limit then (1, Line.distance final input, iter, final)
      else (2, 0, b.limit, final)

/-- The Pod's counts of a delivered codeword (R140, R141). -/
def State.countPodCw (s : State) (n : Nat) (tx : Bool) (kind corr iter : Nat) : State :=
  let s := s.bump (Reg.POD_CNT_CW n)
  if kind = 3 then s.bump (Reg.POD_CNT_CW_ABAND n)
  else
    let s := s.count (Reg.POD_CNT_ITERS n) iter
    if kind = 0 then s.bump (Reg.POD_CNT_CW_CLEAN n)
    else if kind = 1 then (s.bump (Reg.POD_CNT_CW_CORR n)).count (Reg.POD_CNT_CORR_BITS n) corr
    else (s.bump (Reg.POD_CNT_CW_UNCOR n)).bump (if tx then Reg.POD_CNT_UNC_TX1 n else Reg.POD_CNT_UNC_TX0 n)

/-- SYNC (Table SCA-3). -/
def syncBytes : List Byte := [0x3A, 0x6F, 0xC2, 0x5D, 0x19, 0xE4, 0xB7, 0x80]

/-- The sync check of a block (R151), once in a block period. -/
def State.syncCheck (s : State) (n : Nat) (b : Block) (kind : Nat) (bits : List Byte) : State :=
  let c := s.chan n
  let again := (s.pod n).decoding.any (fun x => x.start ≠ b.start && x.marked && x.number == b.number)
  if c.checked = some b.number || (kind = 3 && again) then s
  else
    let s := s.modChan n (fun c => { c with checked := some b.number })
    if b.slip && c.fa != .sync then s
    else
      let tol := if c.fa = .sync then s.fld Reg.DSF_FA_CTRL 14 12 else s.fld Reg.DSF_FA_CTRL 10 9
      s.align n (kind ≠ 3 && decide (Line.distance (bits.take 8) syncBytes ≤ tol))

/-- `CODEWORD_DELIVERY` (R137): the next codeword of the oldest marked block, its hard decisions before and after
decoding, the iterations run and the decoder that held it. -/
def execCodewordDelivery (ch : Chan) (final input : List Byte) (iter : Nat) (decoder : Option (Fin 32)) (s : State) :
    Outcome State Fault Refusal :=
  match (s.pod ch).decoding with
  | [] => done s
  | b :: _ =>
    if !b.marked || s.rxRegionReset ch then done s
    else
      let s := s.passTo (b.mark + (b.lastSymbol b.nextCw + 1) * symbolPips)
      let (kind, corr, it, bits) := s.judgeCodeword ch b final input iter decoder
      let s := s.countPodCw ch b.tx kind corr it
      let s := if s.chEnabled ch && !(s.chan ch).asleep then
          let s := s.countCodeword ch kind corr
          if b.nextCw = 0 then s.syncCheck ch b kind bits else s
        else s
      let last := decide (b.total ≤ b.nextCw + 1)
      let s := s.modPod ch (fun p =>
        let p := p.modBlock b.start (fun x => { x with nextCw := x.nextCw + 1 })
        { p with decoding := if last then p.decoding.drop 1 else p.decoding })
      done s.reconsider

/-- `PROFILE_ACTIVATE` (R126, R156): frame 0 of the named multiframe begins in MF_SYNC, or the first block after the
channel next reaches MF_SYNC where that start has passed. -/
def execProfileActivate (ch : Chan) (tx : Bool) (index : Fin 8) (s : State) : Outcome State Fault Refusal :=
  if !s.mfSync ch then done s
  else
    match ((s.pod ch).prof tx index).pending with
    | some ⟨_, _, some t⟩ => done ((s.passTo t).activateProf ch tx index)
    | _ => done s

end Sys2Proof.Machine
end

