-- ==== Sys2Proof/Machine/Lease.lean ====
section
/-! DEFINITION. The Acorn and its lease (chapter 13, R498 to R514, R527 to R529): eligibility, claims, takeover and its
loss, and the two states of Table ACT-2 that follow the Acorn. -/

namespace Sys2Proof.Machine

open Host (Outcome)
open Crypto (beBytes beNat slice)

/-! ## States of the terminal as the Acorn moves them -/

/-- The state against which the rows of Table ACT-2 are judged (R193). -/
def State.tstate (s : State) : TState := if s.act.state = .t6 then s.act.prior else s.act.state

/-- BOOT_T_OPER: milliseconds from reset release to the first T4 (R550). -/
def State.timeOper (s : State) : State :=
  if s.boot.operAt.isSome then s
  else s.modBoot (fun b => { b with operAt := some (BitVec.ofNat 32 ((s.ticks - b.releasedAt) / (1000 * ticksPerUs))) })

/-- T4 or T7 is reached from a state that is neither: BOOT_T_OPER is taken at the first T4, and Sprout's step 10 ends (Table
BOOT-1). -/
def State.operates (s : State) (st : TState) : State :=
  let s := if st = .t4 then s.timeOper else s
  if (st = .t4 ∨ st = .t7) ∧ s.act.state ≠ .t4 ∧ s.act.state ≠ .t7 ∧ (s.boot.step = 9 ∨ s.boot.step = 10) then
    s.modBoot (fun b => { b with step := 11 })
  else s

/-- Take a state, or record it as PRIOR while silenced; every change of the state sets STATE_CHG (R194). -/
def State.setT (s : State) (st : TState) : State :=
  if s.act.state = .t6 then s.modAct (fun a => { a with prior := st })
  else if s.act.state = st then s
  else
    ((s.operates st).modAct (fun a => { a with state := st })).raise Reg.ACT_STATUS 0

/-! ## What the lease is judged on -/

def State.localMode (s : State) : Bool := s.rbit Reg.TWN_CTRL 0

/-- The serial number (R201). -/
def State.serial (s : State) : Nat := 0x4F524F56 * 2 ^ 32 + s.boot.unit.toNat

def State.guardPips (s : State) : Nat := s.fld Reg.TWN_GUARD_US 16 0 * 256000

def State.leasePips (s : State) : Nat := s.fld Reg.TWN_LEASE_MS 9 0 * 256000000

/-- In T7 with at least one channel of UP_EN ranged: claim-ready (R511). -/
def State.claimReady (s : State) : Bool :=
  s.act.state == .t7 && (List.range 4).any (fun n => (s.actCh n).upEn && s.ranged n)

/-- R500, R612, R613. SYNC is 3 in step, 4 stale, 0 unpaired. -/
def State.eligibleNow (s : State) : Bool :=
  let l := s.twn.lease
  s.claimReady && !s.flagged Reg.FLT_STATUS 7 && s.flt.safe.isNone &&
    (l.sync == 3 || (l.sync == 4 && s.rbit Reg.TWN_CTRL 1) || (!s.localMode && l.sync == 0) ||
      (l.paired && !l.heldSince) || l.solo)

/-! ## Messages of class 1 -/

/-- EXPIRY as this device reports it: the instant its lease runs out, 0 while it holds none. -/
def State.ownExpiry (s : State) : List Byte :=
  ntimeBytes (if s.twn.lease.holds then s.now + s.twn.lease.left else 0)

def State.sendState (s : State) (elig echo : Bool) : State :=
  let flags := b2n elig + 2 * b2n echo + 4 * b2n s.twn.lease.holds + 8 * b2n s.claimReady
  s.sendTwin 0x02 (beBytes 1 flags ++ beBytes 1 s.twn.lease.sync ++ s.ownExpiry)

def State.sendHello (s : State) : State :=
  let flags := b2n s.twinBit + 2 * b2n s.localMode + 4 * b2n s.twn.lease.holds + 8 * b2n s.twn.lease.lostByExpiry +
    16 * b2n s.twn.lease.solo
  s.sendTwin 0x01 (beBytes 8 s.serial ++ beBytes 4 (s.reg Reg.ACT_TWIN_ID).toNat ++ beBytes 1 flags ++
    beBytes 1 (s.fld Reg.TWN_CTRL 6 4) ++ beBytes 4 s.twn.mir.gen.toNat ++ s.ownExpiry)

/-- The holder's expiry has changed: HELLO and STATE (Table TWN-3, R504). -/
def State.sendLease (s : State) : State := s.sendHello.sendState s.twn.lease.toldElig false

/-- RANGE: the delays of all four channels. -/
def State.sendRange (s : State) : State :=
  s.sendTwin 0x32 ((List.range 4).flatMap (fun n =>
    let c := s.actCh n
    beBytes 4 (c.rtd.getD 0) ++ beBytes 4 (BitVec.ofInt 32 c.dDown).toNat ++ beBytes 4 (BitVec.ofInt 32 c.dUp).toNat))

/-! ## Claims (R504, R510, R511, R513) -/

/-- A claim begins. A paired claimant defers it to the peer's recorded expiry plus the guard where that expiry has not
passed (R504); one over a lost link, or of solo operation, falls due at that sum wherever it still lies ahead (R510, R513). -/
def State.beginClaim (s : State) (expiry : Option Nat) (overLoss solo : Bool) : State :=
  if s.twn.lease.lostByExpiry && !solo then s else
  let defer := match s.twn.peer.expiry with
    | some e =>
      if (overLoss && decide (s.now < e + s.guardPips)) || (!overLoss && s.twn.lease.paired && decide (s.now ≤ e)) then
        some (e + s.guardPips) else none
    | none => none
  let s := s.modLease (fun l => { l with claim := some ⟨expiry, defer.getD s.now, solo⟩ })
  s.bumpIf (defer.isSome && !overLoss) Reg.TWN_CNT_LEASE_WAIT

/-- RELEASE has arrived: a claim held back is due at once. -/
def State.claimNow (s : State) : State :=
  s.modLease (fun l => { l with claim := l.claim.map (fun c => { c with due := s.now }) })

/-- R511: the first claim after a handshake, in local mode; and the claim of solo operation once the device may take the
Acorn (R513). -/
def State.firstClaim (s : State) : State :=
  let l := s.twn.lease
  if s.twinOn && l.solo && !l.holds && !l.preparing && l.claim.isNone && s.claimReady then s.beginClaim none true true
  else if !(s.twinOn && s.localMode && l.paired && !l.holds && !l.preparing && !s.twn.peer.holds && !l.heldSince &&
      l.claim.isNone) then s
  else if s.twinBit then s
  else if s.claimReady && !l.yielded then s.beginClaim none false false
  else if s.twn.peer.ready && !l.yielded then
    (s.modLease (fun l => { l with yielded := true })).sendTwin 0x05 []
  else s

/-! ## The sync state (R499, R531, R534) -/

/-- SYNC takes a value. -/
def State.setSync (s : State) (v : Nat) : State :=
  if s.twn.lease.sync = v then s else
  let s := (s.modLease (fun l => { l with sync := v })).raise Reg.TWN_STATUS 3
  if v = 3 then s else s.leaveInStep

/-- R531: the bulk copy begins. The holder sends the whole mirrored state and BULK_DONE with its generation; the standby
has applied nothing of it. -/
def State.startBulk (s : State) : State :=
  let s := s.setSync 1
  let s := s.modMir (fun m => { m with bulk := 0, bulkGen := none })
  if s.twn.lease.holds then
    if !s.canTwin 0x33 then s
    else ((s.send (.bulk s.twn.mir.gen)).sendTwin 0x33 (beBytes 4 s.twn.mir.gen.toNat)).modMir (fun m => { m with
      bulk := 100, bulkGen := some m.gen })
  else s

/-- R501, R511: what STATE reports is sent at every change of it; a standby that ceases to be eligible first clears
ELIGIBLE. -/
def State.reportElig (s : State) : State :=
  if !s.twinOn then s else
  let l := s.twn.lease
  let want := !l.holds && l.paired && l.sync == 3 && s.eligibleNow
  let s := if want && !l.toldElig then
      (s.modLease (fun l => { l with toldElig := true, toldReady := s.claimReady })).sendState true false
    else if !want && (l.toldElig || l.eligible) then
      (s.modLease (fun l => { l with toldElig := false, eligible := false, toldReady := s.claimReady })).sendState
        false false
    else s
  let s := if s.twn.lease.paired && s.claimReady != s.twn.lease.toldReady then
      (s.modLease (fun l => { l with toldReady := s.claimReady })).sendState s.twn.lease.toldElig false
    else s
  s.firstClaim

/-! ## Losing the Acorn (R502, R505, R507, R508, R527) -/

/-- The holder's timer is zero: the role changes, open bursts of allocations are cut, and the final MARK is owed, with
RELEASE after it where `release` says so. -/
def State.dropAcorn (s : State) (release : Bool) : State :=
  let l := s.twn.lease
  let s := s.modLease (fun l => { l with left := 0 })
  if !l.holds && !l.preparing then s else
  let s := s.modLease (fun l => { l with
    holds := false, preparing := false, orphan := false, renew := none, finalOwed := l.holds
    releaseOwed := l.holds && release })
  let s := if l.holds then s.raise Reg.TWN_STATUS 1 else s
  let s := s.watchGate
  let s := if s.tstate = .t4 then s.setT .t7 else s
  (s.sendState false false).reportElig

/-- The holder loses the Acorn with the link lost and an eligible peer, or by ID loss over a lost link: it does not claim
until a handshake (R511). -/
def State.lostByExpiry (s : State) : State := s.modLease (fun l => { l with lostByExpiry := true })

/-- `LEASE_EXPIRY` (R502, R507, R508): the lease timer reaches zero. -/
def execLeaseExpiry (s : State) : Outcome State Fault Refusal :=
  if !s.twinOn || !s.twn.lease.holds then done s
  else
    let s := s.passTo (s.now + s.twn.lease.left)
    let lost := !s.twn.link.up
    let elig := s.twn.lease.peerEligible
    let s := (s.dropAcorn (s.localMode && !lost)).bump Reg.TWN_CNT_EXPIRY
    done (if s.localMode && lost && elig then s.lostByExpiry else s)

/-! ## Renewals (R507, R509) -/

/-- Load the timer to run out at an instant. -/
def State.loadLease (s : State) (expiry : Nat) : State :=
  s.modLease (fun l => { l with left := expiry - s.now })

/-- `RENEW_SEND` (R507): while the link is up the holder proposes a longer lease. -/
def execRenewSend (s : State) : Outcome State Fault Refusal :=
  if s.twinOn && s.localMode && s.twn.lease.holds && s.twn.link.up && s.twn.lease.paired then
    let e := s.now + s.leasePips
    let rid := s.twn.lease.rid + 1
    let s := s.modLease (fun l => { l with rid := rid, renew := some (rid, e) })
    done (s.sendTwin 0x03 (ntimeBytes e ++ beBytes 4 rid.toNat))
  else done s

/-- `RENEW` (R507): the standby records the peer's expiry, then answers. -/
def execRenew (expiry : Nat) (rid : Word) (s : State) : Outcome State Fault Refusal :=
  if s.twinOn && s.twn.lease.paired then
    let s := s.modPeer (fun p => { p with expiry := some expiry })
    done (s.sendTwin 0x04 (ntimeBytes expiry ++ beBytes 4 rid.toNat))
  else done s

/-- `RENEW_ACK` (R507): the timer is loaded if that extends it; after it reached zero the answer is discarded. -/
def execRenewAck (expiry : Nat) (rid : Word) (s : State) : Outcome State Fault Refusal :=
  let l := s.twn.lease
  if s.twinOn && s.localMode && l.holds && decide (0 < l.left) && l.renew == some (rid, expiry) then
    let s := s.modLease (fun l => { l with renew := none })
    if l.left < expiry - s.now then done ((s.loadLease expiry).bump Reg.TWN_CNT_RENEW).sendLease
    else done s
  else done s

/-- `ORPHAN_RENEW` (R509). -/
def execOrphanRenew (s : State) : Outcome State Fault Refusal :=
  if s.twinOn && s.twn.lease.holds && s.twn.lease.orphan && !s.twn.link.up then
    done ((s.loadLease (s.now + s.leasePips)).bump Reg.TWN_CNT_RENEW)
  else done s

/-- `RELEASE` (R504, R511): a deferred claim is due at once; a standby in local mode claims. -/
def execRelease (s : State) : Outcome State Fault Refusal :=
  let l := s.twn.lease
  if !s.twinOn || !l.paired then done s
  else
    let s := s.modPeer (fun p => { p with holds := false, expiry := none })
    if l.claim.isSome then done s.claimNow
    else if l.holds || !s.localMode || l.lostByExpiry then done s
    else if s.eligibleNow then done (s.beginClaim none false false)
    else done (s.sendState l.toldElig false)

/-! ## Takeover (R528, R529) -/

/-- A final MARK of the previous holder's last lease has been received. -/
def State.takeClean (s : State) : Bool := s.twn.peer.finalSeen

/-- The claim begins its preparation: the timer is loaded. Nothing left lapses it, and so does a device that is no longer
in T7 with a ranged channel (R500, DEDUCED). -/
def State.prepare (s : State) (c : Claim) : State :=
  let left := match c.expiry with
    | some e => e - s.now
    | none => s.leasePips
  if left = 0 || !s.claimReady then s.modLease (fun l => { l with claim := none })
  else (s.modLease (fun l => { l with claim := none, preparing := true, left := left, markWait := false })).claimWakes

/-- `CLAIM` (R504, R529, R546): the claim falls due. While a final MARK is in transit and the link is up it waits for
it. -/
def execClaim (inTransit : Bool) (s : State) : Outcome State Fault Refusal :=
  match s.twn.lease.claim with
  | none => done s
  | some c =>
    let s := s.passTo c.due
    if inTransit && s.twn.link.up && !s.takeClean && !s.twn.lease.markWait then
      done (s.modLease (fun l => { l with markWait := true }))
    else done (s.prepare c)

/-- `CLAIM_MARK_WAIT_EXPIRY` (R546): the wait ends after 100 µs. -/
def execClaimMarkWaitExpiry (s : State) : Outcome State Fault Refusal :=
  match s.twn.lease.claim with
  | none => done s
  | some c =>
    if s.twn.lease.markWait then
      let s := s.passTo (c.due + 25600000)
      done (s.prepare c)
    else done s

/-- Trim the frames of a queue whose end position is at most `pos` (R522, R529). -/
def State.trimTo (s : State) (q pos : Nat) : State :=
  let gone := (s.queue q).frames.filter (fun f => decide (f.pos ≤ pos))
  gone.foldl (fun s f => (s.dropFrame q f).trimCount q f) s

/-- Steps 1 and 2 of R529. -/
def State.takeMarks (s : State) (clean : Bool) : State :=
  let s := (s.usq.queues.map (·.1)).foldl (fun s q =>
    if isUs q && (s.queue q).aligned then s.trimTo q (s.queue q).sentPos else s) s
  let skip := if clean then 0 else s.fld Reg.TWN_SEQ_SKIP 10 0
  s.twn.peer.markLinks.foldl (fun s e => s.modUlink e.1 (fun l => { l with
    nextSeq := BitVec.ofNat 12 (e.2.1 + skip), turn := e.2.2 })) s

/-- Step 3 of R529: R373 on every upstream slot that is not empty. -/
def State.takeCounters (s : State) : State :=
  let s := (s.bump Reg.LSC_CNT_SKIP).raise Reg.LSC_STATUS 11
  (s.lsc.keys.map (·.1)).foldl (fun s k =>
    if k % 2 = 0 then s else
    let x := s.keys k
    let bump (y : KeySlot) : KeySlot :=
      if y.state = .empty then y else { y with ctr := skippedCtr y.ctr y.mirror }
    let spent := x.slots.any (fun y => decide (y.ctr < ctrEnd) && decide ((bump y).ctr = ctrEnd))
    let s := ((s.setKeys k (x.mapSlots bump)).nearEnd (k / 2)).raiseIf spent Reg.LSC_STATUS 1
    s.updateHeld (k / 2)) s

/-- Step 4 of R529: the last SHAPER values. -/
def State.takeShapers (s : State) : State :=
  let s := s.twn.peer.shQueues.foldl (fun s e =>
    s.modQueue e.1 (fun x => { x with bucket := e.2.1, deficit := e.2.2 })) s
  s.twn.peer.shAllocs.foldl (fun s e => s.modAlloc e.1 (fun a => { a with
    ptr := e.2.1, hist := List.replicate e.2.2.1 e.2.2.2 })) s

/-- Enabled upstream queues that are UNALIGNED (R525). -/
def State.unalignedCount (s : State) : Nat :=
  (s.usq.queues.filter (fun e => isUs e.1 && e.2.enable && !e.2.aligned)).length

/-- `TAKEOVER_DONE` (R529): the steps, then ROLE ACTIVE. -/
def execTakeoverDone (s : State) : Outcome State Fault Refusal :=
  let l := s.twn.lease
  if !l.preparing || l.left = 0 then done (s.modLease (fun l => { l with preparing := false }))
  else
    let clean := s.takeClean
    let s := ((s.takeMarks clean).takeCounters).takeShapers
    let s := s.count Reg.TWN_CNT_TAKE_UNALIGNED s.unalignedCount
    let s := s.modLease (fun l => { l with
      holds := true, preparing := false, eligible := false, toldElig := false, heldSince := true
      takeKind := if clean then 1 else 2, orphan := l.solo || (s.localMode && !s.twn.link.up) })
    let s := s.modPeer (fun p => { p with finalSeen := false, holds := false })
    let s := ((s.raise Reg.TWN_STATUS 0).raise Reg.TWN_STATUS 2).bump
      (if clean then Reg.TWN_CNT_TAKE_CLEAN else Reg.TWN_CNT_TAKE_BLIND)
    let s := if s.tstate = .t7 then s.setT .t4 else s
    let s := s.sendLease
    done (if s.twn.lease.paired && s.twn.lease.sync != 3 then s.startBulk else s)

end Sys2Proof.Machine
end

