-- ==== Sys2Proof/Machine/Hsk.lean ====
section
/-! DEFINITION. The core-side endpoint of the Husk and its mailbox (chapter 12): messages, beacons, latency calibration,
the health window, software commands, timed commits of the Shell, and port S. -/

namespace Sys2Proof.Machine

open Host (Outcome)
open Crypto (beBytes leBytes beNat slice pieces)

def State.modHsk (s : State) (f : Hsk → Hsk) : State := { s with hsk := f s.hsk }

def State.hskUp (s : State) : Bool := s.rbit Reg.HSK_CTRL 0 && s.hsk.link == .up

/-! ## Messages (R461 to R463) -/

/-- The endpoint sends a message. Beacons go ahead of every other (R465). -/
def State.huskSend (s : State) (type : Byte) (body : List Byte) : State :=
  let m : HuskMsg := ⟨type, s.hsk.txSeq, body⟩
  let s := s.modHsk (fun h => { h with txSeq := h.txSeq + 1, toShell := if type = 1 then m :: h.toShell else h.toShell ++ [m] })
  s.bump Reg.HSK_CNT_TX_MSG

/-- R461: the message the endpoint takes: the one given, or the oldest of its TYPE that the Shell sent. One of another TYPE
is discarded and counted. -/
def State.takeCore (s : State) (given : Option HuskMsg) (type : Byte) : Option HuskMsg × State :=
  if !s.hskUp then (none, s) else
  match given with
  | some m =>
    if m.type = type then (some m, s.bump Reg.HSK_CNT_RX_MSG)
    else (none, (s.bump Reg.HSK_CNT_RX_BAD).raise Reg.HSK_STATUS 6)
  | none =>
    match s.hsk.toCore.find? (fun m => m.type = type) with
    | none => (none, s)
    | some m => (some m, (s.modHsk (fun h => { h with toCore := h.toCore.erase m })).bump Reg.HSK_CNT_RX_MSG)

/-! ## Time across the Husk (R465, R466) -/

/-- D_IN in use. -/
def Hsk.latIn (h : Hsk) : Int := h.dIn.getD h.latNom

def timeCode : TimeState → Nat
  | .unset => 0 | .acquire => 1 | .locked => 2 | .holdover => 3 | .manual => 4

/-- R465: a beacon. -/
def execBeaconSend (s : State) : Outcome State Fault Refusal :=
  if !s.hskUp then done s else
  let echo := s.hsk.beacons % 16 == 15
  let seq := s.hsk.txSeq.toNat
  let s := s.huskSend 0x01 (ntimeBytes s.now ++ beBytes 1 (b2n echo + 2 * timeCode s.ntm.state) ++
    beBytes 4 (BitVec.ofInt 32 s.hsk.latIn).toNat)
  let s := s.modHsk (fun h => { h with
    beacons := h.beacons + 1
    echoTx := if echo then Tab.insert h.echoTx seq s.now else h.echoTx })
  done (s.bump Reg.HSK_CNT_BEACONS)

/-- R466: the echo of a beacon, at T_RX2. -/
def State.echoIn (s : State) (m : HuskMsg) (arrival : Nat) : State :=
  let seq := beNat (slice m.body 22 4)
  match Tab.find? s.hsk.echoTx seq with
  | none => s
  | some tTx =>
    let rt : Int := ((arrival : Int) - tTx) - ((ntimeOf (slice m.body 11 11) : Int) - ntimeOf (slice m.body 0 11))
    let s := s.modHsk (fun h => { h with echoTx := Tab.erase h.echoTx seq, rts := rt :: h.rts })
    if s.hsk.rts.length < 16 then s else
    let sum := s.hsk.rts.foldl (· + ·) 0
    let d := (Int.tdiv sum 16 + s.hsk.latAsym) / 2
    let old := s.hsk.latIn
    let s := s.modHsk (fun h => { h with rts := [], dIn := some d })
    s.raiseIf (decide (64 < (d - old).natAbs)) Reg.HSK_STATUS 3

def execHuskEcho (arrival : Nat) (given : Option HuskMsg) (s : State) : Outcome State Fault Refusal :=
  let s := s.passTo arrival
  match s.takeCore given 0x84 with
  | (none, s) => done s
  | (some m, s) => done (s.echoIn m arrival)

/-! ## Health (R463) -/

/-- A field of a health message. -/
def healthField (b : List Byte) (off n : Nat) : Nat := beNat (slice b off n)

def execHuskHealth (given : Option HuskMsg) (retries : Nat) (s : State) : Outcome State Fault Refusal :=
  match (s.count Reg.HSK_CNT_RETRY retries).takeCore given 0x83 with
  | (none, s) => done s
  | (some m, s) =>
    let old := healthField s.hsk.health 48 4
    let new := healthField m.body 48 4
    let fresh := (List.range 12).filter (fun i => new.testBit i && !old.testBit i)
    let s := (s.modHsk (fun h => { h with health := m.body })).raise Reg.HSK_STATUS 1
    let s := s.raiseIf (!fresh.isEmpty) Reg.HSK_STATUS 2
    let s := fresh.foldl (fun s i => s.fault (sourceId 5 1 0 0) 0x12 i 0) s
    let type := BitVec.ofNat 8 (healthField m.body 40 1)
    let seq := BitVec.ofNat 32 (healthField m.body 44 4)
    if s.hsk.cmd = some (type, seq) then
      done ((s.modHsk (fun h => { h with
        cmd := none
        result := packWord [(healthField m.body 41 1, 8, 0), (type.toNat, 8, 8), (1, 1, 16)] })).raise Reg.HSK_STATUS 5)
    else done s

/-! ## Port S (R482, R483) -/

/-- Bytes of records and captures the endpoint holds. -/
def Hsk.heldBytes (h : Hsk) : Nat :=
  ((h.toCore.filter (fun m => m.type = 0x81 || m.type = 0x82)).map (fun m => m.body.length)).foldl (· + ·) 0

/-- The endpoint has space for another message: it grants credit (R483). -/
def State.huskCredit (s : State) (n : Nat) : Bool := decide (s.hsk.heldBytes + n ≤ 2097152)

/-- One port-S frame, with its FCS (R482, R394). -/
def State.portSFrame (s : State) (seq : List Byte) (off : Nat) (first last : Bool) (piece : List Byte) : List Byte :=
  let da := beBytes 2 (s.fld Reg.HSK_PS_DA_HI 15 0) ++ beBytes 4 (s.reg Reg.HSK_PS_DA_LO).toNat
  let sa := beBytes 2 (s.fld Reg.HSK_PS_SA_HI 15 0) ++ beBytes 4 (s.reg Reg.HSK_PS_SA_LO).toNat
  let body := da ++ sa ++ beBytes 2 (s.fld Reg.HSK_PS_ETYPE 15 0) ++ seq ++ beBytes 4 off ++
    beBytes 2 (b2n first + 2 * b2n last) ++ [0, 0] ++ piece
  let body := body ++ List.replicate (60 - body.length) 0
  body ++ leBytes 4 (Crypto.crc32 body).toNat

/-- The frames of one record, in order. -/
def State.portSFrames (s : State) (r : List Byte) : List (List Byte) :=
  let ps := (pieces 8192 r (r.length / 8192 + 1)).filter (fun p => !p.isEmpty)
  (List.range ps.length).map (fun i =>
    s.portSFrame (slice r 16 4) (8192 * i) (decide (i = 0)) (decide (i + 1 = ps.length)) (ps.getD i []))

/-- A frame of port S goes to the parser, or on a standby over the twin link (R483, R544). -/
def State.portSOut (s : State) (f : List Byte) : State :=
  let s := s.bump Reg.HSK_CNT_PS_FRAMES
  if s.standby then (s.count Reg.TWN_CNT_PORTS_BYTES f.length).sendTwin 0x50 f
  else { s with arrivals := s.arrivals ++ [⟨8, 0, f, s.now, false⟩] }

/-- Credit comes back: the time it was withheld is counted. -/
def State.creditBack (s : State) : State := match s.hsk.stalledAt with
  | none => s
  | some k => (s.count Reg.HSK_CNT_STALL_US ((s.ticks - k) / ticksPerUs)).modHsk (fun h => { h with stalledAt := none })

/-- R482: a record or a capture record is delivered to port S. The endpoint keeps it while PS_EN = 0, and on a standby while
the twin link cannot carry it. -/
def State.portS (s : State) (given : Option HuskMsg) (type : Byte) : State :=
  if !s.rbit Reg.HSK_CTRL 1 || (s.standby && !s.canTwin 0x50) then s else
  match s.takeCore given type with
  | (none, s) => s
  | (some m, s) =>
    let s := s.count Reg.HSK_CNT_PS_BYTES m.body.length
    ((s.portSFrames m.body).foldl State.portSOut s).creditBack

def execRecordMsg (given : Option HuskMsg) (s : State) : Outcome State Fault Refusal := done (s.portS given 0x81)
def execCaptureMsg (given : Option HuskMsg) (s : State) : Outcome State Fault Refusal := done (s.portS given 0x82)

/-! ## Software commands (R497) -/

/-- Length of the body of each command TYPE. -/
def hskBodyLen (type : Nat) : Nat := match type with
  | 3 => 16
  | 4 => 16
  | 5 => 12
  | 6 => 24
  | _ => 0

/-- Send a message of software and wait for its acknowledgement. -/
def State.hskSoft (s : State) (type : Byte) (body : List Byte) : State :=
  let seq := s.hsk.txSeq
  (s.huskSend type body).modHsk (fun h => { h with cmd := some (type, seq), result := h.result &&& 0xFFFF#32 })

/-- HSK_CMD_GO: SEND of the command body. -/
def State.hskGo (s : State) : State :=
  let type := s.fld Reg.HSK_CMD_TYPE 7 0
  if !s.hskUp || type < 3 || 6 < type then s else
  let words := (List.range 7).flatMap (fun i => beBytes 4 (s.reg (Reg.HSK_CMD_ARG i)).toNat)
  s.hskSoft (BitVec.ofNat 8 type) (words.take (hskBodyLen type))

/-- HSK_CFG_CMD: SEND of the staged block. -/
def State.hskCfgSend (s : State) : State :=
  if !s.hskUp then s else
  let n := s.fld Reg.HSK_CFG_LEN 15 0
  let words := (List.range ((n + 3) / 4)).flatMap (fun i => beBytes 4 (Tab.get (0 : Word) s.hsk.stage i).toNat)
  s.hskSoft 0x02 (words.take n)

/-! ## Timed commits (R470) -/

/-- 100 µs in pips. -/
def us100 : Nat := 25600000

/-- A START or STOP of a commit is dropped. -/
def State.commitLost (s : State) : State := (s.raise Reg.HSK_STATUS 4).bump Reg.HSK_CNT_COMMIT_LOST

/-- Send a commit's START or STOP, or keep it until 100 µs before TIME. -/
def State.hskCommit (s : State) (h : HeldStart) : State :=
  if s.hskUp then s.huskSend (if h.stop then 0x04 else 0x03) h.body
  else if h.time ≤ s.now + us100 then s.commitLost
  else s.modHsk (fun k => { k with held := k.held ++ [h] })

/-- The START of a slot armed with the SHELL set; nothing while HSK_STAGE.VALID = 0. -/
def State.hskArm (s : State) (slot time : Nat) : State :=
  if !s.rbit Reg.HSK_STAGE 16 then s else
  let body := beBytes 2 (s.fld Reg.HSK_STAGE 15 0) ++ beBytes 2 (0x8000 + slot) ++ ntimeBytes time ++ [0]
  (s.modHsk (fun h => { h with starts := slot :: h.starts })).hskCommit ⟨slot, false, time, body⟩

/-- The STOP of a slot disarmed, naming the START's START_ID; it goes behind a START that is still kept. -/
def State.hskDisarm (s : State) (slot time : Nat) : State :=
  if !s.hsk.starts.contains slot then s else
  let s := s.modHsk (fun h => { h with starts := h.starts.filter (· ≠ slot) })
  s.hskCommit ⟨slot, true, time, beBytes 2 0 ++ beBytes 2 (0x8000 + slot) ++ ntimeBytes time ++ [0]⟩

/-- 100 µs before TIME of a START or STOP still kept. -/
def execCommitLost (s : State) : Outcome State Fault Refusal :=
  match leastOf (s.hsk.held.map (fun h => h.time)) with
  | none => done s
  | some t =>
    let s := s.passTo (t - us100)
    let lost := s.hsk.held.filter (fun h => h.time ≤ s.now + us100)
    done (lost.foldl (fun s _ => s.commitLost)
      (s.modHsk (fun h => { h with held := h.held.filter (fun x => s.now + us100 < x.time) })))

/-! ## Link state (R456) -/

/-- The Husk trains with a powered Shell: both directions count from 0, and what was kept is sent. -/
def execHuskTrained (s : State) : Outcome State Fault Refusal :=
  if !s.shell.powered || s.hsk.link = .up then done s else
  let s := if s.hsk.link = .down then s.fault (sourceId 5 0 0 0) 0x13 0 (2 ^ flagEnd) else s
  let held := s.hsk.held
  let s := s.modHsk (fun h => { h with link := .up, txSeq := 0, toShell := [], toCore := [], held := [], echoTx := [] })
  let s := { s with shell := { s.shell with txSeq := 0 } }
  done (held.foldl State.hskCommit (s.raise Reg.HSK_STATUS 0))

/-- The Husk has been lost for 10 ms: what crossed it is lost (R462). -/
def State.huskDown (s : State) : State :=
  if s.hsk.link ≠ .up then s else
  let s := s.modHsk (fun h => { h with link := .down, toShell := [], toCore := [], cmd := none, echoTx := [] })
  ((s.raise Reg.HSK_STATUS 0).bump Reg.HSK_CNT_LINK_DOWN).fault (sourceId 5 0 0 0) 0x13 0 (2 ^ flagCond)

def execHuskDown (s : State) : Outcome State Fault Refusal := done s.huskDown

end Sys2Proof.Machine
end

