-- ==== Sys2Proof/Machine/Trig.lean ====
section
/-! DEFINITION. The rules a trigger output follows (R339, R340), shared by the host-side triggers and the Shell's field
triggers. -/

namespace Sys2Proof.Machine

/-- A microsecond in pips. -/
def usPips : Nat := 256000

/-- Time of edge k (R339), exact. -/
def Trig.time (t : Trig) (k : Nat) : Nat := t.start + k * t.period

/-- The first edge of a train at or after an instant. -/
def Trig.firstAt (t : Trig) (x : Nat) : Nat :=
  if x ≤ t.start then 0 else if t.period = 0 then 0 else (x - t.start + t.period - 1) / t.period

/-- R340: the arm. A single edge less than 1 µs ahead is refused; a train whose START has passed begins at its first edge
at least 1 µs after the arm. -/
def Trig.arm (t : Trig) (now : Nat) : Option Trig :=
  let fresh := { t with armed := true, done := false, late := false, produced := 0, next := 0 }
  if !t.periodic then if t.start < now + usPips then none else some fresh
  else some (if t.start < now then { fresh with next := fresh.firstAt (now + usPips) } else fresh)

/-- One edge goes by (produced, or suppressed by its gate): a single trigger and a counted train end with their last. -/
def Trig.edge (t : Trig) : Trig :=
  let last := !t.periodic || (t.count != 0 && t.count ≤ t.produced + 1)
  { t with produced := t.produced + 1, next := t.next + 1, armed := !last, done := last }

/-- A step of the time a train runs on (R340): the train as it resumes, and the edges skipped. -/
def Trig.afterStep (t : Trig) (now : Nat) : Trig × Nat :=
  let k := t.firstAt (now + usPips)
  ({ t with next := k }, k - t.next)

end Sys2Proof.Machine
end

