-- ==== Sys2Proof/Machine/Shell.lean ====
section
/-! DEFINITION. The Shell (chapter 12): boot, time, measurement records, captures, the engine, configuration and audit. -/

namespace Sys2Proof.Machine

open Host (Outcome)
open Crypto (beBytes beNat slice pieces)

def State.modShell (s : State) (f : Shell → Shell) : State := { s with shell := f s.shell }

/-- Shell time in pips. -/
def State.shellNow (s : State) : Nat := ((s.now : Int) + s.shell.ofs).toNat

/-- Time passes until Shell time is at or after `t`. -/
def State.passToShell (s : State) (t : Nat) : State := s.passTo ((t : Int) - s.shell.ofs).toNat

/-- A millisecond in pips. -/
def msPips : Nat := 256000000

/-! ## Messages -/

def ShellState.code : ShellState → Nat
  | .boot => 0 | .safe => 1 | .idle => 2 | .run => 3

def ShellTime.code : ShellTime → Nat
  | .unsync => 0 | .locked => 1 | .holdover => 2

/-- Bytes held in the record store. -/
def Shell.stored (x : Shell) : Nat := (x.store.map (fun r => r.body.length + 16)).foldl (· + ·) 0

def ShellCap.code (c : Option ShellCap) : Nat := match c.map (fun (c : ShellCap) => c.st) with
  | none => 0
  | some CapState.armed => 1
  | some CapState.filling => 2
  | some CapState.draining => 3

/-- Definitions that run, bit d. -/
def Shell.runMask (x : Shell) : Nat := (x.running.map (fun (e : Nat × RunDef) => 2 ^ e.1)).foldl (· + ·) 0

/-- Table HSK-3. -/
def Shell.health (x : Shell) : List Byte :=
  let err : BitVec 32 := satWord x.lastErr
  beBytes 1 x.st.code ++ beBytes 1 x.time.code ++
  beBytes 1 (b2n x.nv.twice + 2 * b2n x.key.isSome + 4 * b2n x.alarm) ++ beBytes 1 x.up.toNat ++
  beBytes 8 x.swId.toNat ++ beBytes 4 x.nv.events ++ beBytes 4 err.toNat ++ beBytes 2 x.runMask ++
  beBytes 1 (ShellCap.code x.cap) ++ [x.temp] ++ beBytes 4 x.stored ++ beBytes 4 x.recDisc.toNat ++
  beBytes 4 x.resync.toNat ++ beBytes 4 x.nv.bootCount.toNat ++ [x.ack.1, x.ack.2.1, 0, 0] ++
  beBytes 4 x.ack.2.2.toNat ++ beBytes 4 x.faults.toNat ++ beBytes 4 x.nv.cfgSeq.toNat ++ List.replicate 8 0

/-- The Shell sends a message. -/
def State.shellSend (s : State) (type : Byte) (body : List Byte) : State :=
  if s.hsk.link ≠ .up then s else
  let m : HuskMsg := ⟨type, s.shell.txSeq, body⟩
  (s.modShell (fun x => { x with txSeq := x.txSeq + 1 })).modHsk (fun h => { h with toCore := h.toCore ++ [m] })

/-- R464: a health message. The items that tell of an event (2, 7, 8, 9) are told once. -/
def State.sendHealth (s : State) : State :=
  if s.hsk.link ≠ .up || !s.shell.powered then s else
  (s.shellSend 0x83 s.shell.health).modShell (fun x => { x with faults := x.faults &&& ~~~ 0x384#32 })

/-- The message is acknowledged by the health message that follows it (R464). -/
def State.ackMsg (s : State) (m : HuskMsg) (status : Nat) : State :=
  (s.modShell (fun x => { x with ack := (m.type, BitVec.ofNat 8 status, m.seq) })).sendHealth

/-- The oldest message of a TYPE that waits for the Shell. -/
def State.takeShell (s : State) (type : Byte) : Option HuskMsg × State :=
  if !s.shell.powered || s.hsk.link ≠ .up then (none, s) else
  match s.hsk.toShell.find? (fun m => m.type = type) with
  | none => (none, s)
  | some m => (some m, s.modHsk (fun h => { h with toShell := h.toShell.erase m }))

/-- The Shell refuses commands: BOOT, SAFE or UNSYNC (Table HSK-5). -/
def Shell.refuses (x : Shell) : Bool := x.st == .boot || x.st == .safe || x.time == .unsync

/-- Raise a fault item. -/
def Shell.item (x : Shell) (i : Nat) : Shell := { x with faults := putBit x.faults i true }

/-! ## The engine (R486, R487) -/

/-- The trailer of a record under a key, with the KEY_GEN it names (R481). -/
def Rec.seal (r : Rec) (key : List Byte) (gen : BitVec 16) : Rec :=
  let body := r.body.take 32 ++ beBytes 2 gen.toNat ++ r.body.drop 34
  { r with body := body, trailer := some (Crypto.cmac key body) }

/-- Records that wait are authenticated in SEQ order. -/
def Shell.sealStore (x : Shell) : Shell := match x.key with
  | none => x
  | some k => { x with store := x.store.map (fun r => if r.trailer.isSome then r else r.seal k x.nv.keyGen) }

/-- The key that the flash holds, unwrapped. -/
def Shell.unwrapKey (x : Shell) : Option (List Byte) :=
  x.nv.wrapped.bind (fun w => Crypto.kwUnwrap x.nv.kdev w)

/-- R491: a record key that waits is installed. -/
def Shell.installKey (x : Shell) : Shell := match x.keyNext with
  | none => x
  | some (w, g) =>
    let x := { x with nv := { x.nv with wrapped := some w, keyGen := g }, keyNext := none }
    if x.alarm && !x.nv.twice then x else ({ x with key := x.unwrapKey }).sealStore

/-! ## Converters (R471) -/

/-- The enabled link that converter k belongs to. -/
def ShellNv.linkOf (v : ShellNv) (k : Nat) : Option ConvLink :=
  ((v.links.map (fun (e : Nat × ConvLink) => e.2)).filter (fun l => l.en && l.conv ≤ k && k < l.conv + l.m)).head?

/-- Channel k is complex. -/
def ShellNv.complex (v : ShellNv) (k : Nat) : Bool := k % 2 == 0 && v.pairs.getLsbD (k / 2)

/-- Sample rate of converter k as a fraction, in samples per second. -/
def ShellNv.rate (v : ShellNv) (k : Nat) : Option (Nat × Nat) := (v.linkOf k).map (fun l => (l.mbps * l.l * 100000, l.m))

def convOk (l : ConvLink) : Bool :=
  !l.en || ([1, 2, 4, 8].contains l.l && l.lane + l.l ≤ 16 && l.conv + l.m ≤ 16 && 1 ≤ l.m && 1500 ≤ l.mbps &&
    l.mbps ≤ 12500 && 17 ≤ l.f * l.k && l.f * l.k ≤ 1024 && l.k ≤ 32)

/-- Two ranges of whole numbers meet. -/
def overlaps (a n b m : Nat) : Bool := decide (a < b + m) && decide (b < a + n)

/-- R471 over all links and pairs. -/
def ShellNv.linksOk (v : ShellNv) : Bool :=
  let on := v.links.filter (fun (e : Nat × ConvLink) => e.2.en)
  on.all (fun (e : Nat × ConvLink) => convOk e.2 && on.all (fun (f : Nat × ConvLink) => e.1 == f.1 ||
    (!overlaps e.2.lane e.2.l f.2.lane f.2.l && !overlaps e.2.conv e.2.m f.2.conv f.2.m))) &&
  (bitList v.pairs).all (fun p => on.all (fun (e : Nat × ConvLink) =>
    !(e.2.conv ≤ 2 * p && 2 * p < e.2.conv + e.2.m) == !(e.2.conv ≤ 2 * p + 1 && 2 * p + 1 < e.2.conv + e.2.m)))

/-! ## Definitions -/

def ShellNv.defn (v : ShellNv) (d : Nat) : MeasDef := Tab.get MeasDef.off v.defs d

/-- The spectrum definition whose transforms definition d uses. -/
def ShellNv.base (v : ShellNv) (d : Nat) : MeasDef :=
  if (v.defn d).kind = .spectrum then v.defn d else v.defn (v.defn d).source

/-- Length of the record of definition d (Table HSK-6). -/
def recLen (m : MeasDef) : Nat :=
  if m.kind = .spectrum then 64 + 32 + 2 * m.nbins + 16 else 64 + 16 + 12 * m.bands.length + 16

/-- Field ranges of a definition. -/
def ShellNv.defOk (v : ShellNv) (d : Nat) : Bool :=
  let m := v.defn d
  let n := 2 ^ m.nptsLog2
  let lo : Int := if v.complex m.chan then -(n / 2) else 0
  let hi : Int := if v.complex m.chan then n / 2 - 1 else n / 2
  !m.en || match m.kind with
    | .spectrum =>
      10 ≤ m.nptsLog2 && m.nptsLog2 ≤ 16 && m.window ≤ 3 && 1 ≤ m.intMs && m.intMs ≤ 900000 && m.chan ≤ 15 && 1 ≤ m.nbins &&
        decide (lo ≤ m.firstBin) && decide (m.firstBin + m.nbins - 1 ≤ hi) &&
        (List.range 16).all (fun e => e == d || !(v.defn e).en || (v.defn e).kind != .spectrum || (v.defn e).chan != m.chan)
    | _ => m.source ≤ 15 && (v.defn m.source).en && (v.defn m.source).kind == .spectrum && 1 ≤ m.bands.length &&
        m.bands.length ≤ 8 && m.thr ≤ 255 && m.bands.all (fun b => decide (b.1 ≤ b.2))

/-- R479: the sum over the enabled definitions as a fraction. -/
def ShellNv.budget (v : ShellNv) : Nat × Nat :=
  ((List.range 16).filter (fun d => (v.defn d).en)).foldl (fun (a : Nat × Nat) d =>
    let t := (v.base d).intMs
    (a.1 * t + (recLen (v.defn d) + 64) * 1000 * a.2, a.2 * t)) (0, 1)

/-- The engine rate E in bytes per second (R485). -/
def ShellNv.engine (v : ShellNv) : Nat := if v.twice then 5000000 else 10000000

/-- The checks of R471, R473 and R479 on parameters: the status that refuses them, 0 where they pass. -/
def ShellNv.check (v : ShellNv) : Nat :=
  if !(List.range 16).all v.defOk || v.links.any (fun (e : Nat × ConvLink) => e.2.en && (e.2.sysrefNs < 100 || 10000000 < e.2.sysrefNs)) then 3
  else if !v.linksOk then 12
  else if v.engine * 3 * v.budget.2 < 4 * v.budget.1 then 6
  else 0

/-! ## Calibration (Table HSK-10) and codes (R477) -/

/-- The calibration words of channel c. -/
def ShellNv.cal (v : ShellNv) (c : Nat) : List Word := (List.range 131).map (fun i => Tab.get 0 v.words (0x4000 + 0x100 * c + i))

def calHalf (cal : List Word) (w i : Nat) : Int := signedOf 16 (bitsOf (cal.getD w 0).toNat (16 * i + 15) (16 * i))
def calRef (cal : List Word) : Int := calHalf cal 1 0
def calFs (cal : List Word) : Int := calHalf cal 1 1
def calFlat (cal : List Word) (i : Nat) : Int := calHalf cal (2 + i / 2) (i % 2)

/-- R477: the code of a relative power of `level` 10^-6 dB at the point num/den of the channel's band. -/
def levelCode (cal : List Word) (level : Int) (num den : Nat) : Nat :=
  let p := 255 * num
  let i := p / den
  let r := p % den
  let flat : Int := calFlat cal i * (den - r : Nat) + calFlat cal (min (i + 1) 255) * r
  let l : Int := (level + calFs cal * 10000) * den + flat * 10000
  (clampInt ((2 * (l - calRef cal * 10000 * den) + 500000 * den) / (1000000 * den)) 0 255).toNat

/-- Where a frequency of k1 + k2 half bins lies in the band of channel c for N points. -/
def bandPoint (complex : Bool) (n : Nat) (k12 : Int) : Nat × Nat :=
  if complex then ((k12 + n).toNat, 2 * n) else (k12.toNat, n)

/-! ## Records (R480, R481) -/

/-- A record is created: it takes its SEQ, and goes into the store or is discarded. UNSYNC creates none (R467). -/
def State.createRec (s : State) (kind d chan flags start end_ : Nat) (calId : Word) (body : List Byte) (mismatch : Bool) :
    State :=
  let x := s.shell
  if x.time = .unsync then s else
  let b := beBytes 2 0x5348 ++ beBytes 1 1 ++ beBytes 1 kind ++ beBytes 4 (80 + body.length) ++ beBytes 4 x.nv.bootCount.toNat ++
    beBytes 8 x.nextSeq.toNat ++ beBytes 8 x.swId.toNat ++ beBytes 4 x.nv.events ++ beBytes 2 x.nv.keyGen.toNat ++
    beBytes 1 d ++ beBytes 1 chan ++ beBytes 1 (flags + 64 * b2n x.nv.twice) ++ ntimeBytes start ++ ntimeBytes end_ ++ [0] ++
    beBytes 4 calId.toNat ++ body
  let r : Rec := ⟨x.nextSeq, kind, b, if kind = 4 then some (List.replicate 16 0) else none⟩
  let x := { x with nextSeq := x.nextSeq + 1 }
  let x := if x.nv.twice && mismatch && kind != 4 then ({ x with recDisc := x.recDisc + 1 }).item 2
    else if 8388608 < x.stored + b.length + 16 then ({ x with recDisc := x.recDisc + 1 }).item 7
    else ({ x with store := x.store ++ [r] }).sealStore
  { s with shell := x }

/-- The bands of a POWER or OCCUPANCY record. -/
def State.bandBytes (s : State) (m base : MeasDef) (cal : List Word) (r : Interval) : List Byte × State :=
  let n := 2 ^ base.nptsLog2
  let cx := s.shell.nv.complex base.chan
  (List.range m.bands.length).foldl (fun (a : List Byte × State) i =>
    let (k1, k2) := m.bands.getD i (0, 0)
    let (num, den) := bandPoint cx n (k1 + k2)
    let code := fun (l : List Int) => levelCode cal (l.getD i (-1000000000)) num den
    let head := beBytes 4 (BitVec.ofInt 32 k1).toNat ++ beBytes 4 (BitVec.ofInt 32 k2).toNat
    if m.kind = .power then (a.1 ++ head ++ beBytes 1 (code r.mean) ++ beBytes 1 (code r.peak) ++ beBytes 2 0, a.2)
    else
      let occupied := ((r.levels.getD i []).filter (fun e => m.thr ≤ levelCode cal e.1 num den)).foldl (fun n e => n + e.2) 0
      let (open_, s) := a.2.drawWord
      let (occ, s) := if r.transforms = 0 then (open_.toNat, s) else (1000 * occupied / r.transforms, a.2)
      (a.1 ++ head ++ beBytes 1 m.thr ++ beBytes 1 0 ++ beBytes 2 occ, s)) ([], s)

/-- The record of an interval of definition d that ends at `end_` (R477, R478). -/
def State.intervalRec (s : State) (d : Nat) (run : RunDef) (r : Interval) (end_ : Nat) : State :=
  let v := s.shell.nv
  let m := v.defn d
  let base := v.base d
  let n := 2 ^ base.nptsLog2
  let cx := v.complex base.chan
  let flags := b2n (r.excluded != 0) + 2 * b2n run.sawUnsync + 4 * b2n run.sawHoldover + 8 * b2n run.isPartial +
    16 * b2n run.step + 32 * b2n r.clip
  let ref := beBytes 2 (BitVec.ofInt 16 (calRef run.cal)).toNat
  let calId := run.cal.getD 0 0
  match m.kind with
  | .spectrum =>
    let point := fun (i : Nat) => bandPoint cx n (2 * (m.firstBin + i))
    let codes := fun (l : List Int) => (List.range m.nbins).map (fun i =>
      BitVec.ofNat 8 (levelCode run.cal (l.getD i (-1000000000)) (point i).1 (point i).2))
    let spacing := match v.linkOf m.chan with
      | some l => l.mbps * l.l * 100000000 / l.m / n
      | none => 0
    let head := beBytes 1 m.nptsLog2 ++ beBytes 1 m.window ++ beBytes 1 (b2n m.overlap75) ++ [0] ++
      beBytes 4 (BitVec.ofInt 32 m.firstBin).toNat ++ beBytes 4 m.nbins ++ beBytes 4 r.transforms ++ beBytes 4 r.excluded ++
      ref ++ [0, 0] ++ beBytes 4 spacing ++ List.replicate 4 0
    s.createRec 1 d base.chan flags run.start end_ calId (head ++ codes r.mean ++ codes r.peak) r.mismatch
  | _ =>
    let (bands, s) := s.bandBytes m base run.cal r
    let head := beBytes 1 m.bands.length ++ [0, 0, 0] ++ beBytes 4 r.transforms ++ beBytes 4 r.excluded ++ ref ++ [0, 0]
    s.createRec (if m.kind = .power then 2 else 3) d base.chan flags run.start end_ calId (head ++ bands) r.mismatch

/-- Marks of a run that begins an interval now. -/
def State.runAt (s : State) (d start : Nat) (isPartial : Bool) : RunDef :=
  let x := s.shell
  { start := start, isPartial := isPartial, step := false, sawUnsync := x.time == .unsync, sawHoldover := x.time == .holdover
    cal := x.nv.cal (x.nv.base d).chan }

def noInterval : Interval := ⟨0, 0, false, [], [], [], false⟩

/-- The report given for definition d. -/
def reportOf (l : List (Fin 16 × Interval)) (d : Nat) : Interval :=
  match l.find? (fun e => decide (e.1.val = d)) with
  | some e => e.2
  | none => noInterval

/-- The running state follows from the definitions that run (R458). -/
def Shell.settle (x : Shell) : Shell :=
  if x.st = .idle || x.st = .run then { x with st := if x.running.isEmpty then .idle else .run } else x

/-! ## Boot (R457, R458, R460) -/

/-- The boot ROM runs: the slot the pointer names, else the other; SAFE if both fail. Shell time begins at 0. -/
def State.shellBoot (s : State) (okA okB : Bool) (idA idB : BitVec 64) : State :=
  let nv := s.shell.installKey.nv
  let nv := { nv with bootCount := nv.bootCount + 1 }
  let x := { Shell.unpowered nv with powered := true, ofs := -(s.now : Int) }
  let okOf := fun (b : Bool) => if b then okB else okA
  let p := nv.pointerB
  let x := if okOf p then { x with st := .idle, slotB := p, swId := if p then idB else idA }
    else
      let x := x.item (b2n p)
      if okOf (!p) then { x with st := .idle, slotB := !p, swId := if !p then idB else idA }
      else { x.item (b2n (!p)) with st := .safe }
  { s with shell := { x with key := x.unwrapKey } }

def execShellPowerUp (okA okB : Bool) (idA idB : BitVec 64) (s : State) : Outcome State Fault Refusal :=
  if s.shell.powered then done s else done (s.shellBoot okA okB idA idB)

/-- Table HSK-12: the store and the capture are lost, BOOT advances and the endpoint sees the Husk go down. -/
def execShellWatchdog (okA okB : Bool) (idA idB : BitVec 64) (s : State) : Outcome State Fault Refusal :=
  if !s.shell.powered then done s
  else done ((s.huskDown.shellBoot okA okB idA idB).modShell (fun x => x.item 9))

def execShellPowerDown (s : State) : Outcome State Fault Refusal :=
  done (s.modShell (fun x => Shell.unpowered x.installKey.nv))

/-! ## Time (R467) -/

/-- The Shell's time state changes; what runs is marked. -/
def Shell.setTime (x : Shell) (t : ShellTime) : Shell :=
  { x with
    time := t
    stepped := if t = .unsync && x.time != .unsync then false else x.stepped
    lockRun := if t = x.time then x.lockRun else 0
    running := x.running.map (fun (e : Nat × RunDef) => (e.1, { e.2 with
      sawUnsync := e.2.sawUnsync || t == .unsync, sawHoldover := e.2.sawHoldover || t == .holdover })) }

/-- A step of Shell time: every interval ends marked STEP, and the next begins at the boundary at or before the new time
(R478); field triggers resume (R340); a capture keeps its samples (Table HSK-12). -/
def State.shellStep (s : State) (e : Int) (reports : List (Fin 16 × Interval)) : State :=
  let old := s.shellNow
  let runs := s.shell.running
  let s := runs.foldl (fun s (r : Nat × RunDef) => s.intervalRec r.1 { r.2 with step := true } (reportOf reports r.1) old) s
  let s := s.modShell (fun x => { x with ofs := x.ofs + e })
  let new := s.shellNow
  let s := runs.foldl (fun s (r : Nat × RunDef) =>
    let t := (s.shell.nv.base r.1).intMs * msPips
    s.modShell (fun x => { x with running := Tab.insert x.running r.1 (s.runAt r.1 (new / t * t) false) })) s
  s.modShell (fun x => { x with
    cap := x.cap.map (fun c => if c.st = .draining then c else { c with step := true })
    ftrigs := x.ftrigs.map (fun (e : Nat × Trig) => (e.1, if e.2.armed && e.2.periodic then (e.2.afterStep new).1 else e.2)) })

/-- A beacon taken when the Shell's clock reads `tRx` (R466, R467). -/
def execBeacon (tRx : Nat) (reports : List (Fin 16 × Interval)) (s : State) : Outcome State Fault Refusal :=
  match s.takeShell 0x01 with
  | (none, s) => done s
  | (some m, s) =>
    let flags := beNat (slice m.body 11 1)
    let core := flags / 2 % 8
    if s.shell.st = .safe then done s else
    let s := if flags % 2 = 1 then
      s.shellSend 0x84 (ntimeBytes tRx ++ ntimeBytes tRx ++ beBytes 4 m.seq.toNat ++ List.replicate 6 0) else s
    let s := s.modShell (fun x => { x with ofs := (tRx : Int) - s.now, beaconTick := s.ticks, lastCore := core })
    if core = 0 ∨ core = 4 then done (s.modShell (fun x => { x.setTime .unsync with lockRun := 0 })) else
    let e : Int := (ntimeOf (slice m.body 0 11) : Int) + signedOf 32 (beNat (slice m.body 12 4)) - tRx
    let s := s.modShell (fun x => { x with lastErr := e })
    let step := decide (usPips < e.natAbs) || !s.shell.stepped
    let most : Int := s.fld Reg.HSK_BEACON 13 0 * 256 / 100
    let s := if step then s.shellStep e reports
      else s.modShell (fun x => { x with ofs := x.ofs + clampInt e (-most) most })
    let s := s.modShell (fun x => { x with
      stepped := true, lockRun := if e.natAbs ≤ 32 then min 8 (x.lockRun + 1) else 0 })
    let x := s.shell
    let t : ShellTime :=
      if core = 3 then .holdover
      else if x.time = .locked then (if 128 < e.natAbs then .unsync else .locked)
      else if x.lockRun = 8 then .locked
      else x.time
    let s := s.modShell (fun x => { x.setTime t with lockRun := x.lockRun })
    done (if t = .unsync && x.time = .locked then s.modShell (fun x => { x with stepped := false }) else s)

def execBeaconTimeout (s : State) : Outcome State Fault Refusal :=
  if !s.shell.powered || s.shell.st = .safe then done s else
  let s := s.passToTick (s.shell.beaconTick + 10000 * ticksPerUs)
  if s.shell.time = .unsync then done s else done (s.modShell (fun x => x.setTime .holdover))

/-! ## Definitions run (R469, R475, R478) -/

/-- A definition that START may name: enabled, with its source in the same message, and a valid calibration table. -/
def ShellNv.startable (v : ShellNv) (mask : BitVec 16) (d : Nat) : Bool :=
  let m := v.defn d
  m.en && (m.kind == .spectrum || mask.getLsbD m.source) && ((v.cal (v.base d).chan).getD 130 0).getLsbD 0

/-- R469: START. -/
def State.shellStart (s : State) (b : List Byte) : Nat × State :=
  let x := s.shell
  let mask := BitVec.ofNat 16 (beNat (slice b 0 2))
  let imm := beNat (slice b 15 1) % 2 == 1
  let t := if imm then (s.shellNow / usPips + 1) * usPips else ntimeOf (slice b 4 11)
  if x.refuses then (1, s)
  else if b.length ≠ 16 || (!imm && !ntimeOk (slice b 4 11)) then (3, s)
  else if !imm && t < s.shellNow + us100 then (5, s)
  else if (bitList mask).any (fun d => (Tab.find? x.running d).isSome || x.starts.any (fun p => p.2.1.getLsbD d)) then (11, s)
  else if !(bitList mask).all (x.nv.startable mask) then (4, s)
  else (0, s.modShell (fun x => { x with starts := x.starts ++ [(BitVec.ofNat 16 (beNat (slice b 2 2)), mask, t)] }))

def execStart (s : State) : Outcome State Fault Refusal :=
  match s.takeShell 0x03 with
  | (none, s) => done s
  | (some m, s) => let (st, s) := s.shellStart m.body; done (s.ackMsg m st)

/-- R469: STOP. -/
def State.shellStop (s : State) (b : List Byte) : Nat × State :=
  let x := s.shell
  let mask := BitVec.ofNat 16 (beNat (slice b 0 2))
  let id := BitVec.ofNat 16 (beNat (slice b 2 2))
  let imm := beNat (slice b 15 1) % 2 == 1
  if x.refuses then (1, s)
  else if b.length ≠ 16 || (!imm && !ntimeOk (slice b 4 11)) then (3, s)
  else if id ≠ 0 then
    if x.starts.any (fun p => p.1 = id) then
      (0, s.modShell (fun x => { x with starts := x.starts.filter (fun p => p.1 ≠ id) }))
    else (4, s)
  else
    let t := if imm then s.shellNow else max s.shellNow (ntimeOf (slice b 4 11))
    (0, s.modShell (fun x => { x with stops := x.stops ++ [(mask, t)] }))

def execStop (s : State) : Outcome State Fault Refusal :=
  match s.takeShell 0x04 with
  | (none, s) => done s
  | (some m, s) => let (st, s) := s.shellStop m.body; done (s.ackMsg m st)

/-- Pending starts at or before `t` begin. A definition that a configuration has since disabled does not. -/
def State.beginStarts (s : State) (t : Nat) : State :=
  let due := s.shell.starts.filter (fun p => p.2.2 ≤ t)
  let s := due.foldl (fun s p => ((bitList p.2.1).filter (fun d => (s.shell.nv.defn d).en)).foldl (fun s d =>
    s.modShell (fun x => { x with running := Tab.insert x.running d (s.runAt d p.2.2 true) })) s) s
  s.modShell (fun x => ({ x with starts := x.starts.filter (fun p => t < p.2.2) }).settle)

def execDefinitionStart (s : State) : Outcome State Fault Refusal :=
  match leastOf (s.shell.starts.map (fun p => p.2.2)) with
  | none => done s
  | some t => done ((s.passToShell t).beginStarts t)

/-- Definitions that end when those of a mask do: a definition runs only while its source does (R475). -/
def Shell.ending (x : Shell) (mask : BitVec 16) : List (Nat × RunDef) :=
  x.running.filter (fun (e : Nat × RunDef) => mask.getLsbD e.1 ||
    ((x.nv.defn e.1).kind != .spectrum && mask.getLsbD (x.nv.defn e.1).source))

/-- The earliest stop reaches AT: what runs of its mask ends with a PARTIAL interval (R478). -/
def execDefinitionStop (reports : List (Fin 16 × Interval)) (s : State) : Outcome State Fault Refusal :=
  match leastOf (s.shell.stops.map (fun p => p.2)) with
  | none => done s
  | some t =>
    let s := (s.passToShell t).beginStarts t
    let masks := (s.shell.stops.filter (fun p => p.2 = t)).foldl (fun m p => m ||| p.1) 0
    let gone := s.shell.ending masks
    let s := gone.foldl (fun s (e : Nat × RunDef) => s.intervalRec e.1 { e.2 with isPartial := true } (reportOf reports e.1) t) s
    done (s.modShell (fun x => ({ x with
      running := gone.foldl (fun r (e : Nat × RunDef) => Tab.erase r e.1) x.running
      stops := x.stops.filter (fun p => p.2 ≠ t) }).settle))

/-- The interval of definition d ends at its boundary (R478). -/
def execIntervalEnd (d : Fin 16) (report : Interval) (s : State) : Outcome State Fault Refusal :=
  match Tab.find? s.shell.running d with
  | none => done s
  | some run =>
    let len := (s.shell.nv.base d).intMs * msPips
    let end_ := (run.start / len + 1) * len
    let s := (s.passToShell end_).modShell Shell.installKey
    let s := s.intervalRec d run report end_
    done (s.modShell (fun x => { x with running := Tab.insert x.running d (s.runAt d end_ false) }))

/-! ## Captures (R484, R485) -/

/-- Sample rate shared by the converters of a mask. -/
def ShellNv.capRate (v : ShellNv) (convs : BitVec 16) : Option (Nat × Nat) :=
  match (bitList convs).map v.rate with
  | some r :: l => if l.all (fun q => match q with
      | some q => q.1 * r.2 == r.1 * q.2
      | none => false) then some r else none
  | _ => none

/-- R484: ARM. -/
def State.shellArm (s : State) (b : List Byte) : Nat × State :=
  let x := s.shell
  let convs := BitVec.ofNat 16 (beNat (slice b 4 2))
  let mode := beNat (slice b 6 1)
  let t := ntimeOf (slice b 8 11)
  let n := beNat (slice b 20 4)
  if x.refuses then (1, s)
  else if b.length ≠ 24 || 1 < mode || !ntimeOk (slice b 8 11) || convs = 0 || n = 0 || 33554432 < n then (3, s)
  else if x.cap.isSome then (2, s)
  else if t < s.shellNow + us100 then (5, s)
  else if (x.nv.capRate convs).isNone then (12, s)
  else
    let c : ShellCap := { st := .armed, id := BitVec.ofNat 32 (beNat (slice b 0 4)), convs := convs, evidence := mode == 1
                          at_ := t, bytes := n, step := false, samples := [], spans := [], seg := 0 }
    (0, s.modShell (fun x => { x with cap := some c }))

def execArm (s : State) : Outcome State Fault Refusal :=
  match s.takeShell 0x06 with
  | (none, s) => done s
  | (some m, s) => let (st, s) := s.shellArm m.body; done (s.ackMsg m st)

def execCaptureStart (s : State) : Outcome State Fault Refusal :=
  match s.shell.cap with
  | some c =>
    if c.st ≠ .armed then done s
    else done ((s.passToShell c.at_).modShell (fun x => { x with cap := some { c with st := .filling } }))
  | none => done s

/-- Shell time at which `n` sample bytes of a capture are in. -/
def ShellNv.capTime (v : ShellNv) (c : ShellCap) (n : Nat) : Nat :=
  let per := (bitList c.convs).length
  match v.capRate c.convs with
  | some (num, den) => c.at_ + (n + per - 1) / per * (pipsPerSec * den) / num
  | none => c.at_

/-- R484: at most 64 invalid spans; the last then runs to the end. -/
def cutSpans (bytes : Nat) (l : List (Nat × Nat)) : List (Nat × Nat) :=
  if l.length ≤ 64 then l else
  let last := l.getD 63 (0, 0)
  l.take 63 ++ [(last.1, bytes - last.1)]

def inSpans (l : List (Nat × Nat)) (i : Nat) : Bool := l.any (fun p => decide (p.1 ≤ i) && decide (i < p.1 + p.2))

/-- The window is full: invalid samples are stored as 0x80. -/
def execCaptureFillDone (samples : List Byte) (invalid : List (Nat × Nat)) (s : State) : Outcome State Fault Refusal :=
  match s.shell.cap with
  | some c =>
    if c.st ≠ .filling then done s else
    let spans := cutSpans c.bytes invalid
    let kept := (List.range c.bytes).zip (samples.take c.bytes ++ List.replicate (c.bytes - samples.length) 0x80)
    let bytes := kept.map (fun (e : Nat × Byte) => if inSpans spans e.1 then 0x80 else e.2)
    let full := { c with st := .draining, samples := bytes, spans := spans }
    done ((s.passToShell (s.shell.nv.capTime c c.bytes)).modShell (fun x => { x with cap := some full }))
  | none => done s

/-- The next record of a draining capture: a segment, or the summary after the last. An evidence drain waits for the key. -/
def State.capRec (s : State) (mismatch : Bool) : State :=
  match s.shell.cap with
  | some c =>
    if c.st ≠ .draining || s.shell.time = .unsync || (c.evidence && s.shell.key.isNone) then s else
    let first := 8096 * c.seg
    let hold := 4 * b2n (s.shell.time == .holdover)
    if first < c.bytes then
      let piece := slice c.samples first 8096
      let clip := ((List.range piece.length).zip piece).any (fun e =>
        (e.2 == 0x80 || e.2 == 0x7F) && !inSpans c.spans (first + e.1))
      let bad := c.spans.any (fun p => overlaps p.1 p.2 first piece.length)
      let s := s.createRec (if c.evidence then 5 else 4) 0xFF 0xFF (b2n bad + hold + 32 * b2n clip) c.at_
        (s.shell.nv.capTime c (first + piece.length)) 0
        (beBytes 4 c.id.toNat ++ beBytes 4 c.seg ++ beBytes 8 first ++ piece) mismatch
      s.modShell (fun x => { x with cap := some { c with seg := c.seg + 1 } })
    else
      let spans := c.spans.flatMap (fun p => beBytes 8 p.1 ++ beBytes 8 p.2)
      let s := s.createRec 6 0xFF 0xFF (b2n (!c.spans.isEmpty) + hold + 16 * b2n c.step) c.at_
        (s.shell.nv.capTime c c.bytes) 0
        (beBytes 4 c.id.toNat ++ beBytes 4 c.seg ++ beBytes 8 c.bytes ++ beBytes 2 c.spans.length ++ List.replicate 6 0 ++ spans)
        mismatch
      s.modShell (fun x => { x with cap := none })
  | none => s

/-! ## Sending (R480, R483, R485) -/

/-- The head of the store crosses the Husk where the endpoint has space. A record that waits for the key stays. -/
def State.sendRec (s : State) : State :=
  match s.shell.store with
  | [] => s
  | r :: rest =>
    match r.trailer with
    | none => s
    | some t =>
      let b := r.body ++ t
      if !s.huskCredit b.length then s.modHsk (fun h => { h with stalledAt := h.stalledAt.orElse (fun _ => some s.ticks) })
      else (s.shellSend (if [4, 5, 6].contains r.kind then 0x82 else 0x81) b).modShell (fun x => { x with store := rest })

def execRecordSend (mismatch : Bool) (s : State) : Outcome State Fault Refusal :=
  if !s.shell.powered || !s.hskUp then done s
  else if s.shell.store.isEmpty then done (s.capRec mismatch).sendRec
  else done s.sendRec

def execHealthSend (temp : Byte) (s : State) : Outcome State Fault Refusal :=
  done (s.modShell (fun x => if x.powered then { x with temp := temp } else x)).sendHealth

/-! ## Alarms (R487) -/

/-- A supply (0), temperature (1) or clock (2) alarm. -/
def execShellAlarm (kind : Fin 3) (s : State) : Outcome State Fault Refusal :=
  if !s.shell.powered then done s else
  done (s.modShell (fun x =>
    let x := { x.item (4 + kind.val) with alarm := true }
    if x.nv.twice then x else ({ x with key := none }).item 3))

def execKeyRestore (s : State) : Outcome State Fault Refusal :=
  if !s.shell.powered then done s else
  done (s.modShell (fun x =>
    let x := { x with alarm := false, faults := x.faults &&& ~~~ 0x78#32 }
    if x.key.isSome then x else ({ x with key := x.unwrapKey }).sealStore))

/-! ## Converter links and field triggers (R472, R473) -/

def execLinkResync (link : Fin 4) (s : State) : Outcome State Fault Refusal :=
  if !s.shell.powered then done s else
  done (s.modShell (fun x => ({ x with up := putBit x.up link false, resync := x.resync + 1 }).item 8))

/-- The next rising edge of SHL_SYSREFj, at which the link realigns. -/
def execSysrefEdge (link : Fin 4) (s : State) : Outcome State Fault Refusal :=
  match Tab.find? s.shell.nv.links link with
  | none => done s
  | some l =>
    if !s.shell.powered || !l.en || s.shell.st = .safe then done s else
    let p := max 1 (l.sysrefNs * 256)
    let t := (s.shellNow / p + 1) * p
    let s := (s.passToShell t).modShell (fun x => { x with up := putBit x.up link true })
    done (s.send (.edge (8 + link) ((t : Int) - l.sysrefAdj)))

/-- The next edge of field trigger n, less its ADJ (R341): at the pin while the Shell is LOCKED. One that a step of Shell
time has passed comes at once (R340). -/
def execFieldTriggerEdge (trig : Fin 4) (s : State) : Outcome State Fault Refusal :=
  let t := Tab.get Trig.reset s.shell.ftrigs trig
  if !s.shell.powered || !t.armed then done s else
  let at_ := max (t.time t.next) s.shellNow
  let s := (s.passToShell at_).modShell (fun x => { x with ftrigs := Tab.set Trig.reset x.ftrigs trig t.edge })
  done (if s.shell.time = .locked then s.send (.edge (12 + trig) (at_ - Tab.get 0 s.shell.ftrigAdj trig)) else s)

/-! ## Configuration and audit (R488 to R493) -/

/-- The runs of a PARAMS body. -/
def parseRuns (b : List Byte) : Nat → Option (List (Nat × List Word))
  | 0 => none
  | fuel + 1 =>
    if b.isEmpty then some [] else
    let n := beNat (slice b 2 2)
    if b.length < 4 + 4 * n then none else
    let words := (pieces 4 (slice b 4 (4 * n)) n).map (fun w => BitVec.ofNat 32 (beNat w))
    (parseRuns (b.drop (4 + 4 * n)) fuel).map (fun l => (beNat (slice b 0 2), words) :: l)

/-- A run lies in the calibration tables. -/
def isCalRun (r : Nat × List Word) : Bool := decide (0x4000 ≤ r.1) && decide (r.1 + r.2.length ≤ 0x5000)

/-- Each run with what it writes outside the calibration tables. -/
def matchRuns : List (Nat × List Word) → List (List ShellParam) → List ((Nat × List Word) × List ShellParam)
  | [], _ => []
  | r :: l, ps => if isCalRun r then (r, []) :: matchRuns l ps else (r, ps.headD []) :: matchRuns l ps.tail

/-- ACTION of the audit entry a parameter makes (R492); 0 where it is not legally relevant. -/
def paramAction : ShellParam → Nat
  | .link _ _ => 2
  | .pair _ _ => 2
  | .defn _ _ => 3
  | .mode _ => 5
  | .ftrig _ _ _ _ _ _ _ => 0
  | .other => 0

def runAction (r : (Nat × List Word) × List ShellParam) : Nat :=
  if isCalRun r.1 then 4 else ((r.2.map paramAction).filter (· ≠ 0)).headD 0

def ShellNv.param (v : ShellNv) (p : ShellParam) : ShellNv := match p with
  | .link j l => { v with links := Tab.insert v.links j l }
  | .pair k c => { v with pairs := putBit v.pairs k c }
  | .defn d m => { v with defs := Tab.set MeasDef.off v.defs d m }
  | .mode t => { v with twice := t }
  | .ftrig _ _ _ _ _ _ _ => v
  | .other => v

def ShellNv.run (v : ShellNv) (r : (Nat × List Word) × List ShellParam) : ShellNv :=
  let words := ((List.range r.1.2.length).zip r.1.2).foldl (fun w e => Tab.set 0 w (r.1.1 + e.1) e.2) v.words
  r.2.foldl ShellNv.param { v with words := words }

/-- The first 8 bytes of SHA-384. -/
def sha8 (b : List Byte) : List Byte := (Crypto.sha384 b).take 8

def wordBytes (l : List Word) : List Byte := l.flatMap (fun w => beBytes 4 w.toNat)

/-- R492: the next fuse of the event counter is blown and an entry of Table HSK-7 is appended. -/
def State.auditEntry (s : State) (v : ShellNv) (action addr : Nat) (old new signer : List Byte) (cfgSeq : Word) : ShellNv :=
  let chain := match v.audit.getLast? with
    | some e => sha8 e
    | none => List.replicate 8 0
  let v := { v with events := v.events + 1 }
  let e := beBytes 4 v.events ++ ntimeBytes s.shellNow ++ beBytes 1 s.shell.time.code ++ beBytes 1 action ++ [0] ++
    beBytes 2 addr ++ old ++ new ++ sha8 signer ++ beBytes 4 cfgSeq.toNat ++ chain ++ List.replicate 8 0
  { v with audit := v.audit ++ [e] }

/-- A field trigger's parameters are in range (R339). -/
def paramFtrigOk : ShellParam → Bool
  | .ftrig _ periodic _ period widthNs _ _ =>
    !periodic || (5120 ≤ period && period ≤ 4294967295 * 256 + 255 && 5 ≤ widthNs && widthNs * 256 + 1280 ≤ period)
  | _ => true

/-- The Shell's volatile side of a parameter. -/
def State.paramVolatile (s : State) (p : ShellParam) : State := match p with
  | .link j _ => s.modShell (fun x => { x with up := putBit x.up j false })
  | .ftrig n periodic start period widthNs count adj =>
    let s := s.modShell (fun x => { x with ftrigAdj := Tab.set 0 x.ftrigAdj n adj })
    match (({ Trig.reset with periodic := periodic, start := start, period := period, widthNs := widthNs, count := count } :
        Trig).arm s.shellNow) with
    | some t => s.modShell (fun x => { x with ftrigs := Tab.set Trig.reset x.ftrigs n t })
    | none => s
  | _ => s

/-- The image bytes of a slot. -/
def ShellNv.image (v : ShellNv) (b : Bool) : List Byte :=
  (List.range (if b then v.totalB else v.totalA)).map (fun i => Tab.get 0xFF (if b then v.imageB else v.imageA) i)

/-- A FIRMWARE block writes the slot `b` (R490). -/
def ShellNv.putImage (v : ShellNv) (b : Bool) (off total : Nat) (data : List Byte) : ShellNv :=
  let put := fun (t : Tab Byte) => ((List.range data.length).zip data).foldl (fun t e => Tab.set 0xFF t (off + e.1) e.2) t
  if b then { v with imageB := put v.imageB, totalB := total } else { v with imageA := put v.imageA, totalA := total }

/-- What an accepted block of each class does: a refusal status, or the state after it. -/
def State.cfgClass (s : State) (cls : Nat) (body signer : List Byte) (seq : Word)
    (runs : List ((Nat × List Word) × List ShellParam)) (imageOk : Bool) : Nat × State :=
  let v := { s.shell.nv with cfgSeq := seq }
  let full := fun (n : Nat) => decide (n ≠ 0) && decide (8192 < v.events + n)
  match cls with
  | 1 =>
    let after := runs.foldl ShellNv.run v
    if after.check ≠ 0 then (after.check, s)
    else if full (runs.filter (fun r => runAction r ≠ 0)).length then (10, s)
    else
      let v := runs.foldl (fun v r =>
        let old := r.1.2.length
        let before := (List.range old).map (fun i => Tab.get 0 v.words (r.1.1 + i))
        let v := if runAction r = 0 then v
          else s.auditEntry v (runAction r) r.1.1 (sha8 (wordBytes before)) (sha8 (wordBytes r.1.2)) signer seq
        v.run r) v
      let s := s.modShell (fun x => { x with nv := v })
      (0, (runs.flatMap (fun r => r.2)).foldl State.paramVolatile s)
  | 2 =>
    let b := !s.shell.slotB
    let new := v.putImage b (beNat (slice body 0 4)) (beNat (slice body 4 4)) (body.drop 12)
    let final := decide (beNat (slice body 8 1) = 1)
    if full 1 then (10, s)
    else if final && !imageOk then (7, s)
    else
      let v := s.auditEntry v 1 0 (sha8 (v.image s.shell.slotB)) (sha8 (new.image b)) signer seq
      let v := v.putImage b (beNat (slice body 0 4)) (beNat (slice body 4 4)) (body.drop 12)
      (0, s.modShell (fun x => { x with nv := if final then { v with pointerB := b } else v }))
  | 3 =>
    let slot := if v.digests.isEmpty then 0 else beNat (slice body 0 1)
    let digest := slice body 4 48
    if full 1 then (10, s)
    else
      let v := s.auditEntry v 7 0 (sha8 []) (sha8 digest) signer seq
      (0, s.modShell (fun x => { x with nv := { v with digests := Tab.insert v.digests slot digest } }))
  | _ =>
    let gen := BitVec.ofNat 16 (beNat (slice body 0 2))
    if full 1 then (10, s)
    else
      let (k1, s) := s.drawWord
      let (k2, s) := s.drawWord
      let new := beBytes 2 gen.toNat ++ beBytes 4 k1.toNat ++ beBytes 2 k2.toNat
      let v := s.auditEntry v 6 0 (beBytes 2 v.keyGen.toNat ++ List.replicate 6 0) new signer seq
      let s := s.modShell (fun x => { x with nv := v, keyNext := some (slice body 4 40, gen) })
      (0, if s.shell.running.isEmpty then s.modShell Shell.installKey else s)

/-- The format and lengths of a block agree (R488 item 1), with the class's own field ranges. -/
def State.cfgFormat (s : State) (b : List Byte) (params : List (List ShellParam)) : Bool :=
  let cls := beNat (slice b 5 1)
  let n := beNat (slice b 20 4)
  let body := slice b 121 n
  let v := s.shell.nv
  beNat (slice b 0 4) == 0x53484346 && beNat (slice b 4 1) == 1 && 1 ≤ cls && cls ≤ 4 && b.length == 217 + n &&
    beNat (slice b 24 1) == 4 &&
  (match cls with
    | 1 => (parseRuns body (body.length + 1)).isSome && params.all (fun l => l.all paramFtrigOk)
    | 2 => 12 ≤ n && beNat (slice body 0 4) + (n - 12) ≤ beNat (slice body 4 4) && beNat (slice body 8 1) ≤ 1
    | 3 => n == 52 && beNat (slice body 0 1) ≤ 3 &&
        (v.digests.isEmpty || (Tab.find? v.digests (beNat (slice body 0 1))).isNone)
    | _ => n == 44 && v.keyGen.toNat < beNat (slice body 0 2) &&
        (match s.shell.keyNext with
          | some (_, g) => decide (g.toNat < beNat (slice body 0 2))
          | none => true) &&
        (Crypto.kwUnwrap v.kdev (slice body 4 40)).isSome)

/-- The signer's key is accepted (R488 item 3, R489). -/
def State.cfgSigned (s : State) (b : List Byte) : Bool :=
  let n := beNat (slice b 20 4)
  let signer := slice b 24 97
  let digest := Crypto.sha384 signer
  let v := s.shell.nv
  (if v.digests.isEmpty then beNat (slice b 5 1) == 3 && slice b 125 48 == digest
    else v.digests.any (fun (e : Nat × List Byte) => e.2 == digest)) &&
  Crypto.ecdsaOk (Crypto.sha384 (b.take (121 + n))) (signer.drop 1) (slice b (121 + n) 96)

/-- R488: the tests in order, then the block's effect. -/
def State.shellCfg (s : State) (b : List Byte) (params : List (List ShellParam)) (imageOk : Bool) : Nat × State :=
  let x := s.shell
  let n := beNat (slice b 20 4)
  let body := slice b 121 n
  let seq := BitVec.ofNat 32 (beNat (slice b 16 4))
  let runs := matchRuns ((parseRuns body (body.length + 1)).getD []) params
  let writesRunning := runs.any (fun r => r.2.any (fun p => match p with
    | .defn d _ => (Tab.find? x.running d).isSome
    | _ => false))
  if x.st = .boot || x.st = .safe then (1, s)
  else if !s.cfgFormat b params then (3, s)
  else if beNat (slice b 8 8) ≠ s.serial then (9, s)
  else if !s.cfgSigned b then (7, s)
  else if seq ≤ x.nv.cfgSeq then (8, s)
  else if beNat (slice b 5 1) = 1 && writesRunning then (11, s)
  else s.cfgClass (beNat (slice b 5 1)) body (slice b 24 97) seq runs imageOk

def execCfgBlock (params : List (List ShellParam)) (imageOk : Bool) (s : State) : Outcome State Fault Refusal :=
  match s.takeShell 0x02 with
  | (none, s) => done s
  | (some m, s) => let (st, s) := s.shellCfg m.body params imageOk; done (s.ackMsg m st)

/-- R493: an audit extract as one AUDIT record, or health alone. -/
def State.shellStatus (s : State) (b : List Byte) (mismatch : Bool) : Nat × State :=
  let sel := beNat (slice b 0 1)
  let first := beNat (slice b 4 4)
  let n := beNat (slice b 8 4)
  let v := s.shell.nv
  if b.length ≠ 12 || 1 < sel then (3, s)
  else if sel = 0 then (0, s)
  else if s.shell.refuses then (1, s)
  else if first = 0 || n = 0 || 128 < n || v.audit.length < first + n - 1 then (3, s)
  else (0, s.createRec 7 0xFF 0xFF (4 * b2n (s.shell.time == .holdover)) s.shellNow s.shellNow 0
    (beBytes 4 first ++ beBytes 4 n ++ ((v.audit.drop (first - 1)).take n).flatten) mismatch)

def execStatus (mismatch : Bool) (s : State) : Outcome State Fault Refusal :=
  match s.takeShell 0x05 with
  | (none, s) => done s
  | (some m, s) => let (st, s) := s.shellStatus m.body mismatch; done (s.ackMsg m st)

end Sys2Proof.Machine
end

