-- ==== Sys2Proof/Machine/Act.lean ====
section
/-! DEFINITION. Activation, ranging and registration (chapter 5): the states of Table ACT-2, ID loss, the acceptance of
downstream messages (R75, R76, R215, R216) and the reactions of Table ACT-5 that belong to this chapter. -/

namespace Sys2Proof.Machine

open Host (Outcome)
open Crypto (beBytes beNat slice)

/-! ## States -/

/-- T4, or T7 if twin operation is enabled and the Acorn is not held. -/
def State.operating (s : State) : TState := if s.twinOn && !s.acorn then .t7 else .t4

/-- R192, R199: entry to T2. -/
def State.enterT2 (s : State) (anchor : Nat) : State :=
  let (k, s) := s.drawBelow (s.fld Reg.ACT_ANN_CTRL 7 0 + 1)
  (s.modAct (fun a => { a with anchor := some anchor, skip := k, annCount := 0 })).setT .t2

/-- Entry to T1: the anchor is given up, the first message of each stream counts as new (R76), the dispersion scan runs
(R96). -/
def State.enterT1 (s : State) : State :=
  let s := s.modAct (fun a => { a with anchor := none, own := none, bcast := none, toRange := none, toHeld := none })
  (((List.range 4).foldl (fun s n => s.startScan n) s).setT .t1).reconsider

/-- Timers of Table ACT-2 start; none runs while silenced (R193). -/
def State.startRange (s : State) : State :=
  if s.act.state = .t6 then s else
  s.modAct (fun a => { a with toRange := some (s.ticks + s.fld Reg.ACT_TO_RANGE 15 0 * 1000 * ticksPerUs) })

def State.startHeld (s : State) : State :=
  if s.act.state = .t6 then s else
  s.modAct (fun a => { a with toHeld := some (s.ticks + s.fld Reg.ACT_TO_HELD 15 0 * 1000 * ticksPerUs) })

/-- ID loss (R195), in the order of its steps. -/
def State.idLoss (s : State) : State :=
  -- 1: the gate closes for every grant but announcement windows
  let s := s.modUsq (fun u => { u with grants := u.grants.filter (fun g => g.kind = .announce) })
  let s := (List.range 4).foldl (fun s n => ((s.ubtCh n).bursts.filter (fun b => b.g.kind ≠ .announce)).foldl
    (fun s b => if b.launched then s.cut n b (some 7) else s.abandon n b) s) s
  -- 2: the Acorn is dropped
  let s := if s.twinOn && s.twn.lease.holds then
      let up := s.twn.link.up
      let s := s.dropAcorn up
      if up then s else s.lostByExpiry
    else s.modLease (fun l => { l with claim := none, preparing := false })
  -- 3 and 4: armed requests and the upstream control queue
  let s := s.modAct (fun a => { a with uq := [] })
  -- 5: delays
  let s := (List.range 4).foldl (fun s n => s.modActCh n (fun c => { c with
    armed := none, rtd := none, rtdOld := none, dDown := 0, dUp := 0, provisional := false })) s
  -- 6: keys
  let s := s.clearKeys 6
  -- 7: holdover
  let s := s.enterHoldover false
  -- 8 and 9; the tunnel's initiator resets (R575, R664)
  let s := s.modAct (fun a => { a with tid := none, nonce := none })
  let s := s.initiatorReset 9
  (((s.raise Reg.ACT_STATUS 2).bump Reg.ACT_CNT_ID_LOSS).reportElig).reconsider

/-- KEK = K(1) ‖ K(2) (R210). -/
def State.kekOf (s : State) (tid : Nat) (nonce : List Byte) : List Byte :=
  let k (i : Nat) : List Byte := Crypto.cmac s.boot.kreg (beBytes 1 i ++
    [0x53, 0x43, 0x41, 0x2D, 0x4B, 0x45, 0x4B, 0x00] ++ beBytes 8 s.serial ++ beBytes 2 tid ++ nonce ++ [0x01, 0x00])
  k 1 ++ k 2

def State.deriveKek (s : State) (tid : Nat) (nonce : List Byte) : State :=
  (s.modLsc (fun l => { l with kek := some (s.kekOf tid nonce) })).modAct (fun a => { a with nonce := some nonce })

/-- A terminal ID is taken: T3, with ACT_TO_RANGE from zero. -/
def State.takeId (s : State) (tid : BitVec 10) (nonce : List Byte) : State :=
  let s := (s.deriveKek tid.toNat nonce).modAct (fun a => { a with tid := some tid })
  ((s.raise Reg.ACT_STATUS 1).setT .t3).startRange

/-- KCV (R211); zero with no KEK (R379). -/
def State.kcv (s : State) : List Byte :=
  match s.lsc.kek, s.act.tid with
  | some kek, some t => (Crypto.aes kek (beBytes 8 s.serial ++ beBytes 2 t.toNat ++ List.replicate 6 0)).take 4
  | _, _ => [0, 0, 0, 0]

def State.rangedChs (s : State) : List Nat := (List.range 4).filter s.ranged

/-- The rows of Table ACT-2 on channel conditions and the Acorn, for the state they are judged against; the first that
applies. -/
def State.conditionRows (s : State) : State :=
  match s.tstate with
  | .t1 =>
    match lowestCh (fun n => s.chEnabled n && s.mfSync n) with
    | none => s
    | some n =>
      if (s.ceiling 0).isSome then s.enterT2 n
      else if s.act.noCeilingSet then s
      else (s.modAct (fun a => { a with noCeilingSet := true })).raise Reg.ACT_STATUS 10
  | .t2 =>
    match s.act.anchor with
    | some a => if s.dsLost a then s.enterT1 else s
    | none => s
  | .t3 =>
    match s.act.anchor with
    | some a => if s.dsLost a then s.idLoss.enterT1 else s
    | none => s
  | .t4 =>
    if !s.rangedChs.isEmpty && s.rangedChs.all s.dsLost then (s.setT .t5).startHeld
    else if s.twinOn && !s.acorn then s.setT .t7 else s
  | .t7 =>
    if !s.rangedChs.isEmpty && s.rangedChs.all s.dsLost then ((s.setT .t5).startHeld).reportElig
    else if s.acorn then s.setT .t4 else s
  | .t5 =>
    if s.rangedChs.any s.mfSync then
      ((s.modAct (fun a => { a with toHeld := none })).setT s.operating).reportElig
    else s
  | _ => s

/-! ## Silence (R224 to R227) -/

/-- A management controller runs, or none has been loaded that could be halted. -/
def State.mcusRun (s : State) : Bool :=
  let halted := s.boot.mcus.any (fun e => e.2.state == .halted || e.2.state == .restarting)
  !halted || s.boot.mcus.any (fun e => e.2.state == .running)

/-- The state moves to T6; armed requests lapse, timers stop. -/
def State.enterT6 (s : State) : State :=
  let st := s.act.state
  if st = .t0 ∨ st = .t6 then s else
  let armed := (List.range 4).filter (fun n => (s.actCh n).armed.isSome)
  let s := armed.foldl (fun s n => s.modActCh n (fun c => { c with armed := none })) s
  let s := s.count Reg.ACT_CNT_RANGE_LAPSE armed.length
  let s := s.modAct (fun a => { a with
    prior := st, toRange := none, toHeld := none
    silence := a.silence.map (fun x => { x with owed := false }) })
  (s.setT .t6).reportElig

/-- Leaving T6 (Table ACT-2, R227). -/
def State.leaveT6 (s : State) : State :=
  let p := s.act.prior
  let lost := !s.rangedChs.isEmpty && s.rangedChs.all s.dsLost
  let p := if (p = .t4 ∨ p = .t7) ∧ lost then .t5 else p
  let ack := s.act.unsilenceAck
  let s := ((s.operates p).modAct (fun a => { a with state := p, unsilenceAck := none })).raise Reg.ACT_STATUS 0
  let s := if p = .t3 then s.startRange else if p = .t5 then s.startHeld else s
  let s := match ack with
    | some m => s.queueMsg m
    | none => s
  s.conditionRows.reportElig

/-- The latch clears. -/
def State.endSilence (s : State) : State :=
  let s := ((s.modAct (fun a => { a with silence := none })).raise Reg.ACT_STATUS 9).raise Reg.UBT_STATUS 1
  if s.act.state = .t6 then s.leaveT6
  else
    match s.act.unsilenceAck with
    | some m => (s.modAct (fun a => { a with unsilenceAck := none })).queueMsg m
    | none => s

/-! ## Accepting a message (R45, R75, R76, R215, R216) -/

/-- What the acceptance tests make of a message. -/
inductive Verdict where
  /-- another terminal's: skipped -/
  | foreign
  /-- a repeat of the last message acted on in its stream -/
  | again
  /-- discarded and counted in ACT_CNT_MSG_BAD -/
  | bad
  | act
  deriving DecidableEq, Repr

/-- The message is in the broadcast stream. -/
def isBcast (m : MsgIn) : Bool := m.addr == 1023

def State.streamOf (s : State) (m : MsgIn) : Option (Byte × Option UpMsg) :=
  if isBcast m then s.act.bcast else s.act.own

/-- Judge a message: `ok` says that its body is well formed, `states` where the type is acted on. -/
def State.judge (s : State) (m : MsgIn) (ok : Bool) (states : List TState) : Verdict :=
  if !isBcast m && s.act.tid ≠ some m.addr then .foreign
  else if (s.streamOf m).map (·.1) = some m.seq then .again
  else if ok && states.contains s.act.state then .act
  else .bad

/-- R76: a message has been acted on, with the answer a repeat sends again. The stream was not begun anew meanwhile. -/
def State.acted (s : State) (m : MsgIn) (answer : Option UpMsg) : State :=
  let e := some (m.seq, answer)
  s.modAct (fun a => if isBcast m then { a with bcast := e } else { a with own := e })

/-- The message counts as acted on before its reaction; its answer is queued and kept. -/
def State.answer (s : State) (m : MsgIn) (type : Nat) (body : List Byte) : State :=
  let u : UpMsg := ⟨type, m.seq, body⟩
  (s.acted m (some u)).queueMsg u

/-- A repeat (R76): the answer is sent again. -/
def State.repeated (s : State) (m : MsgIn) : State :=
  let s := s.bump Reg.ACT_CNT_MSG_REPEAT
  match s.streamOf m with
  | some (_, some u) => s.queueMsg u
  | _ => s

def State.badMsg (s : State) : State := s.bump Reg.ACT_CNT_MSG_BAD

/-- Take a message: skip, repeat, discard, or act on it with `f` on the state that counts it as acted on. -/
def State.take (s : State) (m : MsgIn) (ok : Bool) (states : List TState) (f : State → State) : State :=
  match s.judge m ok states with
  | .foreign => s
  | .again => s.repeated m
  | .bad => s.badMsg
  | .act => f ((s.acted m none).bump Reg.ACT_CNT_MSG_ACTED)

def t1to7 : List TState := [.t1, .t2, .t3, .t4, .t5, .t6, .t7]
def t2to7 : List TState := [.t2, .t3, .t4, .t5, .t6, .t7]
def t3to7 : List TState := [.t3, .t4, .t5, .t6, .t7]

/-! ## ASSIGN_ID -/

/-- The rows of Table ACT-2 for an ASSIGN_ID of this serial. -/
def State.assignOwn (s : State) (tid : BitVec 10) (remove : Bool) (nonce : List Byte) : State :=
  let st := s.tstate
  let inId := [TState.t3, .t4, .t5, .t7].contains st
  if remove then
    if st = .t2 ∨ inId then s.idLoss.enterT1 else s
  else if st = .t2 then s.takeId tid nonce
  else if !inId then s
  else if s.act.tid = some tid then
    if s.act.nonce = some nonce ∧ s.lsc.kek.isSome then s else s.deriveKek tid.toNat nonce
  else s.idLoss.takeId tid nonce

/-- `ASSIGN_ID` (R193). One for another serial without the own ID is ignored silently. -/
def execAssignId (msg : MsgIn) (s : State) : Outcome State Fault Refusal :=
  let b := msg.body
  let word := beNat (slice b 8 2)
  let tid := BitVec.ofNat 10 word
  let remove := decide (2 ^ 15 ≤ word)
  let ok := b.length == 28 && word / 1024 % 32 == 0 && (remove || tid != 1023)
  let mine := decide (beNat (slice b 0 8) = s.serial)
  if ok && !mine && s.act.tid ≠ some tid && s.judge msg ok t2to7 = .act then done s
  else
    done (s.take msg ok t2to7 (fun s =>
      if mine then s.assignOwn tid remove (slice b 12 16)
      else if [TState.t3, .t4, .t5, .t7].contains s.tstate then
        (s.idLoss.enterT1).raise Reg.ACT_STATUS 3
      else s))

/-! ## Ranging -/

/-- R204: a request is armed on a channel, in place of one already armed. -/
def State.armRange (s : State) (c : Nat) (unranged : Bool) (seq : Byte) : State :=
  s.modActCh c (fun x => { x with armed := some ⟨unranged, seq, s.ticks + 100000 * ticksPerUs⟩ })

/-- `RANGE_REQ` (R204). A repeat arms the reply again once the first has been sent or has lapsed (DEDUCED from R76). -/
def execRangeReq (msg : MsgIn) (s : State) : Outcome State Fault Refusal :=
  let c := beNat (slice msg.body 0 1) % 4
  let unranged := beNat (slice msg.body 1 1) % 2 = 1
  let states := [TState.t3, .t4, .t7]
  let ok := msg.body.length == 4
  if s.judge msg ok states = .again then
    let s := s.repeated msg
    done (if ok && (s.actCh c).armed.isNone && states.contains s.act.state then s.armRange c unranged msg.seq else s)
  else done (s.take msg ok states (fun s => s.armRange c unranged msg.seq))

/-- FRX less FTX of a channel. -/
def State.feDelta (s : State) (c : Nat) : Int :=
  (s.fld (Reg.ACT_CHn_FE c) 15 0 : Int) - s.fld (Reg.ACT_CHn_FE c) 31 16

/-- D_down and D_up of R206 for a round trip, or none where R206 refuses. -/
def State.delaysOf (s : State) (c : Nat) (rtd : Int) : Option (Int × Int) :=
  let down := (rtd + s.feDelta c) / 2 + signedOf 24 (s.fld (Reg.ACT_CHn_ASYM c) 23 0)
  if 128000000 < rtd ∨ rtd < 0 ∨ rtd + s.feDelta c < 0 ∨ rtd - down < 0 then none
  else some (down, rtd - down)

/-- Frame identity (R207): multiframe and frame number, modulo the range of MF_LOW. -/
def frameSpan : Nat := 65536 * 8000
def frameId (mf : BitVec 16) (frame : Nat) : Nat := mf.toNat * 8000 + frame

/-- Frame `f` is at or after frame `g`. -/
def frameFrom (f g : Nat) : Bool := decide ((f + frameSpan - g % frameSpan) % frameSpan < frameSpan / 2)

/-- The frame of the last valid header of a channel. -/
def State.frameOf (s : State) (n : Nat) : Option Nat := (s.chan n).lastHdr.map (fun h => frameId h.mf h.frame)

/-- The advance that governs the grants of frame `f` (R202, R207). -/
def State.advFor (s : State) (n f : Nat) : Option Nat :=
  let c := s.actCh n
  if frameFrom f c.from_ then c.rtd else c.rtdOld

/-- A frame from which the newest advance governs has come: no later frame of the channel goes by an older one (R207). -/
def State.settleAdv (s : State) (n f : Nat) : State :=
  if (s.actCh n).rtdOld ≠ (s.actCh n).rtd ∧ frameFrom f (s.actCh n).from_ then
    s.modActCh n (fun c => { c with rtdOld := c.rtd }) else s

/-- R206, R207: a RANGE_TIME carried on channel `carrier` sets the delays of channel `c`, or is refused. -/
def State.setRtd (s : State) (c carrier : Nat) (delta : Bool) (raw : Nat) : Nat × State :=
  let x := s.actCh c
  let rtd : Int := if delta then (x.rtd.getD 0 : Int) + signedOf 32 raw else raw
  let d := if delta && x.rtd.isNone then none else s.delaysOf c rtd
  match d with
  | none => (1, (s.raise Reg.ACT_STATUS 5).bump Reg.ACT_CNT_RTD_REFUSED)
  | some (down, up) =>
    let s := s.modActCh c (fun x => { x with
      rtd := some rtd.toNat, dDown := down, dUp := up, rangings := x.rangings + 1
      rtdOld := if (s.frameOf carrier).isSome then x.rtd else some rtd.toNat
      from_ := match s.frameOf carrier with
        | some f => (f + 2) % frameSpan
        | none => x.from_ })
    let s := (s.raise Reg.ACT_STATUS 4).rangedCdc c (down / 256)
    let s := if s.tstate = .t3 ∧ s.act.anchor = some c then
        (s.modAct (fun a => { a with toRange := none })).setT s.operating else s
    (0, (s.sendRange.reportElig).reconsider)

/-- `RANGE_TIME` (R206). -/
def execRangeTime (msg : MsgIn) (s : State) : Outcome State Fault Refusal :=
  let b := msg.body
  let c := beNat (slice b 0 1) % 4
  done (s.take msg (b.length == 8) [.t3, .t4, .t7] (fun s =>
    let (st, s) := s.setRtd c msg.ch (beNat (slice b 1 1) % 2 = 1) (beNat (slice b 4 4))
    s.answer msg 3 (beBytes 1 c ++ beBytes 1 st ++ [0, 0] ++ beBytes 4 (BitVec.ofInt 32 (s.actCh c).dDown).toNat)))

/-- R234: a write to ACT_CHn_FE or ACT_CHn_ASYM recomputes the delays. -/
def State.recomputeDelays (s : State) (c : Nat) : State :=
  match (s.actCh c).rtd with
  | none => s
  | some r =>
    match s.delaysOf c r with
    | none => s.raise Reg.ACT_STATUS 5
    | some (down, up) => (s.modActCh c (fun x => { x with dDown := down, dUp := up })).sendRange

/-! ## PROFILE_SET and CHANNEL_SET -/

/-- The words of a profile from LOADING: one nibble per data subcarrier, low nibble first. -/
def loadingWords (b : List Byte) : Tab Word :=
  let nib := b.flatMap (fun x => [x.toNat % 16, x.toNat / 16])
  (List.range 359).filterMap (fun w =>
    let v := ((List.range 10).map (fun e => nib.getD (10 * w + e) 0 * 8 ^ e)).foldl (· + ·) 0
    if v = 0 then none else some (w, BitVec.ofNat 32 v))

/-- Every nibble is 2 to 6. -/
def loadingOk (b : List Byte) : Bool :=
  b.all (fun x => decide (2 ≤ x.toNat % 16) && decide (x.toNat % 16 ≤ 6) && decide (2 ≤ x.toNat / 16) &&
    decide (x.toNat / 16 ≤ 6))

/-- `PROFILE_SET` (R125, R126, R287): a definition becomes pending in all four Pods, or is refused. -/
def execProfileSet (msg : MsgIn) (s : State) : Outcome State Fault Refusal :=
  let b := msg.body
  done (s.take msg (b.length == 1796) t1to7 (fun s =>
    let up := beNat (slice b 0 1) % 2 = 1
    let i := beNat (slice b 1 1) % 8
    let words := loadingWords (slice b 4 1792)
    let ok := i ≠ 0 && loadingOk (slice b 4 1792) && profValid words
    let s := (List.range 4).foldl (fun s n =>
      if ok then s.setPending n up i words (BitVec.ofNat 16 (beNat (slice b 2 2))) else s.refuseProf n up) s
    if s.act.tid.isSome then
      s.answer msg 4 (beBytes 1 (b2n up) ++ beBytes 1 i ++ beBytes 1 (b2n (!ok)) ++ [0])
    else s))

/-- Channels whose skew is READY. -/
def State.readyMask (s : State) : Nat :=
  (List.range 4).foldl (fun a n => if (s.chan n).skewReady then a + 2 ^ n else a) 0

/-- The local index a Link ID is mapped to. -/
def State.linkOf (s : State) (id : BitVec 16) : Option Nat :=
  ((s.dsf.links.filter (fun e => e.2.mapped && e.2.linkId == id)).head?).map (·.1)

/-- A held CHANNEL_SET is replaced (R220): a member mask it named that no channel has reached is not applied. -/
def State.dropHeldSet (s : State) : State :=
  match s.act.held with
  | none => s
  | some h => h.entries.foldl (fun s e => match s.linkOf e.1 with
    | none => s
    | some i =>
      match (s.dlink i).change with
      | some c => if c.mf = h.mf ∧ c.reached = 0 then s.setDlink i { s.dlink i with change := none } else s
      | none => s) s

/-- `CHANNEL_SET` (R220): held for frame 0 of the named multiframe, in place of one held. -/
def execChannelSet (msg : MsgIn) (s : State) : Outcome State Fault Refusal :=
  let b := msg.body
  let n := beNat (slice b 4 2)
  let mf := BitVec.ofNat 16 (beNat (slice b 0 2))
  done (s.take msg (b.length == 6 + 4 * n && decide (n ≤ 510)) t1to7 (fun s =>
    let entries := (List.range n).map (fun k =>
      (BitVec.ofNat 16 (beNat (slice b (6 + 4 * k) 2)), BitVec.ofNat 4 (beNat (slice b (8 + 4 * k) 1))))
    let h : HeldSet :=
      { mf := mf, due := (s.chan msg.ch).lastHdr.map (fun x => dueOf x mf)
        upEn := BitVec.ofNat 4 (beNat (slice b 2 1)), guard := max 2 (beNat (slice b 3 1)), entries := entries
        carrier := msg.ch, left := 15 }
    let s := s.dropHeldSet.modAct (fun a => { a with held := some h })
    let s := entries.foldl (fun s e => match s.linkOf e.1 with
      | some i => s.setDlink i { s.dlink i with change := some ⟨e.2, mf, 0⟩ }
      | none => s) s
    if s.act.tid.isSome then s.answer msg 5 (beBytes 2 mf.toNat ++ beBytes 1 s.readyMask ++ [0]) else s))

/-- UP_EN and GUARD of a held CHANNEL_SET reach a channel. -/
def State.takeSet (s : State) (h : HeldSet) (n : Nat) : State :=
  let s := s.modActCh n (fun c => { c with upEn := h.upEn.getLsbD n, guard := h.guard })
  s.modAct (fun a => { a with held := a.held.map (fun x => { x with left := putBit x.left n false }) })

/-- `CHANNEL_SET_APPLY` (R220): the channel's own frame 0 of M arrives; on the carrying channel, M also begins for the
channels out of MF_SYNC. -/
def execChannelSetApply (ch : Chan) (s : State) : Outcome State Fault Refusal :=
  match s.act.held with
  | none => done s
  | some h =>
    if !h.left.getLsbD ch then done s
    else
      let s := s.takeSet h ch
      let s := h.entries.foldl (fun s e => match s.linkOf e.1 with
        | none => s
        | some i =>
          match (s.dlink i).change with
          | none => s
          | some c =>
            if c.mf ≠ h.mf then s
            else
              let s := if c.mask.getLsbD ch && decide (2 ≤ (bitList c.mask).length) then s.admitMember i ch else s
              s.maskReached i ch) s
      let s := if h.carrier = ch.val then
          (List.range 4).foldl (fun s n => if n ≠ ch.val && !s.mfSync n && h.left.getLsbD n then s.takeSet h n else s) s
        else s
      let s := s.modAct (fun a => { a with held := match a.held with
        | some x => if x.left = 0 then none else some x
        | none => none })
      done s.reportElig

/-! ## Keys -/

/-- `KEY_DELIVER` (R360). -/
def execKeyDeliver (msg : MsgIn) (s : State) : Outcome State Fault Refusal :=
  let b := msg.body
  done (s.take msg (b.length == 50) t3to7 (fun s =>
    let link := s.linkOf (BitVec.ofNat 16 (beNat (slice b 0 2)))
    let (st, s) := s.installKey link (beNat (slice b 2 1)) (BitVec.ofNat 15 (beNat (slice b 4 2)))
      (BitVec.ofNat 32 (beNat (slice b 6 4))) (slice b 10 40)
    s.answer msg 6 (slice b 0 2 ++ slice b 4 2 ++ beBytes 1 st ++ [0, 0, 0])))

/-- R365: the STATUS of a KEY_SWITCH; with STATUS 0 the switch is scheduled. -/
def State.scheduleSwitch (s : State) (link : Option Nat) (dir : Nat) (epoch : BitVec 15) (at_ : Nat) : Nat × State :=
  if dir % 4 = 0 ∨ dir % 4 = 3 then (3, s)
  else
    match link with
    | none => (2, s)
    | some i =>
      let kx := 2 * i + b2n (dir % 4 = 2)
      let k := s.keys kx
      if k.slots.any (fun x => (x.state == .next || x.state == .current) && x.epoch == epoch) then
        (0, s.setKeys kx { k with sched := some (epoch, at_) })
      else (6, s)

/-- `KEY_SWITCH` (R365). -/
def execKeySwitch (msg : MsgIn) (s : State) : Outcome State Fault Refusal :=
  let b := msg.body
  done (s.take msg (b.length == 20 && ntimeOk (slice b 8 11)) t3to7 (fun s =>
    let (st, s) := s.scheduleSwitch (s.linkOf (BitVec.ofNat 16 (beNat (slice b 0 2)))) (beNat (slice b 2 1))
      (BitVec.ofNat 15 (beNat (slice b 4 2))) (ntimeOf (slice b 8 11))
    s.answer msg 7 (slice b 0 2 ++ slice b 4 2 ++ beBytes 1 st ++ [0, 0, 0])))

/-! ## The lease in head-end mode (R503, R505) -/

/-- A LEASE_GRANT discarded (R503). -/
def State.leaseDisc (s : State) (cause : Nat) : State :=
  let s := s.modLease (fun l => { l with cause := cause, discAt := some s.ticks })
  (s.bump Reg.TWN_CNT_LEASE_DISC).raise Reg.TWN_STATUS 10

/-- A LEASE_GRANT with the pair's own TWIN_ID. A device without twin operation holds the Acorn permanently and takes no
part. -/
def State.leaseGrant (s : State) (expiry : Nat) : State :=
  if !s.twinOn || s.localMode then s
  else if expiry ≤ s.now ∨ s.now + pipsPerSec < expiry then s.leaseDisc 1
  else if s.twn.lease.holds || s.twn.lease.preparing then ((s.loadLease expiry).bump Reg.TWN_CNT_RENEW).sendLease
  else if !s.eligibleNow then s.leaseDisc 2
  else s.beginClaim (some expiry) false s.twn.lease.solo

/-- `LEASE_GRANT` (R503). A foreign TWIN_ID is discarded and counted here and by TWN, with cause 3. -/
def execLeaseGrant (msg : MsgIn) (s : State) : Outcome State Fault Refusal :=
  let b := msg.body
  let ok := b.length == 16 && ntimeOk (slice b 4 11)
  let own := decide (beNat (slice b 0 4) = (s.reg Reg.ACT_TWIN_ID).toNat)
  if ok && !own && s.judge msg ok t3to7 = .act then done (s.badMsg.leaseDisc 3)
  else done (s.take msg ok t3to7 (fun s => s.leaseGrant (ntimeOf (slice b 4 11))))

/-- `LEASE_REVOKE` (R505). -/
def execLeaseRevoke (msg : MsgIn) (s : State) : Outcome State Fault Refusal :=
  let b := msg.body
  let own := decide (beNat (slice b 0 4) = (s.reg Reg.ACT_TWIN_ID).toNat)
  done (s.take msg (b.length == 4 && own) t3to7 (fun s =>
    let s := if s.twinOn then (s.modLease (fun l => { l with claim := none })).dropAcorn s.twn.link.up else s
    s.answer msg 10 (slice b 0 4)))

/-! ## SILENCE and UNSILENCE, in hardware -/

/-- `SILENCE` (R224, R225). -/
def execSilence (msg : MsgIn) (s : State) : Outcome State Fault Refusal :=
  done (s.take msg (msg.body.length == 4) (.t0 :: t1to7) (fun s =>
    let ms := beNat (slice msg.body 0 2)
    let x : Silence :=
      { broadcast := isBcast msg || (s.act.silence.map (·.broadcast)).getD false
        until_ := if ms = 0 then none else some (s.ticks + ms * 1000 * ticksPerUs)
        owed := !s.mcusRun && s.act.state != .t0 && s.act.state != .t6 }
    let s := s.raiseIf s.act.silence.isNone Reg.UBT_STATUS 0
    let s := (s.modAct (fun a => { a with silence := some x })).raise Reg.ACT_STATUS 8
    let s := s.watchGate
    if s.mcusRun then s.enterT6 else s))

/-- `UNSILENCE` (R226): acknowledged on leaving T6, or at once where the terminal was not silenced. -/
def execUnsilence (msg : MsgIn) (s : State) : Outcome State Fault Refusal :=
  done (s.take msg msg.body.isEmpty (.t0 :: t1to7) (fun s =>
    let u : UpMsg := ⟨12, msg.seq, []⟩
    let s := s.acted msg (some u)
    if s.act.silence.isSome then (s.modAct (fun a => { a with unsilenceAck := some u })).endSilence
    else s.queueMsg u))

/-- `SILENCE_EXPIRY` (R226). -/
def execSilenceExpiry (s : State) : Outcome State Fault Refusal :=
  match s.act.silence with
  | some ⟨_, some t, _⟩ => done (s.passToTick t).endSilence
  | _ => done s

/-! ## Changes of state by conditions and timers -/

/-- `CHANNEL_CONDITION_TRANSITION` (R193): the first row of Table ACT-2 that a channel condition or the Acorn allows. -/
def execChannelConditionTransition (s : State) : Outcome State Fault Refusal :=
  match s.act.silence with
  | some ⟨_, _, true⟩ => done (if s.mcusRun then s.enterT6 else s)
  | _ => done s.conditionRows

/-- `TO_RANGE_EXPIRY` (R193). -/
def execToRangeExpiry (s : State) : Outcome State Fault Refusal :=
  match s.act.toRange with
  | none => done s
  | some t =>
    let s := (s.passToTick t).modAct (fun a => { a with toRange := none })
    let unranged := match s.act.anchor with
      | some a => !s.ranged a
      | none => true
    if s.act.state == .t3 && unranged then done ((s.idLoss.enterT1).raise Reg.ACT_STATUS 6) else done s

/-- `TO_HELD_EXPIRY` (R193, R197): the return of a ranged channel wins. -/
def execToHeldExpiry (s : State) : Outcome State Fault Refusal :=
  match s.act.toHeld with
  | none => done s
  | some t =>
    let s := s.passToTick t
    if s.act.state ≠ .t5 then done (s.modAct (fun a => { a with toHeld := none }))
    else if s.rangedChs.any s.mfSync then done s.conditionRows
    else done ((s.idLoss.enterT1).raise Reg.ACT_STATUS 7)

/-- `RANGE_REQ_LAPSE` (R204). -/
def execRangeReqLapse (ch : Chan) (s : State) : Outcome State Fault Refusal :=
  match (s.actCh ch).armed with
  | none => done s
  | some r =>
    let s := s.passToTick r.until_
    done ((s.modActCh ch (fun c => { c with armed := none })).bump Reg.ACT_CNT_RANGE_LAPSE)

/-! ## Register writes of this chapter -/

/-- A write of ACT_CTRL.EN (Table ACT-2). -/
def State.writeActEn (s : State) (en : Bool) : State :=
  let st := s.tstate
  if en then (if st = .t0 then s.enterT1 else s)
  else if st = .t0 then s
  else
    let s := s.idLoss
    (s.modAct (fun a => { a with toRange := none, toHeld := none })).setT .t0

/-- ACT_CMD.DEACTIVATE (R228). -/
def State.deactivate (s : State) : State :=
  if [TState.t2, .t3, .t4, .t5, .t7].contains s.tstate then s.idLoss.enterT1 else s

end Sys2Proof.Machine
end

