-- ==== Sys2Proof/Machine/TwinLink.lean ====
section
/-! DEFINITION. The twin link (chapter 13, R539 to R545): bring-up, lanes, loss, the handshake (R498), STATE (R501,
R511), and the commands of TWN_CMD, TWN_SOLO, TWN_ACORN_OVR and TWN_LOOP. -/

namespace Sys2Proof.Machine

open Host (Outcome)
open Crypto (beBytes beNat slice)

/-! ## Lanes and width (R541 to R543) -/

/-- The width a number of good lanes allows. -/
def widthOf (lanes : Nat) : Nat :=
  if 8 ≤ lanes then 8 else if 4 ≤ lanes then 4 else if 2 ≤ lanes then 2 else if 1 ≤ lanes then 1 else 0

/-- TX_USE: the lowest-numbered good lanes, as many as the width. -/
def txUseOf (good : Byte) (width : Nat) : Byte :=
  ((bitList good).take width).foldl (fun m i => putBit m i true) 0

/-- The width follows the peer's RX_GOOD; a change of it sets WIDTH_CHG while the link is up. -/
def State.setWidth (s : State) (good : Byte) : State :=
  let w := widthOf (bitList good).length
  let old := s.twn.link.width
  let s := s.modLinkT (fun l => { l with peerGood := good, width := w, txUse := txUseOf good w })
  s.raiseIf (s.twn.link.up && w != old) Reg.TWN_STATUS 7

/-- Taps inside the ranges of R542; the PRESET ones where the given taps are not. -/
def tapsOf (t : Nat × Nat × Nat) : Nat × Nat × Nat :=
  let (pre, main, post) := t
  if pre ≤ 15 ∧ 16 ≤ main ∧ main ≤ 63 ∧ post ≤ 31 ∧ pre + post ≤ main then t else (0, 48, 8)

/-- The lanes after training at a step: their taps are where the exchange of TRAIN words left them. -/
def State.setLanes (s : State) (rxGood : Byte) (taps : List (Nat × Nat × Nat)) : State :=
  (List.range 8).foldl (fun s i =>
    let (pre, main, post) := tapsOf (taps.getD i (0, 48, 8))
    s.modLinkT (fun l => { l with lanes := Tab.modify Lane.reset l.lanes i (fun x => { x with
      lock := rxGood.getLsbD i, ready := rxGood.getLsbD i, pre := pre, main := main, post := post }) })) s

/-- A loop of R545 is selected here or was asked for by the peer. -/
def State.twinLooped (s : State) : Bool := s.twn.link.loopFar || s.fld Reg.TWN_LOOP 1 0 != 0

/-- `TWIN_LINK_UP` (R541): training at a step has ended on every lane kept. At step 0 the link comes up and HELLO is
sent; at a later step the next rate is reached. -/
def execTwinLinkUp (rxGood peerGood : Byte) (taps : List (Nat × Nat × Nat)) (s : State) :
    Outcome State Fault Refusal :=
  if !s.rbit Reg.TWN_CTRL 3 || s.twinLooped then done s
  else
    let l := s.twn.link
    if l.up && !l.training then done s
    else
      let s := (s.setLanes rxGood taps).modLinkT (fun l => { l with rxGood := rxGood })
      if !l.up then
        let s := s.setWidth peerGood
        let s := s.modLinkT (fun l => { l with up := true, training := false, rate := 0, target := 0, lostAt := none })
        done (s.raise Reg.TWN_STATUS 6).sendHello
      else
        let s := s.setWidth peerGood
        done (s.modLinkT (fun l => { l with rate := l.rate + 1, training := decide (l.rate + 1 < l.target) }))

/-- `TRAIN_TIMEOUT` (R541): the step is abandoned, and the previous one is the rate until the next bring-up. Step 0 has
no previous step: it is tried again. -/
def execTrainTimeout (s : State) : Outcome State Fault Refusal :=
  let l := s.twn.link
  if !s.rbit Reg.TWN_CTRL 3 || (l.up && !l.training) then done s
  else done ((s.modLinkT (fun l => { l with training := false, target := l.rate })).raise Reg.TWN_STATUS 8)

/-! ## Loss of the link (R508 to R510, R534, R544) -/

/-- The link is lost, or its bring-up is begun again by RETRAIN. -/
def State.twinLost (s : State) : State :=
  if !s.twn.link.up then s else
  let l := s.twn.lease
  let s := (s.bump Reg.TWN_CNT_LINK_DOWN).raise Reg.TWN_STATUS 6
  let s := s.modLinkT (fun x => { x with
    up := false, training := true, rate := 0, target := 0, width := 0, txUse := 0, rxGood := 0, peerGood := 0
    lostAt := some s.ticks
    lanes := (x.lanes.map (fun (e : Nat × Lane) => (e.1, { e.2 with lock := false, ready := false }))).filter
      (fun (e : Nat × Lane) => e.2 ≠ Lane.reset) })
  let s := s.modLease (fun l => { l with paired := false, finalOwed := false, releaseOwed := false })
  let sync := if l.sync = 3 then 4 else if l.sync = 1 ∨ l.sync = 2 then 0 else l.sync
  let s := if l.paired then
      (s.setSync sync).raiseIf (l.holds || (l.sync == 3)) Reg.TWN_STATUS 4
    else s
  if !s.twinOn || !s.localMode || !l.paired then s
  else if l.holds then
    if l.peerEligible then s else s.modLease (fun l => { l with orphan := true })
  else if l.eligible && l.claim.isNone && !l.preparing then s.beginClaim none true false
  else s

def execTwinLinkLost (s : State) : Outcome State Fault Refusal := done s.twinLost

/-- `LANE_LOCK_LOSS` (R543): a lane loses lock at this receiver or at the peer's. The messages of the link frame are
sent again. -/
def execLaneLockLoss (lane : Fin 8) (atPeer : Bool) (violations retries : Nat) (s : State) :
    Outcome State Fault Refusal :=
  let good := if atPeer then s.twn.link.peerGood else s.twn.link.rxGood
  if !s.twn.link.up || !good.getLsbD lane then done s
  else
    let s := (s.bump Reg.TWN_CNT_LANE_DROP).count Reg.TWN_CNT_MSG_RETRY retries
    if atPeer then done (s.setWidth (putBit good lane false))
    else
      done (s.modLinkT (fun l => { l with
        rxGood := putBit good lane false
        lanes := Tab.modify Lane.reset l.lanes lane (fun x => { x with
          lock := false, ready := false, cv := x.cv + BitVec.ofNat 32 violations }) }))

/-- `LANE_RETURN` (R543). -/
def execLaneReturn (lane : Fin 8) (atPeer : Bool) (s : State) : Outcome State Fault Refusal :=
  if !s.twn.link.up then done s
  else if atPeer then done (s.setWidth (putBit s.twn.link.peerGood lane true))
  else
    done (s.modLinkT (fun l => { l with
      rxGood := putBit l.rxGood lane true
      lanes := Tab.modify Lane.reset l.lanes lane (fun x => { x with lock := true, ready := true }) }))

/-- `PEER_LOST` (R534): the peer has been lost for 1 s. -/
def execPeerLost (s : State) : Outcome State Fault Refusal :=
  match s.twn.link.lostAt with
  | none => done s
  | some t =>
    let s := s.passToTick (t + 1000000 * ticksPerUs)
    let s := (s.modLinkT (fun l => { l with lostAt := none })).setSync 0
    done (s.raiseIf s.twn.lease.holds Reg.TWN_STATUS 5)

/-! ## HELLO (R498, R511, R531) -/

/-- The peer's lease as HELLO or STATE gives it: an expiry is recorded while the peer holds. -/
def State.peerLease (s : State) (holds : Bool) (expiry : Nat) : State :=
  s.modPeer (fun p => { p with
    holds := holds
    expiry := if holds then some expiry else p.expiry
    finalSeen := p.finalSeen && !(holds && !p.holds) })

/-- A successful handshake. -/
def State.handshake (s : State) (peerHolds : Bool) : State :=
  let own := s.twn.lease.holds
  let s := s.modLease (fun l => { l with
    paired := true, lostByExpiry := false, solo := false, orphan := false, yielded := false, peerEligible := false
    eligible := false, toldElig := false, toldReady := false, heldSince := own || peerHolds
    claim := if peerHolds then none else l.claim })
  let s := s.modPeer (fun p => { p with ready := false, echoes := [], echo := none })
  let s := s.modMir (fun m => { m with sentQueues := [], sentLinks := [], sentCtrs := [] })
  let s := if own || peerHolds then s.startBulk else s
  s.reportElig

/-- `HELLO` (R498): the first of a bring-up completes or fails the handshake; a later one updates the record of the
peer's lease (R504). The rate both can reach is stepped up to (R541). -/
def execHello (body : List Byte) (s : State) : Outcome State Fault Refusal :=
  if !s.twn.link.up || body.length ≠ 29 then done s
  else
    let flags := beNat (slice body 12 1)
    let holds := flags.testBit 2
    let target := min (s.fld Reg.TWN_CTRL 6 4) (beNat (slice body 13 1))
    let s := if s.twn.lease.paired then s
      else s.modLinkT (fun l => { l with target := target, training := decide (l.rate < target) })
    let ok := s.twinOn && decide (beNat (slice body 8 4) = (s.reg Reg.ACT_TWIN_ID).toNat) &&
      decide (s.reg Reg.ACT_TWIN_ID ≠ 0) && flags.testBit 0 != s.twinBit && flags.testBit 1 == s.localMode
    let s := s.modPeer (fun p => { p with
      serial := beNat (slice body 0 8), gen := BitVec.ofNat 32 (beNat (slice body 14 4)) })
    if s.twn.lease.paired then done (s.peerLease holds (ntimeOf (slice body 18 11)))
    else if ok then done ((s.peerLease holds (ntimeOf (slice body 18 11))).handshake holds)
    else done (s.raise Reg.TWN_STATUS 9)

/-! ## STATE (R501, R504, R511) -/

/-- What the holder makes of STATE: the peer's eligibility, acknowledged, and its SYNC (R499, R501). -/
def State.stateAtHolder (s : State) (elig : Bool) (sync : Nat) : State :=
  let s := (s.modLease (fun l => { l with peerEligible := elig })).setSync sync
  if elig then s.sendState false true else s

/-- What a device without the Acorn makes of STATE: the echo makes it eligible; a peer that takes the Acorn makes it a
standby in BULK (R511, R531). -/
def State.stateAtStandby (s : State) (echo began : Bool) : State :=
  let s := if echo && s.twn.lease.toldElig then s.modLease (fun l => { l with eligible := true }) else s
  if began then
    let s := s.modLease (fun l => { l with heldSince := true, claim := none })
    if s.twn.lease.sync = 0 ∨ s.twn.lease.sync = 4 then s.startBulk else s
  else s

/-- `TWIN_STATE` (R501, R504, R511). -/
def execTwinState (body : List Byte) (s : State) : Outcome State Fault Refusal :=
  if !s.twn.lease.paired || body.length ≠ 13 then done s
  else
    let flags := beNat (slice body 0 1)
    let holds := flags.testBit 2
    let began := holds && !s.twn.peer.holds
    let s := s.peerLease holds (ntimeOf (slice body 2 11))
    let ready := flags.testBit 3
    let s := s.modPeer (fun p => { p with ready := ready })
    let s := if ready then s else s.modLease (fun l => { l with yielded := false })
    let s := if s.twn.lease.holds then s.stateAtHolder (flags.testBit 0) (beNat (slice body 1 1) % 8)
      else s.stateAtStandby (flags.testBit 1) began
    done s.reportElig

/-! ## ECHO (R514, Table TWN-3) -/

/-- `TWIN_ECHO_SEND`: T1 is the peer's send time of the ECHO received last, T2 the time it came, T3 now. -/
def execTwinEchoSend (s : State) : Outcome State Fault Refusal :=
  if !s.twinOn then done s
  else
    let (t1, t2) := s.twn.peer.echo.getD (0, 0)
    done (s.sendTwin 0x06 (ntimeBytes t1 ++ ntimeBytes t2 ++ ntimeBytes s.now))

/-- `TWIN_ECHO`: the difference of the two times from one exchange; after every 16 their mean is TWN_TIME_OFS. An ECHO
that answers none of this device's measures nothing. -/
def execTwinEcho (body : List Byte) (arrival : Nat) (s : State) : Outcome State Fault Refusal :=
  let s := s.passTo arrival
  if !s.twn.lease.paired || body.length ≠ 33 then done s
  else
    let t1 : Int := ntimeOf (slice body 0 11)
    let t2 : Int := ntimeOf (slice body 11 11)
    let t3 := ntimeOf (slice body 22 11)
    let s := s.modPeer (fun p => { p with echo := some (t3, arrival) })
    if t1 = 0 then done s
    else
      let ofs := ((t2 - t1) + ((t3 : Int) - arrival)) / 2
      let s := s.modPeer (fun p => { p with echoes := ofs :: p.echoes })
      let es := s.twn.peer.echoes
      if es.length < 16 then done s
      else
        let mean := Int.tdiv (es.foldl (· + ·) 0) 16
        let s := s.modPeer (fun p => { p with echoes := [], timeOfs := mean })
        done (s.raiseIf (decide (s.guardPips < 2 * mean.natAbs)) Reg.TWN_STATUS 11)

/-! ## Writes of the TWN block -/

/-- TWN_CMD.HANDOVER (R512, R546). -/
def State.handover (s : State) : State :=
  if s.twn.lease.holds && s.twn.link.up && s.twn.lease.paired && s.twn.lease.peerEligible then s.dropAcorn true
  else s.raise Reg.TWN_STATUS 15

/-- TWN_CMD (Table TWN-9): HANDOVER, RETRAIN. -/
def State.writeTwnCmd (s : State) (v : Word) : State :=
  let s := if v.getLsbD 0 then s.handover else s
  if v.getLsbD 1 then s.twinLost else s

/-- TWN_SOLO (R513). -/
def State.writeSolo (s : State) (v : Word) : State :=
  if !v.getLsbD 0 then s
  else if s.twn.lease.paired then s.raise Reg.TWN_STATUS 15
  else
    let s := s.modLease (fun l => { l with solo := true, lostByExpiry := false, orphan := l.holds })
    s.reportElig

/-- TWN_ACORN_OVR: a change of what condition 6 of Table UBT-6 reads. -/
def State.writeAcornOvr (s : State) (v : Word) : State :=
  let s := s.modLease (fun l => { l with forceOff := v.getLsbD 0, forceOn := v.getLsbD 1 })
  s.watchGate.conditionRows.reportElig

/-- TWN_LOOP (R545): a loop is refused while twin operation is enabled. A far-end loop is asked for with LOOP. -/
def State.writeTwinLoop (s : State) (v : Word) : State :=
  let new := bitsOf v.toNat 1 0
  let old := s.fld Reg.TWN_LOOP 1 0
  if new ≠ 0 ∧ s.twinOn then s
  else
    let s := s.setReg Reg.TWN_LOOP (BitVec.ofNat 32 new)
    if new = 3 ∧ old ≠ 3 then s.send (.twinLoop true)
    else if old = 3 ∧ new ≠ 3 then s.send (.twinLoop false)
    else s

/-- `LOOP` (R545): obeyed only while the device's own TWIN_EN is 0. -/
def execLoop (start : Bool) (s : State) : Outcome State Fault Refusal :=
  if s.twinOn then done s else done (s.modLinkT (fun l => { l with loopFar := start }))

end Sys2Proof.Machine
end

