-- ==== Sys2Proof/Machine/TwinMirror.lean ====
section
/-! DEFINITION. The mirrored state of chapter 13: marks and checks (R520 to R527), key metadata and counters (R519,
R372), shaper values, the peer's records, and the bulk copy (R531). -/

namespace Sys2Proof.Machine

open Host (Outcome)
open Crypto (beBytes beNat slice)

/-- A message of the mirror is taken: the pair has shaken hands. -/
def State.mirrorIn (s : State) : Bool := s.twinOn && s.twn.lease.paired

/-- The device sends what the active sends. -/
def State.mirrorOut (s : State) (type : Nat) : Bool := s.twinOn && s.twn.lease.holds && s.canTwin type

/-- Entries of `n` bytes from offset `off`. -/
def entriesOf (b : List Byte) (off n count : Nat) : List (List Byte) :=
  (List.range count).map (fun k => slice b (off + n * k) n)

/-- NS32 and pips of a snapshot. -/
def snapBytes (t : Nat) : List Byte := beBytes 4 (ns32Of t).toNat ++ beBytes 1 (t % 256)

/-- The next network time that is a multiple of `n` pips comes. -/
def State.passToMultiple (s : State) (n : Nat) : State := s.passTo ((s.now / n + 1) * n)

/-! ## MARK (R521, R522, R527) -/

/-- SENT_POS of a queue: where the first frame not wholly sent in ended bursts begins; POS where there is none. -/
def State.sentPosOf (s : State) (q : Nat) : Nat :=
  match leastOf ((s.liveFrames q).map (fun f => f.pos - f.len)) with
  | some p => p
  | none => (s.queue q).pos

/-- The body of a MARK: the queues and Links whose values changed since the previous snapshot. -/
def State.markBody (s : State) (final : Bool) : List Byte :=
  let qs := (s.usq.queues.filter (fun (e : Nat × Queue) =>
    isUs e.1 && s.sentPosOf e.1 != Tab.get 0 s.twn.mir.sentQueues e.1)).map (fun (e : Nat × Queue) =>
      (e.1, s.sentPosOf e.1))
  let ls := (s.usq.links.filter (fun (e : Nat × ULink) =>
    (e.2.nextSeq.toNat, e.2.turn) != Tab.get (0, 0) s.twn.mir.sentLinks e.1)).map (fun (e : Nat × ULink) =>
      (e.1, e.2.nextSeq.toNat + 4096 * (e.2.turn % 4)))
  snapBytes s.now ++ beBytes 1 (b2n final) ++
    beBytes 2 qs.length ++ qs.flatMap (fun x => beBytes 2 x.1 ++ beBytes 6 x.2) ++
    beBytes 2 ls.length ++ ls.flatMap (fun x => beBytes 2 x.1 ++ beBytes 2 x.2)

/-- The snapshot becomes the previous one. -/
def State.markTaken (s : State) : State :=
  let qs := s.usq.queues.filter (fun (e : Nat × Queue) => isUs e.1)
  let s := qs.foldl (fun s (e : Nat × Queue) =>
    let p := s.sentPosOf e.1
    (s.modQueue e.1 (fun x => { x with sentPos := p })).modMir (fun m => { m with
      sentQueues := Tab.set 0 m.sentQueues e.1 p })) s
  let s := s.usq.links.foldl (fun s (e : Nat × ULink) => s.modMir (fun m => { m with
    sentLinks := Tab.set (0, 0) m.sentLinks e.1 (e.2.nextSeq.toNat, e.2.turn) })) s
  s.modMir (fun m => { m with markTick := some s.ticks })

/-- `MARK_SEND` (R521). -/
def execMarkSend (s : State) : Outcome State Fault Refusal :=
  if !s.mirrorOut 0x20 then done s
  else
    let s := s.passToMultiple 2560000
    done (s.sendTwin 0x20 (s.markBody false)).markTaken

/-- Every open burst of the device has ended or been cut. -/
def State.burstsOver (s : State) : Bool :=
  (List.range 4).all (fun n => (s.ubtCh n).bursts.all (fun b => !b.launched))

/-- `FINAL_MARK` (R527): the final MARK, in class 1, and RELEASE after it where it is owed. -/
def execFinalMark (s : State) : Outcome State Fault Refusal :=
  let l := s.twn.lease
  if !l.finalOwed || !s.burstsOver then done s
  else
    let s := s.modLease (fun l => { l with finalOwed := false, releaseOwed := false })
    if !s.canTwin 0x20 then done s
    else
      let s := (s.sendClass 1 0x20 (s.markBody true)).markTaken
      done (if l.releaseOwed then s.sendTwin 0x05 [] else s)

/-- SENT_POS of a queue is received (R522). Only an aligned queue is trimmed: the positions of another mean nothing
(DEDUCED from R529). -/
def State.markQueue (s : State) (q pos : Nat) : State :=
  let x := s.queue q
  let s := s.modQueue q (fun x => { x with sentPos := pos })
  if !x.aligned then s
  else
    let floor := match x.frames with
      | f :: _ => f.pos - f.len
      | [] => x.pos
    let s := s.trimTo q pos
    if x.pos < pos then s.modQueue q (fun x => { x with trim := some pos })
    else if floor < pos && !x.frames.any (fun f => f.pos = pos) then s.unalign q
    else s

/-- The entries of a MARK: by queue SENT_POS, by Link NEXT_SEQ and TURN. -/
def markEntries (b : List Byte) : List (Nat × Nat) × List (Nat × Nat × Nat) :=
  let nq := beNat (slice b 6 2)
  let nl := beNat (slice b (8 + 8 * nq) 2)
  ((entriesOf b 8 8 nq).map (fun e => (beNat (slice e 0 2), beNat (slice e 2 6))),
    (entriesOf b (10 + 8 * nq) 4 nl).map (fun e =>
      (beNat (slice e 0 2), beNat (slice e 2 2) % 4096, beNat (slice e 2 2) / 4096 % 4)))

/-- `MARK` (R522). A claim that waited for the final MARK goes on (R546). -/
def execMark (body : List Byte) (s : State) : Outcome State Fault Refusal :=
  if !s.mirrorIn || s.twn.lease.holds || body.length < 10 then done s
  else
    let (qs, ls) := markEntries body
    let s := qs.foldl (fun s e => if isUs e.1 then s.markQueue e.1 e.2 else s) s
    let s := s.modPeer (fun p => { p with
      markLinks := ls.foldl (fun t e => Tab.set (0, 0) t e.1 e.2) p.markLinks })
    let s := s.modMir (fun m => { m with markTick := some s.ticks })
    if (beNat (slice body 5 1)).testBit 0 then
      let s := s.modPeer (fun p => { p with finalSeen := true })
      match s.twn.lease.markWait, s.twn.lease.claim with
      | true, some c => done (s.prepare c)
      | _, _ => done s
    else done s

/-! ## CHECK (R523, R524, R526) -/

/-- The queue admitted no frame in the last 1 ms and holds none. -/
def State.queueIdle (s : State) (q : Nat) : Bool :=
  (s.liveFrames q).isEmpty && match (s.queue q).admittedAt with
    | some t => decide (t + 1000 * ticksPerUs ≤ s.ticks)
    | none => true

/-- Queues a CHECK has an entry for. -/
def State.checkQueues (s : State) : List Nat :=
  (s.usq.queues.filter (fun (e : Nat × Queue) =>
    isUs e.1 && (e.2.checkDue || (e.2.enable && !e.2.aligned && s.queueIdle e.1)))).map (·.1)

def State.checkEntry (s : State) (q : Nat) : List Byte :=
  let x := s.queue q
  beBytes 2 q ++ beBytes 6 x.f ++ beBytes 6 x.pos ++ beBytes 4 x.acc.toNat ++
    beBytes 1 (b2n (s.queueIdle q) + 2 * b2n x.srcS)

/-- `CHECK_SEND` (R523). -/
def execCheckSend (s : State) : Outcome State Fault Refusal :=
  if !s.mirrorOut 0x21 then done s
  else
    let s := s.passToMultiple 256000000
    let qs := s.checkQueues
    let s := s.sendTwin 0x21 (snapBytes s.now ++ beBytes 4 s.twn.mir.gen.toNat ++ beBytes 2 qs.length ++
      qs.flatMap s.checkEntry)
    done (qs.foldl (fun s q => s.modQueue q (fun x => { x with checkDue := false, srcS := false })) s)

/-- The standby's position and check value after frame `f`, where it still has them. -/
def Queue.afterFrame (x : Queue) (f : Nat) : Option (Nat × Word) :=
  if x.f = f then some (x.pos, x.acc)
  else match x.frames.find? (fun y => y.f = f), x.lastTrim with
    | some y, _ => some (y.pos, y.acc)
    | none, some (g, p, a) => if g = f then some (p, a) else none
    | none, none => none

/-- R526: the queue is rebased on a reported state; `snap` is the snapshot's time modulo 2^40 pips. -/
def State.rebase (s : State) (q snap f pos : Nat) (acc : Word) : State :=
  let span := 2 ^ 40
  let old := (s.queue q).frames.filter (fun y =>
    let d := (snap + span - y.admitAt % span) % span
    decide (0 < d) && decide (d < span / 2))
  let s := old.foldl (fun s y => s.dropFrame q y) s
  (s.modQueue q (fun x => { x with
    pos := pos, f := f, acc := acc, trim := none, waits := [], aligned := true })).bump Reg.TWN_CNT_REALIGN

/-- One entry of a CHECK (R524 to R526). -/
def State.checkOne (s : State) (snap : Nat) (e : List Byte) : State :=
  let q := beNat (slice e 0 2)
  let f := beNat (slice e 2 6)
  let pos := beNat (slice e 8 6)
  let acc := BitVec.ofNat 32 (beNat (slice e 14 4))
  let flags := beNat (slice e 18 1)
  if !isUs q then s
  else
    let x := s.queue q
    if flags.testBit 1 then s.unalign q
    else if !x.aligned then (if flags.testBit 0 then s.rebase q snap f pos acc else s)
    else if x.f < f then s.modQueue q (fun x => { x with
      waits := x.waits ++ [(f, pos, acc, s.ticks + 1000 * ticksPerUs)] })
    else match x.afterFrame f with
      | none => s.bump Reg.TWN_CNT_CHECK_SKIP
      | some (p, a) => if p = pos ∧ a = acc then s else s.unalign q

/-- R531: SYNC moves on the standby, which reports it. -/
def State.moveSync (s : State) (v : Nat) : State :=
  let s := s.setSync v
  (s.sendState s.twn.lease.toldElig false).reportElig

/-- `CHECK` (R524): discarded during takeover preparation (R546). -/
def execCheck (body : List Byte) (s : State) : Outcome State Fault Refusal :=
  if !s.mirrorIn || s.twn.lease.holds || s.twn.lease.preparing || body.length < 11 then done s
  else
    let snap := beNat (slice body 0 4) * 256 + beNat (slice body 4 1)
    let gen := BitVec.ofNat 32 (beNat (slice body 5 4))
    let s := s.modPeer (fun p => { p with gen := gen })
    let behind := s.twn.mir.gen != gen
    let s := s.modTest (fun t => { t with
      genDiffAt := if behind then some (t.genDiffAt.getD s.ticks) else none })
    let s := (entriesOf body 11 19 (beNat (slice body 9 2))).foldl (fun s e => s.checkOne snap e) s
    done (if s.twn.lease.sync = 2 && !behind then s.moveSync 3 else s)

/-- `CHECK_WAIT_EXPIRY` (R524): the comparison that has waited longest passes 1 ms. -/
def execCheckWaitExpiry (s : State) : Outcome State Fault Refusal :=
  let all := s.usq.queues.flatMap (fun (e : Nat × Queue) => e.2.waits.map (fun w => (w.2.2.2, e.1)))
  match leastOf (all.map (·.1)) with
  | none => done s
  | some t =>
    let s := s.passToTick t
    let due := (all.filter (fun w => w.1 = t)).map (·.2)
    done (due.foldl (fun s q =>
      (s.modQueue q (fun x => { x with waits := x.waits.filter (fun w => t < w.2.2.2) })).unalign q) s)

/-! ## Keys (R372, R519) -/

/-- The number KEYMETA and CTR give a slot: Link, and DIR and SLOT in one byte (bit 0 upstream, bit 1 slot B). -/
def slotNo (link : Nat) (up slotB : Bool) : Nat := link * 4 + b2n up + 2 * b2n slotB

def State.slotAt (s : State) (k : Nat) : KeySlot :=
  let x := s.keys (2 * (k / 4) + k % 2)
  if k % 4 / 2 = 0 then x.a else x.b

/-- R519: the slot differs from the active's. -/
def State.slotDiffers (s : State) (k : Nat) : Bool :=
  match Tab.find? s.twn.peer.slots k with
  | none => false
  | some p =>
    let x := s.slotAt k
    p.state != slotCode x.state || p.epoch.toNat % 2 ^ 15 != x.epoch.toNat || p.salt != x.salt || p.kcv != x.kcv

/-- `KEYMETA` (R519): recorded as the peer's values. -/
def execKeymeta (body : List Byte) (s : State) : Outcome State Fault Refusal :=
  if !s.mirrorIn then done s
  else
    let s := (entriesOf body 0 13 (body.length / 13)).foldl (fun s e =>
      let k := beNat (slice e 0 2) % 4096 * 4 + beNat (slice e 2 1) % 4
      let x : PeerSlot := ⟨beNat (slice e 3 1) % 4, BitVec.ofNat 16 (beNat (slice e 4 2)),
        BitVec.ofNat 32 (beNat (slice e 6 4)), slice e 10 3⟩
      s.modPeer (fun p => { p with slots := Tab.insert p.slots k x })) s
    done (s.modPeer (fun p => { p with diverged := p.diverged.filter s.slotDiffers }))

/-- `KEY_DIVERGE` (R519): a slot has differed for more than 10 ms. -/
def execKeyDiverge (link : Fin 4096) (up slotB : Bool) (s : State) : Outcome State Fault Refusal :=
  let k := slotNo link up slotB
  if !s.mirrorIn || s.twn.lease.holds || !s.slotDiffers k || s.twn.peer.diverged.contains k then done s
  else
    let s := s.passTicks (10000 * ticksPerUs)
    done ((s.modPeer (fun p => { p with diverged := p.diverged ++ [k] })).raise Reg.TWN_STATUS 13)

/-- Upstream slots that are not empty, with their next counters. -/
def State.upCtrs (s : State) : List (Nat × Nat) :=
  (s.lsc.keys.filter (fun (e : Nat × LinkKeys) => e.1 % 2 = 1)).flatMap (fun (e : Nat × LinkKeys) =>
    let one (x : KeySlot) (b : Bool) : List (Nat × Nat) :=
      if x.state = .empty then [] else [(slotNo (e.1 / 2) true b, x.ctr)]
    one e.2.a false ++ one e.2.b true)

/-- `CTR_SEND`: next counters of the slots whose counter changed since the last CTR. -/
def execCtrSend (s : State) : Outcome State Fault Refusal :=
  if !s.mirrorOut 0x11 then done s
  else
    let changed := s.upCtrs.filter (fun e => Tab.get 0 s.twn.mir.sentCtrs e.1 != e.2)
    if changed.isEmpty then done s
    else
      let s := s.sendTwin 0x11 (changed.flatMap (fun e =>
        beBytes 2 (e.1 / 4) ++ beBytes 1 (e.1 % 4) ++ beBytes 6 e.2))
      done (s.modMir (fun m => { m with sentCtrs := changed.foldl (fun t e => Tab.set 0 t e.1 e.2) m.sentCtrs }))

/-- A mirrored next counter for the epoch the active's slot has: it goes to the own slot of that epoch, and is held where
there is none (R361, R372). -/
def State.mirrorCtr (s : State) (k ctr : Nat) : State :=
  let epoch := match Tab.find? s.twn.peer.slots k with
    | some p => BitVec.ofNat 15 p.epoch.toNat
    | none => (s.slotAt k).epoch
  let kx := 2 * (k / 4) + 1
  let x := s.keys kx
  let hit (y : KeySlot) : Bool := y.state != .empty && y.epoch == epoch
  if x.slots.any hit then s.setKeys kx (x.mapSlots (fun y => if hit y then { y with mirror := ctr } else y))
  else s.setKeys kx { x with mirrors := (epoch, ctr) :: x.mirrors.filter (fun m => m.1 ≠ epoch) }

/-- `CTR` (R372): the standby keeps the mirrored next counter of each upstream slot. -/
def execCtr (body : List Byte) (s : State) : Outcome State Fault Refusal :=
  if !s.mirrorIn || s.twn.lease.holds then done s
  else
    done ((entriesOf body 0 9 (body.length / 9)).foldl (fun s e =>
      let k := beNat (slice e 0 2) % 4096 * 4 + beNat (slice e 2 1) % 4
      if k % 2 = 1 then s.mirrorCtr k (beNat (slice e 3 6)) else s) s)

/-! ## Shaper values (R529) -/

/-- `SHAPER_SEND`: the upstream queues, then the allocations. -/
def execShaperSend (s : State) : Outcome State Fault Refusal :=
  if !s.mirrorOut 0x40 then done s
  else
    let qs := (List.range 4096).flatMap (fun q =>
      let x := s.queue q
      beBytes 6 (BitVec.ofInt 48 x.bucket).toNat ++ beBytes 3 (BitVec.ofInt 24 x.deficit).toNat)
    let as := (List.range 256).flatMap (fun a =>
      let x := s.alloc a
      beBytes 2 x.ptr ++ beBytes 1 x.hist.length ++ beBytes 4 (x.hist.foldl max 0))
    done (s.sendTwin 0x40 (qs ++ as))

/-- `SHAPER` (R529): recorded for a takeover. -/
def execShaper (body : List Byte) (s : State) : Outcome State Fault Refusal :=
  if !s.mirrorIn || s.twn.lease.holds || body.length ≠ 38656 then done s
  else
    let qs := ((List.range 4096).zip (entriesOf body 0 9 4096)).map (fun e =>
      (e.1, signedOf 48 (beNat (slice e.2 0 6)), signedOf 24 (beNat (slice e.2 6 3))))
    let as := ((List.range 256).zip (entriesOf body 36864 7 256)).map (fun e =>
      (e.1, beNat (slice e.2 0 2), beNat (slice e.2 2 1), beNat (slice e.2 3 4)))
    done (s.modPeer (fun p => { p with
      shQueues := qs, shAllocs := as }))

/-! ## The peer's records (R517, Table TWN-11) -/

/-- Words of the peer window from word `at_`. -/
def State.peerWords (s : State) (at_ : Nat) (body : List Byte) : State :=
  s.modPeer (fun p => { p with words := (List.range (body.length / 4)).foldl (fun t k =>
    Tab.set 0 t (at_ + k) (BitVec.ofNat 32 (beNat (slice body (4 * k) 4)))) p.words })

/-- `RANGE`: the peer's RTD, D_down and D_up. -/
def execRange (body : List Byte) (s : State) : Outcome State Fault Refusal :=
  if s.mirrorIn && body.length == 48 then done (s.peerWords 0 body) else done s

/-- `TWIN_TIME`: the peer's NTM state, I, e and hold elapsed. -/
def execTwinTime (body : List Byte) (s : State) : Outcome State Fault Refusal :=
  if s.mirrorIn && body.length == 13 then
    done (s.peerWords 12 (beBytes 4 (beNat (slice body 0 1)) ++ slice body 1 12))
  else done s

/-- `TWIN_HEALTH`: the peer's health items. -/
def execTwinHealth (body : List Byte) (s : State) : Outcome State Fault Refusal :=
  if s.mirrorIn && body.length == 64 then done (s.peerWords 16 body) else done s

/-- `PERF`: the peer's bin record of a channel and index. -/
def execPerf (ch : Chan) (index : Fin 64) (body : List Byte) (s : State) : Outcome State Fault Refusal :=
  if !s.mirrorIn || body.length ≠ 96 then done s
  else
    let at_ := (index.val * 4 + ch.val) * 32
    done (s.modPeer (fun p => { p with bins := (List.range 24).foldl (fun t k =>
      Tab.set 0 t (at_ + k) (BitVec.ofNat 32 (beNat (slice body (4 * k) 4)))) p.bins }))

/-- `BULK_DONE` (R531): the copy reflects G_b; CATCHUP. -/
def execBulkDone (body : List Byte) (s : State) : Outcome State Fault Refusal :=
  if !s.mirrorIn || s.twn.lease.holds || s.twn.lease.sync ≠ 1 || body.length ≠ 4 then done s
  else
    let g := BitVec.ofNat 32 (beNat body)
    done ((s.modMir (fun m => { m with gen := g, bulk := 100, bulkGen := some g })).moveSync 2)

/-- `PORTS` (R544): on the active a port-S frame of the standby enters the parser as source 8. -/
def execPorts (body : List Byte) (s : State) : Outcome State Fault Refusal :=
  if !s.mirrorIn || !s.twn.lease.holds then done s
  else
    let s := s.count Reg.TWN_CNT_PORTS_BYTES body.length
    done { s with arrivals := s.arrivals ++ [⟨8, 0, body, s.now, false⟩] }

end Sys2Proof.Machine
end

