-- ==== Sys2Proof/Machine/TwinTest.lean ====
section
/-! DEFINITION. Self-test and health of a twin (chapter 13, R535 to R537). -/

namespace Sys2Proof.Machine

open Host (Outcome)
open Crypto (beBytes beNat slice)

/-! ## The loop test (R536) -/

/-- No decoded grant to this device on the channel begins within 20 µs. -/
def State.noGrantSoon (s : State) (n : Nat) : Bool :=
  let soon := s.now + 20 * 256000
  s.usq.grants.all (fun g => g.ch ≠ n || decide (soon ≤ g.launch)) &&
    (s.ubtCh n).bursts.all (fun b => decide (soon ≤ b.g.launch))

/-- Length of a loop test: 64 symbols and the ramps, in pips. -/
def State.loopPips (s : State) (n : Nat) : Nat := 64 * 6400 + s.rampUpOf n + 256 * s.fld (Reg.POD_TX_RAMP n) 13 8

/-- `LOOP_TEST` (R535, R536): one loop test of a Pod, and its outcome. A test that may not start is postponed. -/
def execLoopTest (ch : Chan) (pass : Bool) (s : State) : Outcome State Fault Refusal :=
  let n := ch.val
  if !s.standby || !s.rbit Reg.TWN_ST_CTRL 16 || !s.podInService n || !s.noGrantSoon n || s.inReset n 9 then done s
  else
    let s := s.modPod n (fun p => { p with loops := p.loops ++ [(s.now, s.now + s.loopPips n)] })
    let s := s.modTest (fun t => { t with
      tested := putBit t.tested n true, passed := putBit t.passed n pass, testAt := some s.ticks
      failAt := if pass then t.failAt else s.ticks :: t.failAt })
    let s := s.bump (Reg.POD_TX_CNT_LOOP n)
    if pass then done s
    else done (((s.raise Reg.TWN_STATUS 14).bump Reg.TWN_CNT_ST_FAIL).fault (sourceId n 9 0 0) 0x04 0 0)

/-! ## HSK_STATE (Table HSK-14) -/

def linkCode (l : LinkState) : Nat := match l with
  | .absent => 0 | .up => 1 | .down => 2

/-- HSK_STATE: the Husk's state, and what the last health message told of the Shell. -/
def State.hskState (s : State) : Word :=
  packWord [(linkCode s.hsk.link, 2, 0), (b2n (s.hsk.link == .absent), 1, 2),
    (beNat (slice s.hsk.health 0 1), 3, 4), (beNat (slice s.hsk.health 1 1), 2, 8)]

/-! ## The health report (R537, Table TWN-4) -/

/-- An item: its verdict and its value. -/
def healthItem (fail warn : Bool) (value : Nat) : Word :=
  packWord [(value, 30, 0), (if fail then 2 else if warn then 1 else 0, 2, 30)]

/-- An item of twin operation: not applicable where it is off. -/
def State.twinItem (s : State) (fail warn : Bool) (value : Nat) : Word :=
  if s.twinOn then healthItem fail warn value else packWord [(value, 30, 0), (3, 2, 30)]

def hourTicks : Nat := 3600 * 1000000 * ticksPerUs

/-- How many of some tick counts are in the last `n` hours. -/
def State.lastHours (s : State) (l : List Nat) (n : Nat) : Nat :=
  (l.filter (fun t => decide (s.ticks < t + n * hourTicks))).length

/-- Uncorrectable codewords counted since reset on all channels. -/
def State.uncorTotal (s : State) : Nat := (List.range 4).foldl (fun a n => a + (s.cnt (Reg.POD_CNT_CW_UNCOR n)).toNat) 0

/-- Code violations counted on all lanes. -/
def State.cvTotal (s : State) : Nat := s.twn.link.lanes.foldl (fun a (e : Nat × Lane) => a + e.2.cv.toNat) 0

/-- TWN_STATE.ROLE: none with twin operation off. -/
def State.role (s : State) : Nat := if !s.twinOn then 0 else if s.twn.lease.holds then 1 else 2

/-- Microseconds left on the own timer. -/
def State.leaseLeftUs (s : State) : Nat := s.twn.lease.left / 256000

/-- Microseconds left on the recorded peer lease. -/
def State.peerLeftUs (s : State) : Nat := ((s.twn.peer.expiry.getD 0) - s.now) / 256000

/-- TWN_MARK_AGE, in microseconds, saturating. -/
def State.markAge (s : State) : Nat := match s.twn.mir.markTick with
  | some t => min ((s.ticks - t) / ticksPerUs) (2 ^ 32 - 1)
  | none => 2 ^ 32 - 1

/-- Slots that differ for more than 10 ms (R519). -/
def State.divergedNow (s : State) : Nat := (s.twn.peer.diverged.filter s.slotDiffers).length

def State.item0 (s : State) : Word :=
  let l := s.twn.lease
  s.twinItem (s.role == 2 && l.sync != 3) (s.rbit Reg.TWN_CTRL 1 && l.sync == 4)
    (s.role + 4 * b2n l.orphan + 8 * l.sync + 64 * b2n l.eligible + 128 * b2n l.lostByExpiry)

def State.item1 (s : State) : Word :=
  let mask := (List.range 4).foldl (fun a n => if s.mfSync n then a + 2 ^ n else a) 0
  let bad := min (s.uncorTotal - s.twn.test.uncorBase) (2 ^ 26 - 1)
  healthItem (!s.rangedChs.any s.mfSync) (decide (0 < bad)) (mask + 16 * bad)

def State.item2 (s : State) : Word :=
  let t := s.twn.test
  let age := match t.testAt with
    | some k => (s.ticks - k) / (1000000 * ticksPerUs)
    | none => 2 ^ 22 - 1
  let late := match t.testAt with
    | some k => decide (10 * s.fld Reg.TWN_ST_CTRL 15 0 * 1000 * ticksPerUs < s.ticks - k)
    | none => true
  s.twinItem (t.tested &&& ~~~ t.passed != 0) late
    (t.passed.toNat + 16 * t.tested.toNat + 256 * min age (2 ^ 22 - 1))

def State.item3 (s : State) : Word :=
  let n := s.lastHours s.twn.test.hoardAt 24
  healthItem (s.rbit Reg.HRD_STATUS 4) (decide (0 < n) || s.rbit Reg.HRD_STATUS 5) (min n (2 ^ 30 - 1))

def State.item4 (s : State) : Word :=
  let l := s.twn.link
  s.twinItem (!l.up) (decide (l.width < 8))
    (l.rate + 8 * l.width + 128 * l.rxGood.toNat + 2 ^ 15 * min (s.cvTotal - s.twn.test.cvBase) (2 ^ 15 - 1))

def State.item5 (s : State) : Word :=
  let diff := if s.twn.lease.holds then 0 else (s.twn.peer.gen - s.twn.mir.gen).toNat
  let old := match s.twn.test.genDiffAt with
    | some t => decide (t + 1000000 * ticksPerUs ≤ s.ticks)
    | none => false
  s.twinItem (s.twn.lease.sync == 4) (decide (0 < diff) && old) (min diff (2 ^ 30 - 1))

def State.item6 (s : State) : Word :=
  s.twinItem (decide (10000 < s.markAge)) (decide (100 < s.markAge)) (min s.markAge (2 ^ 30 - 1))

def State.item7 (s : State) : Word := s.twinItem false (decide (0 < s.unalignedCount)) s.unalignedCount

def State.item8 (s : State) : Word :=
  let st := s.ntm.state
  healthItem (st == .unset || st == .manual) (decide (s.guardPips < 2 * s.twn.peer.timeOfs.natAbs))
    (timeCode st + 8 * min s.twn.peer.timeOfs.natAbs (2 ^ 27 - 1))

def State.item9 (s : State) : Word :=
  healthItem s.lsc.kek.isNone (decide (0 < s.divergedNow)) (b2n s.lsc.kek.isSome + 2 * (s.divergedNow % 2 ^ 13))

def State.item10 (s : State) : Word :=
  let left := if s.twn.lease.holds then s.leaseLeftUs else s.peerLeftUs
  s.twinItem (s.twn.lease.holds && decide (left < 2000 * s.fld Reg.TWN_RENEW_MS 9 0)) false (min left (2 ^ 30 - 1))

def State.item11 (s : State) (hottest : Byte) : Word :=
  healthItem false (decide (159 < hottest.toNat)) (modeCode s.pwr.mode + 256 * hottest.toNat)

def State.item12 (s : State) : Word :=
  let n := s.lastHours s.twn.test.failAt 24
  healthItem (decide (0 < s.lastHours s.twn.test.failAt 1)) (decide (0 < n)) (min n (2 ^ 30 - 1))

def State.item13 (s : State) : Word :=
  let safe := s.hsk.link != .absent && beNat (slice s.hsk.health 0 1) == 1
  healthItem safe (s.hsk.link == .down) (s.hskState.toNat % 1024)

def State.item14 (s : State) : Word :=
  let n := s.lastHours s.flt.severeAt 1
  healthItem (decide (0 < s.lastHours s.flt.heavyAt 1)) (decide (0 < n)) (min n (2 ^ 30 - 1))

def State.item15 (s : State) : Word :=
  let recent := match s.twn.lease.discAt with
    | some t => decide (s.ticks < t + 60 * 1000000 * ticksPerUs)
    | none => false
  s.twinItem false recent ((s.cnt Reg.TWN_CNT_LEASE_DISC).toNat % 65536 + 65536 * s.twn.lease.cause)

/-- The 16 items. `hottest` is the hottest die's temperature plus 64 °C. -/
def State.healthItems (s : State) (hottest : Byte) : List Word :=
  [s.item0, s.item1, s.item2, s.item3, s.item4, s.item5, s.item6, s.item7, s.item8, s.item9, s.item10, s.item11 hottest,
    s.item12, s.item13, s.item14, s.item15]

/-- `TWIN_HEALTH_BUILD` (R537): the report of the last second is built, and sent to the peer. -/
def execTwinHealthBuild (hottest : Byte) (s : State) : Outcome State Fault Refusal :=
  let items := s.healthItems hottest
  let s := s.modTest (fun t => { t with
    health := ((List.range 16).zip items).foldl (fun h e => Tab.set 0 h e.1 e.2) []
    uncorBase := s.uncorTotal, cvBase := s.cvTotal })
  done (if s.twinOn then s.sendTwin 0x43 (items.flatMap (fun w => beBytes 4 w.toNat)) else s)

/-! ## HEALTH_QUERY (Table ACT-4, Table ACT-5) -/

def tstateCode (t : TState) : Nat := match t with
  | .t0 => 0 | .t1 => 1 | .t2 => 2 | .t3 => 3 | .t4 => 4 | .t5 => 5 | .t6 => 6 | .t7 => 7

/-- The body of the health report. -/
def State.healthReport (s : State) : List Byte :=
  beBytes 1 (tstateCode s.act.state) ++ beBytes 1 s.readyMask ++ beBytes 1 (b2n s.acorn + 2 * b2n s.twinOn) ++ [0] ++
    (List.range 16).flatMap (fun i => beBytes 4 (Tab.get 0 s.twn.test.health i).toNat)

/-- `HEALTH_QUERY` (R215): the report is queued. -/
def execHealthQuery (msg : MsgIn) (s : State) : Outcome State Fault Refusal :=
  done (s.take msg (msg.body.length == 0) t3to7 (fun s => s.answer msg 15 s.healthReport))

end Sys2Proof.Machine
end

