-- ==== Sys2Proof/Machine/Mcu.lean ====
section
/-! DEFINITION. The management controllers as the block sees them (chapter 14, R562, R570): watchdog, restart, halt. -/

namespace Sys2Proof.Machine

open Host (Outcome)

def State.modMcu (s : State) (n : Nat) (f : Mcu → Mcu) : State :=
  { s with boot := { s.boot with mcus := Tab.modify Mcu.reset s.boot.mcus n f } }

/-- Steps 2 to 4 of R570: the instruction SRAM is checked. The initiator resets (R575, R664). -/
def State.mcuCheck (s : State) (n : Nat) : State :=
  let s := s.initiatorReset (10 + n)
  if (s.mcu n).corrupt then
    (s.modMcu n (fun m => { m with state := .halted, bad := true })).raise Reg.BOOT_STATUS 9
  else s.modMcu n (fun m => { m with state := .running })

/-- A restart (R570). A controller in reset or halted does not restart; `wdt` says the watchdog made it. -/
def State.mcuRestart (s : State) (n : Nat) (wdt : Bool) : State :=
  if (s.mcu n).state ≠ .running then s else
  let s := s.modMcu n (fun m => { m with restarts := m.restarts + 1 })
  let s := if wdt then (s.bump Reg.BOOT_CNT_WDT).raise Reg.BOOT_STATUS 8 else s
  (s.fault (sourceId 4 1 n 0) 0x08 (s.mcu n).restarts.toNat 0).mcuCheck n

/-- `MCU_WATCHDOG` (R570). -/
def execMcuWatchdog (mcu : Fin 4) (s : State) : Outcome State Fault Refusal :=
  done (if s.rbit (Reg.BOOT_MCUn_CTRL mcu) 16 then s.mcuRestart mcu true else s)

end Sys2Proof.Machine
end

