-- ==== Sys2Proof/Machine/Flt.lean ====
section
/-! DEFINITION. Fault collection and reaction (chapter 16), and the region resets, isolations and containment of chapter 1
(Tables ORG-11, ORG-12, ORG-15) that the reactions bring. -/

namespace Sys2Proof.Machine

open Host (Outcome)

/-! ## Isolation (R27, R41, Table ORG-12) -/

/-- Units of a cluster of a Pod's EQL (3) or LDP (5) region. -/
def clusterUnits (region cluster : Nat) : Nat :=
  if region = 3 then (if cluster < 14 then 16 else if cluster = 14 then 8 else 0) else if cluster < 2 then 16 else 0

/-- The repair register of a Pod cluster. -/
def repairReg (n region cluster : Nat) : Nat :=
  if region = 3 then Reg.POD_REPAIR_EQL n cluster else Reg.POD_REPAIR_LDP n cluster

/-- Isolate units of a Pod cluster: the bits of ISO_MASK. -/
def State.isoPod (s : State) (n region cluster : Nat) (units : List Nat) : State :=
  if clusterUnits region cluster = 0 then s else
  let a := repairReg n region cluster
  let w := units.foldl (fun w u => if u < clusterUnits region cluster then putBit w (16 + u) true else w) (s.reg a)
  (s.setReg a w).flagIter s n

/-- The unit number a fault's UNIT names: a spare (16) has the number it replaces (R28). -/
def State.unitNamed (s : State) (n region cluster unit : Nat) : List Nat :=
  let w := s.reg (repairReg n region cluster)
  if unit < 16 then [unit] else if w.getLsbD 4 then [bitsOf w.toNat 3 0] else []

/-- A pipeline is isolated: the packets in it, at most 16, are dropped and counted. -/
def State.isoPipe (s : State) (pipe : Nat) : State :=
  if 8 ≤ pipe ∨ s.flt.isoCls.getLsbD pipe then s else
  let s := s.modFlt (fun f => { f with isoCls := putBit f.isoCls pipe true })
  let gone := (s.cls.recirc.filter (fun r => r.pipe = pipe)).take 16
  (gone.foldl State.dropRecirc s).count Reg.CLS_CNT_PIPE_DROP gone.length

def State.isoSlices (s : State) (slices : List Nat) : State :=
  s.modFlt (fun f => { f with isoUsq := slices.foldl (fun w k => putBit w k true) f.isoUsq })

/-- ISOLATE_UNIT. -/
def State.isolateUnit (s : State) (src : BitVec 18) : State :=
  let (d, r, c, u) := (srcDie src, srcRegion src, srcCluster src, srcUnit src)
  if d < 4 then s.isoPod d r c (s.unitNamed d r c u)
  else if c < 8 && u < 16 then s.isoSlices [16 * c + u] else s

/-- ISOLATE_CLUSTER. -/
def State.isolateCluster (s : State) (src : BitVec 18) : State :=
  let (d, r, c) := (srcDie src, srcRegion src, srcCluster src)
  if d < 4 then s.isoPod d r c (List.range 16)
  else if r = 8 then s.isoPipe c
  else if c < 8 then s.isoSlices ((List.range 16).map (16 * c + ·)) else s

/-! ## Region reset (Table ORG-11, R705) -/

/-- Every burst of a channel is abandoned or cut (R39, R40). -/
def State.stopBursts (s : State) (n : Nat) : State :=
  ((s.ubtCh n).bursts).foldl (fun s b => if b.launched then s.cut n b none else s.abandon n b) s

/-- Blocks in the receive chain are lost. -/
def State.dropBlocks (s : State) (n : Nat) : State :=
  s.modPod n (fun p => { p with decoding := [], current := none, predicted := none, acquiring := true, missRun := 0 })

/-- What a Pod region reset clears. -/
def State.clearPodRegion (s : State) (n region : Nat) : State :=
  let s := if [0, 10, 1, 2, 3, 4, 5].contains region then s.dropBlocks n else s
  if [0, 10, 6, 7, 8].contains region then s.stopBursts n else s

def State.allQueues (s : State) : List Nat := s.usq.queues.map (·.1)

/-- Every queued frame is discarded, and those in bursts not begun with them. -/
def State.flushAll (s : State) : State :=
  let s := (List.range 4).foldl (fun s n => s.stopBursts n) s
  s.allQueues.foldl State.flushQueue s

/-- What a core region reset clears: data-path state and pending work. Configuration, statistics, network time and the
Hoard's partitions are kept. -/
def State.clearCoreRegion (s : State) (region : Nat) : State := match region with
  | 0 => s.breakBoot
  | 1 => (List.range 4).foldl (fun s n => if (s.mcu n).state = .running then s.mcuCheck n else s) s
  | 2 =>
    let s := (List.range 8).foldl (fun s p => s.modPort p (fun x => { x with ptp := [] })) s
    s.modNtm (fun t => { t with latches := [], heldTod := none })
  | 3 =>
    let s := (List.range 4).foldl (fun s n => s.setFa n .hunt) s
    (s.dsf.links.map (·.1)).foldl (fun s i => s.onLink i LinkRun.clear) s
  | 4 => s.modUsq (fun u => { u with grants := [] })
  | 5 => (List.range 4).foldl (fun s n => s.stopBursts n) s
  | 6 => s.modDsf (fun d => { d with frames := [] })
  | 7 => (List.range 8).foldl (fun s p =>
      let s := match (s.port p).tx with
        | some (q, id) => s.releaseFlight q id
        | none => s
      s.modPort p (fun x => { x with tx := none, ptp := [], mgmtIn := [] })) s
  | 8 =>
    let n := s.arrivals.length + s.cls.recirc.length
    ({ s with arrivals := [] }.modCls (fun c => { c with recirc := [] })).count Reg.CLS_CNT_PIPE_DROP n
  | 9 => s.flushAll
  | 10 => (List.range 3).foldl (fun s i => s.setArb i { s.arbInst i with holder := [], waiting := [] }) s
  | 11 => s.twinLost
  | 12 => s.huskDown
  | 13 => (List.range 4).foldl (fun s n => (s.dropBlocks n).stopBursts n) s
  | 14 => s.modAct (fun a => { a with uq := [], tunnel := [] })
  | _ => s

/-- The cluster a source lies in is isolated already (R42). -/
def State.clusterIsolated (s : State) (src : BitVec 18) : Bool :=
  let (d, r, c) := (srcDie src, srcRegion src, srcCluster src)
  if d < 4 && clusterUnits r c != 0 && (r == 3 || r == 5) then
    (List.range (clusterUnits r c)).all (fun u => (s.reg (repairReg d r c)).getLsbD (16 + u))
  else if d == 4 && r == 8 then s.flt.isoCls.getLsbD c
  else if d == 4 && r == 4 && c < 8 then (List.range 16).all (fun u => s.flt.isoUsq.getLsbD (16 * c + u))
  else false

/-- RESET_REGION: the region stays in reset until every crossing it ends has made its handshake (R31, R643). -/
def State.resetRegion (s : State) (src : BitVec 18) : State :=
  let (d, r) := (srcDie src, srcRegion src)
  if s.inReset d r then s else
  let xs := regionCrossings src
  let s := s.modFlt (fun f => { f with resetting := f.resetting ++ [⟨src, xs⟩] })
  let s := if d < 4 then s.clearPodRegion d r else s.clearCoreRegion r
  let s := xs.foldl (fun s x => s.resyncStart x 0) s
  let s := if xs.isEmpty then s.modFlt (fun f => { f with resetting := f.resetting.filter (fun x => x.source ≠ src) }) else s
  s.reconsider

/-! ## Pods, the Acorn and safe silence (R611 to R613) -/

/-- POD_OFFLINE. -/
def State.podOffline (s : State) (n : Nat) : State :=
  if s.flt.podOffline.getLsbD n then s else
  let auto := decide (s.fld Reg.FLT_POD_CTRL 15 0 ≠ 0)
  let s := s.modFlt (fun f => { f with
    podOffline := putBit f.podOffline n true, autoRunning := putBit f.autoRunning n auto })
  ((s.stopChannel n).dropBlocks n).reconsider

/-- A Pod restart (R611): the Pod is reset but for the profile definitions and configuration the core die holds, and
calibrates. A Pod whose domain is off is recalibrated when it is next switched on. -/
def State.podRestart (s : State) (n : Nat) : State :=
  let s := s.modFlt (fun f => { f with autoRunning := putBit f.autoRunning n false })
  if !s.pwr.on.getLsbD n || (s.pod n).restarting then s else
  let s := s.modPod n (fun p => { p with calPass := false })
  let s := s.stopChannel n
  let s := s.modPod n (fun p => { Pod.reset with rxProf := p.rxProf, txProf := p.txProf, sense := p.sense, restarting := true })
  s.calStart n false

/-- The Acorn is given up (R612). -/
def State.giveAcorn (s : State) : State :=
  if !s.twinOn then s else
  let s := s.modLease (fun l => { l with claim := none })
  (s.dropAcorn s.twn.link.up).reportElig

/-- SAFE_SILENCE (R613). -/
def State.safeSilence (s : State) (src : BitVec 18) : State :=
  if s.flt.safe.isSome then s else
  let s := s.modFlt (fun f => { f with safe := some src })
  let s := s.watchGate.giveAcorn
  if 6 ≤ srcDie src then s.flushAll.modHrd (fun h => { h with failing := [] }) else s

/-! ## Reactions (R609, R610, R614) -/

/-- Table FLT-5. -/
def applies (src : BitVec 18) (kind : Nat) (code : Nat) : Bool :=
  let (d, r, c) := (srcDie src, srcRegion src, srcCluster src)
  match code with
  | 2 => (decide (d < 4) && (r == 3 || r == 5)) || (d == 4 && r == 4)
  | 3 => (decide (d < 4) && (r == 3 || r == 5)) || (d == 4 && (r == 4 || r == 8))
  | 4 => (decide (d < 4) && decide (r ≤ 11)) || (d == 4 && decide (r ≤ 14))
  | 5 => decide (d < 4) || (d == 4 && r == 13 && decide (c < 4)) || (d == 4 && r == 15 && kind == 0x10 && decide (c < 4))
  | _ => true

/-- The reaction that is applied in place of a code. HANDOVER on a device without twin operation is SAFE_SILENCE
(R612). -/
def State.effective (s : State) (src : BitVec 18) (kind code : Nat) : Nat :=
  let e :=
    if srcDie src = 5 && decide (2 ≤ code) && decide (code ≤ 5) then 1
    else ([code, code + 1, code + 2, code + 3, code + 4].find? (applies src kind)).getD code
  if e = 6 && !s.twinOn then 7 else e

/-- The Pod a POD_OFFLINE takes. -/
def podOf (src : BitVec 18) : Nat := if srcDie src < 4 then srcDie src else srcCluster src

/-- Apply a reaction, by the code that applies. -/
def State.react (s : State) (src : BitVec 18) (code : Nat) : State :=
  let s := s.bump (Reg.FLT_CNT_REACT code)
  let s := s.raiseIf (decide (1 ≤ code)) Reg.FLT_STATUS 2
  let s := if 5 ≤ code then s.modFlt (fun f => { f with
      heavyAt := s.ticks :: f.heavyAt.filter (fun t => decide (s.ticks < t + hourTicks)) }) else s
  match code with
  | 2 => (s.raise Reg.FLT_STATUS 4).isolateUnit src
  | 3 => (s.raise Reg.FLT_STATUS 4).isolateCluster src
  | 4 => (s.raise Reg.FLT_STATUS 5).resetRegion src
  | 5 => (s.raise Reg.FLT_STATUS 6).podOffline (podOf src)
  | 6 => (s.raise Reg.FLT_STATUS 7).giveAcorn
  | 7 => (s.raise Reg.FLT_STATUS 8).safeSilence src
  | _ => s

/-- A reaction, which wakes the device when it is "Pod offline" or heavier (R598). -/
def State.reactWake (s : State) (src : BitVec 18) (code : Nat) : State :=
  let s := s.react src code
  if 5 ≤ code then s.wake 9 else s

/-! ## Counting (R605 to R607) -/

/-- R605: the entry matches. -/
def FltRule.matchesMsg (r : FltRule) (m : FaultMsg) : Bool :=
  r.w0.getLsbD 26 && ((m.source ^^^ r.w0.setWidth 18) &&& r.w1.setWidth 18) == 0 &&
    ((m.kind ^^^ BitVec.ofNat 8 (bitsOf r.w0.toNat 25 18)) &&& BitVec.ofNat 8 (bitsOf r.w1.toNat 25 18)) == 0

/-- The rule that governs a message. -/
def State.ruleFor (s : State) (m : FaultMsg) : Option Nat := (List.range 64).find? (fun k => (s.rule k).matchesMsg m)

/-- The new count and window start, and whether the count reached N. -/
def countEvent (c ws t w n inc : Nat) : Nat × Nat × Bool :=
  let (c, ws) := if c = 0 || decide (w ≤ t - ws) then (0, t) else (c, ws)
  if n ≤ c + inc then (0, ws, true) else (c + inc, ws, false)

/-- The tracker's entry of a rule and source, made where there is none: a full tracker gives up the entry whose last
event is oldest. -/
def State.trackEntry (s : State) (k : Nat) (src : BitVec 18) : Tracked × State :=
  match s.flt.tracker.find? (fun e => e.rule = k ∧ e.source = src) with
  | some e => (e, s)
  | none =>
    let fresh : Tracked := ⟨k, src, 0, 0, 0⟩
    if s.flt.tracker.length < 256 then (fresh, s)
    else match leastOf (s.flt.tracker.map (fun e => e.lastAt)) with
      | none => (fresh, s)
      | some t =>
        let s := match s.flt.tracker.find? (fun e => e.lastAt = t) with
          | some old => s.modFlt (fun f => { f with tracker := f.tracker.erase old })
          | none => s
        (fresh, (s.bump Reg.FLT_CNT_TRACK_EVICT).raise Reg.FLT_STATUS 10)

/-- A message is counted against its rule (R606): whether it is severe. -/
def State.countMsg (s : State) (k : Nat) (m : FaultMsg) : Bool × State :=
  let r := s.rule k
  let w := r.w3.toNat * ticksPerUs
  let n := max 1 (bitsOf r.w2.toNat 7 0)
  let inc := if m.flags.getLsbD flagRepeat then 2 else 1
  let (severe, s) :=
    if r.w0.getLsbD 27 then
      let (e, s) := s.trackEntry k m.source
      let (c, ws, sev) := countEvent e.count e.windowAt s.ticks w n inc
      let e' : Tracked := ⟨k, m.source, c, ws, s.ticks⟩
      (sev, s.modFlt (fun f => { f with tracker := f.tracker.filter (fun x => ¬ (x.rule = k ∧ x.source = m.source)) ++ [e'] }))
    else
      let (c, ws, sev) := countEvent r.count r.windowAt s.ticks w n inc
      (sev, s.setRule k { r with count := c, windowAt := ws })
  let r := s.rule k
  let (hits, h1) := wideAdd r.hits 1
  let (sevs, h2) := wideAdd r.severes (b2n severe)
  (severe, (s.setRule k { r with hits := hits, severes := sevs }).raiseIf (h1 || h2) Reg.FLT_STATUS 12)

/-- A severe event is recorded. -/
def State.markSevere (s : State) : State :=
  let s := (s.bump Reg.FLT_CNT_SEVERE).raise Reg.FLT_STATUS 3
  s.modFlt (fun f => { f with severeAt := s.ticks :: f.severeAt.filter (fun t => decide (s.ticks < t + hourTicks)) })

/-! ## The record and the condition list (R615 to R618) -/

/-- R615, R616: the message is latched or merged. `code` is the reaction applied, `rule` 64 for none. -/
def State.record (s : State) (m : FaultMsg) (rule code : Nat) (severe : Bool) : State :=
  match s.flt.record with
  | none =>
    let r : FltRecord :=
      { msg := m, ns32 := ns32Of s.now, pp := ppOf s.now, rule := rule, react := code, severe := severe, maxReact := code
        condPresent := m.flags.getLsbD flagCond, secondary := none, secCount := 0, overflow := false }
    (s.modFlt (fun f => { f with record := some r, recSeq := f.recSeq + 1 })).raise Reg.FLT_STATUS 0
  | some r =>
    let differs := match r.secondary with
      | some (a, b) => decide (a ≠ m.source) || decide (b ≠ m.kind)
      | none => false
    let r' := { r with
      secondary := some (r.secondary.getD (m.source, m.kind)), secCount := min (r.secCount + 1) 65535
      maxReact := max r.maxReact code, overflow := r.overflow || differs }
    ((s.modFlt (fun f => { f with record := some r' })).bump Reg.FLT_CNT_MERGED).raise Reg.FLT_STATUS 1

/-- R618: a condition begins. -/
def State.condBegin (s : State) (m : FaultMsg) : State :=
  let x := some (m.source, m.kind)
  if s.flt.conds.any (fun (e : Nat × Option (BitVec 18 × BitVec 8)) => e.2 == x) then s
  else match (List.range 16).find? (fun i => (Tab.get none s.flt.conds i).isNone) with
    | some i => s.modFlt (fun f => { f with conds := Tab.set none f.conds i x })
    | none => s.raise Reg.FLT_STATUS 9

/-- An END message (R606, R617, R618): the entry and CONDITION_PRESENT, nothing else. -/
def State.condEnd (s : State) (m : FaultMsg) : State :=
  s.modFlt (fun f => { f with
    conds := f.conds.filter (fun (e : Nat × Option (BitVec 18 × BitVec 8)) => e.2 ≠ some (m.source, m.kind))
    record := f.record.map (fun r => if r.msg.source = m.source ∧ r.msg.kind = m.kind then { r with condPresent := false }
      else r) })

/-! ## Acceptance -/

/-- A key-store alarm of R377: a parity, ECC or consistency error of the LSC region, or a reset of it. -/
def storeAlarm (m : FaultMsg) (code : Nat) : Bool :=
  srcDie m.source == 4 && srcRegion m.source == 6 &&
    (code == 4 || (!m.flags.getLsbD flagTest && [0x01#8, 0x03#8, 0x06#8].contains m.kind))

/-- The collector accepts a message. One from an isolated cluster is counted and brings no reaction (R42). -/
def State.accept (s : State) (m : FaultMsg) : State :=
  if msgIsEnd m then s.condEnd m
  else
    let s := (s.bump Reg.FLT_CNT_EVENTS).bumpIf (m.flags.getLsbD flagRepeat) Reg.FLT_CNT_REPEAT
    let s := if m.flags.getLsbD flagCond then s.condBegin m else s
    let rule := s.ruleFor m
    let (severe, s) := match rule with
      | some k => s.countMsg k m
      | none => (false, s)
    let s := if severe then s.markSevere else s
    let code := match rule with
      | some k => if severe then bitsOf (s.rule k).w2.toNat 14 12 else bitsOf (s.rule k).w2.toNat 10 8
      | none => 0
    let code := if s.clusterIsolated m.source then 0 else s.effective m.source m.kind.toNat code
    let s := s.record m (rule.getD 64) code severe
    let s := s.reactWake m.source code
    if storeAlarm m code then s.alarmErase 4 else s

/-- The messages offered: the oldest of each source. -/
def offeredNow (l : List FaultMsg) : List FaultMsg :=
  l.foldl (fun a m => if a.any (fun x => x.source = m.source) then a else a ++ [m]) []

/-- The message accepted next: the lowest SOURCE offered. -/
def nextMsg (l : List FaultMsg) : Option FaultMsg :=
  match leastOf ((offeredNow l).map (fun m => m.source.toNat)) with
  | none => none
  | some k => (offeredNow l).find? (fun m => m.source.toNat = k)

/-- R381: what a check mismatch of the LSC region does where it is found. CONTEXT names the Link and direction. -/
def State.checkFail (s : State) (m : FaultMsg) : State :=
  if m.kind ≠ 0x0B ∨ m.flags.getLsbD flagTest then s else
  let i := bitsOf m.context.toNat 11 0
  let up := m.context.getLsbD 12
  let s := (s.bump Reg.LSC_CNT_CHECK_FAIL).raise Reg.LSC_STATUS 7
  if up then
    let s := s.countKeys (2 * i + 1) 1 (·.fails) (fun k v => { k with fails := v })
    let all := (List.range 4).flatMap (fun n => (s.ubtCh n).bursts.flatMap (fun b => b.frames))
    let open_ := s.usq.queues.flatMap (fun (e : Nat × Queue) =>
      (e.2.frames.filter (fun f => !f.prot.isEmpty)).map (fun f => (e.1, f.id)))
    match (all ++ open_).reverse.find? (fun e => isUs e.1 && (s.queue e.1).linkF == i) with
    | some e => s.voidFrame e.1 e.2
    | none => s
  else
    match s.dsf.frames.find? (fun f => f.link = i) with
    | some f => s.modDsf (fun d => { d with frames := d.frames.erase f })
    | none => s

/-- `FAULT_MESSAGE` (R604, R606): sources raise messages, and at a tick the collector accepts one. -/
def execFaultMessage (tick : Nat) (raised : List FaultMsg) (s : State) : Outcome State Fault Refusal :=
  let s := raised.foldl (fun s m => (s.checkFail m).offer m) s
  let s := s.passToTick tick
  match nextMsg s.flt.offered with
  | none => done s
  | some m => done ((s.modFlt (fun f => { f with offered := f.offered.erase m })).accept m)

/-- `REGION_RESET_ESCALATION` (R613, Table ORG-12): 1 ms after a core region reset began it has not completed. -/
def execRegionResetEscalation (region : Fin 16) (s : State) : Outcome State Fault Refusal :=
  if [1, 2, 11, 12, 14, 15].contains region.val then done s
  else match s.flt.resetting.find? (fun r => srcDie r.source = 4 ∧ srcRegion r.source = region.val) with
    | none => done s
    | some r => done (s.reactWake r.source 7)

/-- `POD_AUTO_RESTART` (R611). -/
def execPodAutoRestart (ch : Chan) (s : State) : Outcome State Fault Refusal :=
  if s.flt.autoRunning.getLsbD ch then done (s.podRestart ch) else done s

/-! ## Register writes of chapter 16 -/

/-- FLT_REC_CLR (R619). -/
def State.recClr (s : State) (v : Word) : State :=
  if s.flt.record.isSome && decide (bitsOf v.toNat 7 0 = s.flt.recSeq.toNat) then s.modFlt (fun f => { f with record := none })
  else s.bump Reg.FLT_CNT_CLR_MISS

/-- FLT_POD_CMD (R611). -/
def State.podCmd (s : State) (v : Word) : State :=
  ((List.range 4).filter (fun n => v.getLsbD n)).foldl State.podRestart s

/-- FLT_RESET_CMD (R624). -/
def State.resetCmd (s : State) (v : Word) : State :=
  if !v.getLsbD 31 then s else
  let die := bitsOf v.toNat 2 0
  let region := bitsOf v.toNat 6 3
  if 5 ≤ die ∨ region = 15 then s.raise Reg.FLT_STATUS 11
  else s.resetRegion (sourceId die region 0 0)

/-- FLT_INJ_CMD (R624): the message of FLT_INJ_SRC with TEST set. -/
def State.inject (s : State) (v : Word) : State :=
  if !v.getLsbD 0 then s else
  let w := s.reg Reg.FLT_INJ_SRC
  let ctx := (s.reg Reg.FLT_INJ_CTX_LO).toNat + s.fld Reg.FLT_INJ_CTX_HI 7 0 * 2 ^ 32
  s.fault (w.setWidth 18) (bitsOf w.toNat 25 18) ctx ((putBit (BitVec.ofNat 6 (bitsOf w.toNat 31 26)) flagTest true).toNat)

/-- A write of a rule word (R608): the rule's counter and its tracker entries are cleared. WINDOW_US outside its range
is left as it is. -/
def State.writeRule (s : State) (k w : Nat) (v : Word) : State :=
  let r := s.rule k
  let r : FltRule := match w with
    | 0 => { r with w0 := v &&& 0x0FFFFFFF#32 }
    | 1 => { r with w1 := v &&& 0x03FFFFFF#32 }
    | 2 => { r with w2 := v &&& 0x000077FF#32 }
    | 3 => if 1 ≤ v.toNat ∧ v.toNat ≤ 3600000000 then { r with w3 := v } else r
    | _ => r
  (s.setRule k { r with count := 0, windowAt := 0 }).modFlt (fun f => { f with
    tracker := f.tracker.filter (fun e => e.rule ≠ k) })

/-- R620. -/
def State.faultPin (s : State) : Bool :=
  (match s.flt.record with
    | some r => decide (s.fld Reg.FLT_CTRL 2 0 ≤ r.maxReact)
    | none => false) ||
    s.flt.podOffline != 0 || s.flt.safe.isSome || s.boot.halted || s.pwr.wakeFail

end Sys2Proof.Machine
end

