-- ==== Sys2Proof/Machine/NtmOut.lean ====
section
/-! DEFINITION. What network time drives (chapter 8): commit slots (R346 to R350), trigger outputs (R339 to R342) and
capture inputs (R344, R345). -/

namespace Sys2Proof.Machine

open Host (Outcome)
open Crypto (beBytes beNat slice)

/-! ## Time in registers -/

/-- A time from four registers: seconds low and high, nanoseconds, pips. -/
def State.timeRegs (s : State) (lo hi ns pp : Nat) : Nat :=
  mkTime ((s.reg lo).toNat + s.fld hi 15 0 * 2 ^ 32) (s.fld ns 29 0) (s.fld pp 7 0)

/-- NTM_STATE.IN_SPEC (R329): seconds of the holdover in progress, and whether it is within the specification. -/
def State.holdElapsed (s : State) : Nat :=
  if s.ntm.state = .holdover then (s.ticks - s.ntm.holdAt) / (1000000 * ticksPerUs) else s.ntm.holdElapsed

def State.inSpec (s : State) : Bool :=
  s.ntm.state == .locked || (s.ntm.state == .holdover && decide (s.holdElapsed ≤ s.fld Reg.NTM_HOLD_SPEC 23 0))

/-! ## Firing (R346, R349, R350) -/

/-- A Pod that a DSPROF or USPROF commit cannot reach now (R43). -/
def State.podAway (s : State) (n : Nat) : Bool := !s.pwr.on.getLsbD n || s.flt.podOffline.getLsbD n

/-- Indexes of Pod n with a pending definition. -/
def State.pendingProfs (s : State) (n : Nat) (tx : Bool) : List Nat :=
  ((List.range 8).filter (fun i => ((s.pod n).prof tx i).pending.isSome))

/-- DSPROF or USPROF: whether a definition was pending, and whether one was held for a Pod. -/
def State.commitProfs (s : State) (tx : Bool) : Bool × Bool × State :=
  (List.range 4).foldl (fun (r : Bool × Bool × State) n =>
    let (_, held, s) := r
    let is := s.pendingProfs n tx
    if is.isEmpty then r
    else if s.podAway n then
      (true, true, s.modNtm (fun t => { t with deferred := putBit t.deferred (n + 4 * b2n tx) true }))
    else (true, held, is.foldl (fun s i => s.activateProf n tx i) s)) (false, false, s)

/-- R43: commits deferred for a Pod are applied when it returns to service, and counted as late. -/
def State.applyDeferred (s : State) (n : Nat) : State :=
  [false, true].foldl (fun s tx =>
    if s.ntm.deferred.getLsbD (n + 4 * b2n tx) then
      let s := s.modNtm (fun t => { t with deferred := putBit t.deferred (n + 4 * b2n tx) false })
      ((s.pendingProfs n tx).foldl (fun s i => s.activateProf n tx i) s).bump Reg.NTM_CNT_TC_LATE
    else s) s

/-- One set of Table NTM-7: whether it was found clean, and whether a Pod's part of it is held. -/
def State.commitSet (s : State) (slot bit : Nat) : Bool × Bool × State := match bit with
  | 0 =>
    let (any, s) := s.commitKeys
    (!any, false, s)
  | 1 => (false, false, s.swapGen)
  | 2 =>
    let (any, held, s) := s.commitProfs false
    (!any, held, s)
  | 3 =>
    let (any, held, s) := s.commitProfs true
    (!any, held, s)
  | 4 => (!s.usq.queues.any (fun (e : Nat × Queue) => e.2.sh0.isSome), false, s.commitQueues true false)
  | 5 => (!s.usq.queues.any (fun (e : Nat × Queue) => e.2.sh2.isSome || e.2.sh3.isSome), false, s.commitQueues false true)
  | _ => (!s.hsk.starts.contains slot, false, s.modHsk (fun h => { h with starts := h.starts.filter (· ≠ slot) }))

/-- A slot fires (R346, R349, R350), at the tick that network time stands at. -/
def State.fireSlot (s : State) (i : Nat) (late : Bool) : State :=
  let x := s.tcSlot i
  if x.status ≠ 1 then s else
  let bits := (List.range 7).filter (fun b => x.mask.getLsbD b)
  let (empty, held, s) := bits.foldl (fun (r : BitVec 7 × Bool × State) b =>
    let (clean, h, s) := r.2.2.commitSet i b
    (putBit r.1 b clean, r.2.1 || h, s)) (0, false, s)
  let y : Slot := { x with
    status := 2, late := late, holdover := s.ntm.state == .holdover, podDefer := held, empty := empty
    firedNs := ns32Of s.now, firedPp := ppOf s.now }
  let s := (s.setTcSlot i y).raise Reg.NTM_STATUS 8
  if late then (s.raise Reg.NTM_STATUS 9).bump Reg.NTM_CNT_TC_LATE else s

/-- Armed slots whose TIME has come. -/
def State.dueSlots (s : State) : List Nat :=
  (List.range 16).filter (fun i => (s.tcSlot i).status = 1 ∧ (s.tcSlot i).time ≤ s.now)

/-- Ticks until each armed slot fires. -/
def State.slotTicks (s : State) : List Nat :=
  ((List.range 16).filter (fun i => (s.tcSlot i).status = 1)).map (fun i => s.ticksTo (s.tcSlot i).time)

/-- The armed slots of the earliest tick fire, in increasing slot number; `fuel` bounds the number of ticks. -/
def State.fireUpTo (s : State) (last : Nat) : Nat → State
  | 0 => s
  | fuel + 1 =>
    match leastOf s.slotTicks with
    | none => s
    | some k =>
      if last < s.ticks + k then s
      else
        let s := s.passTicks k
        (s.dueSlots.foldl (fun s i => s.fireSlot i false) s).fireUpTo last fuel

/-- `TC_FIRE` (R346): the slot reaches its TIME; slots due before it, or at the same tick, fire too, in order (R349). -/
def execTcFire (slot : Fin 16) (s : State) : Outcome State Fault Refusal :=
  let x := s.tcSlot slot
  if x.status ≠ 1 then done s else done (s.fireUpTo (s.ticks + s.ticksTo x.time) 16)

/-! ## Scheduled key switches (R366) -/

/-- The scheduled switch of one Link and direction is applied. -/
def State.takeSwitch (s : State) (kx : Nat) : State := match (s.keys kx).sched with
  | none => s
  | some (epoch, _) => (s.setKeys kx { s.keys kx with sched := none }).applySwitch (kx / 2) (kx % 2 = 1) epoch

/-- Switches whose AT a forward step passed. -/
def State.dueSwitches (s : State) : List Nat :=
  (s.lsc.keys.filter (fun (e : Nat × LinkKeys) => match e.2.sched with
    | some (_, at_) => decide (at_ ≤ s.now)
    | none => false)).map (·.1)

/-- `KEY_SWITCH_APPLY` (R366): the scheduled switch of a Link and direction reaches AT. Commits due by then are applied
first. -/
def execKeySwitchApply (link : Fin 4096) (up : Bool) (s : State) : Outcome State Fault Refusal :=
  let kx := 2 * link.val + b2n up
  match (s.keys kx).sched with
  | none => done s
  | some (_, at_) =>
    let s := s.passTo at_
    done ((s.fireUpTo s.ticks 16).takeSwitch kx)

/-! ## Arming a slot (R347) -/

/-- TIME of a slot as its registers stand. -/
def State.slotTime (s : State) (i : Nat) : Nat :=
  s.timeRegs (Reg.NTM_TCs_TIME_S_LO i) (Reg.NTM_TCs_TIME_S_HI i) (Reg.NTM_TCs_TIME_NS i) (Reg.NTM_TCs_TIME_PP i)

/-- A slot armed before is given up: a START sent for it is stopped. -/
def State.dropSlot (s : State) (i : Nat) : State :=
  let x := s.tcSlot i
  if x.status = 1 ∧ x.mask.getLsbD 6 then s.hskDisarm i x.time else s

/-- The refusals of R347. -/
def State.armRefused (s : State) (mask : BitVec 16) (time : Nat) : Bool :=
  s.ntm.state == .unset || s.ntm.state == .manual || mask == 0 || decide (128 ≤ mask.toNat) ||
    decide (time < s.now + 10 * 256000) || (mask.getLsbD 6 && decide (time < s.now + 1000 * 256000))

/-- Arm a slot for a TIME and MASK; answers whether it was accepted. -/
def State.armSlot (s : State) (i : Nat) (mask : BitVec 16) (time : Nat) : Bool × State :=
  if s.armRefused mask time then
    let s := s.dropSlot i
    (false, (s.setTcSlot i { s.tcSlot i with status := 3 }).raise Reg.NTM_STATUS 10)
  else
    let s := s.dropSlot i
    let s := s.setTcSlot i ⟨1, time, mask, false, false, false, 0, 0, 0⟩
    (true, if mask.getLsbD 6 then s.hskArm i time else s)

/-- NTM_TCs_CMD. -/
def State.tcCmd (s : State) (i : Nat) (v : Word) : State :=
  let s := if v.getLsbD 0 then (s.armSlot i (BitVec.ofNat 16 (s.fld (Reg.NTM_TCs_MASK i) 15 0)) (s.slotTime i)).2 else s
  if v.getLsbD 1 then (s.dropSlot i).setTcSlot i { (s.dropSlot i).tcSlot i with status := 0 } else s

/-- R563: the schedule of the image is armed at the first LOCKED, by controller 1. -/
def State.armSchedule (s : State) : State :=
  if s.ntm.scheduled || (s.mcu 1).state ≠ .running then s else
  let s := s.modNtm (fun t => { t with scheduled := true })
  s.boot.schedule.foldl (fun s e =>
    let time := if e.periodic then
        let p := max e.time 1 * pipsPerSec
        ((s.now + e.leadMs * 256000000 + p - 1) / p) * p
      else e.time
    let skip (s : State) : State := (s.bump Reg.BOOT_CNT_SCHED_SKIP).raise Reg.BOOT_STATUS 5
    if (s.tcSlot e.slot).status = 1 then skip s
    else
      let (ok, s) := s.armSlot e.slot e.mask time
      if ok then s else skip s) s

/-! ## Triggers (R339 to R342) -/

/-- R342: the pin runs. -/
def State.trigRuns (s : State) (t : Nat) : Bool := match s.fld (Reg.NTM_TRIGt_CTRL t) 4 3 with
  | 0 => s.ntm.state != .unset && s.ntm.state != .manual
  | 1 => s.ntm.state == .locked
  | 2 => s.inSpec
  | _ => true

def State.trigAdj (s : State) (t : Nat) : Int := signedOf 24 (s.fld (Reg.NTM_TRIGt_ADJ t) 23 0)

/-- NTM_TRIGt_CMD.ARM: START, PERIOD, WIDTH and COUNT are taken as they stand. A trigger with EN = 0 is not armed. -/
def State.trigArm (s : State) (t : Nat) : State :=
  if !s.rbit (Reg.NTM_TRIGt_CTRL t) 0 then s else
  let x : Trig := { s.trig t with
    start := s.timeRegs (Reg.NTM_TRIGt_START_S_LO t) (Reg.NTM_TRIGt_START_S_HI t) (Reg.NTM_TRIGt_START_NS t)
      (Reg.NTM_TRIGt_START_PP t)
    period := (s.reg (Reg.NTM_TRIGt_PERIOD_NS t)).toNat * 256 + s.fld (Reg.NTM_TRIGt_PERIOD_PP t) 7 0
    widthNs := (s.reg (Reg.NTM_TRIGt_WIDTH_NS t)).toNat
    count := (s.reg (Reg.NTM_TRIGt_COUNT t)).toNat
    periodic := s.rbit (Reg.NTM_TRIGt_CTRL t) 1 }
  match x.arm s.now with
  | some y => s.setTrig t y
  | none => s.raise Reg.NTM_STATUS 11

/-- NTM_TRIGt_CMD. -/
def State.trigCmd (s : State) (t : Nat) (v : Word) : State :=
  let s := if v.getLsbD 0 then s.trigArm t else s
  if v.getLsbD 1 then s.setTrig t { s.trig t with armed := false } else s

/-- An edge of trigger t is produced, or suppressed and counted. -/
def State.trigEdge (s : State) (t : Nat) (late : Bool) : State :=
  let x := s.trig t
  let s' := s.setTrig t { x.edge with late := x.late || late }
  if s.trigRuns t then s'.send (.edge t ((if late then s.now else x.time x.next) - s.trigAdj t))
  else s'.bump Reg.NTM_CNT_TRIG_SKIP

/-- `TRIGGER_EDGE` (R339, R341): the next edge is at the ball at its time less ADJ. -/
def execTriggerEdge (trig : Fin 8) (s : State) : Outcome State Fault Refusal :=
  let x := s.trig trig
  if !x.armed then done s
  else done ((s.passTo ((x.time x.next : Int) - s.trigAdj trig).toNat).trigEdge trig false)

/-- A step of network time (R340). -/
def State.trigStep (s : State) (t : Nat) : State :=
  let x := s.trig t
  if !x.armed then s
  else if x.periodic then
    let (y, skipped) := x.afterStep s.now
    (s.setTrig t y).count Reg.NTM_CNT_TRIG_SKIP skipped
  else if x.time x.next ≤ s.now then (s.trigEdge t true).raise Reg.NTM_STATUS 11
  else s

/-! ## Captures (R344, R345) -/

/-- `CAPTURE_EDGE`: `stamp` is the network time of the edge at the ball. -/
def execCaptureEdge (cap : Fin 4) (rising : Bool) (stamp : Nat) (s : State) : Outcome State Fault Refusal :=
  let s := s.passTo stamp
  let sel := s.fld (Reg.NTM_CAPc_CTRL cap) 2 1
  let x := s.cap cap
  let close := match x.lastEdge with
    | some t => decide (stamp < t + 8 * 256)
    | none => false
  if !s.rbit (Reg.NTM_CAPc_CTRL cap) 0 || !(sel.testBit (if rising then 0 else 1)) then done s
  else if close then done (s.bump (Reg.NTM_CAPc_CNT_CLOSE cap))
  else
    let adj := signedOf 24 (s.fld (Reg.NTM_CAPc_ADJ cap) 23 0)
    let e : CapEntry := ⟨((stamp : Int) - adj).toNat, rising, x.stepPending⟩
    let x := { x with lastEdge := some stamp }
    let s := if x.store.length < 64 then
        (s.setCap cap { x with store := x.store ++ [e], stepPending := false }).raise Reg.NTM_STATUS 12
      else ((s.setCap cap x).bump (Reg.NTM_CAPc_CNT_OVF cap)).raise Reg.NTM_STATUS 13
    done (s.wake 5)

/-- NTM_CAPc_CMD.POP. -/
def State.capPop (s : State) (c : Nat) : State :=
  let x := s.cap c
  match x.store with
  | [] => s.setCap c { x with holdValid := false }
  | e :: r => s.setCap c { x with store := r, hold := e, holdValid := true }

end Sys2Proof.Machine
end

