-- ==== Sys2Proof/Machine/BootOps.lean ====
section
/-! DEFINITION. Fuse programming and the NVM pass-through (chapter 14, R566 to R569, Tables BOOT-8 and BOOT-11). -/

namespace Sys2Proof.Machine

open Host (Outcome)
open Crypto (leBytes leNat)

/-! ## Fuses -/

/-- The field's value in BOOT_FUSE_DATA, right-aligned (R566). -/
def State.fuseData (s : State) (f : Nat) : Nat :=
  (List.range 12).foldl (fun a i => a + (s.reg (Reg.BOOT_FUSE_DATA i)).toNat * 2 ^ (32 * i)) 0 % 2 ^ fuseBits f

/-- Key slot `k` is programmed, good and not in `revoked`. -/
def State.keySlotGood (s : State) (revoked k : Nat) : Bool :=
  (s.fuse (3 + k)).programmed && !(s.fuse (3 + k)).bad && !revoked.testBit k

/-- The count of blown bits of SVN_MIN. -/
def State.svnMin (s : State) : Nat := (bitList (BitVec.ofNat 64 (s.fuse 8).value)).length

/-- The refusals of R566. -/
def State.fuseRefused (s : State) (f v : Nat) : Bool :=
  s.boot.fuseBusy.isSome || decide (8 < f) || (decide (f < 7) && ((s.fuse f).programmed || (s.fuse f).bad)) || v == 0 ||
    (f == 7 && !(List.range 4).any (s.keySlotGood ((s.fuse 7).value ||| v))) ||
    (f == 8 && !(List.range 64).any (fun k => 2 ^ k - 1 == (s.fuse 8).value ||| v))

def State.fuseOutcome (s : State) (r : Nat) : State := s.modBoot (fun b => { b with fuseResult := r })

/-- BOOT_FUSE_CMD.PROG. -/
def State.fuseProg (s : State) : State :=
  let f := s.fld Reg.BOOT_FUSE_SEL 3 0
  let v := s.fuseData f
  if s.fuseRefused f v then s.fuseOutcome 1 else s.modBoot (fun b => { b with fuseBusy := some (f, v) })

/-- BOOT_FUSE_CMD.READ. -/
def State.fuseRead (s : State) : State :=
  let f := s.fld Reg.BOOT_FUSE_SEL 3 0
  if s.boot.fuseBusy.isSome || decide (8 < f) then s.fuseOutcome 1 else
  let v := (s.fuse f).value
  let s := (List.range 12).foldl (fun s i => s.setReg (Reg.BOOT_FUSE_DATA i) (BitVec.ofNat 32 (v / 2 ^ (32 * i)))) s
  (s.fuseOutcome 0).raise Reg.BOOT_STATUS 6

/-- A write of BOOT_FUSE_CMD. -/
def State.fuseCmd (s : State) (v : Word) : State :=
  let s := if v.getLsbD 0 then s.fuseProg else s
  if v.getLsbD 1 then s.fuseRead else s

/-- `FUSE_DONE`: programming ends (R566, R567). A field that fails verification holds an open value and is BAD. -/
def execFuseDone (verified : Bool) (s : State) : Outcome State Fault Refusal :=
  match s.boot.fuseBusy with
  | none => done s
  | some (f, v) =>
    let s := s.modBoot (fun b => { b with fuseBusy := none })
    let old := s.fuse f
    let s :=
      if verified then s.setFuse f { old with value := if 7 ≤ f then old.value ||| v else v, programmed := true }
      else s.breakFuse f
    done ((s.fuseOutcome (if verified then 0 else 2)).raise Reg.BOOT_STATUS 6)

/-! ## The NVM -/

/-- BOOT_NVM_RESULT as stored: DONE, result, and the JEDEC ID kept. -/
def State.nvmOutcome (s : State) (isDone : Bool) (r : Nat) : State :=
  (s.setFld Reg.BOOT_NVM_RESULT 1 1 (b2n isDone)).setFld Reg.BOOT_NVM_RESULT 3 2 r

/-- The refusals of R569; a management controller's write is refused at its access (R572). -/
def State.nvmRefused (s : State) (op addr len : Nat) : Bool :=
  (!s.boot.halted && decide (4 ≤ s.boot.step) && decide (s.boot.step ≤ 6)) || s.boot.nvmBusy.isSome ||
    (decide (op ≤ 2) && decide (0x2000000 < addr + len)) || (op == 2 && decide (256 < addr % 256 + len)) ||
    ((op == 3 || op == 4) && addr % eraseSize op != 0)

/-- A write of BOOT_NVM_CMD. An OP that names no operation does nothing. -/
def State.nvmCmd (s : State) (op : Nat) : State :=
  if op = 0 ∨ 5 < op then s else
  let addr := s.fld Reg.BOOT_NVM_ADDR 24 0
  let len := s.fld Reg.BOOT_NVM_LEN 8 0
  if s.nvmRefused op addr len then s.nvmOutcome false 1
  else (s.nvmOutcome false 0).modBoot (fun b => { b with nvmBusy := some ⟨op, addr, len⟩ })

/-- The page buffer, byte by byte. -/
def State.nvmBuf (s : State) : List Byte :=
  (List.range 64).flatMap (fun i => leBytes 4 (s.reg (Reg.BOOT_NVM_BUF i)).toNat)

def State.setNvmBuf (s : State) (b : List Byte) : State :=
  (List.range 64).foldl (fun s i => s.setReg (Reg.BOOT_NVM_BUF i) (BitVec.ofNat 32 (leNat ((b.drop (4 * i)).take 4)))) s

/-- `NVM_DONE`: the operation completes. Programming clears bits only, as NOR flash does (log). -/
def execNvmDone (jedec : BitVec 24) (s : State) : Outcome State Fault Refusal :=
  match s.boot.nvmBusy with
  | none => done s
  | some o =>
    let s := (s.modBoot (fun b => { b with nvmBusy := none })).nvmOutcome true 0
    let s := match o.op with
      | 1 => s.setNvmBuf (nvmBytes s.boot.nvm o.addr o.len ++ s.nvmBuf.drop o.len)
      | 2 => s.putNvm o.addr ((nvmBytes s.boot.nvm o.addr o.len).zipWith (· &&& ·) s.nvmBuf)
      | 5 => s.setFld Reg.BOOT_NVM_RESULT 31 8 jedec.toNat
      | op => s.putNvm o.addr (List.replicate (eraseSize op) 0xFF)
    done (s.raise Reg.BOOT_STATUS 7)

/-- `NVM_TIMEOUT`: the command is still busy after 3 s (R569). -/
def execNvmTimeout (s : State) : Outcome State Fault Refusal :=
  match s.boot.nvmBusy with
  | none => done s
  | some o =>
    let s := (s.modBoot (fun b => { b with nvmBusy := none })).nvmOutcome true 2
    done ((s.nvmBroken o).raise Reg.BOOT_STATUS 7)

end Sys2Proof.Machine
end

