-- ==== Sys2Proof/Machine/NtmTime.lean ====
section
/-! DEFINITION. Network time (chapter 8): steps (R330), measurements and the servo (R322 to R324), holdover (R325 to
R329), the reference input and the commands of NTM_CMD and NTM_TIME_CMD. -/

namespace Sys2Proof.Machine

open Host (Outcome)
open Crypto (beBytes beNat slice)

/-! ## Steps (R330, Table NTM-4) -/

/-- An instant moved with a step. -/
def shiftTime (e : Int) (t : Nat) : Nat := ((t : Int) + e).toNat

def shiftGrant (e : Int) (g : Grant) : Grant := { g with tg := shiftTime e g.tg, launch := shiftTime e g.launch }

def shiftBlock (e : Int) (b : Block) : Block :=
  { b with start := shiftTime e b.start, mark := shiftTime e b.mark, cutAt := b.cutAt.map (shiftTime e) }

def shiftHdr (e : Int) (h : FrameHdr) : FrameHdr := { h with mark := shiftTime e h.mark }

def shiftProf (e : Int) (p : Prof) : Prof :=
  { p with pending := p.pending.map (fun x => { x with due := x.due.map (shiftTime e) }) }

def shiftProfs (e : Int) (t : Tab Prof) : Tab Prof := t.map (fun x => (x.1, shiftProf e x.2))

/-- Instants a Pod holds. -/
def shiftPod (e : Int) (p : Pod) : Pod := { p with
  decoding := p.decoding.map (shiftBlock e), current := p.current.map (shiftBlock e)
  predicted := p.predicted.map (shiftTime e), loops := p.loops.map (fun r => (shiftTime e r.1, shiftTime e r.2))
  rxProf := shiftProfs e p.rxProf, txProf := shiftProfs e p.txProf }

/-- Marks a channel of DSF holds. -/
def shiftChan (e : Int) (c : DsfCh) : DsfCh := { c with
  block0Mark := shiftTime e c.block0Mark, lastMark := c.lastMark.map (shiftTime e)
  mfCand := c.mfCand.map (shiftHdr e), lastHdr := c.lastHdr.map (shiftHdr e)
  frameMarks := c.frameMarks.map (fun m => (m.1, shiftTime e m.2)) }

/-- Reorder timeouts and skew store releases are unaffected by a step: their instants move with it. -/
def shiftLink (e : Int) (l : DsfLink) : DsfLink := { l with
  skewStore := l.skewStore.map (fun h => { h with time := shiftTime e h.time })
  reorder := l.reorder.map (fun h => { h with time := shiftTime e h.time }) }

/-- Bursts leave at the same physical instant; the duty budget counts the same light. -/
def shiftUbt (e : Int) (u : UbtCh) : UbtCh := { u with
  bursts := u.bursts.map (fun b => { b with g := shiftGrant e b.g })
  runs := u.runs.map (fun r => (shiftTime e r.1, shiftTime e r.2)), lastEnd := shiftTime e u.lastEnd }

/-- Every instant held by the block that denotes a physical instant moves with the step. -/
def State.shiftHeld (s : State) (e : Int) : State :=
  let s := (List.range 4).foldl (fun s n =>
    ((s.modPod n (shiftPod e)).modChan n (shiftChan e)).modUbt n (shiftUbt e)) s
  let s := s.dsf.links.foldl (fun s (x : Nat × DsfLink) => s.setDlink x.1 (shiftLink e x.2)) s
  let s := s.modUsq (fun u => { u with
    grants := u.grants.map (shiftGrant e)
    ran := u.ran.map (fun k => shiftTime e (k * 256000) / 256000) })
  let s := s.usq.queues.foldl (fun s (x : Nat × Queue) => s.modQueue x.1 (fun q => { q with
    frames := q.frames.map (fun f => { f with seenAt := if f.visible then shiftTime e f.seenAt else f.seenAt }) })) s
  let s := s.modAct (fun a => { a with held := a.held.map (fun h => { h with due := h.due.map (shiftTime e) }) })
  s.modNtm (fun n => { n with
    latches := n.latches.map (fun l => { l with mark := shiftTime e l.mark })
    hrefLast := n.hrefLast.map (shiftTime e) })

/-- Listen windows follow network time (R593): a step can begin or end one. -/
def State.stepWindow (s : State) : State :=
  if s.pwr.mode ≠ .cyclic then s
  else if s.pwr.phase = .sleepPeriod ∧ s.inWindow then
    let s := ((s.modPwr (fun p => { p with phase := .listen })).bump Reg.PWR_CNT_LISTEN).raise Reg.PWR_STATUS 6
    s.switchOn (domains s.enabledPods)
  else if s.pwr.phase = .listen ∧ !s.inWindow then s.modPwr (fun p => { p with phase := .sleepPeriod })
  else s

/-- R330: the time after this tick's own advance moves by `e`. -/
def State.applyStep (s : State) (e : Int) : State :=
  let s := s.modNtm (fun n => { n with time := wrapTime (shiftTime e n.time) })
  let s := (s.raise Reg.NTM_STATUS 1).bump Reg.NTM_CNT_STEP
  let s := (s.shiftHeld e).stepBins.abandonWindows true true true
  let p := s.fld Reg.USQ_LAT_PERIOD 19 0 * 256000
  let s := s.endPeriod (s.now / p * p) true
  let s := s.dueSlots.foldl (fun s i => s.fireSlot i true) s
  let s := s.dueSwitches.foldl State.takeSwitch s
  let s := (List.range 8).foldl State.trigStep s
  let s := (List.range 4).foldl (fun s c => s.setCap c { s.cap c with
    stepPending := true, lastEdge := (s.cap c).lastEdge.map (shiftTime e) }) s
  ({ s with shell := { s.shell with ofs := s.shell.ofs - e } }).stepWindow

/-! ## The servo (R323) -/

/-- NTM_STEP_THR in pips. -/
def State.stepThr (s : State) : Nat := s.fld Reg.NTM_STEP_THR 29 0 * 256

/-- The slew limit in rate words, rounded down. -/
def State.slewMax (s : State) : Nat := s.fld Reg.NTM_SLEW_MAX 16 0 * 858993459 / 1000000

def clampRate (x : Int) : Int := clampInt x (-2 ^ 31) (2 ^ 31 - 1)

/-- The rate word and I after a measurement that does not step. `n` is the ticks since the previous accepted mark. -/
def servoRate (i : Int) (e : Int) (n : Option Nat) (ki kp slew : Nat) : Int × Int :=
  let g := (e * 2 ^ 32).tdiv (n.getD 1280000000)
  let i := match n with
    | some _ => clampRate (i + g / 2 ^ ki)
    | none => i
  (clampRate (clampInt (i + g / 2 ^ kp) (i - slew) (i + slew)), i)

/-- Whether a measurement steps. `exiting` is a measurement that ends a holdover. -/
def State.mustStep (s : State) (e : Int) (exiting : Bool) : Bool :=
  s.ntm.state == .unset || (decide (s.stepThr < e.natAbs) && !(exiting && s.rbit Reg.NTM_CTRL 3))

/-- R323. -/
def State.servo (s : State) (e : Int) (n : Option Nat) (exiting : Bool) : State :=
  if s.mustStep e exiting then
    let s := s.modNtm (fun t => { t with rate := t.rateI })
    (s.passTicks 1).applyStep e
  else
    let (rate, i) := servoRate s.ntm.rateI e n (s.fld Reg.NTM_SERVO 7 4) (s.fld Reg.NTM_SERVO 3 0) s.slewMax
    s.modNtm (fun t => { t with rate := rate, rateI := i })

/-! ## Measurements (R322, R324, R328) -/

/-- A TIME_OF_DAY rejected. -/
def State.rejectTod (s : State) : State := (s.bump Reg.NTM_CNT_TOD_REJECT).raise Reg.NTM_STATUS 5

/-- R328, steps 1 and 2: holdover ends. -/
def State.exitHoldover (s : State) : State :=
  let h := s.holdElapsed
  let s := s.setTimeState .acquire
  let s := s.modNtm (fun n => { n with rate := n.rateI, hrefInUse := false, holdElapsed := h, prevTick := none })
  (s.raise Reg.NTM_STATUS 3).reroot

/-- The first LOCKED arms the schedule of the image (R563). -/
def State.becomeLocked (s : State) : State := (s.setTimeState .locked).armSchedule

/-- The rows of Table NTM-3 for a measurement that the servo has run in state `st`; `stepped` says that it stepped. -/
def State.afterMeasure (s : State) (st : TimeState) (e : Int) (stepped : Bool) : State :=
  let thr := s.fld Reg.NTM_SERVO 31 16
  match st with
  | .unset => s.setTimeState .acquire
  | .acquire =>
    if stepped || decide (thr < e.natAbs) then s.modNtm (fun n => { n with lockCount := 0 })
    else if s.fld Reg.NTM_SERVO 15 8 ≤ s.ntm.lockCount + 1 then s.becomeLocked
    else s.modNtm (fun n => { n with lockCount := n.lockCount + 1 })
  | .locked => if stepped || decide (4 * thr < e.natAbs) then s.setTimeState .acquire else s
  | _ => s

/-- A measurement runs (SERVO_EN = 1). -/
def State.measure (s : State) (e : Int) (n : Option Nat) : State :=
  let st := s.ntm.state
  let exiting : Bool := st == .holdover
  let s := if exiting then s.exitHoldover else s
  let n := if exiting then none else n
  let stepped := s.mustStep e exiting
  let s := (s.servo e n exiting).modNtm (fun t => { t with everSet := true })
  s.afterMeasure st e stepped

/-- The latch of the time channel for a multiframe. -/
def State.todLatch (s : State) (tod : Tod) : Option Latch :=
  s.ntm.latches.find? (fun l => s.ntm.tch == some l.ch && l.mfLow == BitVec.ofNat 16 tod.sf)

/-- An accepted message: e, the records of R322 and the servo; the active tells its peer (TIME). -/
def State.acceptTod (s : State) (tod : Tod) (l : Latch) : State :=
  let e : Int := tod.launch + l.dDown - l.mark
  let n := s.ntm.prevTick.map (fun p => l.tick - p)
  let s := s.modNtm (fun t => { t with
    lastErr := e, lastMf := BitVec.ofNat 16 tod.sf, lastTraceable := tod.traceable, traceable := tod.traceable
    lastSf := some tod.sf, heldTod := none, acceptTick := some s.ticks })
  let s := s.bump Reg.NTM_CNT_TOD_ACCEPT
  let s := if s.rbit Reg.NTM_CTRL 1 then s.measure e n else s
  let s := s.modNtm (fun t => { t with prevTick := some l.tick })
  if s.mirrorOut 0x42 then
    s.sendTwin 0x42 (beBytes 1 (timeCode s.ntm.state) ++ beBytes 4 (BitVec.ofInt 32 s.ntm.rateI).toNat ++
      beBytes 4 (satWord e).toNat ++ beBytes 4 s.holdElapsed)
  else s

/-- The multiframe a message names has begun on the time channel. -/
def State.todBegun (s : State) (tod : Tod) : Bool :=
  match s.ntm.tch with
  | none => false
  | some c => match (s.chan c).lastHdr with
    | none => false
    | some h => (BitVec.ofNat 16 tod.sf == h.mf) || (BitVec.ofNat 16 tod.sf - h.mf).msb

/-- R322: the message is rejected whatever latch exists. -/
def State.todBarred (s : State) (tod : Tod) : Bool :=
  s.ntm.tch.isNone || s.ntm.forced ||
    (match s.ntm.lastSf with
      | some p => decide (tod.sf ≤ p)
      | none => false)

/-- R322: a TIME_OF_DAY is accepted, held or rejected. -/
def State.todIn (s : State) (tod : Tod) : State :=
  if s.todBarred tod then s.rejectTod
  else
    match s.todLatch tod with
    | some l => s.acceptTod tod l
    | none =>
      if s.todBegun tod then s.rejectTod
      else s.modNtm (fun t => { t with heldTod := some { tod with tick := s.ticks } })

/-- `TIME_OF_DAY` (R322). -/
def execTimeOfDay (msg : MsgIn) (s : State) : Outcome State Fault Refusal :=
  let b := msg.body
  let tod : Tod := ⟨beNat (slice b 0 6), ntimeOf (slice b 6 11), beNat (slice b 17 1) % 2 == 1, s.ticks⟩
  done (s.take msg (b.length == 20 && ntimeOk (slice b 6 11)) t1to7 (fun s => s.todIn tod))

/-- `TOD_HELD_APPLY` (R322): the latch of the held message exists. -/
def execTodHeldApply (s : State) : Outcome State Fault Refusal :=
  match s.ntm.heldTod with
  | none => done s
  | some tod =>
    if s.todBarred tod then done ((s.modNtm (fun t => { t with heldTod := none })).rejectTod)
    else
      match s.todLatch tod with
      | some l => done (s.acceptTod tod l)
      | none => done s

/-- `TOD_HELD_LAPSE` (R322): 2 s have passed since the message was held, and its latch does not exist. -/
def execTodHeldLapse (s : State) : Outcome State Fault Refusal :=
  match s.ntm.heldTod with
  | none => done s
  | some tod =>
    let s := s.passToTick (tod.tick + 2000000 * ticksPerUs)
    if (s.todLatch tod).isSome then done s else
    done ((s.modNtm (fun t => { t with heldTod := none })).rejectTod)

/-! ## Holdover (R325, R326, R329) -/

/-- The root follows the time state. -/
def State.holdoverNow (s : State) (forced : Bool) : State := (s.enterHoldover forced).reroot

/-- `TOD_TIMEOUT` (R325). -/
def execTodTimeout (s : State) : Outcome State Fault Refusal :=
  match s.ntm.acceptTick with
  | none => done s
  | some t =>
    if s.ntm.state = .acquire ∨ s.ntm.state = .locked then
      done ((s.passToTick (t + s.fld Reg.NTM_TOD_TIMEOUT 15 0 * 1000 * ticksPerUs)).holdoverNow false)
    else done s

/-- `HOLD_SPEC_END` (R329): NTM_HOLD_ELAPSED passes NTM_HOLD_SPEC. -/
def execHoldSpecEnd (s : State) : Outcome State Fault Refusal :=
  if s.ntm.state = .holdover ∧ !s.ntm.specEnded then
    let s := s.passToTick (s.ntm.holdAt + (s.fld Reg.NTM_HOLD_SPEC 23 0 + 1) * 1000000 * ticksPerUs)
    done ((s.modNtm (fun n => { n with specEnded := true })).raise Reg.NTM_STATUS 4)
  else done s

/-- R326: a forced holdover is released; holdover goes on until a measurement is accepted. -/
def State.releaseHold (s : State) : State := s.modNtm (fun n => { n with forced := false })

/-! ## HOLD_REF (R327) -/

/-- K. -/
def State.hrefK (s : State) : Nat := s.fld Reg.NTM_HREF_CTRL 6 0

/-- An interval within 10 ppm. -/
def intervalOk (d : Nat) : Bool := decide (((d : Int) - pipsPerSec).natAbs ≤ 2560000)

/-- NTM_HREF_RATE of K intervals. -/
def hrefRateOf (ds : List Nat) : Int :=
  let k := ds.length
  let sum : Int := (ds.foldl (· + ·) 0 : Nat)
  ((sum - k * pipsPerSec) * 2 ^ 32).tdiv (k * 1280000000)

/-- VALID as the intervals held give it; a change sets HREF_CHG. -/
def State.hrefJudge (s : State) : State :=
  let k := s.hrefK
  let ds := s.ntm.intervals.take k
  let valid := decide (ds.length = k) && decide (0 < k) && ds.all intervalOk
  let was := s.ntm.hrefValid
  let s := s.modNtm (fun n => { n with
    intervals := ds, hrefValid := valid, hrefRate := if valid then hrefRateOf ds else n.hrefRate })
  s.raiseIf (was != valid) Reg.NTM_STATUS 7

/-- `HOLD_REF_INTERVAL` (R327): the 10,000,000th edge since the last is at network time `stamp`. -/
def execHoldRefInterval (stamp : Nat) (s : State) : Outcome State Fault Refusal :=
  let s := (s.passTo stamp).modNtm (fun n => { n with hrefPresent := true })
  if s.ntm.state ≠ .locked then done s
  else
    let s := match s.ntm.hrefLast with
      | some p => s.modNtm (fun n => { n with intervals := (stamp - p) :: n.intervals })
      | none => s
    done ((s.modNtm (fun n => { n with hrefLast := some stamp })).hrefJudge)

/-- `HOLD_REF_LOSS` (R327). -/
def execHoldRefLoss (s : State) : Outcome State Fault Refusal :=
  let used := s.ntm.hrefInUse
  let was := s.ntm.hrefValid
  let s := s.modNtm (fun n => { n with
    hrefPresent := false, hrefValid := false, intervals := [], hrefLast := none, hrefInUse := false
    rate := if used then n.rateI else n.rate })
  done ((s.raiseIf (used || was) Reg.NTM_STATUS 7).reroot)

/-! ## Reading and setting the time (R331, R332) -/

/-- NTM_CMD: SNAP, HOLD, RELEASE. -/
def State.ntmCmd (s : State) (v : Word) : State :=
  let s := if v.getLsbD 0 then
      let t := s.now
      (((s.setReg Reg.NTM_SNAP_S_LO (BitVec.ofNat 32 (secOf t))).setReg Reg.NTM_SNAP_S_HI
        (BitVec.ofNat 32 (secOf t / 2 ^ 32))).setReg Reg.NTM_SNAP_NS (BitVec.ofNat 32 (nsOf t))).setReg Reg.NTM_SNAP_PP
        (BitVec.ofNat 32 (t % 256 + 256))
    else s
  let s := if v.getLsbD 1 then s.holdoverNow true else s
  if v.getLsbD 2 then s.releaseHold else s

/-- A host SET or ADJ in ACQUIRE or LOCKED, or a SET in UNSET: ACQUIRE, with the lock count at 0. -/
def State.hostTime (s : State) (fromUnset : Bool) : State :=
  match s.ntm.state with
  | .unset => if fromUnset then s.setTimeState .acquire else s
  | .locked => s.setTimeState .acquire
  | .acquire => s.modNtm (fun n => { n with lockCount := 0 })
  | _ => s

/-- NTM_TIME_CMD.SET (R332). -/
def State.timeSet (s : State) : State :=
  if 999999999 < s.fld Reg.NTM_SET_NS 29 0 then s.raise Reg.NTM_STATUS 14
  else
    let t := s.timeRegs Reg.NTM_SET_S_LO Reg.NTM_SET_S_HI Reg.NTM_SET_NS Reg.NTM_SET_PP
    let s := s.passTicks 1
    let s := s.applyStep ((t : Int) - s.now)
    let s := s.modNtm (fun n => { n with frac := 0, everSet := true, acceptTick := some s.ticks })
    s.hostTime true

/-- NTM_TIME_CMD.ADJ (R332). -/
def State.timeAdj (s : State) : State :=
  let e := signedOf 32 (s.reg Reg.NTM_ADJ).toNat
  ((s.passTicks 1).applyStep e).hostTime false

/-- NTM_TIME_CMD. With both bits the SET comes first. -/
def State.timeCmd (s : State) (v : Word) : State :=
  let s := if v.getLsbD 0 then s.timeSet else s
  if v.getLsbD 1 then s.timeAdj else s

/-- A write of NTM_CTRL: the servo's rows of Table NTM-3, and the choice of the time channel (R320). -/
def State.writeNtmCtrl (s : State) (v : Word) : State :=
  let was := s.rbit Reg.NTM_CTRL 1
  let s := s.setReg Reg.NTM_CTRL (v &&& 0x7F)
  let on := s.rbit Reg.NTM_CTRL 1
  let s := if was && !on then
      let h := s.holdElapsed
      let s := s.setTimeState .manual
      s.modNtm (fun n => { n with
        holdElapsed := h, hrefInUse := false, forced := false, rate := signedOf 32 (s.reg Reg.NTM_RATE_MAN).toNat })
    else if !was && on then
      let s := s.setTimeState (if s.ntm.everSet then .acquire else .unset)
      s.modNtm (fun n => { n with rate := if n.everSet then n.rateI else 0, acceptTick := some s.ticks, prevTick := none })
    else s
  s.reconsider

/-- A write of NTM_RATE_MAN: with SERVO_EN = 0 it is the rate. -/
def State.writeRateMan (s : State) (v : Word) : State :=
  let s := s.setReg Reg.NTM_RATE_MAN v
  if s.rbit Reg.NTM_CTRL 1 then s else s.modNtm (fun n => { n with rate := signedOf 32 v.toNat })

end Sys2Proof.Machine
end

