-- ==== Sys2Proof/Machine/NtmPtp.lean ====
section
/-! DEFINITION. PTP master ports (R334 to R338) and the host timestamp corrections (R318). The message layouts are those
of IEEE 1588-2019, which the spec names. -/

namespace Sys2Proof.Machine

open Host (Outcome)
open Crypto (beBytes beNat slice)

/-! ## Corrections (R318, Table NTM-2) -/

/-- Egress and ingress correction of a port mode, in pips. -/
def portCorr (mode : Nat) : Nat × Nat := match mode with
  | 0 => (9792, 28832)
  | 1 => (9216, 25120)
  | 2 => (8576, 22240)
  | _ => (8128, 20320)

/-- An egress stamp referred to the balls. -/
def State.egressStamp (s : State) (p mac : Nat) : Nat :=
  if s.rbit (Reg.NTM_HPp_CFG p) 0 then
    (mac + (portCorr (s.portMode p)).1 + signedOf 24 (s.fld (Reg.NTM_HPp_EG_ADJ p) 23 0)).toNat
  else mac

/-- An ingress stamp referred to the balls. -/
def State.ingressStamp (s : State) (p mac : Nat) : Nat :=
  if s.rbit (Reg.NTM_HPp_CFG p) 0 then
    ((mac : Int) - (portCorr (s.portMode p)).2 - signedOf 24 (s.fld (Reg.NTM_HPp_IN_ADJ p) 23 0)).toNat
  else mac

/-! ## Frames -/

/-- The address of a host port. -/
def State.portMac (s : State) (p : Nat) : List Byte :=
  beBytes 2 (s.fld (Reg.HPE_Pp_ADDR_HI p) 15 0) ++ beBytes 4 (s.reg (Reg.HPE_Pp_ADDR_LO p)).toNat

/-- The one's complement sum of 16-bit words. -/
def onesSum : List Byte → Nat
  | a :: b :: r => a.toNat * 256 + b.toNat + onesSum r
  | [a] => a.toNat * 256
  | [] => 0

/-- The Internet checksum. -/
def inetSum (b : List Byte) : Nat :=
  let x := onesSum b
  let x := x % 65536 + x / 65536
  let x := x % 65536 + x / 65536
  65535 - x

/-- UDP header and payload, with a checksum over the given pseudo-header, or 0. -/
def udpOf (port : Nat) (pseudo payload : List Byte) (sum : Bool) : List Byte :=
  let head (c : Nat) : List Byte := beBytes 2 port ++ beBytes 2 port ++ beBytes 2 (8 + payload.length) ++ beBytes 2 c
  let c := inetSum (pseudo ++ head 0 ++ payload)
  head (if sum then (if c = 0 then 65535 else c) else 0) ++ payload

/-- FF0E::181. -/
def ptpGroup6 : List Byte := [0xFF, 0x0E] ++ List.replicate 12 0 ++ [0x01, 0x81]

/-- A PTP message framed for the port's transport (R335), without its FCS. What the spec leaves open of the IP headers is
free. -/
def State.ptpFrame (s : State) (p port : Nat) (m : List Byte) : List Byte × State :=
  let c := Reg.NTM_PTPp_CTRL p
  let sa := s.portMac p
  match s.fld c 2 1 with
  | 1 =>
    let (w, s) := s.drawWord
    let (sum, s) := s.drawBit
    let src := beBytes 4 (s.reg (Reg.NTM_PTPp_IPV4 p)).toNat
    let dst : List Byte := [224, 0, 1, 129]
    let head (k : Nat) : List Byte := [0x45] ++ beBytes 1 w.toNat ++ beBytes 2 (28 + m.length) ++
      beBytes 2 (w.toNat / 256) ++ [0, 0] ++ beBytes 1 (w.toNat / 2 ^ 24) ++ [17] ++ beBytes 2 k ++ src ++ dst
    let udp := udpOf port (src ++ dst ++ [0, 17] ++ beBytes 2 (8 + m.length)) m sum
    ([0x01, 0x00, 0x5E, 0x00, 0x01, 0x81] ++ sa ++ [0x08, 0x00] ++ head (inetSum (head 0)) ++ udp, s)
  | 2 =>
    let (w, s) := s.drawWord
    let src := (List.range 4).flatMap (fun k => beBytes 4 (s.reg (Reg.NTM_PTPp_IPV6 p k)).toNat)
    let udp := udpOf port (src ++ ptpGroup6 ++ beBytes 4 (8 + m.length) ++ [0, 0, 0, 17]) m true
    ([0x33, 0x33, 0x00, 0x00, 0x01, 0x81] ++ sa ++ [0x86, 0xDD] ++ beBytes 4 (6 * 2 ^ 28 + w.toNat % 2 ^ 28) ++
      beBytes 2 (8 + m.length) ++ [17] ++ beBytes 1 (w.toNat / 2 ^ 28) ++ src ++ ptpGroup6 ++ udp, s)
  | _ =>
    ((if s.rbit c 3 then [0x01, 0x80, 0xC2, 0x00, 0x00, 0x0E] else [0x01, 0x1B, 0x19, 0x00, 0x00, 0x00]) ++ sa ++
      [0x88, 0xF7] ++ m, s)

/-- clockIdentity of this unit. -/
def State.clockId (s : State) : List Byte :=
  beBytes 4 (s.reg Reg.NTM_PTP_CLKID_HI).toNat ++ beBytes 4 (s.reg Reg.NTM_PTP_CLKID_LO).toNat

/-- The 34-byte common header: type, length, second flag byte, correctionField, sequenceId, control, log interval. -/
def State.ptpHead (s : State) (p type len flags : Nat) (corr : Nat) (seq ctl logI : Nat) : List Byte :=
  beBytes 1 type ++ [0x12] ++ beBytes 2 len ++ beBytes 1 (s.fld Reg.NTM_PTP_CFG 7 0) ++ [0, 0] ++ beBytes 1 flags ++
    beBytes 8 corr ++ [0, 0, 0, 0] ++ s.clockId ++ beBytes 2 (p + 1) ++ beBytes 2 seq ++ beBytes 1 ctl ++ beBytes 1 logI

/-- Seconds and nanoseconds of a stamp, as a PTP timestamp. -/
def ptpTime (t : Nat) : List Byte := beBytes 6 (secOf t) ++ beBytes 4 (nsOf t)

/-- The port may send a PTP message: enabled, up, and the time set and disciplined or held (R338). -/
def State.ptpSends (s : State) (p : Nat) : Bool :=
  s.rbit (Reg.NTM_PTPp_CTRL p) 0 && (s.port p).up && s.ntm.state != .unset && s.ntm.state != .manual

/-- Frame a message, send it and count it. -/
def State.ptpSend (s : State) (p port counter : Nat) (m : List Byte) : State :=
  let (f, s) := s.ptpFrame p port m
  ((s.sendPadded p f).bump (Reg.HPE_Pp_TX_PTP p)).bump counter

/-! ## Sync and Announce -/

def State.ptpSeqs (s : State) (p : Nat) : BitVec 16 × BitVec 16 := Tab.get (0, 0) s.ntm.ptpSeq p
def State.setPtpSeqs (s : State) (p : Nat) (x : BitVec 16 × BitVec 16) : State :=
  s.modNtm (fun n => { n with ptpSeq := Tab.set (0, 0) n.ptpSeq p x })

/-- A 4-bit signed log interval as a byte. -/
def logByte (n : Nat) : Nat := (BitVec.ofInt 8 (signedOf 4 n)).toNat

/-- `PTP_SYNC` (R337): `macStamp` is the MAC's egress stamp. -/
def execPtpSync (port : Port) (macStamp : Nat) (s : State) : Outcome State Fault Refusal :=
  let s := s.passTo macStamp
  if !s.ptpSends port then done s
  else
    let t := s.egressStamp port macStamp
    let (a, b) := s.ptpSeqs port
    let m := s.ptpHead port 0 44 0 (t % 256 * 256) a.toNat 0 (logByte (s.fld (Reg.NTM_PTPp_CTRL port) 7 4)) ++ ptpTime t
    done ((s.setPtpSeqs port (a + 1, b)).ptpSend port 319 (Reg.NTM_PTPp_CNT_SYNC port) m)

/-- clockClass (R338). -/
def State.clockClass (s : State) : Nat :=
  match s.ntm.state with
  | .locked => if s.ntm.traceable then s.fld Reg.NTM_PTP_CLASS 7 0 else s.fld Reg.NTM_PTP_CLASS 31 24
  | .holdover => if s.inSpec then s.fld Reg.NTM_PTP_CLASS 15 8 else s.fld Reg.NTM_PTP_CLASS 23 16
  | _ => s.fld Reg.NTM_PTP_CLASS 31 24

/-- The second flag byte of Announce. -/
def State.announceFlags (s : State) : Nat :=
  let c := s.clockClass
  let tr := b2n (c == s.fld Reg.NTM_PTP_CLASS 7 0 || c == s.fld Reg.NTM_PTP_CLASS 15 8)
  s.fld Reg.NTM_PTP_UTC 17 17 + 2 * s.fld Reg.NTM_PTP_UTC 18 18 + 4 * s.fld Reg.NTM_PTP_UTC 16 16 + 8 + 16 * tr + 32 * tr

/-- `PTP_ANNOUNCE` (R338, Table NTM-6). -/
def execPtpAnnounce (port : Port) (s : State) : Outcome State Fault Refusal :=
  if !s.ptpSends port then done s
  else
    let (a, b) := s.ptpSeqs port
    let m := s.ptpHead port 11 64 s.announceFlags 0 b.toNat 5 (logByte (s.fld (Reg.NTM_PTPp_CTRL port) 11 8)) ++
      List.replicate 10 0 ++ beBytes 2 (s.fld Reg.NTM_PTP_UTC 15 0) ++ [0, 128] ++ beBytes 1 s.clockClass ++
      beBytes 1 (s.fld Reg.NTM_PTP_QUAL 7 0) ++ beBytes 2 (s.fld Reg.NTM_PTP_QUAL 23 8) ++
      beBytes 1 (s.fld Reg.NTM_PTP_CFG 15 8) ++ s.clockId ++ beBytes 2 (s.fld Reg.NTM_PTP_CFG 31 24) ++
      beBytes 1 (s.fld Reg.NTM_PTP_QUAL 31 24)
    done ((s.setPtpSeqs port (a, b + 1)).ptpSend port 320 (Reg.NTM_PTPp_CNT_ANN port) m)

/-! ## Delay_Req (R336, R337) -/

/-- Where the PTP message begins in a frame of the port's transport. -/
def State.ptpOffset (s : State) (p : Nat) (f : List Byte) : Nat := match s.fld (Reg.NTM_PTPp_CTRL p) 2 1 with
  | 1 => 14 + (f.getD 14 0).toNat % 16 * 4 + 8
  | 2 => 62
  | _ => 14

/-- A valid Delay_Req. -/
def State.validDreq (s : State) (m : List Byte) : Bool :=
  decide (44 ≤ m.length) && decide (beNat (slice m 0 1) % 16 = 1) && decide (beNat (slice m 1 1) % 16 = 2) &&
    decide (beNat (slice m 4 1) = s.fld Reg.NTM_PTP_CFG 7 0)

/-- Delay_Resp sent by a port in the second in progress. -/
def State.drespSent (s : State) (p : Nat) : Nat :=
  let r := Tab.get (0, 0) s.ntm.dresp p
  if r.1 = s.now / pipsPerSec then r.2 else 0

/-- The answer to a Delay_Req with an ingress stamp. -/
def State.sendDresp (s : State) (p : Nat) (m : List Byte) (mac : Nat) : State :=
  let t := s.ingressStamp p mac
  let cf := (BitVec.ofNat 64 (beNat (slice m 8 8)) - BitVec.ofNat 64 (t % 256 * 256)).toNat
  let r := s.ptpHead p 9 54 0 cf (beNat (slice m 30 2)) 3 (logByte (s.fld (Reg.NTM_PTPp_CTRL p) 15 12)) ++ ptpTime t ++
    slice m 20 10
  let n := s.drespSent p
  let s := s.modNtm (fun x => { x with dresp := Tab.set (0, 0) x.dresp p (s.now / pipsPerSec, n + 1) })
  s.ptpSend p 320 (Reg.NTM_PTPp_CNT_DRESP p) r

/-- `DELAY_REQ` (R336): the oldest diverted PTP message of the port is answered or dropped. -/
def execDelayReq (port : Port) (s : State) : Outcome State Fault Refusal :=
  match (s.port port).ptp with
  | [] => done s
  | (f, mac) :: r =>
    let s := s.modPort port (fun x => { x with ptp := r })
    let m := (f.take (f.length - 4)).drop (s.ptpOffset port f)
    if s.validDreq m && s.ptpSends port && decide (s.drespSent port < 512) then done (s.sendDresp port m mac)
    else done (s.bump (Reg.NTM_PTPp_CNT_DROP port))

end Sys2Proof.Machine
end

