-- ==== Sys2Proof/Machine/Pwr.lean ====
section
/-! DEFINITION. Modes of the power controller (chapter 15): permits (R584, R595), entries (R585 to R587), listen windows
(R593) and the wake sources (R598, R599). Switching a domain on is in `PwrOn`. -/

namespace Sys2Proof.Machine

open Host (Outcome)
open Crypto (beBytes beNat slice)

/-! ## Switching a domain off (R586, R587) -/

/-- The retained banks signed with a domain (Table PWR-5, R591). -/
def banksOf (d : Nat) : List Nat :=
  if d < 4 then [10 + d] else if d = 4 then [0, 1, 2, 3, 4, 5, 6, 7, 8, 9, 14] else []

/-- A bank's signature is stored. What a bank's words hold is not laid down: the signature is free. -/
def State.signBank (s : State) (b : Nat) : State :=
  let (w, s) := s.drawWord
  s.modPwr (fun p => { p with sigs := Tab.set 0 p.sigs b w })

/-- A Pod off by a mode: its channel is asleep, its bursts and blocks are gone. -/
def State.sleepPod (s : State) (n : Nat) : State :=
  let s := ((s.stopChannel n).stopBursts n).dropBlocks n
  let s := s.modChan n (fun c => { c with asleep := true, defects := 0 })
  s.setFa n .hunt

/-- PE off: the twin link is gone, work in the engines is gone, the controllers reset. -/
def State.sleepPe (s : State) : State :=
  let s := s.twinLost
  let s := ({ s with arrivals := [] }.modUsq (fun u => { u with grants := [] })).modDsf (fun d => { d with frames := [] })
  (List.range 4).foldl (fun s n =>
    let s := s.initiatorReset (10 + n)
    if (s.mcu n).state = .running then s.modMcu n (fun m => { m with state := .restarting }) else s) s

/-- A quad off: its lanes lose lock. -/
def State.sleepQuad (s : State) (q : Nat) : State :=
  (List.range 8).foldl (fun s p =>
    if s.portEn p && (s.portQuads p).contains q then (s.modPort p (fun x => { x with locked := 0 })).portCheck p else s) s

/-- R587: a domain is switched off. -/
def State.switchOff (s : State) (d : Nat) : State :=
  if !s.pwr.on.getLsbD d then s else
  let s := (banksOf d).foldl State.signBank s
  let s := s.modPwr (fun p => { p with on := putBit p.on d false })
  if d < 4 then s.sleepPod d
  else if d = 4 then s.sleepPe
  else if d < 13 then s.sleepQuad (d - 5)
  else s

/-! ## Entries (R585 to R587) -/

/-- What stays on at the end of an entry: one into Cyclic Sleep inside a listen window keeps the enabled Pods. -/
def State.entryKeeps (s : State) (m : Mode) : BitVec 15 :=
  let held := s.heldOn m s.pwr.keptPod
  if m = .cyclic ∧ s.inWindow then held ||| (s.pwr.on &&& domains s.enabledPods) else held

/-- The entry in progress completes. -/
def State.enterMode (s : State) (m : Mode) : State :=
  let s := s.modPwr (fun p => { p with periods := (s.act.sleepMs, s.act.listenMs), switching := 0 })
  let keep := s.entryKeeps m
  let s := (bitList (s.pwr.on &&& ~~~ keep)).foldl State.switchOff s
  let s := (s.setMode m).modPwr (fun p => { p with lostBanks := 0, selfRefresh := 0 })
  let s := s.modPwr (fun p => { p with phase := s.restPhase m, target := m })
  (s.bump Reg.PWR_CNT_ENTRY).reconsider.reportElig

/-- `MODE_ENTRY_DONE` (R585, R587): the refusers are checked to the last step. -/
def execModeEntryDone (s : State) : Outcome State Fault Refusal :=
  if s.pwr.phase ≠ .entering then done s
  else
    match s.refuser s.pwr.target with
    | some code => done (s.abortEntry code).actHeld
    | none => done (s.enterMode s.pwr.target).actHeld

/-- `REQ_LAPSE` (R584). -/
def execReqLapse (s : State) : Outcome State Fault Refusal :=
  match s.pwr.reqPending with
  | none => done s
  | some (_, t) => done ((s.passToTick (t + 10000000 * ticksPerUs)).modPwr (fun p => { p with reqPending := none }))

/-! ## Permits -/

/-- A permit for a pending request: it starts the entry, or withdraws the request (Table PWR-7). -/
def State.permitPending (s : State) (mode : Nat) : State :=
  match s.pwr.reqPending with
  | none => s
  | some (m, _) =>
    let s := s.modPwr (fun p => { p with reqPending := none })
    if modeCode m ≤ mode ∧ !s.inSequence then s.requestMode m else s

/-- `SLEEP_ALLOW` (R584, R595). A MODE above 3 is not a mode: the message is discarded as one with a bad body. -/
def execSleepAllow (msg : MsgIn) (s : State) : Outcome State Fault Refusal :=
  let b := msg.body
  let mode := beNat (slice b 0 1)
  done (s.take msg (b.length == 8 && decide (mode ≤ 3)) [.t4, .t7] (fun s =>
    let s := s.modAct (fun a => { a with
      permit := mode, sleepMs := beNat (slice b 2 2), listenMs := beNat (slice b 4 2) })
    let s := s.permitPending mode
    if (s.pwr.mode = .doze ∧ mode < 1) ∨ (s.pwr.mode = .cyclic ∧ s.pwr.phase = .listen ∧ mode < 2) then s.wake 7 else s))

/-- `WAKE` (R217, R598): it is acknowledged on arrival in Active. -/
def execWake (msg : MsgIn) (s : State) : Outcome State Fault Refusal :=
  done (s.take msg msg.body.isEmpty [.t4, .t7] (fun s =>
    let u : UpMsg := ⟨14, msg.seq, []⟩
    let s := s.acted msg (some u)
    if s.pwr.mode = .active then s.queueMsg u
    else
      let s := s.modPwr (fun p => { p with wakeAck := some (14, msg.seq) })
      if s.pwr.mode = .cyclic ∧ s.pwr.phase = .listen then s.wake 4 else s))

/-! ## Listen windows (R593) -/

/-- The next window start: a cycle boundary of the permit's periods. -/
def State.nextWindow (s : State) : Nat :=
  let p := (s.act.sleepMs + s.act.listenMs) * 256000000
  (s.now / p + 1) * p

def State.hasCycle (s : State) : Bool := s.act.sleepMs + s.act.listenMs != 0

def State.asleepCyclic (s : State) : Bool := s.pwr.mode == .cyclic && s.pwr.phase == .sleepPeriod

/-- The instant at which the enabled Pods begin switching on. -/
def State.leadAt (s : State) : Nat := s.nextWindow - s.fld Reg.PWR_CYC 15 0 * 256000

/-- `LISTEN_POWER_UP` (R593). -/
def execListenPowerUp (s : State) : Outcome State Fault Refusal :=
  if !s.asleepCyclic || !s.hasCycle then done s
  else
    let s := s.passTo s.leadAt
    done (s.switchOn (domains s.enabledPods))

/-- `LISTEN_WINDOW_START` (R593). -/
def execListenWindowStart (s : State) : Outcome State Fault Refusal :=
  if !s.asleepCyclic || !s.hasCycle then done s
  else
    let s := s.passTo s.nextWindow
    let s := s.modPwr (fun p => { p with phase := .listen, periods := (s.act.sleepMs, s.act.listenMs) })
    let s := (s.bump Reg.PWR_CNT_LISTEN).raise Reg.PWR_STATUS 6
    done (s.switchOn (domains s.enabledPods))

/-- No light run of the channel is left. -/
def State.lightOver (s : State) (n : Nat) : Bool := !(s.ubtCh n).bursts.any (fun b => b.launched)

/-- Pods whose last light run has ended switch off; switch-ons in progress stop. -/
def State.podsToSleep (s : State) : State :=
  let s := s.modPwr (fun p => { p with switching := p.switching &&& ~~~ domains [0, 1, 2, 3] })
  (([0, 1, 2, 3].filter s.lightOver).foldl State.switchOff s).reconsider

/-- `LISTEN_WINDOW_END` (R593). In the sleep period, before the next power-up, it switches off the Pods whose light has
ended since. -/
def execListenWindowEnd (s : State) : Outcome State Fault Refusal :=
  if s.pwr.mode ≠ .cyclic then done s
  else if s.pwr.phase = .listen then
    if s.pwr.periods.1 = 0 then done s
    else
      let s := s.passTo (s.now / s.cyclePips * s.cyclePips + s.pwr.periods.2 * 256000000)
      done ((s.modPwr (fun p => { p with phase := .sleepPeriod })).podsToSleep)
  else if s.pwr.phase = .sleepPeriod ∧ s.hasCycle ∧ s.now < s.leadAt then done s.podsToSleep
  else done s

/-! ## Wake sources (R598, R599) -/

/-- The WKP region of Pod n is in reset (R705). -/
def State.wkpReset (s : State) (n : Nat) : Bool := s.inReset n 11

/-- `OPTICAL`: dark for 1 ms, then light for MIN_US. -/
def execOptical (ch : Chan) (s : State) : Outcome State Fault Refusal :=
  done (if s.chEnabled ch && !s.wkpReset ch then s.wake 1 else s)

/-- Bits in which two words differ. -/
def hamming (a b : BitVec 64) : Nat := (bitList (a ^^^ b)).length

def State.pattern (s : State) (lo hi : Nat) : BitVec 64 :=
  BitVec.ofNat 64 ((s.reg lo).toNat + (s.reg hi).toNat * 2 ^ 32)

/-- R599: the window matches a pattern that is enabled. -/
def State.patternFits (s : State) (w : BitVec 64) : Bool :=
  let tol := s.fld Reg.PWR_WK_PAT_CTRL 2 0
  (s.rbit Reg.PWR_WK_PAT_CTRL 8 && decide (hamming w (s.pattern Reg.PWR_WK_PAT_ALL_LO Reg.PWR_WK_PAT_ALL_HI) ≤ tol)) ||
    (s.rbit Reg.PWR_WK_PAT_CTRL 9 && decide (hamming w (s.pattern Reg.PWR_WK_PAT_OWN_LO Reg.PWR_WK_PAT_OWN_HI) ≤ tol))

/-- `PATTERN`: the detector's window stands at `window`. -/
def execPattern (ch : Chan) (window : BitVec 64) (s : State) : Outcome State Fault Refusal :=
  done (if s.chEnabled ch && !s.wkpReset ch && s.patternFits window then s.wake 2 else s)

/-- `HOST_ENERGY`: energy on a lane for 10 µs. -/
def execHostEnergy (lane : Fin 32) (s : State) : Outcome State Fault Refusal :=
  let mine (p : Nat) : Bool :=
    let base := s.fld (Reg.HPE_Pp_CFG p) 7 3
    s.portEn p && decide (base ≤ lane.val) && decide (lane.val < base + s.portLanes p)
  done (if (List.range 8).any mine then s.wake 3 else s)

/-- `PIN`: WAKE_N low for 1 µs. -/
def execPin (s : State) : Outcome State Fault Refusal := done (s.wake 6)

/-- `SELF_REFRESH_ENTRY` (R581). -/
def execSelfRefreshEntry (pc : Fin 64) (s : State) : Outcome State Fault Refusal :=
  if s.pwr.mode = .cyclic ∨ s.pwr.mode = .warm then
    done (s.modPwr (fun p => { p with selfRefresh := putBit p.selfRefresh pc true }))
  else done s

end Sys2Proof.Machine
end

