-- ==== Sys2Proof/Machine/RegView.lean ====
section
/-! DEFINITION. What a read of a register returns (R648, R656): the computed view of every register that only shows state,
the words of every indirect window (R669), and the common registers (R671). Effects of reads stand in RegEffect.lean. -/

namespace Sys2Proof.Machine

open Crypto (beNat slice)

/-! ## Parts of words -/

/-- A signed number's low `w` bits. -/
def lowBits (w : Nat) (x : Int) : Nat := (x % 2 ^ w).toNat

def nWord (n : Nat) : Word := BitVec.ofNat 32 n
def iWord (x : Int) : Word := BitVec.ofInt 32 x

/-- Halves of a 48-bit value (R667). -/
def loOf (x : Wide) : Word := x.setWidth 32
def hiOf (x : Wide) : Word := nWord (x.toNat / 2 ^ 32)

/-- The four parts of a time: seconds low, seconds high, nanoseconds, pips. -/
def timePart (t k : Nat) : Nat := match k with
  | 0 => secOf t % 2 ^ 32
  | 1 => secOf t / 2 ^ 32
  | 2 => nsOf t
  | _ => t % 256

/-! ## DEV and BOOT -/

def State.viewDev (s : State) (a : Nat) : Word := match a with
  | 0x4 => s.boot.unit
  | 0x24 => (List.range 32).foldl (fun w k => if (s.sem k).owner = 15 then w else putBit w k true) 0
  | a => s.reg a

def mcuCode (m : McuState) : Nat := match m with
  | .absent => 0 | .running => 1 | .restarting => 2 | .halted => 3

def State.fuseState (s : State) : Word :=
  let bits (p : Fuse → Bool) : Nat := (List.range 9).foldl (fun a f => if p (s.fuse f) then a + 2 ^ f else a) 0
  packWord [(bits (·.programmed), 9, 0), (bits (·.bad), 9, 9), ((s.fuse 7).value, 4, 18), (s.svnMin, 7, 22),
    (b2n s.boot.fuseBusy.isSome, 1, 29), (s.boot.fuseResult, 2, 30)]

def State.viewBoot (s : State) (a : Nat) : Word :=
  let b := s.boot
  match a with
  | 0x10004 => packWord [(b.step, 4, 0), (b2n b.slot, 1, 4), (b2n b.halted, 1, 5), (b.failCode, 4, 8), (b2n b.fallback, 1, 12)]
  | 0x10014 => b.lockedAt.getD 0
  | 0x10018 => b.operAt.getD 0
  | 0x10038 => s.fuseState
  | 0x1008c => putBit (s.reg a) 0 b.nvmBusy.isSome
  | a =>
    if 0x10100 ≤ a ∧ a < 0x10140 ∧ a % 16 = 4 then
      let m := s.mcu ((a - 0x10100) / 16)
      packWord [(mcuCode m.state, 2, 0), (m.restarts.toNat, 8, 8), (b2n m.bad, 1, 16)]
    else s.reg a

/-! ## CLK and PWR -/

def rootCode (r : RootSource) : Nat := match r with
  | .ref => 0 | .ds => 1 | .hold => 2 | .href => 3

/-- The power domain (Table PWR-1) of a clock domain (Table CLK-2), for HELD_OFF; none for one that is always on. -/
def powerOfClock (d : Nat) : Option Nat :=
  if 1 ≤ d ∧ d ≤ 4 then some (d - 1)
  else if d = 6 then some 4
  else if 8 ≤ d ∧ d ≤ 15 then some (5 + (d - 8))
  else if d = 16 ∨ d = 17 then some (13 + (d - 16))
  else none

def State.clockOff (s : State) (d : Nat) : Bool := match powerOfClock d with
  | some p => !s.pwr.on.getLsbD p
  | none => false

/-- Table CLK-8. -/
def State.crossWord (s : State) (x w : Nat) : Word :=
  if 82 ≤ x then 0 else
  let c := s.crossing x
  let (kind, src, dst) := crossingKind x
  match w with
  | 0 => packWord [(kind, 3, 0), (src, 5, 4), (dst, 5, 12), (b2n c.ovrFlag, 1, 20), (b2n c.resyncing, 1, 21),
      (b2n (s.clockOff src || s.clockOff dst), 1, 22)]
  | 1 => loOf c.overrun
  | 2 => hiOf c.overrun
  | 3 => loOf c.flush
  | 4 => hiOf c.flush
  | 5 => c.resync
  | _ => 0

def State.viewClk (s : State) (a : Nat) : Word :=
  let c := s.clk
  match a with
  | 0x20014 => packWord [(rootCode c.source, 2, 0), (c.rootCh.getD 0, 2, 2), (b2n c.rootCh.isSome, 1, 4), (b2n c.dsLock, 1, 5),
      (b2n c.dsUsed, 1, 6), (b2n c.holdWord.isSome, 1, 7)]
  | 0x20018 => c.word
  | 0x2001c => c.holdWord.getD 0
  | 0x20020 => satWord c.phaseErr
  | 0x20024 => packWord [(c.good.toNat, 4, 0), (b2n (decide (c.word.toInt.natAbs ≤ 3200000)), 1, 4)]
  | 0x20048 => s.crossWord (s.fld Reg.CLK_X_SEL 7 0) (s.fld Reg.CLK_X_ADDR 2 0)
  | a => s.reg a

def phaseCode (p : Phase) : Nat := match p with
  | .steady => 0 | .entering => 1 | .waking => 2 | .listen => 3 | .sleepPeriod => 4

def State.viewPwr (s : State) (a : Nat) : Word :=
  let p := s.pwr
  match a with
  | 0x30014 => packWord [(modeCode p.mode, 3, 0), (phaseCode p.phase, 3, 4), (b2n p.reqPending.isSome, 1, 8), (p.keptPod, 2, 9)]
  | 0x30018 => nWord p.on.toNat
  | 0x3001c => nWord p.failed.toNat
  | 0x30030 => match p.lastWake with
    | some w => packWord [(w.source, 4, 0), (w.seen.toNat, 10, 16), (1, 1, 31)]
    | none => 0
  | 0x30034 => (p.lastWake.map (·.ns32)).getD 0
  | 0x30038 => nWord ((p.lastWake.map (·.pp.toNat)).getD 0)
  | 0x30060 => nWord p.lostBanks.toNat
  | 0x30068 => Tab.get 0 p.sigs (s.fld Reg.PWR_BANK_SEL 3 0)
  | a =>
    if 0x30100 ≤ a ∧ a < 0x30180 then
      match p.log[(a - 0x30100) / 16]? with
      | none => 0
      | some e => match a % 16 with
        | 0 => packWord [(e.mode, 3, 0), (e.code, 4, 4), (b2n e.abort, 1, 8), (1, 1, 31)]
        | 4 => e.ns32
        | 8 => nWord e.pp.toNat
        | _ => 0
    else s.reg a

/-! ## FLT -/

/-- Table FLT-8. -/
def FltRule.word (r : FltRule) (w : Nat) : Word := match w with
  | 0 => r.w0
  | 1 => r.w1
  | 2 => r.w2
  | 3 => r.w3
  | 4 => loOf r.hits
  | 5 => hiOf r.hits
  | 6 => loOf r.severes
  | _ => hiOf r.severes

def FltRecord.word (r : FltRecord) (recSeq : BitVec 8) (o : Nat) : Word := match o with
  | 0x10 => packWord [(r.msg.source.toNat, 18, 0), (r.msg.kind.toNat, 8, 18), (r.msg.flags.toNat, 6, 26)]
  | 0x14 => nWord r.msg.context.toNat
  | 0x18 => packWord [(r.msg.context.toNat / 2 ^ 32, 8, 0), (recSeq.toNat, 8, 8), (r.react, 3, 16), (b2n r.severe, 1, 19),
      (r.maxReact, 3, 20), (b2n r.condPresent, 1, 23), (b2n r.overflow, 1, 24), (1, 1, 31)]
  | 0x1c => r.ns32
  | 0x20 => packWord [(r.pp.toNat, 8, 0), (r.rule, 7, 8)]
  | 0x24 => match r.secondary with
    | some (src, kind) => packWord [(src.toNat, 18, 0), (kind.toNat, 8, 18)]
    | none => 0
  | _ => packWord [(r.secCount, 16, 0)]

/-- A package condition of a KIND is listed. -/
def State.pkgCond (s : State) (kind : Nat) : Bool :=
  s.flt.conds.any (fun (e : Nat × Option (BitVec 18 × BitVec 8)) => match e.2 with
    | some (src, k) => srcDie src == 4 && srcRegion src == 15 && k.toNat == kind
    | none => false)

def State.viewFlt (s : State) (a : Nat) : Word :=
  let f := s.flt
  match a with
  | 0x40034 => match Tab.get none f.conds (s.fld Reg.FLT_COND_IDX 3 0) with
    | some (src, kind) => packWord [(src.toNat, 18, 0), (kind.toNat, 8, 18), (1, 1, 31)]
    | none => 0
  | 0x40038 => packWord [(b2n (s.pkgCond 0x0D || s.pads.railGood != 0x3FFFFF), 1, 0),
      (b2n (s.pkgCond 0x0E || s.pads.tempAlarm != 0), 1, 1), (b2n (s.pkgCond 0x0F || s.clk.good != 0xF), 1, 2)]
  | 0x40058 => packWord [(f.podOffline.toNat, 4, 0), ((List.range 4).foldl (fun m n => if (s.pod n).restarting then m + 2 ^ n else m) 0, 4, 4)]
  | 0x40060 => match f.safe with
    | some src => packWord [(1, 1, 0), (src.toNat, 18, 1)]
    | none => 0
  | 0x40064 => nWord (min (s.lastHours f.severeAt 1) 65535)
  | 0x40068 => nWord f.isoCls.toNat
  | a =>
    if 0x4006c ≤ a ∧ a < 0x4007c then nWord (f.isoUsq.toNat / 2 ^ (8 * (a - 0x4006c)))
    else if 0x40010 ≤ a ∧ a ≤ 0x40028 then
      match f.record with
      | some r => r.word f.recSeq (a - 0x40000)
      | none => if a = 0x40018 then packWord [(f.recSeq.toNat, 8, 8)] else 0
    else s.reg a

/-! ## NTM -/

def State.viewTrig (s : State) (t o : Nat) (a : Nat) : Word :=
  let x := s.trig t
  match o with
  | 0x2c => packWord [(b2n x.armed, 1, 0), (b2n (x.armed && decide (0 < x.produced)), 1, 1), (b2n x.done, 1, 2), (b2n x.late, 1, 3),
      (b2n (x.armed && !s.trigRuns t), 1, 4)]
  | 0x30 => if x.armed then ns32Of (x.time x.next) else 0
  | 0x34 => if x.armed then nWord (x.time x.next % 256) else 0
  | _ => s.reg a

def State.viewCap (s : State) (c o : Nat) (a : Nat) : Word :=
  let x := s.cap c
  let h := x.hold
  match o with
  | 0x0c => nWord x.store.length
  | 0x10 => nWord (timePart h.time 0)
  | 0x14 => packWord [(timePart h.time 1, 16, 0), (b2n h.rising, 1, 16), (b2n x.holdValid, 1, 17), (b2n h.stepBefore, 1, 18)]
  | 0x18 => nWord (timePart h.time 2)
  | 0x1c => nWord (timePart h.time 3)
  | _ => s.reg a

def State.viewSlot (s : State) (i o : Nat) (a : Nat) : Word :=
  let x := s.tcSlot i
  match o with
  | 0x18 => packWord [(x.status, 2, 0), (b2n x.late, 1, 2), (b2n x.holdover, 1, 3), (b2n x.podDefer, 1, 4), (x.empty.toNat, 7, 8),
      (x.firedPp.toNat, 8, 24)]
  | 0x1c => x.firedNs
  | _ => s.reg a

def State.viewNtm (s : State) (a : Nat) : Word :=
  let n := s.ntm
  match a with
  | 0x50010 => packWord [(timeCode n.state, 3, 0), (b2n n.hrefInUse, 1, 3), (n.tch.getD 0, 2, 4), (b2n n.tch.isSome, 1, 6),
      (b2n n.traceable, 1, 7), (b2n s.inSpec, 1, 8), (n.lockCount, 7, 9)]
  | 0x50028 => nWord (timePart n.time 0)
  | 0x5002c => nWord (timePart n.time 1)
  | 0x50050 => iWord n.rate
  | 0x50054 => iWord n.rateI
  | 0x50070 => nWord s.holdElapsed
  | 0x50074 => satWord n.lastErr
  | 0x50078 => packWord [(n.lastMf.toNat, 16, 0), (b2n n.lastTraceable, 1, 16)]
  | 0x50084 => packWord [(b2n n.hrefPresent, 1, 0), (b2n n.hrefValid, 1, 1), (n.intervals.length, 7, 8)]
  | 0x50088 => iWord n.hrefRate
  | a =>
    if 0x50100 ≤ a ∧ a < 0x50180 ∧ a % 16 = 12 then
      let p := (a - 0x50100) / 16
      if s.rbit (Reg.NTM_HPp_CFG p) 0 then
        packWord [((portCorr (s.portMode p)).1, 16, 0), ((portCorr (s.portMode p)).2, 16, 16)] else 0
    else if 0x50400 ≤ a ∧ a < 0x50600 then s.viewTrig ((a - 0x50400) / 0x40) (a % 0x40) a
    else if 0x50600 ≤ a ∧ a < 0x50680 then s.viewCap ((a - 0x50600) / 0x20) (a % 0x20) a
    else if 0x50800 ≤ a ∧ a < 0x50a00 then s.viewSlot ((a - 0x50800) / 0x20) (a % 0x20) a
    else s.reg a

/-! ## ACT, UBT -/

def State.silenceLeftMs (s : State) : Nat := match s.act.silence with
  | some x => match x.until_ with
    | some t => min ((t - s.ticks + 1000 * ticksPerUs - 1) / (1000 * ticksPerUs)) 65535
    | none => 0
  | none => 0

def State.viewAct (s : State) (a : Nat) : Word :=
  let x := s.act
  match a with
  | 0x60010 => packWord [(tstateCode x.state, 3, 0), (tstateCode x.prior, 3, 3), (x.anchor.getD 0, 2, 6), (b2n x.anchor.isSome, 1, 8),
      (b2n s.acorn, 1, 9)]
  | 0x60014 => match x.tid with
    | some t => packWord [(t.toNat, 10, 0), (1, 1, 15)]
    | none => 0
  | 0x6001c => s.boot.unit
  | 0x6003c => match x.silence with
    | some y => packWord [(1, 1, 0), (b2n y.broadcast, 1, 1), (b2n y.until_.isNone, 1, 2), (s.silenceLeftMs, 16, 16)]
    | none => 0
  | 0x60040 => packWord [((List.range 4).foldl (fun m n => if (s.actCh n).upEn then m + 2 ^ n else m) 0, 4, 0),
      ((s.actCh 0).guard, 8, 8)]
  | 0x60044 => packWord [(x.uq.length, 7, 0), (x.tunnel.length, 4, 8)]
  | 0x60048 => packWord [(x.permit, 2, 0), (x.sleepMs, 16, 16)]
  | 0x6004c => packWord [(x.listenMs, 16, 0)]
  | a =>
    if 0x60100 ≤ a ∧ a < 0x60180 then
      let c := s.actCh ((a - 0x60100) / 0x20)
      match a % 0x20 with
      | 0x00 => packWord [(c.rtd.getD 0, 27, 0)]
      | 0x04 => packWord [(lowBits 28 c.dDown, 28, 0)]
      | 0x08 => packWord [(lowBits 28 c.dUp, 28, 0)]
      | 0x14 => packWord [(b2n c.rtd.isSome, 1, 0), (b2n c.armed.isSome, 1, 1), (b2n c.provisional, 1, 2), (c.rangings.toNat, 16, 16)]
      | _ => s.reg a
    else s.reg a

/-- The gate of channel n is open. -/
def State.gateOpen (s : State) (n : Nat) : Bool := (s.ubtCh n).bursts.any (·.launched)

/-- Light of channel n in the 10 ms ending now, in microseconds. -/
def State.lightUs (s : State) (n : Nat) : Nat :=
  let u := s.ubtCh n
  let lo := s.now - tenMs
  let emitted := u.runs.foldl (fun a r => a + overlap r.1 r.2 lo s.now) 0
  let open_ := (u.bursts.filter (·.launched)).foldl (fun a b =>
    a + overlap (s.lightFrom n b) b.runEnd lo s.now) 0
  (emitted + open_) / 256000

def State.viewUbt (s : State) (a : Nat) : Word := match a with
  | 0x90014 => nWord ((s.ceiling 0).getD 0)
  | 0x90018 => packWord [((List.range 4).foldl (fun m n => if s.gateOpen n then m + 2 ^ n else m) 0, 4, 0), ((List.range 4).foldl (fun m n => if s.killLow n then m + 2 ^ n else m) 0, 4, 4),
      (b2n s.act.silence.isSome, 1, 8), (b2n s.acorn, 1, 9), (b2n s.flt.safe.isSome, 1, 10)]
  | a =>
    if 0x90100 ≤ a ∧ a < 0x90300 then
      let n := (a - 0x90100) / 0x80
      let u := s.ubtCh n
      match a % 0x80 with
      | 0x0 => packWord [(u.cause, 4, 0), (u.stage, 2, 4)]
      | 0x4 => packWord [(s.lightUs n, 14, 0)]
      | 0x8 => packWord [(u.bseq.toNat, 16, 0)]
      | _ => s.reg a
    else s.reg a

/-! ## DSF -/

def faCode (x : FaState) : Nat := match x with
  | .hunt => 0 | .presync => 1 | .sync => 2

def mfCode (x : MfState) : Nat := match x with
  | .hunt => 0 | .presync => 1 | .sync => 2

def State.viewDsfCh (s : State) (n o a : Nat) : Word :=
  let c := s.chan n
  match o with
  | 0x00 => packWord [(faCode c.fa, 2, 0), (c.cands.length, 3, 2), (c.misses, 5, 5), (mfCode c.mf, 2, 10), (c.mfCount, 2, 12),
      (b2n ((c.lastHdr.map (·.dh)).getD false), 1, 14), (b2n c.lastTx, 1, 15)]
  | 0x04 => packWord [(c.defects.toNat, 7, 0), (b2n (s.dsLost n), 1, 7)]
  | 0x10 => match c.lastHdr with
    | some h => packWord [(h.frame, 13, 0), (h.mf.toNat, 16, 16)]
    | none => 0
  | 0x14 => packWord [(lowBits 28 c.skew, 28, 0)]
  | 0x18 => packWord [(b2n c.skewReady, 1, 0), (b2n c.skewRange, 1, 1), (b2n c.admitted, 1, 2), (c.skewRun.length, 4, 3)]
  | _ => s.reg a

def State.viewDsf (s : State) (a : Nat) : Word := match a with
  | 0x70040 => ((s.dsf.snap.map (fun b => b.word (s.fld Reg.DSF_PM_ADDR 4 0))).getD 0)
  | 0x70044 => nWord (b2n s.dsf.snapDone)
  | 0x70080 => nWord (1048576 - s.poolUsed none)
  | 0x7008c => s.linkWord (s.fld Reg.DSF_LINK_SEL 11 0) (s.fld Reg.DSF_LINK_ADDR 3 0)
  | 0x70090 => packWord [(s.dsf.skewRef.getD 0, 2, 0), (b2n s.dsf.skewRef.isSome, 1, 4)]
  | a => if 0x70400 ≤ a ∧ a < 0x70800 then s.viewDsfCh ((a - 0x70400) / 0x100) (a % 0x100) a else s.reg a

/-! ## USQ -/

/-- Word 0 of Table USQ-6 as written. -/
def Queue.word0 (x : Queue) : Word := packWord [(x.link, 12, 0), (x.alloc, 8, 12), (x.cls, 3, 20), (b2n x.enable, 1, 24)]

/-- Words 32 to 40: the record of the last LAT_SNAP. -/
def latWord (r : Option LatRec) (w : Nat) : Word := match r with
  | none => 0
  | some r => match w with
    | 32 => ns32Of r.start
    | 33 => packWord [(r.start % 256, 8, 0), (b2n r.step, 1, 8), (1, 1, 9)]
    | 34 => nWord r.depthMin
    | 35 => nWord r.depthMax
    | 36 => nWord r.depthMean
    | 37 => nWord r.delayMin
    | 38 => nWord r.delayMax
    | 39 => nWord r.delayMean
    | 40 => nWord r.samples
    | _ => 0

/-- Table USQ-6: the live words. -/
def State.queueWord (s : State) (q w : Nat) : Word :=
  let x := s.queue q
  let wide (v : Wide) : Word := if w % 2 = 0 then loOf v else hiOf v
  match w with
  | 0 => x.word0
  | 1 => packWord [(x.weight, 16, 0)]
  | 2 => packWord [(x.rate, 20, 0)]
  | 3 => packWord [(x.burst, 24, 0)]
  | 4 => packWord [(x.maxDepth, 24, 0)]
  | 5 => packWord [(b2n x.bindPending, 1, 0), (b2n x.isOpen, 1, 1),
      (b2n (isUs q && (s.keys (2 * x.linkF + 1)).held != .none), 1, 2), (b2n x.inTurn, 1, 3), (b2n (s.rateClamped q), 1, 4),
      (if isUs q then x.linkF else 0, 12, 5), (if isUs q then x.allocF else 0, 8, 17)]
  | 6 => iWord x.bucket
  | 7 => packWord [(lowBits 16 (x.bucket / 2 ^ 32), 16, 0)]
  | 8 => packWord [(lowBits 24 x.deficit, 24, 0)]
  | 9 => nWord x.depth
  | 10 => nWord (x.depth / 2 ^ 32)
  | 11 => packWord [(x.frames.length, 24, 0)]
  | 12 => wide x.enqFrames
  | 13 => wide x.enqFrames
  | 14 => wide x.enqBytes
  | 15 => wide x.enqBytes
  | 16 => wide x.sentFrames
  | 17 => wide x.sentFrames
  | 18 => wide x.sentBytes
  | 19 => wide x.sentBytes
  | 20 => wide x.fragments
  | 21 => wide x.fragments
  | 22 => wide x.dropDepth
  | 23 => wide x.dropDepth
  | 24 => wide x.dropHoard
  | 25 => wide x.dropHoard
  | 26 => wide x.neverFits
  | 27 => wide x.neverFits
  | 28 => wide x.flushed
  | 29 => wide x.flushed
  | 30 => wide x.dropDisabled
  | 31 => wide x.dropDisabled
  | w => latWord x.snap w

/-- USQ_Q_DATA: with SHADOW, words 0, 2 and 3 address the shadow copy, which reads as the live word while clean. -/
def State.queueData (s : State) : Word :=
  let q := s.fld Reg.USQ_Q_SEL 12 0
  let w := s.fld Reg.USQ_Q_ADDR 5 0
  let x := s.queue q
  let shadow : Option Word := if !s.rbit Reg.USQ_Q_SEL 16 then none else match w with
    | 0 => x.sh0
    | 2 => x.sh2
    | 3 => x.sh3
    | _ => none
  shadow.getD (s.queueWord q w)

/-- Table USQ-7. -/
def State.ulinkWord (s : State) (i w : Nat) : Word :=
  let l := s.ulink i
  match w with
  | 0 => nWord (b2n l.fragEn)
  | 1 => packWord [(l.turn, 2, 0), (b2n l.openQueue.isSome, 1, 2), (l.openQueue.getD 0, 12, 3), (l.nextSeq.toNat, 12, 16)]
  | 2 => loOf l.segments
  | _ => hiOf l.segments

/-- Table USQ-8. MAXG is the largest grant of the history (R256). -/
def State.allocWord (s : State) (i w : Nat) : Word :=
  let x := s.alloc i
  match w with
  | 0 => packWord [(x.id.toNat, 16, 0), (b2n x.valid, 1, 16), (b2n x.report, 1, 17)]
  | 1 => nWord (x.hist.foldl max 0)
  | 2 => packWord [(x.hist.length, 7, 0), (x.ptr, 12, 16)]
  | 3 => packWord [(x.lastCode, 8, 0)]
  | 4 => loOf x.grants
  | 5 => hiOf x.grants
  | 6 => loOf x.neverFits
  | _ => hiOf x.neverFits

def State.viewUsq (s : State) (a : Nat) : Word := match a with
  | 0x80018 => nWord ((s.ceiling 1).getD 0)
  | 0x8001c => nWord ((s.ceiling 2).getD 0)
  | 0x80048 => s.queueData
  | 0x80058 => s.ulinkWord (s.fld Reg.USQ_LINK_SEL 11 0) (s.fld Reg.USQ_LINK_ADDR 1 0)
  | 0x80068 => s.allocWord (s.fld Reg.USQ_ALLOC_SEL 7 0) (s.fld Reg.USQ_ALLOC_ADDR 2 0)
  | a => s.reg a

/-! ## LSC, HPE, CLS -/

/-- Index of the selected Link and direction. -/
def State.keySel (s : State) : Nat := 2 * s.fld Reg.LSC_LINK_SEL 11 0 + s.fld Reg.LSC_LINK_SEL 16 16

def State.viewLsc (s : State) (a : Nat) : Word := match a with
  | 0xa0010 => packWord [(b2n s.lsc.kek.isSome, 1, 0), (s.fld Reg.LSC_CTRL 1 1, 1, 1), (s.lsc.clearCause, 3, 8)]
  | 0xa0048 => s.keyWord s.keySel (s.fld Reg.LSC_LINK_ADDR 4 0)
  | a => s.reg a

/-- The half-range map of a port (R396). -/
def State.halfMap (s : State) (p lo n : Nat) : Word :=
  (List.range n).foldl (fun w i => putBit w i ((s.cnt (0xb1000 + p * 0x200 + (lo + i) * 8)).getLsbD 47)) 0

def State.viewHpe (s : State) (a : Nat) : Word :=
  if a = 0xb000c then nWord (bitsOf s.pwr.on.toNat 12 5)
  else if 0xb0100 ≤ a ∧ a < 0xb0300 then
    let p := (a - 0xb0100) / 0x40
    let x := s.port p
    match a % 0x40 with
    | 0x0c =>
      let dead := !s.clk.good.getLsbD 3 || !s.portPowered p
      packWord [(b2n x.up, 1, 0), (b2n x.localFault, 1, 1), (b2n x.remoteFault, 1, 2), (if dead then 0 else x.locked.toNat, 8, 8)]
    | 0x28 => s.halfMap p 0 32
    | 0x2c => s.halfMap p 32 20
    | 0x30 => packWord [(x.mgmt.length, 4, 0)]
    | _ => s.reg a
  else s.reg a

def State.viewCls (s : State) (a : Nat) : Word :=
  let c := s.cls
  let banks (p : TblEntry → Bool) : Nat := validIn c.bank0 p + validIn c.bank1 p
  match a with
  | 0xc0014 => packWord [(c.active, 1, 0), (b2n c.drained, 1, 1), (s.inflight, 16, 16)]
  | 0xc002c => c.result
  | 0xc003c => c.stage.word (s.fld Reg.CLS_TBL_ADDR 3 0)
  | 0xc0040 => packWord [(banks (fun _ => true), 17, 0), (validIn c.stash (fun _ => true), 5, 17)]
  | 0xc0044 => packWord [(banks (fun e => e.gen == 0) + validIn c.stash (fun e => e.gen == 0), 17, 0)]
  | 0xc0048 => packWord [(banks (fun e => e.gen == 1) + validIn c.stash (fun e => e.gen == 1), 17, 0)]
  | 0xc0054 => (Tab.get (0, 0) c.sel (s.fld Reg.CLS_SEL_IDX 5 0)).1
  | 0xc0068 =>
    let w := s.fld Reg.CLS_PROF_ADDR 4 0
    if w ≤ 20 then profWord c.profStage w else 0
  | 0xc0074 => s.linkDefq (s.fld Reg.CLS_LINK_SEL 11 0)
  | 0xc0080 => (Tab.get (0, 0) c.sgs (s.fld Reg.CLS_SG_SEL 5 0)).2
  | 0xc0088 => Tab.get 0 c.ind (s.fld Reg.CLS_IND_IDX 11 0)
  | a => s.reg a

/-! ## HRD, ARB -/

/-- Table HRD-5. -/
def State.pcWord (s : State) (x w : Nat) : Word :=
  let p := s.pc x
  match w with
  | 0 => loOf p.corr
  | 1 => hiOf p.corr
  | 2 => loOf p.uncor
  | 3 => hiOf p.uncor
  | 4 => nWord p.pos
  | 5 => p.passes
  | 6 => p.scrubCorr
  | _ => 0

def State.viewHrd (s : State) (a : Nat) : Word :=
  let h := s.hrd
  let gib := s.fld Reg.HRD_PART 5 0
  match a with
  | 0xd0014 => nWord (usCells gib)
  | 0xd0018 => nWord (dsCells gib)
  | 0xd001c => nWord h.usFree
  | 0xd0020 => nWord h.dsFree
  | 0xd0024 => nWord h.usDesc
  | 0xd0028 => nWord h.dsDesc
  | 0xd0030 => h.lastUncor.getD 0
  | 0xd0034 => packWord [(h.retired0.length, 13, 0), (h.retired1.length, 13, 16)]
  | 0xd0038 => packWord [(h.lostCells, 28, 0)]
  | 0xd0048 => s.pcWord (s.fld Reg.HRD_PC_SEL 5 0) (s.fld Reg.HRD_PC_ADDR 2 0)
  | a => s.reg a

/-- The holder shown: of arbiter 2, that of the lowest pseudo-channel held. -/
def State.viewArb (s : State) (a : Nat) : Word :=
  if a < 0xe0100 ∨ 0xe0400 ≤ a then s.reg a else
  let i := (a - 0xe0100) / 0x100
  let x := s.arbInst i
  match a % 0x100 with
  | 0x04 => packWord [(b2n (s.frozen i && x.holder.isEmpty), 1, 0), (b2n (!x.holder.isEmpty), 1, 1),
      ((x.holder.map (·.2)).headD 0, 4, 4), (s.windowLeft i, 16, 16)]
  | 0x78 => packWord [(x.masked.toNat, 14, 0),
      ((List.range 14).foldl (fun m r => if x.waiting.any (fun w => w % 16 == r) then m + 2 ^ r else m) 0, 14, 16)]
  | _ => s.reg a

/-! ## HSK, TWN -/

/-- Table HSK-3, word by word. -/
def State.healthWord (s : State) (w : Nat) : Word := nWord (beNat (slice s.hsk.health (4 * w) 4))

def State.viewHsk (s : State) (a : Nat) : Word := match a with
  | 0x100010 => s.hskState
  | 0x100018 => packWord [(lowBits 24 s.hsk.latAsym, 24, 0)]
  | 0x10001c => packWord [(lowBits 24 s.hsk.latNom, 24, 0)]
  | 0x100020 => packWord [(lowBits 24 s.hsk.latIn, 24, 0)]
  | 0x100024 => s.healthWord 2
  | 0x100028 => s.healthWord 1
  | 0x10002c => packWord [((s.healthWord 3).toNat, 14, 0)]
  | 0x100064 => s.hsk.result
  | 0x100074 => Tab.get 0 s.hsk.stage (s.fld Reg.HSK_CFG_ADDR 13 0)
  | 0x100084 => s.healthWord (s.fld Reg.HSK_HEALTH_ADDR 3 0)
  | a => s.reg a

/-- Table TWN-10. -/
def State.twnQueueWord (s : State) (q w : Nat) : Word :=
  let x := s.queue q
  let lo (n : Nat) : Word := nWord n
  let hi (n : Nat) : Word := nWord (n / 2 ^ 32)
  match w with
  | 0 => lo x.pos
  | 1 => hi x.pos
  | 2 => lo (s.sentPosOf q)
  | 3 => hi (s.sentPosOf q)
  | 4 => x.acc
  | 5 => packWord [(b2n x.aligned, 1, 0), (b2n x.srcS, 1, 1), (b2n x.trim.isSome, 1, 2), (b2n (!x.waits.isEmpty), 1, 3)]
  | 6 => lo x.f
  | 7 => hi x.f
  | 8 => loOf x.trimmed
  | 9 => hiOf x.trimmed
  | _ => 0

/-- Table TWN-11. -/
def State.peerWord (s : State) : Word :=
  let w := s.fld Reg.TWN_PEER_ADDR 4 0
  if s.rbit Reg.TWN_PEER_SEL 0 then
    Tab.get 0 s.twn.peer.bins ((s.fld Reg.TWN_PEER_SEL 13 8 * 4 + s.fld Reg.TWN_PEER_SEL 5 4) * 32 + w)
  else Tab.get 0 s.twn.peer.words w

def State.viewTwn (s : State) (a : Nat) : Word :=
  let l := s.twn.lease
  let k := s.twn.link
  let lane := Tab.get Lane.reset k.lanes (s.fld Reg.TWN_LANE_SEL 2 0)
  let t := s.twn.test
  match a with
  | 0xf0010 => packWord [(s.role, 2, 0), (b2n l.orphan, 1, 2), (l.sync, 3, 3), (b2n l.eligible, 1, 6), (b2n l.peerEligible, 1, 7),
      (b2n l.lostByExpiry, 1, 8), (b2n l.paired, 1, 9), (b2n l.solo, 1, 10), (l.takeKind, 2, 11)]
  | 0xf0030 => nWord s.leaseLeftUs
  | 0xf0034 => nWord s.peerLeftUs
  | 0xf0038 => packWord [(l.cause, 2, 0)]
  | 0xf003c => s.twn.mir.gen
  | 0xf0040 => s.twn.peer.gen
  | 0xf0044 => nWord s.twn.peer.serial
  | 0xf0048 => nWord (s.twn.peer.serial / 2 ^ 32)
  | 0xf004c => satWord s.twn.peer.timeOfs
  | 0xf0050 => nWord s.markAge
  | 0xf0054 => packWord [(s.unalignedCount, 13, 0)]
  | 0xf0058 => packWord [(s.twn.mir.bulk, 8, 0), (b2n s.twn.mir.bulkGen.isSome, 1, 8)]
  | 0xf0060 => packWord [(k.rate, 3, 0), (k.width, 4, 3), (k.rxGood.toNat, 8, 8), (k.txUse.toNat, 8, 16), (b2n k.up, 1, 24),
      (b2n k.training, 1, 25), (b2n s.twinLooped, 1, 26)]
  | 0xf006c => packWord [(lane.pre, 4, 0), (lane.main, 6, 4), (lane.post, 5, 10), (b2n lane.ready, 1, 15)]
  | 0xf0070 => lane.cv
  | 0xf0078 => packWord [(t.passed.toNat, 4, 0), (t.tested.toNat, 4, 4),
      (match t.testAt with
        | some k => min ((s.ticks - k) / (1000000 * ticksPerUs)) 65535
        | none => 65535, 16, 16)]
  | 0xf0088 =>  s.twnQueueWord (s.fld Reg.TWN_Q_SEL 11 0) (s.fld Reg.TWN_Q_ADDR 3 0)
  | 0xf0094 => Tab.get 0 t.health (s.fld Reg.TWN_HEALTH_ADDR 3 0)
  | 0xf00a0 => s.peerWord
  | a => s.reg a

/-! ## POD -/

/-- Words of the profile window: SET 0 active, 1 staging, 2 and 3 pending; index 0 is the reference profile. -/
def State.profWords (s : State) (n : Nat) (tx : Bool) : Option (Tab Word) :=
  let sel := if tx then Reg.POD_TXPROF_SEL n else Reg.POD_PROF_SEL n
  let i := s.fld sel 2 0
  let p := (s.pod n).prof tx i
  match s.fld sel 9 8 with
  | 0 => if i = 0 then some ((List.range 359).map (fun w => (w, referenceWord w))) else p.active
  | 1 => some p.staging
  | _ => p.pending.map (·.words)

def State.profData (s : State) (n : Nat) (tx : Bool) : Word :=
  let w := s.fld (if tx then Reg.POD_TXPROF_ADDR n else Reg.POD_PROF_ADDR n) 8 0
  match s.profWords n tx with
  | some t => if w < 359 then Tab.get 0 t w else 0
  | none => 0

/-- CBITS, CWPB and VALID of the selected definition. -/
def State.profInfo (s : State) (n : Nat) (tx : Bool) : Word :=
  match s.profWords n tx with
  | none => 0
  | some t =>
    let c := Line.cBits (profBits t)
    packWord [(c, 15, 0), (if tx then 0 else Line.codewordsOf c, 9, 16), (b2n (profValid t), 1, 31)]

/-- POD_EQ_DATA: the channel estimate of the last complete block, a free value per element and index; 0 before any. -/
def State.eqData (s : State) (n : Nat) : Word :=
  let p := s.pod n
  let i := s.fld (Reg.POD_EQ_ADDR n) 11 0
  match (if s.rbit (Reg.POD_EQ_FREEZE n) 0 then p.eqHeld else p.eqSeed) with
  | some k => if i < 3712 then Config.freeWord (k + s.fld (Reg.POD_EQ_ADDR n) 13 12 * 3712 + i) else 0
  | none => 0

def State.viewPod (s : State) (n a : Nat) : Word :=
  match a - Reg.blkBase (17 + n) with
  | 0x14 => putBit (s.reg a) 0 (s.pod n).calBusy
  | 0x74 => packWord [(s.iterEff n, 5, 0), (s.workingDecoders n, 6, 5)]
  | 0x208 => s.profData n false
  | 0x214 => s.profInfo n false
  | 0x304 => s.eqData n
  | 0x10020 => packWord [(b2n (s.pod n).sense, 1, 0), (b2n (s.killLow n), 1, 1)]
  | 0x10088 => s.profData n true
  | 0x10094 => s.profInfo n true
  | _ => s.reg a

/-! ## Common registers and interrupts (R671, R673, R674) -/

/-- Status registers of a block with their enables, in summary order (Table REG-1). -/
def statusRegs (b : Nat) : List (Nat × Nat) := match b with
  | 0 => [(Reg.DEV_STATUS, Reg.DEV_INT_EN)]
  | 1 => [(Reg.BOOT_STATUS, Reg.BOOT_INT_EN)]
  | 2 => [(Reg.CLK_STATUS, Reg.CLK_INT_EN)]
  | 3 => [(Reg.PWR_STATUS, Reg.PWR_INT_EN)]
  | 4 => [(Reg.FLT_STATUS, Reg.FLT_INT_EN)]
  | 5 => [(Reg.NTM_STATUS, Reg.NTM_INT_EN)]
  | 6 => [(Reg.ACT_STATUS, Reg.ACT_INT_EN)]
  | 7 => (Reg.DSF_STATUS, Reg.DSF_INT_EN) :: (List.range 4).map (fun n => (Reg.DSF_CHn_EVENT n, Reg.DSF_CHn_INT_EN n))
  | 8 => [(Reg.USQ_STATUS, Reg.USQ_INT_EN)]
  | 9 => [(Reg.UBT_STATUS, Reg.UBT_INT_EN)]
  | 10 => [(Reg.LSC_STATUS, Reg.LSC_INT_EN)]
  | 11 => (Reg.HPE_STATUS, Reg.HPE_INT_EN) :: (List.range 8).map (fun p => (Reg.HPE_Pp_STATUS p, Reg.HPE_Pp_INT_EN p))
  | 12 => [(Reg.CLS_STATUS, Reg.CLS_INT_EN)]
  | 13 => [(Reg.HRD_STATUS, Reg.HRD_INT_EN)]
  | 14 => [(Reg.ARB_STATUS, Reg.ARB_INT_EN)]
  | 15 => [(Reg.TWN_STATUS, Reg.TWN_INT_EN)]
  | 16 => [(Reg.HSK_STATUS, Reg.HSK_INT_EN)]
  | b => if b < 21 then [(Reg.POD_RX_STATUS (b - 17), Reg.POD_RX_INT_EN (b - 17)),
      (Reg.POD_TX_STATUS (b - 17), Reg.POD_TX_INT_EN (b - 17))] else []

/-- BLK_PENDING. -/
def State.blkPending (s : State) (b : Nat) : Word :=
  let l := statusRegs b
  (List.range l.length).foldl (fun w i =>
    let (st, en) := l.getD i (0, 0)
    if s.reg st &&& s.reg en &&& 0xFFFFFF = 0 then w else putBit w i true) 0

/-- DEV_INT_SUM. -/
def State.intSum (s : State) : Word :=
  (List.range 21).foldl (fun w b => if s.blkPending b = 0 then w else putBit w b true) 0

/-- INT_N is asserted (R673). -/
def State.intPin (s : State) : Bool := s.intSum &&& s.reg Reg.DEV_INT_BLK_EN != 0

/-- Time-base ticks in 10 µs (R663). -/
def guardTicks : Nat := 10 * ticksPerUs

/-- The guard of a block while it is armed (R663): its 10 µs have not passed. -/
def State.guardOf (s : State) (b : Nat) : Option Guard :=
  match Tab.find? s.guards b with
  | some g => if s.ticks < g.armedAt + guardTicks then some g else none
  | none => none

def State.guardState (s : State) (b : Nat) : Word := match s.guardOf b with
  | some g => packWord [(1, 1, 0), (g.ini, 4, 4), ((g.armedAt + guardTicks - s.ticks + ticksPerUs - 1) / ticksPerUs, 8, 8)]
  | none => 0

/-- Offset of an address among the common registers of its block; none outside them. -/
def commonOffset (b a : Nat) : Option Nat :=
  if Reg.blkCommon b + 0xFF00 ≤ a ∧ a < Reg.blkCommon b + 0x10000 then some (a - Reg.blkCommon b) else none

def State.viewCommon (s : State) (b o a : Nat) : Word := match o with
  | 0xFF00 => s.blkPending b
  | 0xFFF0 => 0
  | 0xFFF4 => s.guardState b
  | 0xFF40 => if b = 0 then s.intSum else 0
  | _ => s.reg a

/-! ## The word a read returns -/

/-- A KG register as its description states it (R656). -/
def State.viewKg (s : State) (a : Nat) : Word :=
  if a = Reg.TWN_SOLO then nWord (b2n s.twn.lease.solo)
  else if a = Reg.TWN_ACORN_OVR then packWord [(b2n s.twn.lease.forceOff, 1, 0), (b2n s.twn.lease.forceOn, 1, 1)]
  else if a = Reg.CLK_TEST then nWord (b2n s.clk.forceRef)
  else if a = Reg.LSC_CTRL ∨ a = Reg.UBT_GATE_LIMITS then s.reg a
  else 0

/-- The view of block b. -/
def State.viewBlock (s : State) (b a : Nat) : Word := match b with
  | 0 => s.viewDev a
  | 1 => s.viewBoot a
  | 2 => s.viewClk a
  | 3 => s.viewPwr a
  | 4 => if a = Reg.FLT_RULE_DATA then (s.rule (s.fld Reg.FLT_RULE_SEL 5 0)).word (s.fld Reg.FLT_RULE_ADDR 2 0)
      else if a = Reg.FLT_REC_CLR then 0 else s.viewFlt a
  | 5 => s.viewNtm a
  | 6 => s.viewAct a
  | 7 => s.viewDsf a
  | 8 => s.viewUsq a
  | 9 => s.viewUbt a
  | 10 => s.viewLsc a
  | 11 => s.viewHpe a
  | 12 => s.viewCls a
  | 13 => s.viewHrd a
  | 14 => s.viewArb a
  | 15 => s.viewTwn a
  | 16 => s.viewHsk a
  | b => s.viewPod (b - 17) a

/-- The word a register holds as a read returns it, without the read's effects. `a` is a multiple of 4. -/
def State.view (s : State) (a : Nat) : Word :=
  match blockOf a with
  | none => 0
  | some b =>
    match commonOffset b a with
    | some o => s.viewCommon b o a
    | none =>
      match regRow a with
      | none => 0
      | some (r, i) =>
        match r.access with
        | .w1p => 0
        | .kg => s.viewKg a
        | .wide =>
          let base := r.addr + i / r.count2 * r.stride + i % r.count2 * r.stride2
          if a = base then loOf (s.cnt base) else hiOf (s.cnt base)
        | .sqc => s.reg a
        | _ => s.viewBlock b a

end Sys2Proof.Machine
end

