-- ==== Sys2Proof/Machine/RegEffect.lean ====
section
/-! DEFINITION. What a write of a register does beyond storing its fields (R656, R657), what a read does (R190, R669), and
the effect of every W1P and KG register. Who may make an access, and which accesses are refused, stands in Access.lean. -/

namespace Sys2Proof.Machine

/-! ## Storing -/

/-- R657: the word a register holds once `v` is written to it. -/
def State.merged (s : State) (a : Nat) (v : Word) : Word := match regRow a with
  | some (r, _) => mergeFields r.flds (s.reg a) v
  | none => s.reg a

/-- A write that only sets fields. -/
def State.store (s : State) (a : Nat) (v : Word) : State := s.setReg a (s.merged a v)

/-- A window's ADDR advances by 1 and wraps at the width of its field (R669). -/
def State.advance (s : State) (a hi : Nat) : State := s.setFld a hi 0 (s.fld a hi 0 + 1)

/-! ## Channels of DSF -/

/-- Channel n of DSF starts, by its enable or by a wake of its Pod (R597): HUNT, with LOF standing. An indication of LOS
that stands declares it. -/
def State.chanStart (s : State) (n : Nat) : State :=
  let s := s.modChan n (fun c => { c with
    fa := .hunt, cands := [], misses := 0, mf := .hunt, mfCand := none, defects := 4, noMark := 0, markRun := 0
    lastMark := none, pvec := none, pvecNext := none, asleep := false })
  if (s.pod n).losInd then s.declareHunt n 0 else s

/-- Channel n of DSF stops. -/
def State.chanStop (s : State) (n : Nat) : State :=
  (s.setFa n .hunt).modChan n (fun c => { c with defects := 4 })

/-- A write of DSF_CTRL: channels start and stop, and a bin in which PM_EN or the channel is off is PARTIAL (R169). -/
def State.writeDsfCtrl (s : State) (v : Word) : State :=
  let old := s.reg Reg.DSF_CTRL
  let t := s.store Reg.DSF_CTRL v
  let new := t.reg Reg.DSF_CTRL
  let t := (List.range 4).foldl (fun t n =>
    let t := if new.getLsbD n && !old.getLsbD n then t.chanStart n
      else if !new.getLsbD n && old.getLsbD n then t.chanStop n else t
    if s.pmOn n && t.pmOn n then t
    else t.modChan n (fun c => { c with
      cur15 := { c.cur15 with partialBin := true }, cur24 := { c.cur24 with partialBin := true } })) t
  t.reconsider

/-! ## Writes, block by block

Each function stands for the registers of its block whose write does more than set fields. -/

def State.writeClk (s : State) (a : Nat) (v : Word) : State :=
  if a = Reg.CLK_CTRL then (s.store a v).reroot
  else if a = Reg.CLK_FREQ_SEL then
    ((s.store a v).setFld Reg.CLK_FREQ 31 31 0).modClk (fun c => { c with freqBusy := true })
  else s.store a v

def State.writePwr (s : State) (a : Nat) (v : Word) : State :=
  if a = Reg.PWR_MODE_REQ then (s.store a v).modeReq (bitsOf v.toNat 2 0) else s.store a v

def State.writeFlt (s : State) (a : Nat) (v : Word) : State :=
  if a = Reg.FLT_REC_CLR then s.recClr v
  else if a = Reg.FLT_RULE_DATA then
    (s.writeRule (s.fld Reg.FLT_RULE_SEL 5 0) (s.fld Reg.FLT_RULE_ADDR 2 0) v).advance Reg.FLT_RULE_ADDR 2
  else s.store a v

def State.writeNtm (s : State) (a : Nat) (v : Word) : State :=
  if a = Reg.NTM_CTRL then s.writeNtmCtrl (s.merged a v)
  else if a = Reg.NTM_RATE_MAN then s.writeRateMan v
  else if a = Reg.NTM_HREF_CTRL then (s.store a v).hrefJudge
  else s.store a v

def State.writeAct (s : State) (a : Nat) (v : Word) : State :=
  if a = Reg.ACT_CTRL then
    let t := s.store a v
    if t.rbit a 0 = s.rbit a 0 then t else t.writeActEn (t.rbit a 0)
  else if a = Reg.ACT_TWIN_CFG then (((s.store a v).watchGate).conditionRows).reportElig
  else if 0x60100 ≤ a ∧ a < 0x60180 ∧ (a % 0x20 = 0x0c ∨ a % 0x20 = 0x10) then
    (s.store a v).recomputeDelays ((a - 0x60100) / 0x20)
  else s.store a v

def State.writeDsf (s : State) (a : Nat) (v : Word) : State :=
  if a = Reg.DSF_CTRL then s.writeDsfCtrl v
  else if a = Reg.DSF_DEG_CTRL then (s.store a v).abandonWindows true false false
  else if a = Reg.DSF_FFR_CTRL then (s.store a v).abandonWindows false true false
  else if a = Reg.DSF_LOK_CTRL then (s.store a v).abandonWindows false false true
  else if a = Reg.DSF_LINK_DATA then
    let i := s.fld Reg.DSF_LINK_SEL 11 0
    let t := match s.fld Reg.DSF_LINK_ADDR 3 0 with
      | 0 => s.writeLinkWord0 i v
      | 12 => (s.writeLinkWord12 i v).updateHeld i
      | _ => s
    t.advance Reg.DSF_LINK_ADDR 3
  else s.store a v

/-- A live word of Table USQ-6; WEIGHT 0 is held, and taken as 1 where it is used (R251). -/
def State.writeQueueWord (s : State) (q w : Nat) (v : Word) : State := match w with
  | 0 => s.writeQueue0 q v
  | 1 => s.modQueue q (fun x => { x with weight := bitsOf v.toNat 15 0 })
  | 2 => s.writeRate q v
  | 3 => s.writeBurst q v
  | 4 => s.modQueue q (fun x => { x with maxDepth := bitsOf v.toNat 23 0 })
  | _ => s

/-- USQ_Q_DATA: with SHADOW, words 0, 2 and 3 are those of the shadow copy (R240). -/
def State.writeQueueData (s : State) (v : Word) : State :=
  let q := s.fld Reg.USQ_Q_SEL 12 0
  let w := s.fld Reg.USQ_Q_ADDR 5 0
  let t := match s.rbit Reg.USQ_Q_SEL 16, w with
    | true, 0 => s.modQueue q (fun x => { x with sh0 := some (v &&& 0x017FFFFF) })
    | true, 2 => s.modQueue q (fun x => { x with sh2 := some (v &&& 0x000FFFFF) })
    | true, 3 => s.modQueue q (fun x => { x with sh3 := some (v &&& 0x00FFFFFF) })
    | _, _ => s.writeQueueWord q w v
  t.advance Reg.USQ_Q_ADDR 5

/-- Word 0 of Table USQ-8 (R223, R237, R241). -/
def State.writeAllocWord0 (s : State) (i : Nat) (v : Word) : State :=
  let x := s.alloc i
  let id := v.setWidth 16
  let valid := v.getLsbD 16
  if valid && decide (0xFC00 ≤ id.toNat) then (s.bump Reg.ACT_CNT_RSVD_MAP).raise Reg.ACT_STATUS 14
  else if valid && s.usq.allocs.any (fun e => e.1 ≠ i && e.2.valid && e.2.id == id) then s.raise Reg.USQ_STATUS 0
  else
    let moved := id ≠ x.id ∨ valid ≠ x.valid
    s.modAlloc i (fun x => { x with
      id := id, valid := valid, report := v.getLsbD 17
      hist := if moved then [] else x.hist, ptr := if moved then 0 else x.ptr })

def State.writeUsq (s : State) (a : Nat) (v : Word) : State :=
  if a = Reg.USQ_LAT_PERIOD then (s.store a v).modUsq (fun u => { u with latOff := true })
  else if a = Reg.USQ_Q_DATA then s.writeQueueData v
  else if a = Reg.USQ_LINK_DATA then
    let i := s.fld Reg.USQ_LINK_SEL 11 0
    let t := if s.fld Reg.USQ_LINK_ADDR 1 0 = 0 then s.modUlink i (fun x => { x with fragEn := v.getLsbD 0 }) else s
    t.advance Reg.USQ_LINK_ADDR 1
  else if a = Reg.USQ_ALLOC_DATA then
    let i := s.fld Reg.USQ_ALLOC_SEL 7 0
    let t := if s.fld Reg.USQ_ALLOC_ADDR 2 0 = 0 then s.writeAllocWord0 i v else s
    t.advance Reg.USQ_ALLOC_ADDR 2
  else s.store a v

/-- TX_EN is a condition of the Burst Gate (Table UBT-6). -/
def State.writeUbt (s : State) (a : Nat) (v : Word) : State :=
  if a = Reg.UBT_CTRL then (s.store a v).watchGate else s.store a v

def State.writeLsc (s : State) (a : Nat) (v : Word) : State :=
  if a = Reg.LSC_LINK_DATA then
    let t := if s.fld Reg.LSC_LINK_ADDR 4 0 = 1 then s.writeKeyWord1 s.keySel v else s
    t.advance Reg.LSC_LINK_ADDR 4
  else s.store a v

def State.writeHpe (s : State) (a : Nat) (v : Word) : State :=
  if 0xb0100 ≤ a ∧ a < 0xb0300 ∧ a % 0x40 = 0 then s.writePortCfg ((a - 0xb0100) / 0x40) v else s.store a v

def State.writeCls (s : State) (a : Nat) (v : Word) : State :=
  if a = Reg.CLS_SEED0 then s.writeSeed 0 v
  else if a = Reg.CLS_SEED1 then s.writeSeed 1 v
  else if a = Reg.CLS_TBL_DATA then
    let w := s.fld Reg.CLS_TBL_ADDR 3 0
    (s.modCls (fun c => { c with stage := c.stage.setWord w v })).advance Reg.CLS_TBL_ADDR 3
  else if a = Reg.CLS_SEL_DATA then s.writeSel v
  else if a = Reg.CLS_PROF_DATA then
    let w := s.fld Reg.CLS_PROF_ADDR 4 0
    let t := if w ≤ 20 then s.modCls (fun c => { c with profStage := Tab.set 0 c.profStage w (v &&& profMask w) }) else s
    t.advance Reg.CLS_PROF_ADDR 4
  else if a = Reg.CLS_LINK_DEFQ then
    let w := v &&& 0x1FFF1FFF
    s.modCls (fun c => { c with links := (Tab.set 0x10000000 c.links (s.fld Reg.CLS_LINK_SEL 11 0) w) })
  else if a = Reg.CLS_SG_MAP then s.writeSg v
  else if a = Reg.CLS_IND_DATA then
    let i := s.fld Reg.CLS_IND_IDX 11 0
    (s.modCls (fun c => { c with ind := Tab.set 0 c.ind i (v &&& 0x1FFF) })).advance Reg.CLS_IND_IDX 11
  else s.store a v

def State.writeHrd (s : State) (a : Nat) (v : Word) : State :=
  if a = Reg.HRD_PART then s.writePartition v else s.store a v

/-- ARB_Ii_CTRL acts under R444 and R445; a PRIO counts from the next arbitration, a QUOTA from the next window. -/
def State.writeArb (s : State) (a : Nat) (v : Word) : State :=
  if 0xe0100 ≤ a ∧ a < 0xe0400 ∧ a % 0x100 = 0 then s.writeArbCtrl ((a - 0xe0100) / 0x100) (s.merged a v)
  else s.store a v

def State.writeTwn (s : State) (a : Nat) (v : Word) : State :=
  if a = Reg.TWN_CTRL then
    let t := s.store a v
    if s.rbit a 3 && !t.rbit a 3 then t.twinLost.reportElig else t
  else if a = Reg.TWN_LOOP then s.writeTwinLoop v
  else if a = Reg.TWN_RENEW_MS then
    let n := bitsOf v.toNat 9 0
    if 1 ≤ n ∧ n ≤ s.fld Reg.TWN_LEASE_MS 9 0 - 1 then s.store a v else s
  else s.store a v

def State.writeHsk (s : State) (a : Nat) (v : Word) : State :=
  if a = Reg.HSK_CTRL then
    let t := s.store a v
    if s.rbit a 0 && !t.rbit a 0 then t.huskDown else t
  else if a = Reg.HSK_CFG_DATA then
    let w := s.fld Reg.HSK_CFG_ADDR 13 0
    (s.modHsk (fun h => { h with stage := Tab.set 0 h.stage w v })).advance Reg.HSK_CFG_ADDR 13
  else s.store a v

/-- A word of the selected staging copy (R126, R147); only SET 1 is writable. -/
def State.writeProfData (s : State) (n : Nat) (tx : Bool) (v : Word) : State :=
  let sel := if tx then Reg.POD_TXPROF_SEL n else Reg.POD_PROF_SEL n
  let adr := if tx then Reg.POD_TXPROF_ADDR n else Reg.POD_PROF_ADDR n
  let w := s.fld adr 8 0
  let mask : Word := if w = 358 then 0xFFF else 0x3FFFFFFF
  let t := if s.fld sel 9 8 = 1 ∧ w < 359 then
      s.modProf n tx (s.fld sel 2 0) (fun p => { p with staging := Tab.set 0 p.staging w (v &&& mask) })
    else s
  t.advance adr 8

/-- POD_CDC_CTRL: a change of MODE (R95 to R97). -/
def State.writeCdcCtrl (s : State) (n : Nat) (v : Word) : State :=
  let a := Reg.POD_CDC_CTRL n
  let t := s.store a v
  let old := s.fld a 1 0
  let new := t.fld a 1 0
  if new = old then t
  else if new = 0 then
    (t.modPod n (fun p => { p with scanning := false })).setCdc n (signedOf 16 (t.fld (Reg.POD_CDC_MANUAL n) 15 0)) 0
  else if t.ranged n then t.rangedCdc n ((t.actCh n).dDown / 256)
  else t.startScan n

def State.writePod (s : State) (n a : Nat) (v : Word) : State :=
  if a = Reg.POD_RX_CTRL n then
    let t := s.store a v
    if s.rbit a 0 && !t.rbit a 0 then (t.dropBlocks n).reconsider else t
  else if a = Reg.POD_LDPC_CTRL n then (s.store a v).flagIter s n
  else if a = Reg.POD_AGC_DAC n then
    if s.rbit (Reg.POD_AGC_CTRL n) 13 then
      (s.store a v).modPod n (fun p => { p with dacOut := v.setWidth 10 })
    else s
  else if a = Reg.POD_CDC_CTRL n then s.writeCdcCtrl n v
  else if a = Reg.POD_CDC_MANUAL n then
    let t := s.store a v
    if t.fld (Reg.POD_CDC_CTRL n) 1 0 = 0 then t.setCdc n (signedOf 16 (t.fld a 15 0)) 0 else t
  else if a = Reg.POD_PROF_SEL n ∨ a = Reg.POD_TXPROF_SEL n then
    let t := s.store a v
    if t.fld a 9 8 = 3 then t.setFld a 9 8 2 else t
  else if a = Reg.POD_PROF_DATA n then s.writeProfData n false v
  else if a = Reg.POD_TXPROF_DATA n then s.writeProfData n true v
  else if a = Reg.POD_EQ_FREEZE n then
    let t := s.store a v
    if t.rbit a 0 && !s.rbit a 0 then t.modPod n (fun p => { p with eqHeld := p.eqSeed }) else t
  else if a = Reg.POD_TX_CTRL n then ((s.store a v).watchGate).conditionRows.reportElig
  else s.store a v

/-- A write of an RW register of block b. -/
def State.writeRw (s : State) (b a : Nat) (v : Word) : State := match b with
  | 2 => s.writeClk a v
  | 3 => s.writePwr a v
  | 4 => s.writeFlt a v
  | 5 => s.writeNtm a v
  | 6 => s.writeAct a v
  | 7 => s.writeDsf a v
  | 8 => s.writeUsq a v
  | 9 => s.writeUbt a v
  | 10 => s.writeLsc a v
  | 11 => s.writeHpe a v
  | 12 => s.writeCls a v
  | 13 => s.writeHrd a v
  | 14 => s.writeArb a v
  | 15 => s.writeTwn a v
  | 16 => s.writeHsk a v
  | 17 => s.writePod 0 a v
  | 18 => s.writePod 1 a v
  | 19 => s.writePod 2 a v
  | 20 => s.writePod 3 a v
  | _ => s.store a v

/-! ## W1P registers -/

/-- USQ_Q_CMD (R245, R272). -/
def State.queueCmd (s : State) (v : Word) : State :=
  let q := s.fld Reg.USQ_Q_SEL 12 0
  let s := if v.getLsbD 0 then (if (s.queue q).enable then s.raise Reg.USQ_STATUS 4 else s.flushQueue q) else s
  if v.getLsbD 1 then s.modQueue q (fun x => { x with snap := s.latRecord q }) else s

/-- A write of a W1P register of a Pod. -/
def State.podAction (s : State) (n a : Nat) (v : Word) : State :=
  if !v.getLsbD 0 then s
  else if a = Reg.POD_CAL_CMD n then s.calStart n false
  else if a = Reg.POD_PROF_CMD n then s.armProf n false
  else if a = Reg.POD_TXPROF_CMD n then s.armProf n true
  else s

/-- A write of a W1P register. -/
def State.writeW1p (s : State) (b a : Nat) (v : Word) : State := match b with
  | 1 => if v.getLsbD 0 then s.mcuRestart ((a - 0x10108) / 16) false else s
  | 4 => if a = Reg.FLT_POD_CMD then s.podCmd v else s
  | 5 =>
    if a = Reg.NTM_CMD then s.ntmCmd v
    else if 0x50400 ≤ a ∧ a < 0x50600 then s.trigCmd ((a - 0x50400) / 0x40) v
    else if 0x50600 ≤ a ∧ a < 0x50680 then (if v.getLsbD 0 then s.capPop ((a - 0x50600) / 0x20) else s)
    else if 0x50800 ≤ a ∧ a < 0x50a00 then s.tcCmd ((a - 0x50800) / 0x20) v
    else s
  | 6 => if a = Reg.ACT_CMD && v.getLsbD 0 then s.deactivate else s
  | 7 => if a = Reg.DSF_PM_CMD && v.getLsbD 0 then
      s.modDsf (fun d => { d with snap := some s.selectedBin, snapDone := true })
    else s
  | 8 => if a = Reg.USQ_Q_CMD then s.queueCmd v else s
  | 12 =>
    if a = Reg.CLS_GEN_CMD then (if v.getLsbD 0 then s.swapGen else s)
    else if a = Reg.CLS_TBL_CMD then (if bitsOf v.toNat 3 0 = 0 then s else s.tableCommand (bitsOf v.toNat 3 0))
    else if a = Reg.CLS_PROF_CMD then
      let s := if v.getLsbD 0 then s.profApply else s
      if v.getLsbD 1 then s.profLoad else s
    else s
  | 15 => if a = Reg.TWN_CMD then s.writeTwnCmd v else s
  | 16 =>
    if !v.getLsbD 0 then s
    else if a = Reg.HSK_CMD_GO then s.hskGo
    else if a = Reg.HSK_CFG_CMD then s.hskCfgSend
    else s
  | 17 => s.podAction 0 a v
  | 18 => s.podAction 1 a v
  | 19 => s.podAction 2 a v
  | 20 => s.podAction 3 a v
  | _ => s

/-! ## KG registers (Table REG-4), once the guard has let the write through -/

/-- UBT_ROGUE_CLR (R309): the Pods whose laser is seen off are those whose gate sense shows no light. -/
def State.rogueClrWrite (s : State) (v : Word) (off : BitVec 4) : State := s.rogueClear (v.setWidth 4) off

/-- Pods whose gate sense input is low. -/
def State.senseOff (s : State) : BitVec 4 :=
  (List.range 4).foldl (fun m n => if (s.pod n).sense then m else putBit m n true) 0

/-- DEV_SEM_FORCE (R575). -/
def State.semForce (s : State) (v : Word) : State :=
  ((bitList v).filter (fun k => (s.sem k).owner ≠ 15)).foldl State.abandonSem s

/-- A guarded write's effect. BOOT_CMD stands in Boot.lean: it may replace the whole state. -/
def State.writeKg (s : State) (a : Nat) (v : Word) : State :=
  if a = Reg.DEV_SEM_FORCE then s.semForce v
  else if a = Reg.BOOT_CMD then s
  else if a = Reg.BOOT_FUSE_CMD then s.fuseCmd v
  else if a = Reg.BOOT_NVM_CMD then s.nvmCmd (bitsOf v.toNat 2 0)
  else if a = Reg.CLK_TEST then (s.modClk (fun c => { c with forceRef := v.getLsbD 0 })).reroot
  else if a = Reg.FLT_RESET_CMD then s.resetCmd v
  else if a = Reg.FLT_INJ_CMD then s.inject v
  else if a = Reg.NTM_TIME_CMD then s.timeCmd v
  else if a = Reg.UBT_ROGUE_CLR then s.rogueClrWrite v s.senseOff
  else if a = Reg.LSC_CMD then (if v.getLsbD 0 then s.clearKeys 5 else s)
  else if a = Reg.LSC_KL_CMD then (if v.getLsbD 0 then s.keyLoad else s)
  else if a = Reg.TWN_SOLO then s.writeSolo v
  else if a = Reg.TWN_ACORN_OVR then s.writeAcornOvr v
  else s.store a v

/-! ## SQC and semaphores -/

/-- R659: a clear write. A cleared FLT_STATUS.HANDOVER or PWR_STATUS.WAKE_FAIL ends what the flag holds up. -/
def State.writeSqc (s : State) (b a : Nat) (v : Word) : State :=
  let w := s.reg a
  if bitsOf v.toNat 31 24 ≠ bitsOf w.toNat 31 24 then s.bump32 (Reg.BLK_SEQ_MISS b) 1
  else
    let s := s.setReg a (w &&& ~~~ (v &&& 0xFFFFFF#32))
    if a = Reg.FLT_STATUS then s.reportElig
    else if a = Reg.PWR_STATUS then s.modPwr (fun p => { p with wakeFail := p.wakeFail && s.rbit Reg.PWR_STATUS 4 })
    else s

/-- R574: FREE by the owner, and by another. -/
def State.writeSem (s : State) (k ini : Nat) (v : Word) : State :=
  if !v.getLsbD 0 then s
  else if (s.sem k).owner = ini then s.setSem k Sem.free
  else (s.bump Reg.DEV_CNT_SEM_FOREIGN).raise Reg.DEV_STATUS 1

/-- R573: what a read of a semaphore returns, and the state after it. -/
def State.readSem (s : State) (k ini : Nat) : Word × State :=
  let x := s.sem k
  if x.owner = 15 then (packWord [(1, 1, 0), (ini, 4, 4), (b2n x.abandoned, 1, 8)], s.setSem k ⟨ini, false⟩)
  else (packWord [(b2n (decide (x.owner = ini)), 1, 0), (x.owner, 4, 4)], s)

/-! ## Reads that change something -/

/-- What a read of the register at `a` does (R190, R331, R640, R669). -/
def State.readEffect (s : State) (a : Nat) : State :=
  if a = Reg.DSF_PM_DATA then s.advance Reg.DSF_PM_ADDR 4
  else if a = Reg.DSF_LINK_DATA then s.advance Reg.DSF_LINK_ADDR 3
  else if a = Reg.USQ_Q_DATA then s.advance Reg.USQ_Q_ADDR 5
  else if a = Reg.USQ_LINK_DATA then s.advance Reg.USQ_LINK_ADDR 1
  else if a = Reg.USQ_ALLOC_DATA then s.advance Reg.USQ_ALLOC_ADDR 2
  else if a = Reg.LSC_LINK_DATA then s.advance Reg.LSC_LINK_ADDR 4
  else if a = Reg.CLS_TBL_DATA then s.advance Reg.CLS_TBL_ADDR 3
  else if a = Reg.CLS_PROF_DATA then s.advance Reg.CLS_PROF_ADDR 4
  else if a = Reg.HRD_PC_DATA then s.advance Reg.HRD_PC_ADDR 2
  else if a = Reg.HSK_CFG_DATA then s.advance Reg.HSK_CFG_ADDR 13
  else if a = Reg.HSK_HEALTH_DATA then s.advance Reg.HSK_HEALTH_ADDR 3
  else if a = Reg.TWN_Q_DATA then s.advance Reg.TWN_Q_ADDR 3
  else if a = Reg.TWN_HEALTH_DATA then s.advance Reg.TWN_HEALTH_ADDR 3
  else if a = Reg.TWN_PEER_DATA then s.advance Reg.TWN_PEER_ADDR 4
  else if a = Reg.FLT_RULE_DATA then s.advance Reg.FLT_RULE_ADDR 2
  else if a = Reg.CLK_X_DATA then
    let x := s.fld Reg.CLK_X_SEL 7 0
    let s := if s.fld Reg.CLK_X_ADDR 2 0 = 0 ∧ x < 82 then s.modCrossing x (fun c => { c with ovrFlag := false }) else s
    s.advance Reg.CLK_X_ADDR 2
  else if a = Reg.NTM_SNAP_PP then s.setFld a 8 8 0
  else (List.range 4).foldl (fun s n =>
    if a = Reg.POD_PROF_DATA n then s.advance (Reg.POD_PROF_ADDR n) 8
    else if a = Reg.POD_TXPROF_DATA n then s.advance (Reg.POD_TXPROF_ADDR n) 8
    else s) s

end Sys2Proof.Machine
end

