-- ==== Sys2Proof/Machine/RegAccess.lean ====
section
/-! DEFINITION. One access to the register space (chapter 18): the management fabric and its grants, what refuses an
access, the guards, and what the holder of a twin pair mirrors (R517, R518). -/

namespace Sys2Proof.Machine

open Crypto (beBytes)

/-! ## The management fabric (arbiter instance 0: R443, R446, R448) -/

/-- A grant kept by an unlocking write ends 1 µs after it (R448). -/
def State.settleExtension (s : State) : State := match s.arb.extended with
  | some (_, t) => if t ≤ s.ticks then s.endGrant 0 0 else s
  | none => s

/-- Another requester's grant runs to its end before this access is granted. -/
def State.releaseFabric (s : State) (ini : Nat) : State :=
  match Tab.find? (s.arbInst 0).holder 0 with
  | none => s
  | some r =>
    if r = ini then s
    else match s.arb.extended with
      | some (_, t) => (s.passToTick t).endGrant 0 0
      | none => s.endGrant 0 0

/-- A masked requester waits for the next window start: 16 × WINDOW core cycles of 1.6 GHz after the last. -/
def State.awaitWindow (s : State) (ini : Nat) : State :=
  if s.isMasked 0 ini then
    let a := s.arbInst 0
    (s.passToTick (a.startAt + a.window * 64 / 5)).startWindow 0
  else s

/-- The access of a requester is granted; none while the instance is frozen (R445): the requester then waits. -/
def State.fabricOpen (s : State) (ini : Nat) : Option State :=
  if s.frozen 0 then none else
  let s := s.settleExtension.releaseFabric ini
  if Tab.find? (s.arbInst 0).holder 0 = some ini then some s
  else some ((s.awaitWindow ini).giveGrant 0 0 ini)

/-- The access is complete. A write of an UNLOCK register keeps the grant for the requester's next access, at most 1 µs. -/
def State.fabricClose (s : State) (ini : Nat) (keep : Bool) : State :=
  if keep then { s with arb := { s.arb with extended := some (ini, s.ticks + ticksPerUs) } }
  else s.endGrant 0 0

/-- The host management SPI's private path to the block ARB (R446). -/
def privatePath (ini a : Nat) : Bool := ini == 0 && blockOf a == some 14

/-- `a` is the UNLOCK register of a block. -/
def isUnlock (a : Nat) : Bool := match blockOf a with
  | some b => a == Reg.BLK_UNLOCK b
  | none => false

/-! ## What refuses an access -/

/-- READY of the SPI (R654). -/
def State.spiReady (s : State) : Bool := decide (3 < s.boot.step)

/-- R554: the SPI may write only BOOT, DEV, FLT and ARB until step 7 ends, and while Sprout is halted. -/
def State.hostBarred (s : State) (b : Nat) : Bool :=
  (decide (s.boot.step ≤ 7) || s.boot.halted) && !([0, 1, 4, 14].contains b)

/-- The power domain a block's registers stand in (Table PWR-1); none while always on. -/
def blockDomain (b : Nat) : Option Nat :=
  if 17 ≤ b then some (b - 17)
  else if [6, 7, 8, 9, 10, 11, 12, 13, 15].contains b then some 4
  else none

/-- R590: the block's domain is off. -/
def State.blockOff (s : State) (b : Nat) : Bool := match blockDomain b with
  | some d => !s.pwr.on.getLsbD d
  | none => false

/-- The registers of R561 and R572: no configuration record and no management controller writes them. -/
def mcuBarred (a : Nat) : Bool :=
  [Reg.BOOT_CMD, Reg.BOOT_FUSE_CMD, Reg.BOOT_NVM_CMD, Reg.DEV_SEM_FORCE, Reg.TWN_ACORN_OVR, Reg.TWN_SOLO].contains a

/-- The requester that stands for a mirrored write: no requester of the fabric. -/
def mirrorIni : Nat := 14

/-- R517: a register of block b that the pair mirrors, given that its code is RW or W1P. -/
def isMirrored (b a : Nat) : Bool :=
  if 17 ≤ b then
    let o := a - Reg.blkBase b
    (decide (0x200 ≤ o) && decide (o ≤ 0x210)) || (decide (0x10080 ≤ o) && decide (o ≤ 0x10090))
  else if 5 ≤ b ∧ b ≤ 13 then
    !(a == Reg.ACT_TWIN_CFG || a == Reg.NTM_PTP_CLKID_LO || a == Reg.NTM_PTP_CLKID_HI ||
      (List.range 4).any (fun n => a == Reg.ACT_CHn_FE n || a == Reg.ACT_CHn_ASYM n || a == Reg.NTM_CAPc_ADJ n) ||
      (List.range 8).any (fun p => a == Reg.NTM_HPp_EG_ADJ p || a == Reg.NTM_HPp_IN_ADJ p || a == Reg.NTM_TRIGt_ADJ p ||
        a == Reg.HPE_Pp_ADDR_LO p || a == Reg.HPE_Pp_ADDR_HI p))
  else false

/-- R518: this device is a standby that takes the mirror. -/
def State.mirrorBars (s : State) : Bool :=
  s.standby && (s.twn.lease.sync == 1 || s.twn.lease.sync == 2 || s.twn.lease.sync == 3)

/-- The SEL register of a window's DATA register. -/
def windowSel (a : Nat) : Option Nat :=
  if a = Reg.DSF_LINK_DATA then some Reg.DSF_LINK_SEL
  else if a = Reg.USQ_Q_DATA then some Reg.USQ_Q_SEL
  else if a = Reg.USQ_LINK_DATA then some Reg.USQ_LINK_SEL
  else if a = Reg.USQ_ALLOC_DATA then some Reg.USQ_ALLOC_SEL
  else if a = Reg.LSC_LINK_DATA then some Reg.LSC_LINK_SEL
  else if a = Reg.CLS_TBL_DATA then some Reg.CLS_TBL_IDX
  else if a = Reg.CLS_SEL_DATA then some Reg.CLS_SEL_IDX
  else if a = Reg.CLS_PROF_DATA then some Reg.CLS_PROF_SEL
  else if a = Reg.CLS_LINK_DEFQ then some Reg.CLS_LINK_SEL
  else if a = Reg.CLS_SG_MAP then some Reg.CLS_SG_SEL
  else if a = Reg.CLS_IND_DATA then some Reg.CLS_IND_IDX
  else (List.range 4).findSome? (fun n =>
    if a = Reg.POD_PROF_DATA n then some (Reg.POD_PROF_SEL n)
    else if a = Reg.POD_TXPROF_DATA n then some (Reg.POD_TXPROF_SEL n)
    else none)

/-- The holder mirrors a write it has applied: TABLE for a window's DATA register, CFG for any other (Table TWN-2). `t` is
the state before the write. -/
def State.mirrorWrite (s t : State) (a : Nat) (v : Word) : State :=
  let type := if (windowSel a).isSome then 0x31 else 0x30
  if !s.mirrorOut type then s else
  let gen := s.twn.mir.gen + 1
  let s := s.modMir (fun m => { m with gen := gen })
  match windowSel a with
  | some sel => s.sendTwin 0x31 (beBytes 4 gen.toNat ++ [Config.tableKind a] ++ beBytes 4 (t.reg sel).toNat ++ beBytes 4 v.toNat)
  | none => s.sendTwin 0x30 (beBytes 4 gen.toNat ++ beBytes 4 a ++ beBytes 4 v.toNat)

/-! ## Guards (R662 to R665) -/

def State.guardRefused (s : State) (b : Nat) : State := s.bump32 (Reg.BLK_GUARD_REFUSED b) 1

def State.armGuard (s : State) (b ini : Nat) : State := { s with guards := Tab.insert s.guards b ⟨ini, s.ticks⟩ }
def State.disarmGuard (s : State) (b : Nat) : State := { s with guards := Tab.erase s.guards b }

/-- A write of a block's UNLOCK register (R662). -/
def State.writeUnlock (s : State) (b ini : Nat) (v : Word) : State :=
  match s.guardOf b with
  | none => if v = 0x5EED then s.armGuard b ini else s.guardRefused b
  | some g =>
    if v = 0x5EED then (if g.ini = ini then s.armGuard b ini else s.guardRefused b)
    else if g.ini = ini then (s.disarmGuard b).guardRefused b
    else s.guardRefused b

/-- The guard of block b is armed for `ini`. -/
def State.guardFor (s : State) (b ini : Nat) : Bool := match s.guardOf b with
  | some g => g.ini == ini
  | none => false

/-- A write of a KG register (R663, R665, R572, R561). -/
def State.guardedWrite (s : State) (b ini a : Nat) (v : Word) : State :=
  if s.boot.sprout && ini == 10 && mcuBarred a then (s.bump Reg.BOOT_CNT_CFG_SKIP).raise Reg.BOOT_STATUS 3
  else if !s.guardFor b ini then s.guardRefused b
  else
    let s := s.disarmGuard b
    if decide (10 ≤ ini) && mcuBarred a then s.bump Reg.BOOT_CNT_MCU_REFUSED else s.writeKg a v

/-! ## One write and one read -/

/-- Common registers (R671, R674): UNLOCK, and DEV_INT_BLK_EN. -/
def State.writeCommon (s : State) (b o ini : Nat) (v : Word) : State :=
  if o = 0xFFF0 then s.writeUnlock b ini v
  else if b = 0 ∧ o = 0xFF44 then s.setReg Reg.DEV_INT_BLK_EN (v &&& 0x1FFFFF)
  else s

/-- A write of a register of a chapter's own map. -/
def State.writeMapped (s : State) (b ini a : Nat) (v : Word) : State × Nat :=
  match regRow a with
  | none => (s, 0)
  | some (r, i) =>
    let mirrored (t : State) : State × Nat :=
      if ini ≠ mirrorIni && isMirrored b a then
        if s.mirrorBars then (s.bump Reg.TWN_CNT_MIRROR_RO, 2) else (t.mirrorWrite s a v, 0)
      else (t, 0)
    match r.access with
    | .ro => (s, 0)
    | .wide => (s, 0)
    | .sqc => (s.writeSqc b a v, 0)
    | .sem => (s.writeSem i ini v, 0)
    | .kg => (s.guardedWrite b ini a v, 0)
    | .rw => mirrored (s.writeRw b a v)
    | .w1p => mirrored (s.writeW1p b a v)

/-- A write that has its grant: the state after it, and the STATUS of R231 (0 done, 2 refused, 3 no answer). BOOT_CMD's
own effect stands in Boot.lean. `a` is a multiple of 4. -/
def State.writeCore (s : State) (ini a : Nat) (v : Word) : State × Nat :=
  match blockOf a with
  | none => (s.bump32 Reg.DEV_CNT_UNMAPPED 1, 0)
  | some b =>
    if ini = 0 ∧ s.hostBarred b then ((s.bump Reg.BOOT_CNT_HOST_REFUSED).raise Reg.BOOT_STATUS 10, 0)
    else if s.blockOff b then (s.bump Reg.PWR_CNT_OFF_ACCESS, 3)
    else match commonOffset b a with
      | some o => (s.writeCommon b o ini v, 0)
      | none => s.writeMapped b ini a v

/-- A read that has its grant: the word, the state after it, and the STATUS. -/
def State.readCore (s : State) (ini a : Nat) : Word × State × Nat :=
  match blockOf a with
  | none => (0, s.bump32 Reg.DEV_CNT_UNMAPPED 1, 0)
  | some b =>
    if s.blockOff b then (0, s.bump Reg.PWR_CNT_OFF_ACCESS, 3)
    else if b = 0 ∧ 0x100 ≤ a ∧ a < 0x180 then
      let (w, t) := s.readSem ((a - 0x100) / 4) ini
      (w, t, 0)
    else (s.view a, s.readEffect a, 0)

/-- Bits [1:0] of an address are ignored, and it has 28 bits (R648). -/
def wordAddr (a : Nat) : Nat := a % 2 ^ 28 / 4 * 4

end Sys2Proof.Machine
end

