-- ==== Sys2Proof/Machine/Boot.lean ====
section
/-! DEFINITION. Sprout (chapter 14): the image and its checks (R557 to R559, R564, R565), the records (R560, R561), firmware
and schedules (R562, R563), calibration at start-up and the enables (R551); package reset (Table ORG-11) and RETRY (R553). -/

namespace Sys2Proof.Machine

open Host (Outcome)
open Crypto (leNat beNat slice)

/-! ## Image (R557, R558) -/

/-- One entry of the section table. -/
structure Section where
  type : Nat
  idx : Nat
  flags : Nat
  off : Nat
  len : Nat
  crc : Nat
  deriving DecidableEq, Repr

/-- A little-endian number of the image. -/
def imgNat (img : List Byte) (off n : Nat) : Nat := leNat (slice img off n)

def imgLen (h : List Byte) : Nat := imgNat h 8 4
def imgSections (h : List Byte) : Nat := imgNat h 5 1
def imgSvn (h : List Byte) : Nat := imgNat h 15 1
def imgTable (h : List Byte) : Nat := imgNat h 32 4

/-- The section table of an image. -/
def sectionsOf (img : List Byte) : List Section :=
  (List.range (imgSections img)).map (fun i =>
    let o := imgTable img + 16 * i
    ⟨imgNat img o 1, imgNat img (o + 1) 1, imgNat img (o + 2) 2, imgNat img (o + 4) 4, imgNat img (o + 8) 4, imgNat img (o + 12) 4⟩)

def sectionBytes (img : List Byte) (x : Section) : List Byte := slice img x.off x.len

/-- Two sections have no byte in common. -/
def Section.apart (x y : Section) : Bool := decide (x.off + x.len ≤ y.off) || decide (y.off + y.len ≤ x.off)

def pairwise (p : Section → Section → Bool) : List Section → Bool
  | [] => true
  | x :: r => r.all (p x) && pairwise p r

/-- Instruction SRAM of a controller, bytes (R562). -/
def sramBytes : Nat := 262144

/-- One section of the table is well formed; a FIRMWARE section must fit the SRAM. -/
def sectionOk (img : List Byte) (x : Section) : Bool :=
  [1, 2, 3, 4].contains x.type && (if x.type = 2 then decide (x.idx < 4) else x.idx == 0) && x.flags == 0 &&
    x.off % 4 == 0 && decide (x.off + x.len ≤ imgLen img) &&
    (x.type != 2 || (decide (8 ≤ x.len) && decide (imgNat img (x.off + 4) 4 + (x.len - 8) ≤ sramBytes))) &&
    (x.type != 4 || (x.len == 200 && x.off == imgLen img - 200))

/-- The table of an image is well formed (R558). -/
def tableOk (img : List Byte) : Bool :=
  let l := sectionsOf img
  imgTable img % 4 == 0 && decide (imgTable img + 16 * imgSections img ≤ imgLen img) && l.all (sectionOk img) &&
    pairwise Section.apart l && (l.filter (fun x => x.type = 4)).length == 1 &&
    (List.range 4).all (fun n => decide ((l.filter (fun x => x.type = 2 ∧ x.idx = n)).length ≤ 1)) &&
    decide ((l.filter (fun x => x.type = 3)).length ≤ 1)

/-- The SIGNATURE section (R564): KEY_SLOT, PUBKEY and SIG. -/
def sigPart (img : List Byte) (off n : Nat) : List Byte := slice img (imgLen img - 200 + off) n

/-! ## Configuration records (R559) -/

structure CfgRec where
  kind : Nat
  count : Nat
  addr : Nat
  body : List Byte
  deriving DecidableEq, Repr

/-- Bytes of a record's body. -/
def cfgBody (kind count : Nat) : Nat := match kind with
  | 1 => 4 * count
  | 2 => 4 * count
  | 3 => 8 * count
  | 4 => 12
  | _ => 0

def cfgCountOk (kind count : Nat) : Bool := match kind with
  | 4 => count == 1
  | 5 => count == 0
  | _ => decide (1 ≤ count)

/-- The records of a CONFIG section; none where one fails the parse. -/
def parseRecords (b : List Byte) : Nat → Option (List CfgRec)
  | 0 => if b.isEmpty then some [] else none
  | n + 1 =>
    if b.isEmpty then some [] else
    let kind := imgNat b 0 1
    let count := imgNat b 2 2
    let body := cfgBody kind count
    if b.length < 8 + body ∨ kind < 1 ∨ 5 < kind ∨ cfgCountOk kind count = false then none
    else (parseRecords (b.drop (8 + body)) n).map (fun l => ⟨kind, count, imgNat b 4 4, slice b 8 body⟩ :: l)

/-- The writes of a record, in order. -/
def CfgRec.writes (r : CfgRec) : List (Nat × Word) :=
  (List.range r.count).filterMap (fun i => match r.kind with
    | 1 => some (r.addr + 4 * i, BitVec.ofNat 32 (imgNat r.body (4 * i) 4))
    | 2 => some (r.addr, BitVec.ofNat 32 (imgNat r.body (4 * i) 4))
    | 3 => some (imgNat r.body (8 * i) 4, BitVec.ofNat 32 (imgNat r.body (8 * i + 4) 4))
    | _ => none)

/-- Blocks whose UNLOCK was written and which no later write has reached. -/
def unlockPending (open_ : List Nat) (w : Nat × Word) : List Nat :=
  match blockOf (wordAddr w.1) with
  | none => open_
  | some b =>
    let rest := open_.filter (· ≠ b)
    if isUnlock (wordAddr w.1) then b :: rest else rest

/-- No WAIT or DELAY stands between an UNLOCK write and the next write to its block. -/
def recordsOk : List Nat → List CfgRec → Bool
  | _, [] => true
  | open_, r :: l => (r.kind < 4 || open_.isEmpty) && recordsOk (r.writes.foldl unlockPending open_) l

/-- Every CONFIG section's records, in section-table order. -/
def imgRecords (img : List Byte) : Option (List CfgRec) :=
  let parts := ((sectionsOf img).filter (fun x => x.type = 1)).map (fun x => parseRecords (sectionBytes img x) (x.len / 8 + 1))
  if parts.all Option.isSome then
    let l := parts.flatMap (fun p => p.getD [])
    if recordsOk [] l then some l else none
  else none

/-! ## The checks (R565) -/

/-- The image's key hash against its slot: the code of check 5, or none. Byte 0 of the SHA-384 is the most significant of
the field. -/
def State.keyCheck (s : State) (img : List Byte) : Option Nat :=
  let k := beNat (sigPart img 0 1)
  if !(List.range 4).any (fun k => (s.fuse (3 + k)).programmed) then some 8
  else if 3 < k || !s.keySlotGood (s.fuse 7).value k ||
      (s.fuse (3 + k)).value != beNat (Crypto.sha384 (sigPart img 4 97)) then some 9
  else none

/-- Checks 1 and 2, on the header alone. -/
def headerCheck (h : List Byte) : Option Nat :=
  if slice h 0 4 ≠ [0x41, 0x49, 0x57, 0x4E] ∨ imgNat h 4 1 ≠ 1 ∨ imgNat h 6 2 ≠ 64 then some 4
  else if imgNat h 12 2 ≠ 0x6400 ∨ 0xB1 < imgNat h 14 1 then some 5
  else none

/-- The lengths of check 3. -/
def lengthsOk (h : List Byte) : Bool :=
  decide (4096 ≤ imgLen h) && decide (imgLen h ≤ 16777216) && imgLen h % 4 == 0 && decide (2 ≤ imgSections h) &&
    decide (imgSections h ≤ 32) && decide (2 ≤ imgNat h 28 1) && decide (imgNat h 28 1 ≤ 16)

/-- Steps 5 to 7 up to the first write: the code of the first check of R565 or of R559 that fails. -/
def State.imageCheck (s : State) (img : List Byte) : Option Nat :=
  match headerCheck img with
  | some c => some c
  | none =>
    if !lengthsOk img || !tableOk img then some 6
    else if !(sectionsOf img).all (fun x => (Crypto.crc32 (sectionBytes img x)).toNat == x.crc) then some 7
    else match s.keyCheck img with
      | some c => some c
      | none =>
        if sigPart img 4 1 ≠ [4] ∨
          Crypto.ecdsaOk (Crypto.sha384 (img.take (imgLen img - 96))) (sigPart img 5 96) (sigPart img 104 96) = false then some 10
        else if imgSvn img < s.svnMin then some 11
        else if (imgRecords img).isNone then some 12
        else none

/-- The image of a slot as staged: the header alone where its lengths are out of range (R556). -/
def State.stageImage (s : State) (slot : Bool) : List Byte :=
  let base := if slot then 0x1000000 else 0
  let h := nvmBytes s.boot.nvm base 64
  if lengthsOk h then nvmBytes s.boot.nvm base (imgLen h) else h

/-! ## Applying an image -/

/-- One write by Sprout, as requester 10 through the fabric. -/
def State.sproutWrite (s : State) (a : Nat) (v : Word) : State :=
  match s.fabricOpen 10 with
  | none => s.await 0 0 10
  | some t => ((t.writeCore 10 (wordAddr a) v).1).fabricClose 10 (isUnlock (wordAddr a))

/-- One record (R560, R561). BOOT_CFG_WRITES counts the writes applied. -/
def State.applyRecord (s : State) (r : CfgRec) : State :=
  match r.kind with
  | 4 =>
    match s.fabricOpen 10 with
    | none => s.await 0 0 10
    | some t =>
      let (w, u, _) := t.readCore 10 (wordAddr r.addr)
      let u := u.fabricClose 10 false
      if w &&& BitVec.ofNat 32 (imgNat r.body 0 4) = BitVec.ofNat 32 (imgNat r.body 4 4) then u
      else ((u.passTicks (imgNat r.body 8 4 * ticksPerUs)).bump Reg.BOOT_CNT_WAIT_TO).raise Reg.BOOT_STATUS 4
  | 5 => s.passTicks (r.addr * ticksPerUs)
  | _ => r.writes.foldl (fun s w =>
      let s := s.sproutWrite w.1 w.2
      if mcuBarred (wordAddr w.1) then s else s.bump32 Reg.BOOT_CFG_WRITES 1) s

/-- A FIRMWARE section (R562): the controller runs it once step 7 ends. -/
def State.loadMcu (s : State) (img : List Byte) (x : Section) : State :=
  s.setMcu x.idx { Mcu.reset with
    state := .running, entry := BitVec.ofNat 32 (imgNat img x.off 4), load := BitVec.ofNat 32 (imgNat img (x.off + 4) 4)
    code := slice img (x.off + 8) (x.len - 8), crc := BitVec.ofNat 32 x.crc }

/-- An entry of Table BOOT-7; NTIME is laid out as the chapter on activation lays it out. -/
def schedEntry (b : List Byte) : SchedEntry :=
  let periodic := imgNat b 1 1 == 1
  { slot := imgNat b 0 1, periodic := periodic, mask := BitVec.ofNat 16 (imgNat b 2 2), leadMs := imgNat b 4 4
    time := if periodic then beNat (slice b 8 6) else ntimeOf (slice b 8 11) }

/-- The schedule of an image: at most 16 whole entries. -/
def scheduleOf (img : List Byte) : List SchedEntry :=
  ((sectionsOf img).filter (fun x => x.type = 3)).flatMap (fun x =>
    (List.range (min 16 (x.len / 24))).map (fun i => schedEntry (slice img (x.off + 24 * i) 24)))

/-- The writes of steps 9 and 10 (R548, R551): the enables of Table BOOT-3, then ACT_CTRL.EN. Step 9 ends with MF_SYNC, and
step 10, which runs beside it, in T4 or T7. -/
def State.sproutEnables (s : State) : State :=
  let e := s.boot.enables
  let put (s : State) (a : Nat) (bits : Word) : State := if bits = 0 then s else s.sproutWrite a (s.reg a ||| bits)
  let ch : Word := nWord (bitsOf e.toNat 3 0)
  let s := (List.range 4).foldl (fun s n => put s (Reg.POD_RX_CTRL n) (if e.getLsbD n then 1 else 0)) s
  let s := put s Reg.DSF_CTRL (nWord (bitsOf e.toNat 4 0))
  let s := put s Reg.UBT_CTRL ch
  let s := put s Reg.CLS_CTRL (nWord (bitsOf e.toNat 5 5))
  let s := put s Reg.USQ_CTRL (nWord (bitsOf e.toNat 7 6))
  let s := put s Reg.ACT_CTRL (nWord (bitsOf e.toNat 8 8))
  (s.modBoot (fun b => { b with step := 9 })).raise Reg.BOOT_STATUS 0

/-- Step 8 ends once no Pod that Sprout calibrates is busy. -/
def State.calStepEnd (s : State) : State :=
  if s.boot.step ≠ 8 ∨ (List.range 4).any (fun n => (s.pod n).calSprout) then s else s.sproutEnables

/-- Step 7 and the beginning of step 8 with an image that has passed its checks. -/
def State.applyImage (s : State) (img : List Byte) : State :=
  let s := s.modBoot (fun b => { b with
    step := 7, sprout := true, enables := BitVec.ofNat 32 (imgNat img 24 4), schedule := scheduleOf img })
  let s := ((s.setReg Reg.BOOT_BUILD_LO (BitVec.ofNat 32 (imgNat img 16 4))).setReg Reg.BOOT_BUILD_HI
    (BitVec.ofNat 32 (imgNat img 20 4))).setReg Reg.BOOT_IMG_INFO
      (packWord [(imgSvn img, 6, 0), (imgSections img, 6, 8), ((imgLen img + 1023) / 1024, 16, 16)])
  let s := ((imgRecords img).getD []).foldl State.applyRecord s
  let s := ((sectionsOf img).filter (fun x => x.type = 2)).foldl (fun s x => s.loadMcu img x) s
  let s := [0, 1].foldl State.trigArm s
  let s := s.modBoot (fun b => { b with step := 8, sprout := false })
  let s := ((List.range 4).filter (fun n => s.boot.enables.getLsbD n)).foldl (fun s n => s.calStart n true) s
  s.calStepEnd

/-- The step in which a code of Table BOOT-2 arises. -/
def stepOfCode (c : Nat) : Nat :=
  if c = 1 then 3 else if c ≤ 3 then 4 else if c ≤ 7 then 5 else if c ≤ 11 then 6 else 7

/-- The device halts (R552, R553). -/
def State.haltBoot (s : State) (code : Nat) : State :=
  (s.modBoot (fun b => { b with step := stepOfCode code, halted := true, failCode := code })).raise Reg.BOOT_STATUS 1

/-- Sprout from step 5: slot 0, then slot 1 (R552). -/
def State.sproutFrom5 (s : State) : State :=
  let s := s.modBoot (fun b => { b with step := 5, slot := false, halted := false, failCode := 0, fallback := false })
  let img0 := s.stageImage false
  match s.imageCheck img0 with
  | none => s.applyImage img0
  | some _ =>
    let s := (s.modBoot (fun b => { b with slot := true, fallback := true })).raise Reg.BOOT_STATUS 2
    let img1 := s.stageImage true
    match s.imageCheck img1 with
    | none => s.applyImage img1
    | some c => s.haltBoot c

/-- `RESET_RELEASE` (R548, R549): steps 3 to 7. It needs every core-side supply good. -/
def execResetRelease (fuseEccOk hbmTrained nvmAnswers : Bool) (s : State) : Outcome State Fault Refusal :=
  if 3 < s.boot.step ∨ s.boot.step = 1 ∨ s.boot.halted ∨ s.pads.railGood ≠ 0x3FFFFF then done s
  else
    let s := (s.modPads (fun p => { p with inReset := false })).modBoot (fun b => { b with releasedAt := s.ticks })
    if !fuseEccOk then done (s.haltBoot 1)
    else if !hbmTrained then done (s.haltBoot 2)
    else if !nvmAnswers then done (s.haltBoot 3)
    else done s.sproutFrom5

/-! ## Calibration results (R143, R611) -/

/-- `CAL_DONE` (R143): results, once no reset of LPB holds the calibration up (R705); a Pod restart that passes puts the Pod back in service, with the commits it had deferred
(R43); the last calibration of step 8 leads to the enables. -/
def execCalDone (ch : Chan) (report : CalReport) (s : State) : Outcome State Fault Refusal :=
  let n := ch.val
  let p := s.pod n
  if !p.calBusy || s.inReset n 9 then done s else
  let back := p.restarting && report.pass
  let s := if back then s.modFlt (fun f => { f with podOffline := putBit f.podOffline n false }) else s
  let s := s.modPod n (fun p => { p with restarting := false, calSprout := false })
  let s := s.calResults n report
  let s := if back then s.applyDeferred n else s
  done (if p.calSprout then s.calStepEnd else s)

/-! ## Package reset (Table ORG-11, R549, R679) -/

/-- A package reset: everything but the fuses, the main NVM and what lies outside the core side. A fuse being programmed is
BAD (R567); an NVM page or sector being written holds an open value (Table BOOT-11). -/
def State.packageReset (s : State) : State :=
  let s := s.breakBoot
  { State.reset with
    pending := s.pending, ticks := s.ticks, fresh := s.fresh, out := s.out, regs := unitRegs s.boot.unit
    boot := { Boot.reset with
      fuses := s.boot.fuses, unit := s.boot.unit, kreg := s.boot.kreg, nvm := s.boot.nvm, releasedAt := s.ticks }
    clk := { Clk.reset with good := s.clk.good }
    pads := { s.pads with tripped := 0 }
    pods := (List.range 4).foldl (fun t n => Tab.set Pod.reset t n { Pod.reset with sense := (s.pod n).sense }) []
    hsk := { Hsk.reset with latAsym := s.hsk.latAsym, latNom := s.hsk.latNom }
    shell := { s.shell with ofs := s.shell.ofs + s.now } }

/-- BOOT_CMD: RETRY (R553), and SOFT_RESET with its release 10 µs later (R549), at which RESET_RELEASE comes. -/
def State.bootCmd (s : State) (v : Word) : State :=
  let s := if v.getLsbD 0 && s.boot.halted && s.boot.fuseBusy.isNone && s.boot.nvmBusy.isNone then s.sproutFrom5 else s
  if v.getLsbD 1 then s.packageReset.passTicks (10 * ticksPerUs) else s

/-! ## Whole accesses -/

/-- The write of `writeCore`, with BOOT_CMD's effect where its guard lets the write through. -/
def State.writeReg (s : State) (ini a : Nat) (v : Word) : State × Nat :=
  let let_ := a == Reg.BOOT_CMD && s.guardFor 1 ini && decide (ini < 10)
  let (t, st) := s.writeCore ini a v
  if let_ then (t.bootCmd v, st) else (t, st)

/-- One write as its requester makes it: none while the fabric gives no grant, and the requester waits. -/
def State.accessWrite (s : State) (ini addr : Nat) (v : Word) : Option (State × Nat) :=
  let a := wordAddr addr
  if privatePath ini a then some (s.writeReg ini a v)
  else match s.fabricOpen ini with
    | none => none
    | some t =>
      let (u, st) := t.writeReg ini a v
      some (u.fabricClose ini (isUnlock a), st)

/-- One read as its requester makes it. -/
def State.accessRead (s : State) (ini addr : Nat) : Option (Word × State × Nat) :=
  let a := wordAddr addr
  if privatePath ini a then some (s.readCore ini a)
  else match s.fabricOpen ini with
    | none => none
    | some t =>
      let (w, u, st) := t.readCore ini a
      some (w, u.fabricClose ini false, st)

end Sys2Proof.Machine
end

