-- ==== Sys2Proof/Machine/Access.lean ====
section
/-! DEFINITION. The access paths (chapter 18, R650 to R655): the host management SPI and its posted writes, register
accesses of one initiator, guards and semaphores, and the grants and timeouts of the management fabric. -/

namespace Sys2Proof.Machine

open Host (Outcome)

/-! ## Timeouts (R443) -/

/-- 100 µs. -/
def fabricTimeoutTicks : Nat := 100 * ticksPerUs

/-- A fabric access unanswered in 100 µs: a fault of the core's arbiter region with the address (Table FLT-2). -/
def State.fabricFault (s : State) (addr : Nat) : State := s.fault (coreSource 10 0) 0x05 (addr % 2 ^ 28) 0

/-! ## The host management SPI -/

/-- A posted write ends in error (R653). -/
def State.spiFailed (s : State) : State :=
  let s := s.setFld Reg.DEV_SPI_ERR 15 0 (s.fld Reg.DEV_SPI_ERR 15 0 + 1)
  { s with spi := { s.spi with err := true } }

/-- A word that finds the queue full is discarded (R653). -/
def State.spiDropped (s : State) : State :=
  let s := s.setFld Reg.DEV_SPI_ERR 31 16 (s.fld Reg.DEV_SPI_ERR 31 16 + 1)
  { s with spi := { s.spi with err := true } }

/-- Take the oldest posted write away. -/
def State.spiPop (s : State) : State := { s with spi := { s.spi with queue := s.spi.queue.drop 1 } }

/-- The oldest posted write is applied if it gets its grant. -/
def State.spiApply (s : State) : Option State := match s.spi.queue with
  | [] => none
  | (a, v) :: _ => (s.spiPop.accessWrite 0 a v).map (·.1)

/-- Posted writes are applied in order until one gets no grant, which then waits. -/
def State.spiDrain (s : State) : Nat → State
  | 0 => s
  | n + 1 => match s.spiApply with
    | some t => t.spiDrain n
    | none => if s.spi.queue.isEmpty then s else s.await 0 0 0

/-- Post words; applied at once unless the fabric keeps them waiting (`stalled`). -/
def State.spiPost (s : State) (ws : List (Nat × Word)) (stalled : Bool) : State :=
  ws.foldl (fun s w =>
    if !s.spiReady then s.spiFailed
    else if 64 ≤ s.spi.queue.length then s.spiDropped
    else
      let s := { s with spi := { s.spi with queue := s.spi.queue ++ [w] } }
      if stalled then s else s.spiDrain s.spi.queue.length) s

/-- Every posted write completes before a read begins (R653): one that gets no grant ends in error after 100 µs. -/
def State.spiFinish (s : State) : Nat → State
  | 0 => s
  | n + 1 => match s.spiApply with
    | some t => t.spiFinish n
    | none => match s.spi.queue with
      | [] => s
      | (a, _) :: _ => (((s.passTicks fabricTimeoutTicks).spiPop.spiFailed).fabricFault a).spiFinish n

/-- The words of a read transaction (R652): after an error token no further word is read. -/
def State.spiReadWords (s : State) : List Nat → State
  | [] => s
  | a :: r =>
    if !s.spiReady then s.send (.spiWord false 0)
    else match s.accessRead 0 a with
      | some (w, t, _) => (t.send (.spiWord true w)).spiReadWords r
      | none => ((s.passTicks fabricTimeoutTicks).fabricFault a).send (.spiWord false 0)

def State.spiRead (s : State) (addrs : List Nat) : State := (s.spiFinish s.spi.queue.length).spiReadWords addrs

/-- Consecutive addresses, or the same one each time. -/
def addressesFrom (addr : Nat) (fixed : Bool) (n : Nat) : List Nat :=
  (List.range n).map (fun i => if fixed then addr else addr + 4 * i)

/-- `SPI_WRITE` (R651, R653). -/
def execSpiWrite (addr : BitVec 28) (words : List Word) (stalled : Bool) (s : State) : Outcome State Fault Refusal :=
  done (s.spiPost ((addressesFrom addr.toNat false words.length).zip words) stalled)

/-- `SPI_WRITE_FIXED` (R651, R653). -/
def execSpiWriteFixed (addr : BitVec 28) (words : List Word) (stalled : Bool) (s : State) : Outcome State Fault Refusal :=
  done (s.spiPost ((addressesFrom addr.toNat true words.length).zip words) stalled)

/-- `SPI_READ` (R652). -/
def execSpiRead (addr : BitVec 28) (count : Nat) (s : State) : Outcome State Fault Refusal :=
  done (s.spiRead (addressesFrom addr.toNat false count))

/-- `SPI_READ_FIXED` (R652). -/
def execSpiReadFixed (addr : BitVec 28) (count : Nat) (s : State) : Outcome State Fault Refusal :=
  done (s.spiRead (addressesFrom addr.toNat true count))

/-- The STATUS byte of Table REG-2. -/
def State.spiStatusByte (s : State) : Byte :=
  BitVec.ofNat 8 (b2n (!s.spi.queue.isEmpty) + 2 * b2n (decide (64 ≤ s.spi.queue.length)) + 4 * b2n s.spi.err +
    8 * b2n s.spiReady)

/-- `SPI_STATUS` (R651, R653): it clears ERR once it has returned it. -/
def execSpiStatus (s : State) : Outcome State Fault Refusal :=
  let s := s.send (.spiStatus s.spiStatusByte)
  done { s with spi := { s.spi with err := false } }

/-- `SPI_RESET` (R654, R664). -/
def execSpiReset (s : State) : Outcome State Fault Refusal :=
  done ({ s with spi := ⟨[], false⟩ }.initiatorReset 0)

/-! ## One access by one initiator -/

/-- A write that an initiator makes; the SPI's is posted. A requester without a grant waits. -/
def State.request (s : State) (ini a : Nat) (v : Word) : State :=
  if ini = 0 then s.spiPost [(a, v)] false
  else match s.accessWrite ini a v with
    | some (t, _) => t
    | none => s.await 0 0 ini

/-- The command form of `request`: initiators are the requesters 0 to 13 of Table ARB-2. -/
def State.ask (s : State) (ini a : Nat) (v : Word) : Outcome State Fault Refusal :=
  done (if 14 ≤ ini then s else s.request ini a v)

/-- A read that an initiator makes. -/
def State.requestRead (s : State) (ini a : Nat) : State :=
  if ini = 0 then s.spiRead [a]
  else match s.accessRead ini a with
    | some (w, t, _) => t.send (.regRead ini (wordAddr a) w)
    | none => s.await 0 0 ini

/-- `REGISTER_WRITE` (R656, R657). -/
def execRegisterWrite (ini : Nat) (addr : BitVec 28) (value : Word) (s : State) : Outcome State Fault Refusal :=
  s.ask ini addr.toNat value

/-- `REGISTER_READ` (R656, R669). -/
def execRegisterRead (ini : Nat) (addr : BitVec 28) (s : State) : Outcome State Fault Refusal :=
  done (if 14 ≤ ini then s else s.requestRead ini addr.toNat)

/-- `SQC_CLEAR` (R659). -/
def execSqcClear (ini : Nat) (addr : BitVec 28) (value : Word) (s : State) : Outcome State Fault Refusal :=
  s.ask ini addr.toNat value

/-- `UNLOCK` (R662). -/
def execUnlock (ini : Nat) (block : Fin 21) (value : Word) (s : State) : Outcome State Fault Refusal :=
  s.ask ini (Reg.BLK_UNLOCK block) value

/-- `GUARD_EXPIRY` (R663): 10 µs from the arming write have passed. -/
def execGuardExpiry (block : Fin 21) (s : State) : Outcome State Fault Refusal :=
  match Tab.find? s.guards block with
  | none => done s
  | some g => done ((s.passToTick (g.armedAt + guardTicks)).disarmGuard block)

/-- `SEM_READ` (R573). -/
def execSemRead (ini : Nat) (sem : Fin 32) (s : State) : Outcome State Fault Refusal :=
  done (if 14 ≤ ini then s else s.requestRead ini (Reg.DEV_SEMk sem))

/-- `SEM_FREE` (R574). -/
def execSemFree (ini : Nat) (sem : Fin 32) (value : Word) (s : State) : Outcome State Fault Refusal :=
  s.ask ini (Reg.DEV_SEMk sem) value

/-- `SEM_FORCE` (R575). -/
def execSemForce (ini : Nat) (value : Word) (s : State) : Outcome State Fault Refusal := s.ask ini Reg.DEV_SEM_FORCE value

/-! ## Grants of the arbiters -/

/-- What a grant starts: requester 0 of the fabric applies its oldest posted write; a recirculation of the packet engine
may run its second pass. -/
def State.granted (s : State) (i r : Nat) : State :=
  if i = 0 ∧ r = 0 then
    match s.spi.queue with
    | [] => s
    | (a, v) :: _ =>
      let t := (s.spiPop.writeReg 0 (wordAddr a) v).1
      if isUnlock (wordAddr a) then { t with arb := { t.arb with extended := some (0, t.ticks + ticksPerUs) } } else t
  else if i = 1 ∧ 1 ≤ r then
    match s.cls.recirc.find? (fun x => x.pipe = r - 1 ∧ x.granted = false) with
    | none => s
    | some x =>
      let rec mark : List Recirc → List Recirc
        | [] => []
        | y :: l => if y = x then { y with granted := true } :: l else y :: mark l
      let s := s.modCls (fun c => { c with recirc := mark c.recirc })
      if s.cls.recirc.any (fun y => y.pipe = r - 1 ∧ y.granted = false) then s.await 1 0 r else s
  else s

/-- `ARBITRATION` (R442): the requesters that arrive wait with the others, and one is granted. -/
def execArbitration (inst : Fin 3) (pc : Fin 64) (arriving : List Nat) (s : State) : Outcome State Fault Refusal :=
  match s.arbitrate inst (resourceOf inst pc) arriving with
  | (none, t) => done t
  | (some r, t) => done (t.granted inst r)

/-- `FREEZE_WRITE` (R445). -/
def execFreezeWrite (ini : Nat) (inst : Fin 3) (value : Word) (s : State) : Outcome State Fault Refusal :=
  s.ask ini (Reg.ARB_Ii_CTRL inst) value

end Sys2Proof.Machine
end

