-- ==== Sys2Proof/Machine/Commands.lean ====
section
/-! DEFINITION. The commands that are writes of one register with an effect of its own: each is that write, made by a
requester of the fabric, under every rule an access is under (Access.lean); the register's effect stands in RegEffect.lean. -/

namespace Sys2Proof.Machine

open Host (Outcome)

/-- `FREQ_MEASURE` (R647). -/
def execFreqMeasure (ini : Nat) (value : Word) (s : State) : Outcome State Fault Refusal :=
  s.ask ini Reg.CLK_FREQ_SEL value

/-- `FORCE_REF_WRITE` (R627). -/
def execForceRefWrite (ini : Nat) (value : Word) (s : State) : Outcome State Fault Refusal :=
  s.ask ini Reg.CLK_TEST value

/-- `CAL` (R142). -/
def execCal (ini : Nat) (ch : Chan) (value : Word) (s : State) : Outcome State Fault Refusal :=
  s.ask ini (Reg.POD_CAL_CMD ch) value

/-- `PM_SNAP` (R170). -/
def execPmSnap (ini : Nat) (value : Word) (s : State) : Outcome State Fault Refusal :=
  s.ask ini Reg.DSF_PM_CMD value

/-- `PROF_ARM` (R126). -/
def execProfArm (ini : Nat) (ch : Chan) (value : Word) (s : State) : Outcome State Fault Refusal :=
  s.ask ini (Reg.POD_PROF_CMD ch) value

/-- `TXPROF_ARM` (R287). -/
def execTxprofArm (ini : Nat) (ch : Chan) (value : Word) (s : State) : Outcome State Fault Refusal :=
  s.ask ini (Reg.POD_TXPROF_CMD ch) value

/-- `ACT_EN_WRITE` (R193). -/
def execActEnWrite (ini : Nat) (value : Word) (s : State) : Outcome State Fault Refusal :=
  s.ask ini Reg.ACT_CTRL value

/-- `DEACTIVATE` (R228). -/
def execDeactivate (ini : Nat) (value : Word) (s : State) : Outcome State Fault Refusal :=
  s.ask ini Reg.ACT_CMD value

/-- `GATE_LIMITS_WRITE` (R305). -/
def execGateLimitsWrite (ini : Nat) (value : Word) (s : State) : Outcome State Fault Refusal :=
  s.ask ini Reg.UBT_GATE_LIMITS value

/-- `FLUSH` (R245). Bit 0 of USQ_Q_CMD. -/
def execFlush (ini : Nat) (value : Word) (s : State) : Outcome State Fault Refusal :=
  s.ask ini Reg.USQ_Q_CMD (value &&& 1)

/-- `LAT_SNAP` (R272). Bit 1 of USQ_Q_CMD. -/
def execLatSnap (ini : Nat) (value : Word) (s : State) : Outcome State Fault Refusal :=
  s.ask ini Reg.USQ_Q_CMD (value &&& 2)

/-- `KEY_LOAD` (R360). -/
def execKeyLoad (ini : Nat) (value : Word) (s : State) : Outcome State Fault Refusal :=
  s.ask ini Reg.LSC_KL_CMD value

/-- `ERASE` (R359). -/
def execErase (ini : Nat) (value : Word) (s : State) : Outcome State Fault Refusal :=
  s.ask ini Reg.LSC_CMD value

/-- `LSC_CTRL_WRITE` (R377). -/
def execLscCtrlWrite (ini : Nat) (value : Word) (s : State) : Outcome State Fault Refusal :=
  s.ask ini Reg.LSC_CTRL value

/-- `PORT_CFG_WRITE` (R385). -/
def execPortCfgWrite (ini : Nat) (port : Port) (value : Word) (s : State) : Outcome State Fault Refusal :=
  s.ask ini (Reg.HPE_Pp_CFG port) value

/-- `INSERT` (R410). -/
def execInsert (ini : Nat) (s : State) : Outcome State Fault Refusal :=
  s.ask ini Reg.CLS_TBL_CMD 1

/-- `UPDATE` (R409). -/
def execUpdate (ini : Nat) (s : State) : Outcome State Fault Refusal :=
  s.ask ini Reg.CLS_TBL_CMD 2

/-- `DELETE` (R409). -/
def execDelete (ini : Nat) (s : State) : Outcome State Fault Refusal :=
  s.ask ini Reg.CLS_TBL_CMD 3

/-- `FIND` (R409). -/
def execFind (ini : Nat) (s : State) : Outcome State Fault Refusal :=
  s.ask ini Reg.CLS_TBL_CMD 4

/-- `READ_SLOT` (R409). -/
def execReadSlot (ini : Nat) (s : State) : Outcome State Fault Refusal :=
  s.ask ini Reg.CLS_TBL_CMD 5

/-- `CLEAR_GEN` (R409). -/
def execClearGen (ini : Nat) (s : State) : Outcome State Fault Refusal :=
  s.ask ini Reg.CLS_TBL_CMD 6

/-- `SWAP` (R416). -/
def execSwap (ini : Nat) (s : State) : Outcome State Fault Refusal :=
  s.ask ini Reg.CLS_GEN_CMD 1

/-- `PROFILE_APPLY` (R404). Bit 0 of CLS_PROF_CMD. -/
def execProfileApply (ini : Nat) (value : Word) (s : State) : Outcome State Fault Refusal :=
  s.ask ini Reg.CLS_PROF_CMD (value &&& 1)

/-- `PROFILE_LOAD` (R404). Bit 1 of CLS_PROF_CMD. -/
def execProfileLoad (ini : Nat) (value : Word) (s : State) : Outcome State Fault Refusal :=
  s.ask ini Reg.CLS_PROF_CMD (value &&& 2)

/-- `SG_MAP_WRITE` (R420). -/
def execSgMapWrite (ini : Nat) (value : Word) (s : State) : Outcome State Fault Refusal :=
  s.ask ini Reg.CLS_SG_MAP value

/-- `SEL_DATA_WRITE` (R399). -/
def execSelDataWrite (ini : Nat) (value : Word) (s : State) : Outcome State Fault Refusal :=
  s.ask ini Reg.CLS_SEL_DATA value

/-- `SEED_WRITE` (R408). -/
def execSeedWrite (ini : Nat) (bank : Fin 2) (value : Word) (s : State) : Outcome State Fault Refusal :=
  s.ask ini (if bank = 0 then Reg.CLS_SEED0 else Reg.CLS_SEED1) value

/-- `PARTITION_WRITE` (R431). -/
def execPartitionWrite (ini : Nat) (value : Word) (s : State) : Outcome State Fault Refusal :=
  s.ask ini Reg.HRD_PART value

/-- `HSK_CFG_SEND` (R488). -/
def execHskCfgSend (ini : Nat) (s : State) : Outcome State Fault Refusal :=
  s.ask ini Reg.HSK_CFG_CMD 1

/-- `TWN_HANDOVER` (R512). -/
def execTwnHandover (ini : Nat) (s : State) : Outcome State Fault Refusal :=
  s.ask ini Reg.TWN_CMD 1

/-- `RETRAIN` (R541). -/
def execRetrain (ini : Nat) (s : State) : Outcome State Fault Refusal :=
  s.ask ini Reg.TWN_CMD 2

/-- `SOLO` (R513). -/
def execSolo (ini : Nat) (s : State) : Outcome State Fault Refusal :=
  s.ask ini Reg.TWN_SOLO 1

/-- `FORCE_OFF` (R502). -/
def execForceOff (ini : Nat) (s : State) : Outcome State Fault Refusal :=
  s.ask ini Reg.TWN_ACORN_OVR 1

/-- `FORCE_ON` (R502). -/
def execForceOn (ini : Nat) (s : State) : Outcome State Fault Refusal :=
  s.ask ini Reg.TWN_ACORN_OVR 2

/-- `TWIN_LOOP_WRITE` (R545). -/
def execTwinLoopWrite (ini : Nat) (value : Word) (s : State) : Outcome State Fault Refusal :=
  s.ask ini Reg.TWN_LOOP value

/-- `RETRY` (R553). -/
def execRetry (ini : Nat) (s : State) : Outcome State Fault Refusal :=
  s.ask ini Reg.BOOT_CMD 1

/-- `SOFT_RESET` (R549). -/
def execSoftReset (ini : Nat) (s : State) : Outcome State Fault Refusal :=
  s.ask ini Reg.BOOT_CMD 2

/-- `FUSE_PROG` (R566). -/
def execFuseProg (ini : Nat) (s : State) : Outcome State Fault Refusal :=
  s.ask ini Reg.BOOT_FUSE_CMD 1

/-- `FUSE_READ` (R566). -/
def execFuseRead (ini : Nat) (s : State) : Outcome State Fault Refusal :=
  s.ask ini Reg.BOOT_FUSE_CMD 2

/-- `NVM_READ` (R569). -/
def execNvmRead (ini : Nat) (s : State) : Outcome State Fault Refusal :=
  s.ask ini Reg.BOOT_NVM_CMD 1

/-- `NVM_PROGRAM` (R569). -/
def execNvmProgram (ini : Nat) (s : State) : Outcome State Fault Refusal :=
  s.ask ini Reg.BOOT_NVM_CMD 2

/-- `NVM_ERASE_4K` (R569). -/
def execNvmErase4k (ini : Nat) (s : State) : Outcome State Fault Refusal :=
  s.ask ini Reg.BOOT_NVM_CMD 3

/-- `NVM_ERASE_64K` (R569). -/
def execNvmErase64k (ini : Nat) (s : State) : Outcome State Fault Refusal :=
  s.ask ini Reg.BOOT_NVM_CMD 4

/-- `NVM_READ_ID` (R569). -/
def execNvmReadId (ini : Nat) (s : State) : Outcome State Fault Refusal :=
  s.ask ini Reg.BOOT_NVM_CMD 5

/-- `MCU_RESTART` (R570). -/
def execMcuRestart (ini : Nat) (mcu : Fin 4) (s : State) : Outcome State Fault Refusal :=
  s.ask ini (Reg.BOOT_MCUn_CMD mcu) 1

/-- `MODE_REQ_ACTIVE` (R583). -/
def execModeReqActive (ini : Nat) (s : State) : Outcome State Fault Refusal :=
  s.ask ini Reg.PWR_MODE_REQ 0

/-- `MODE_REQ_DOZE` (R584). -/
def execModeReqDoze (ini : Nat) (s : State) : Outcome State Fault Refusal :=
  s.ask ini Reg.PWR_MODE_REQ 1

/-- `MODE_REQ_CYCLIC` (R584). -/
def execModeReqCyclic (ini : Nat) (s : State) : Outcome State Fault Refusal :=
  s.ask ini Reg.PWR_MODE_REQ 2

/-- `MODE_REQ_DEEP` (R584). -/
def execModeReqDeep (ini : Nat) (s : State) : Outcome State Fault Refusal :=
  s.ask ini Reg.PWR_MODE_REQ 3

/-- `MODE_REQ_WARM` (R585). -/
def execModeReqWarm (ini : Nat) (s : State) : Outcome State Fault Refusal :=
  s.ask ini Reg.PWR_MODE_REQ 4

/-- `FLT_REC_CLR` (R619). -/
def execFltRecClr (ini : Nat) (value : Word) (s : State) : Outcome State Fault Refusal :=
  s.ask ini Reg.FLT_REC_CLR value

/-- `POD_RESTART` (R611). -/
def execPodRestart (ini : Nat) (value : Word) (s : State) : Outcome State Fault Refusal :=
  s.ask ini Reg.FLT_POD_CMD value

/-- `REGION_RESET_CMD` (R624). -/
def execRegionResetCmd (ini : Nat) (value : Word) (s : State) : Outcome State Fault Refusal :=
  s.ask ini Reg.FLT_RESET_CMD value

/-- `INJECT` (R624). -/
def execInject (ini : Nat) (value : Word) (s : State) : Outcome State Fault Refusal :=
  s.ask ini Reg.FLT_INJ_CMD value

/-- `RULE_WRITE` (R608). -/
def execRuleWrite (ini : Nat) (value : Word) (s : State) : Outcome State Fault Refusal :=
  s.ask ini Reg.FLT_RULE_DATA value

/-- `TC_ARM` (R347). -/
def execTcArm (ini : Nat) (slot : Fin 16) (s : State) : Outcome State Fault Refusal :=
  s.ask ini (Reg.NTM_TCs_CMD slot) 1

/-- `TC_DISARM` (R347). -/
def execTcDisarm (ini : Nat) (slot : Fin 16) (s : State) : Outcome State Fault Refusal :=
  s.ask ini (Reg.NTM_TCs_CMD slot) 2

/-- `TRIG_ARM` (R340). -/
def execTrigArm (ini : Nat) (trig : Fin 8) (s : State) : Outcome State Fault Refusal :=
  s.ask ini (Reg.NTM_TRIGt_CMD trig) 1

/-- `TRIG_STOP` (R340). -/
def execTrigStop (ini : Nat) (trig : Fin 8) (s : State) : Outcome State Fault Refusal :=
  s.ask ini (Reg.NTM_TRIGt_CMD trig) 2

/-- `CAPTURE_POP` (R345). -/
def execCapturePop (ini : Nat) (cap : Fin 4) (s : State) : Outcome State Fault Refusal :=
  s.ask ini (Reg.NTM_CAPc_CMD cap) 1

/-- `NTM_SNAP` (R331). -/
def execNtmSnap (ini : Nat) (s : State) : Outcome State Fault Refusal :=
  s.ask ini Reg.NTM_CMD 1

/-- `NTM_HOLD` (R326). -/
def execNtmHold (ini : Nat) (s : State) : Outcome State Fault Refusal :=
  s.ask ini Reg.NTM_CMD 2

/-- `NTM_RELEASE` (R326). -/
def execNtmRelease (ini : Nat) (s : State) : Outcome State Fault Refusal :=
  s.ask ini Reg.NTM_CMD 4

/-- `TIME_SET` (R332). -/
def execTimeSet (ini : Nat) (s : State) : Outcome State Fault Refusal :=
  s.ask ini Reg.NTM_TIME_CMD 1

/-- `TIME_ADJ` (R332). -/
def execTimeAdj (ini : Nat) (s : State) : Outcome State Fault Refusal :=
  s.ask ini Reg.NTM_TIME_CMD 2

/-- `SERVO_EN_WRITE` (R324). -/
def execServoEnWrite (ini : Nat) (value : Word) (s : State) : Outcome State Fault Refusal :=
  s.ask ini Reg.NTM_CTRL value

/-! Commands whose register has the command's effect only while another register names it: with another value there, the
command is not made. -/

/-- `REORDER_WORD0_WRITE` (R177). A write of DSF_LINK_DATA while DSF_LINK_ADDR names word 0. -/
def execReorderWord0Write (ini : Nat) (value : Word) (s : State) : Outcome State Fault Refusal :=
  if s.fld Reg.DSF_LINK_ADDR 3 0 = 0 then s.ask ini Reg.DSF_LINK_DATA value else done s

/-- `LINK_WORD12_WRITE` (R187). A write of DSF_LINK_DATA while DSF_LINK_ADDR names word 12. -/
def execLinkWord12Write (ini : Nat) (value : Word) (s : State) : Outcome State Fault Refusal :=
  if s.fld Reg.DSF_LINK_ADDR 3 0 = 12 then s.ask ini Reg.DSF_LINK_DATA value else done s

/-- `QUEUE_WORD0_WRITE` (R239). A write of USQ_Q_DATA while USQ_Q_ADDR names word 0. -/
def execQueueWord0Write (ini : Nat) (value : Word) (s : State) : Outcome State Fault Refusal :=
  if s.fld Reg.USQ_Q_ADDR 5 0 = 0 then s.ask ini Reg.USQ_Q_DATA value else done s

/-- `ALLOC_WORD0_WRITE` (R237). A write of USQ_ALLOC_DATA while USQ_ALLOC_ADDR names word 0. -/
def execAllocWord0Write (ini : Nat) (value : Word) (s : State) : Outcome State Fault Refusal :=
  if s.fld Reg.USQ_ALLOC_ADDR 2 0 = 0 then s.ask ini Reg.USQ_ALLOC_DATA value else done s

/-- `HSK_CMD_START` (R469). HSK_CMD_GO with TYPE 0x03. -/
def execHskCmdStart (ini : Nat) (s : State) : Outcome State Fault Refusal :=
  if s.fld Reg.HSK_CMD_TYPE 7 0 = 3 then s.ask ini Reg.HSK_CMD_GO 1 else done s

/-- `HSK_CMD_STOP` (R469). HSK_CMD_GO with TYPE 0x04. -/
def execHskCmdStop (ini : Nat) (s : State) : Outcome State Fault Refusal :=
  if s.fld Reg.HSK_CMD_TYPE 7 0 = 4 then s.ask ini Reg.HSK_CMD_GO 1 else done s

/-- `HSK_CMD_STATUS` (R493). HSK_CMD_GO with TYPE 0x05. -/
def execHskCmdStatus (ini : Nat) (s : State) : Outcome State Fault Refusal :=
  if s.fld Reg.HSK_CMD_TYPE 7 0 = 5 then s.ask ini Reg.HSK_CMD_GO 1 else done s

/-- `HSK_CMD_ARM` (R484). HSK_CMD_GO with TYPE 0x06. -/
def execHskCmdArm (ini : Nat) (s : State) : Outcome State Fault Refusal :=
  if s.fld Reg.HSK_CMD_TYPE 7 0 = 6 then s.ask ini Reg.HSK_CMD_GO 1 else done s

/-- `ROGUE_CLR` (R309). `senseOff` says whose laser has been seen off for 10 µs: the gate senses are read so. -/
def execRogueClr (ini : Nat) (value : Word) (senseOff : BitVec 4) (s : State) : Outcome State Fault Refusal :=
  let s := ((List.range 4).filter (fun n => value.getLsbD n)).foldl
    (fun s n => s.modPod n (fun p => { p with sense := !senseOff.getLsbD n })) s
  s.ask ini Reg.UBT_ROGUE_CLR value

end Sys2Proof.Machine
end

