-- ==== Sys2Proof/Machine/Header.lean ====
section
/-! DEFINITION. Header space and Link data of a frame as DSF and the map decoder take them apart (chapters 2 and 4): the
frame header and multiframe alignment (Table DSF-2), profile vector, burst map (R65 to R73, R202, R204, R221, R288),
control section (R74 to R77) and downstream segments (Table SCA-6). -/

namespace Sys2Proof.Machine

open Host (Outcome)
open Crypto (beBytes beNat slice)

/-! ## Bytes and the codewords they lie in -/

/-- Bytes of a header space: 300 codewords of 1,536 bytes. -/
def headerBytes : Nat := 460800

/-- Some byte of [off, off + n) lies in a codeword of KIND 2 or 3. -/
def badBytes (kinds : List Nat) (off n : Nat) : Bool :=
  (List.range ((off + n - 1) / 1536 - off / 1536 + 1)).any (fun k => decide (2 ≤ kinds.getD (off / 1536 + k) 0))

/-- A grant entry (Table SCA-7). -/
structure GrantEntry where
  alloc : Nat
  ofs : Nat
  len : Nat
  prof : Nat
  deriving DecidableEq, Repr

/-- The entry of eight bytes. -/
def grantEntry (b : List Byte) : GrantEntry :=
  let n := beNat b
  ⟨bitsOf n 63 48, bitsOf n 47 23, bitsOf n 22 6, bitsOf n 5 3⟩

/-! ## Multiframe alignment (R155, Table DSF-2) -/

/-- The header agrees with what a candidate header makes expected. -/
def consistent (cand h : FrameHdr) : Bool :=
  let e := (h.block - cand.block) / 20
  h.frame == (cand.frame + e) % 8000 && h.mf == cand.mf + BitVec.ofNat 16 ((cand.frame + e) / 8000)

/-- A valid header enters multiframe alignment. Answers whether it stands, or is discarded under R58. -/
def State.alignMf (s : State) (n : Nat) (h : FrameHdr) : Bool × State :=
  let c := s.chan n
  let cand (s : State) : State := s.modChan n (fun c => { c with mfCand := some h, mfCount := 0 })
  match c.mf, c.mfCand with
  | .presync, some k =>
    if consistent k h then
      let s := s.modChan n (fun c => { c with mfCount := c.mfCount + 1 })
      (true, if 2 ≤ (s.chan n).mfCount then ((s.modChan n (fun c => { c with mfCount := 0 })).setMf n .sync) else s)
    else (true, cand s)
  | .sync, some k =>
    if consistent k h then (true, s.modChan n (fun c => { c with mfCand := some h, mfCount := 0 }))
    else
      let s := s.bump (Reg.DSF_CHn_CNT_MF_INCONS n)
      let s := s.modChan n (fun c => { c with mfCount := c.mfCount + 1 })
      (false, if 3 ≤ (s.chan n).mfCount then (s.modChan n (fun c => { c with mfCount := 0 })).setMf n .hunt else s)
  | _, _ => (true, (cand s).setMf n .presync)

/-- A header that stands: it is the last valid one, profile definitions that waited for one get their due instant (R148),
skew is measured (R172), and the mark of frame 0 is latched (R321). -/
def State.takeHeader (s : State) (n : Nat) (h : FrameHdr) : State :=
  let s := s.modChan n (fun c => { c with lastHdr := some h })
  let fix (p : Prof) : Prof := { p with pending := p.pending.map (fun x =>
    if x.due.isNone then { x with due := some (dueOf h x.mf) } else x) }
  let s := s.modPod n (fun p => { p with
    rxProf := p.rxProf.map (fun e => (e.1, fix e.2)), txProf := p.txProf.map (fun e => (e.1, fix e.2)) })
  if !s.mfSync n then s
  else
    let s := (s.skewFrame n (frameId h.mf h.frame) h.mark).settleAdv n (frameId h.mf h.frame)
    if h.frame = 0 ∧ s.timeEligible n then
      let l : Latch := ⟨n, h.mf, h.mark, h.tick, (s.actCh n).dDown⟩
      let own := (l :: s.ntm.latches.filter (fun x => x.ch = n)).take 4
      s.modNtm (fun t => { t with latches := own ++ t.latches.filter (fun x => x.ch ≠ n) })
    else s

/-! ## Grants -/

def State.grantDisc (s : State) : State := s.bump Reg.ACT_CNT_GRANT_DISC

/-- The allocation's local index. -/
def State.allocOf (s : State) (id : Nat) : Option Nat :=
  ((s.usq.allocs.filter (fun e => e.2.valid && e.2.id.toNat == id)).head?).map (·.1)

/-- A candidate grant: the entry, its place in the map, its kind as far as the entry settles it, and its coded bits. -/
structure GrantCand where
  entry : GrantEntry
  pos : Nat
  /-- none: announcement window; some none: own ranging allocation; some (some a): allocation a -/
  target : Option (Option Nat)
  cBits : Nat
  tg : Nat
  deriving DecidableEq, Repr

/-- R70, R221, R288 for one entry of a map on channel `n`, of frame `f`. -/
def State.classify (s : State) (n f a6 pos : Nat) (e : GrantEntry) : Option GrantCand × State :=
  if e.len < 8 ∨ 80000 < e.len ∨ 32000000 ≤ e.ofs then (none, s.grantDisc)
  else
    let target : Option (Option (Option Nat)) :=
      if e.alloc = 0xFFFF then (if s.act.tid.isNone then some none else none)
      else if 0xFC00 ≤ e.alloc then
        (if s.act.tid.map (·.toNat) = some (e.alloc - 0xFC00) then some (some none) else none)
      else (s.allocOf e.alloc).map (fun a => some (some a))
    match target with
    | none => (none, s)
    | some t =>
      let unranged := match t with
        | some (some _) => (s.advFor n f).isNone
        | _ => false
      if !(s.actCh n).upEn || unranged then (none, s.grantDisc)
      else
        match s.profC n true e.prof with
        | none => (none, (s.bump (Reg.UBT_CHn_CNT_PROF_DISC n)).raise Reg.UBT_STATUS 5)
        | some c => (some ⟨e, pos, t, c, ((a6 + e.ofs : Nat) - (s.actCh n).dDown : Int).toNat⟩, s)

/-- The body of an announcement (Table ACT-4); ANN_COUNT saturates. -/
def State.announcement (s : State) : UpMsg :=
  let chEn := s.fld Reg.DSF_CTRL 3 0
  ⟨1, 0, beBytes 8 s.serial ++ beBytes 4 (s.reg Reg.ACT_TWIN_ID).toNat ++ beBytes 1 (b2n s.twinOn + 2 * b2n s.twinBit) ++
    beBytes 1 chEn ++ beBytes 2 (min s.act.annCount 65535)⟩

/-- R198: an announcement window. Answers the offset in symbols and the message. -/
def State.annWindow (s : State) (n len : Nat) : Option (Nat × UpMsg) × State :=
  if s.act.state ≠ .t2 ∨ s.act.anchor ≠ some n then (none, s)
  else if 0 < s.act.skip then (none, s.modAct (fun a => { a with skip := a.skip - 1 }))
  else
    let (k, s) := s.drawBelow (len - 7)
    let (sk, s) := s.drawBelow (s.fld Reg.ACT_ANN_CTRL 7 0 + 1)
    let s := s.modAct (fun a => { a with skip := sk, annCount := a.annCount + 1 })
    (some (k, s.announcement), s)

/-- R204: a grant to the own ranging allocation: the advance and the reply it carries, or none where it is discarded. -/
def State.rangeGrant (s : State) (n f : Nat) : Option (Nat × Option UpMsg) × State :=
  match (s.actCh n).armed with
  | some r =>
    let own := s.advFor n f
    let anc := match s.act.anchor with
      | some a => s.advFor a f
      | none => none
    let (adv, prov) := if r.unranged then (0, false) else
      match own, anc with
      | some v, _ => (v, false)
      | none, some v => (v, true)
      | none, none => (0, false)
    let body := beBytes 8 s.serial ++ beBytes 1 n ++ beBytes 1 (b2n r.unranged + 2 * b2n prov) ++ beBytes 4 adv ++ s.kcv
    (some (adv, some ⟨2, r.seq, body⟩), s.modActCh n (fun c => { c with armed := none, provisional := prov }))
  | none =>
    match s.advFor n f with
    | some v => if s.act.uq.isEmpty then (none, s) else (some (v, none), s)
    | none => (none, s)

/-- Intervals granted on a channel and not ended. -/
def State.grantedTimes (s : State) (n : Nat) : List (Nat × Nat) :=
  let one (g : Grant) : Nat × Nat := (g.tg, g.tg + g.len * symbolPips)
  (s.usq.grants.filter (fun g => g.ch = n)).map one ++ (s.ubtCh n).bursts.map (fun b => one b.g)

/-- T_D of the batch a new grant would join has passed, or the batch has begun (R70, R259). -/
def State.tooLate (s : State) (g : Grant) : Bool :=
  let l := min g.launch ((leastOf ((s.usq.grants.filter (fun x => x.key = g.key)).map (·.launch))).getD g.launch)
  s.usq.ran.contains g.key || decide (l < s.now + s.fillLead)

/-- A candidate becomes a grant (R66, R71, R198, R202, R204). -/
def State.acceptGrant (s : State) (n f a6 : Nat) (c : GrantCand) : State :=
  let e := c.entry
  let stop := c.tg + e.len * symbolPips
  if (s.grantedTimes n).any (fun t => decide (t.1 < stop) && decide (c.tg < t.2)) then
    s.bump Reg.ACT_CNT_GRANT_OVERLAP
  else
    let at_ := a6 + e.ofs
    let base : Grant :=
      { ch := n, kind := .announce, allocId := BitVec.ofNat 16 e.alloc, tg := c.tg, launch := at_, len := e.len
        prof := e.prof, cBits := c.cBits, guard := (s.actCh n).guard, msg := none }
    let (g, s) : Option Grant × State := match c.target with
      | none =>
        match s.annWindow n e.len with
        | (some (k, m), s) =>
          (some { base with
            tg := c.tg + k * symbolPips, launch := at_ + k * symbolPips, len := 8, msg := some m }, s)
        | (none, s) => (none, s)
      | some none =>
        match s.rangeGrant n f with
        | (some (adv, m), s) => (some { base with kind := .ranging m.isSome, launch := at_ - adv, msg := m }, s)
        | (none, s) => (none, s.grantDisc)
      | some (some a) =>
        (some { base with kind := .alloc a, launch := at_ - (s.advFor n f).getD 0 }, s)
    match g with
    | none => s
    | some g =>
      if s.tooLate g then s.grantDisc
      else
        let s := match g.kind with
          | .alloc a =>
            let s := s.modAlloc a (fun x => { x with hist := (Line.capacity g.len g.cBits :: x.hist).take 64 })
            s.countAlloc a 1 (·.grants) (fun x v => { x with grants := v })
          | _ => s
        let s := s.modPwr (fun p => { p with bias := putBit p.bias n true })
        s.modUsq (fun u => { u with grants := u.grants ++ [g] })

/-- Insert by T_G, then by place in the map. -/
def insertCand (c : GrantCand) : List GrantCand → List GrantCand
  | [] => [c]
  | d :: r => if c.tg < d.tg then c :: d :: r else d :: insertCand c r

/-- The map of frame `f`, whose block 0 has mark `mark0`. -/
def State.decodeMap (s : State) (n f mark0 : Nat) (es : List GrantEntry) : State :=
  let a6 := mark0 + 6 * 32000000
  let (cs, s) := ((List.range es.length).zip es).foldl (fun (r : List GrantCand × State) e =>
    match r.2.classify n f a6 e.1 e.2 with
    | (some c, s) => (insertCand c r.1, s)
    | (none, s) => (r.1, s)) ([], s)
  cs.foldl (fun s c => s.acceptGrant n f a6 c) s

/-! ## Control section (R74 to R77) -/

/-- One message of a control section: skipped where it addresses another terminal, else R75's count or the message passed
on. -/
def State.oneMessage (s : State) (n : Nat) (m : List Byte) : State :=
  let h := beNat (slice m 0 2)
  let tid := bitsOf h 15 6
  let type := bitsOf h 5 1
  let ours := tid == 1023 || s.act.tid.map (·.toNat) == some tid
  if !ours then s
  else if type = 0 ∨ 17 ≤ type ∨ h % 2 = 1 then s.bump (Reg.DSF_CHn_CNT_MSG_DISC n)
  else s.send (.control n m)

/-- The messages from `off` on; `left` of them remain. One that fails, and every later one, is discarded and counted. -/
def State.messages (s : State) (n : Nat) (data : List Byte) (kinds : List Nat) (off : Nat) : Nat → State
  | 0 => s
  | left + 1 =>
    let len := beNat (slice data (off + 2) 2)
    let size := 12 + len
    let m := slice data off size
    if headerBytes < off + size ∨ 2048 < len ∨ badBytes kinds off size ∨
        beNat (m.drop (8 + len)) ≠ (Crypto.crc32 (m.take (8 + len))).toNat then
      s.count (Reg.DSF_CHn_CNT_MSG_DISC n) (left + 1)
    else (s.oneMessage n m).messages n data kinds (off + size) left

/-! ## The header space -/

/-- Bytes 16 on of a header space whose header stands. -/
def State.mapAndControl (s : State) (n : Nat) (h : FrameHdr) (data : List Byte) (kinds : List Nat) : State :=
  let g := beNat (slice data 26 2)
  if 2048 < g ∨ badBytes kinds 26 2 then
    (s.bump (Reg.DSF_CHn_CNT_MAP_LOST n)).bump (Reg.DSF_CHn_CNT_CTRL_LOST n)
  else
    let ok := !badBytes kinds 16 (16 + 8 * g) &&
      beNat (slice data (28 + 8 * g) 4) == (Crypto.crc32 (slice data 16 (12 + 8 * g))).toNat
    let s := if ok then
        let pvec := (slice data 16 10).flatMap (fun x => [x.toNat % 16, x.toNat / 16])
        let s := s.modChan n (fun c => { c with pvecNext := some pvec })
        if s.mfSync n then
          s.decodeMap n (frameId h.mf h.frame) h.mark ((List.range g).map (fun k => grantEntry (slice data (28 + 8 * k) 8)))
        else s
      else s.bump (Reg.DSF_CHn_CNT_MAP_LOST n)
    let c := beNat (slice data (32 + 8 * g) 2)
    if 1024 < c ∨ badBytes kinds (32 + 8 * g) 2 then s.bump (Reg.DSF_CHn_CNT_CTRL_LOST n)
    else s.messages n data kinds (34 + 8 * g) c

/-- A header space as sent, and as read: bytes 0 to 15 are not scrambled, and the generator starts at byte 16 (R56). -/
def descrambleHeader (b : List Byte) : List Byte := b.take 16 ++ Line.scramble (b.drop 16)

/-- `HEADER_SPACE` (R55 to R59): `raw` is the header space as its codewords carry it, `kinds` their KINDs. -/
def execHeaderSpace (ch : Chan) (raw : List Byte) (kinds : List Nat) (s : State) : Outcome State Fault Refusal :=
  if s.coreReset 3 then done s else
  let data := descrambleHeader raw
  let c := s.chan ch
  if c.fa ≠ .sync ∨ c.hdrDone then done s
  else
    let s := s.passTo (c.block0Mark + 152 * symbolPips)
    let s := s.modChan ch (fun c => { c with hdrDone := true })
    let valid := !badBytes kinds 0 16 && Crypto.crc16 (data.take 14) == BitVec.ofNat 16 (beNat (slice data 14 2)) &&
      beNat (slice data 13 1) % 4 == ch.val && decide (beNat (slice data 8 2) % 8192 < 8000)
    if !valid then done (s.bump (Reg.DSF_CHn_CNT_HDR_DISC ch))
    else
      let flags := beNat (slice data 12 1)
      let h : FrameHdr :=
        { frame := beNat (slice data 8 2) % 8192, mf := BitVec.ofNat 16 (beNat (slice data 10 2)), block := c.block0
          mark := c.block0Mark, tick := c.block0Tick, dh := flags % 2 = 1, tx := flags / 2 % 2 = 1 }
      let (stands, s) := s.alignMf ch h
      if !stands then done ((s.bump (Reg.DSF_CHn_CNT_HDR_DISC ch)).reconsider)
      else
        -- a header that brings MF_SYNC makes the channel's other conditions hold first
        let s := (s.takeHeader ch h).reconsider
        done (s.mapAndControl ch h data kinds)

/-! ## Downstream segments (R63, R706) -/

/-- `DS_SEGMENT`: `left` is the bytes left in the block after the header, `block` and `sym` the block of the frame and
the symbol of the block that carry the header's first bit, `bad` that a payload byte lies in a codeword of KIND 2 or 3,
`arrival` the instant the segment's last bit arrived. -/
def execDsSegment (ch : Chan) (hdr : List Byte) (hdrKind : Nat) (payload : List Byte) (bad : Bool)
    (left block sym arrival : Nat) (s : State) : Outcome State Fault Refusal :=
  if s.coreReset 3 then done s else
  let c := s.chan ch
  if c.fa ≠ .sync ∨ c.skipRest then done s
  else
    let s := s.passTo arrival
    let skip (s : State) : State := s.modChan ch (fun c => { c with skipRest := true })
    let h := beNat hdr
    let len := bitsOf h 47 34
    let id := bitsOf h 63 48
    if hdrKind = 3 then done (skip s)
    else if hdrKind = 2 ∨ !Line.hcsOk hdr ∨ left < len then
      done ((skip s).bump (Reg.DSF_CHn_CNT_SEG_HDR_ERR ch))
    else if id = 0xFFFF then done (skip s)
    else if 0xFFF0 ≤ id then done (s.bump (Reg.DSF_CHn_CNT_SEG_RSVD ch))
    else
      match s.linkOf (BitVec.ofNat 16 id) with
      | none => done (s.bump (Reg.DSF_CHn_CNT_SEG_FOREIGN ch))
      | some i =>
        let seq := BitVec.ofNat 12 (bitsOf h 31 20)
        if bad then
          done ((s.bump (Reg.DSF_CHn_CNT_SEG_UNCOR ch)).linkSegment i ch seq none arrival)
        else
          let g : Segment :=
            { first := h.testBit 33, last := h.testBit 32, payload := payload.take len
              stamp := c.block0Mark + block * blockPips + sym * symbolPips }
          done (s.linkSegment i ch seq (some g) arrival)

end Sys2Proof.Machine
end

