-- ==== Sys2Proof/Machine/Mgmt.lean ====
section
/-! DEFINITION. Management requests that arrive in messages: tunnelled (R229 to R232) and in-band on a host port (R422 to
R425). Requester 9 is the tunnel, requester 1 + p the in-band management of host port p. -/

namespace Sys2Proof.Machine

open Host (Outcome)
open Crypto (beBytes beNat slice)

/-! ## Requests -/

/-- Words of DATA that OP and C ask for, and whether OP and C are allowed. -/
def mgmtWords (op c : Nat) : Option Nat :=
  if c = 0 then none else match op with
    | 1 => some 0
    | 2 => some c
    | 3 => some (2 * c)
    | _ => none

/-- A request body of Table ACT-3; `fits` says whether a body of this length may hold so many bytes. -/
def mgmtReq (b : List Byte) (seq : Byte) (src : List Byte) (bad : Bool) (fits : Nat → Bool) : MgmtReq :=
  let opb := beNat (slice b 2 1)
  let op := opb % 4
  let c := beNat (slice b 3 1)
  let n := (mgmtWords op c).getD 0
  { tag := beNat (slice b 0 2), seq := seq, op := op, fixed := opb.testBit 7, c := c, addr := beNat (slice b 4 4) % 2 ^ 28
    data := (List.range n).map (fun i => BitVec.ofNat 32 (beNat (slice b (8 + 4 * i) 4)))
    malformed := bad || (mgmtWords op c).isNone || !fits (8 + 4 * n), src := src }

/-- The requests of an initiator that wait, and how they are replaced. -/
def State.mgmtQueue (s : State) (ini : Nat) : List MgmtReq :=
  if ini = 9 then s.act.tunnel else (s.port (ini - 1)).mgmt

def State.setMgmtQueue (s : State) (ini : Nat) (l : List MgmtReq) : State :=
  if ini = 9 then s.modAct (fun a => { a with tunnel := l }) else s.modPort (ini - 1) (fun p => { p with mgmt := l })

def State.mgmtStored (s : State) (ini : Nat) : Option MgmtReply :=
  if ini = 9 then s.act.tunnelLast else (s.port (ini - 1)).mgmtLast

/-- A protected write (R231, R424): STATUS 1 or 2 before any access. -/
def State.mgmtBar (s : State) (ini : Nat) (r : MgmtReq) : Nat :=
  if ini = 9 then
    if !s.rbit Reg.ACT_CTRL 1 then 1
    else if s.rbit Reg.ACT_CTRL 2 && decide (2 ≤ r.op) then 2 else 0
  else if s.rbit (Reg.HPE_Pp_MAC_CTRL (ini - 1)) 3 && decide (2 ≤ r.op) then 2
  else 0

/-- TUN_GUARD, or the port's MGMT_GUARD: UNLOCK registers may be written. -/
def State.mayUnlock (s : State) (ini : Nat) : Bool :=
  if ini = 9 then s.rbit Reg.ACT_CTRL 3 else s.rbit (Reg.HPE_Pp_MAC_CTRL (ini - 1)) 4

/-- The operations of a request: an address, and the word of a write. -/
def MgmtReq.ops (r : MgmtReq) : List (Nat × Option Word) :=
  let at_ (i : Nat) : Nat := if r.fixed then r.addr else r.addr + 4 * i
  match r.op with
  | 1 => (List.range r.c).map (fun i => (at_ i, none))
  | 2 => (List.range r.c).map (fun i => (at_ i, some (r.data.getD i 0)))
  | _ => (List.range r.c).map (fun i => ((r.data.getD (2 * i) 0).toNat, some (r.data.getD (2 * i + 1) 0)))

/-- One operation: its STATUS, the word of a read, and the state after it. -/
def State.mgmtOp (s : State) (ini : Nat) (o : Nat × Option Word) : Nat × List Byte × State :=
  match o.2 with
  | none => match s.accessRead ini o.1 with
    | some (w, t, st) => (st, beBytes 4 w.toNat, t)
    | none => (3, [], (s.passTicks fabricTimeoutTicks).fabricFault o.1)
  | some v =>
    if isUnlock (wordAddr o.1) && !s.mayUnlock ini then (2, [], s)
    else match s.accessWrite ini o.1 v with
      | some (t, st) => (st, [], t)
      | none => (3, [], (s.passTicks fabricTimeoutTicks).fabricFault o.1)

/-- Operations run in order and stop at the first failure (R231), or with a package reset that one of them makes: STATUS,
operations completed, words read. -/
def State.mgmtRun (s : State) (ini : Nat) (d : Nat) (words : List Byte) : List (Nat × Option Word) → Nat × Nat × List Byte × State
  | [] => (0, d, words, s)
  | o :: r => match s.mgmtOp ini o with
    | (0, w, t) => if t.spiReady then t.mgmtRun ini (d + 1) (words ++ w) r else (0, d + 1, words, t)
    | (st, _, t) => (st, d, words, t)

/-! ## Replies -/

/-- A management frame's reply (R423, R425). -/
def State.sendMgmtFrame (s : State) (p : Nat) (dst body : List Byte) : State :=
  if s.portEn p then
    (s.sendPadded p (dst ++ s.portMac p ++ [0x88, 0xB5, 0x01, 0x02, 0x00, 0x00] ++ body)).bump (Reg.HPE_Pp_TX_MGMT p)
  else s.bump (Reg.HPE_Pp_TX_DISCARD p)

/-- A reply body leaves to the requester. -/
def State.mgmtSend (s : State) (ini : Nat) (r : MgmtReq) (body : List Byte) : State :=
  if ini = 9 then s.queueMsg ⟨16, r.seq, body⟩ else s.sendMgmtFrame (ini - 1) r.src body

/-- A request is answered: STATUS, D and words of Table ACT-4; the reply is kept for a repeat (R232, R424). -/
def State.mgmtReply (s : State) (ini : Nat) (r : MgmtReq) (st d : Nat) (words : List Byte) : State :=
  let body := beBytes 2 r.tag ++ beBytes 1 st ++ beBytes 1 d ++ words
  let keep : MgmtReply := ⟨r.tag, r.seq, r.src, body⟩
  let s := if ini = 9 then
      let s := s.modAct (fun a => { a with tunnelLast := some keep })
      let refused := st == 1 || st == 2
      (s.bumpIf (refused || st == 4) Reg.ACT_CNT_TUN_REFUSED).raiseIf refused Reg.ACT_STATUS 13
    else s.modPort (ini - 1) (fun p => { p with mgmtLast := some keep })
  s.mgmtSend ini r body

/-- A repeat of the last request executed (R232, R424). -/
def State.mgmtRepeat (s : State) (ini : Nat) (r : MgmtReq) : Option (List Byte) := match s.mgmtStored ini with
  | some x => if x.tag = r.tag ∧ (ini ≠ 9 ∨ x.seq = r.seq) then some x.body else none
  | none => none

/-- The oldest request runs and is answered. While the fabric is frozen it waits for its first grant. -/
def State.mgmtExec (s : State) (ini : Nat) (r : MgmtReq) : State :=
  let s1 := s.setMgmtQueue ini ((s.mgmtQueue ini).drop 1)
  match s1.mgmtRepeat ini r with
  | some body => s1.mgmtSend ini r body
  | none =>
    if r.malformed then s1.mgmtReply ini r 4 0 []
    else
      let bar := s1.mgmtBar ini r
      if bar ≠ 0 then s1.mgmtReply ini r bar 0 []
      else if s.frozen 0 then s.await 0 0 ini
      else
        let (st, d, words, t) := (s1.bumpIf (ini == 9) Reg.ACT_CNT_TUN_REQ).mgmtRun ini 0 [] r.ops
        if t.spiReady then t.mgmtReply ini r st d words else t

/-- The oldest request of an initiator, where it is the operation the command names or malformed. -/
def State.mgmtRow (s : State) (ini op : Nat) : State :=
  if ini < 1 ∨ 9 < ini then s else match s.mgmtQueue ini with
    | [] => s
    | r :: _ => if r.op = op ∨ r.malformed then s.mgmtExec ini r else s

/-- `MGMT_READ` (R229). -/
def execMgmtRead (ini : Nat) (s : State) : Outcome State Fault Refusal := done (s.mgmtRow ini 1)

/-- `MGMT_WRITE` (R229). -/
def execMgmtWrite (ini : Nat) (s : State) : Outcome State Fault Refusal := done (s.mgmtRow ini 2)

/-- `MGMT_WRITE_PAIRS` (R229). -/
def execMgmtWritePairs (ini : Nat) (s : State) : Outcome State Fault Refusal := done (s.mgmtRow ini 3)

/-! ## Arrival -/

/-- `MGMT_TUNNEL` (R215, R230, R232): a request waits, the ninth is refused, and a repeat is answered again. -/
def execMgmtTunnel (msg : MsgIn) (s : State) : Outcome State Fault Refusal :=
  let b := msg.body
  let r := mgmtReq b msg.seq [] false (fun n => n == b.length)
  match s.judge msg (decide (8 ≤ b.length)) t3to7 with
  | .foreign => done s
  | .again =>
    let s := s.bump Reg.ACT_CNT_MSG_REPEAT
    match s.mgmtRepeat 9 r with
    | some body => done (s.mgmtSend 9 r body)
    | none => done s
  | .bad => done s.badMsg
  | .act =>
    let s := (s.acted msg none).bump Reg.ACT_CNT_MSG_ACTED
    if 8 ≤ s.act.tunnel.length then done ((s.bump Reg.ACT_CNT_TUN_REFUSED).raise Reg.ACT_STATUS 13)
    else done (s.setMgmtQueue 9 (s.act.tunnel ++ [r]))

/-- The permitted management source of a port. -/
def State.mgmtSource (s : State) (p : Nat) : List Byte :=
  beBytes 2 (s.fld (Reg.HPE_Pp_MSRC_HI p) 15 0) ++ beBytes 4 (s.reg (Reg.HPE_Pp_MSRC_LO p)).toNat

/-- `INBAND_MGMT_FRAME` (R422 to R424): the oldest frame diverted waits as a request or is dropped. A frame of the least
length may hold a shorter body, padded. -/
def execInbandMgmtFrame (port : Port) (s : State) : Outcome State Fault Refusal :=
  let p := port.val
  match (s.port p).mgmtIn with
  | [] => done s
  | f :: rest =>
    let s := s.modPort p (fun x => { x with mgmtIn := rest })
    let src := slice f 6 6
    let barred := slice f 0 6 ≠ s.portMac p ∨ (s.rbit (Reg.HPE_Pp_MAC_CTRL p) 5 = true ∧ src ≠ s.mgmtSource p)
    if barred ∨ 8 ≤ (s.port p).mgmt.length then
      done ((s.bump (Reg.HPE_Pp_RX_MGMT_DROP p)).raise (Reg.HPE_Pp_STATUS p) 6)
    else
      let n := f.length - 22
      let r := mgmtReq ((f.drop 18).take n) 0 src (slice f 14 2 != [0x01, 0x01])
        (fun k => k == n || (f.length == 64 && decide (k ≤ n)))
      done ((s.setMgmtQueue (1 + p) ((s.port p).mgmt ++ [r])).bump (Reg.HPE_Pp_RX_MGMT p))

/-- `FABRIC_TIMEOUT` (R443, R652, R653, R231): the access a requester has in progress ends in error. -/
def execFabricTimeout (requester : Nat) (s : State) : Outcome State Fault Refusal :=
  let endGrantNow (s : State) : State :=
    let s := s.setArb 0 { s.arbInst 0 with waiting := (s.arbInst 0).waiting.filter (· ≠ requester) }
    if Tab.find? (s.arbInst 0).holder 0 = some requester then s.endGrant 0 0 else s
  let s := s.passTicks fabricTimeoutTicks
  if requester = 0 then
    match s.spi.queue with
    | [] => done (endGrantNow (s.fabricFault 0))
    | (a, _) :: _ => done (endGrantNow (s.spiPop.spiFailed.fabricFault a))
  else if requester ≤ 9 then
    match s.mgmtQueue requester with
    | [] => done (endGrantNow (s.fabricFault 0))
    | r :: l => done (endGrantNow (((s.setMgmtQueue requester l).fabricFault r.addr).mgmtReply requester r 3 0 []))
  else done (endGrantNow (s.fabricFault 0))

end Sys2Proof.Machine
end

