-- ==== Sys2Proof/Machine/Pads.lean ====
section
/-! DEFINITION. Supplies, clocks, temperature sensors, RESET_N and the TAP (chapter 19; the clock monitors of R633; the
alarms of R377). A supply monitor's CLUSTER is its rail's place in Table ELP-1, a sensor's its die. -/

namespace Sys2Proof.Machine

open Host (Outcome)

/-! ## Supplies (R677, R678) -/

def allRails : BitVec 22 := 0x3FFFFF

/-- Step 1 ends when every rail is good and ROOT_REF and MGMT_XTAL are present (R678). -/
def State.endStep1 (s : State) : State :=
  if s.boot.step = 1 ∧ s.pads.railGood = allRails ∧ s.clk.good.getLsbD 0 ∧ s.clk.good.getLsbD 2 then
    s.modBoot (fun b => { b with step := 2 })
  else s

/-- `POWER_ON` (R677): the core side begins at step 1 with nothing kept but fuses and NVM, and the TAP in reset. `good`
are the rails whose monitors have reported good. -/
def execPowerOn (good : BitVec 22) (s : State) : Outcome State Fault Refusal :=
  let s := s.packageReset.modPads (fun _ => ⟨good, false, 0, 0, none⟩)
  done (s.modBoot (fun b => { b with step := 1 })).endStep1

/-- `SUPPLY_LOW` (R678, R377). During step 1 the monitors only wait. -/
def execSupplyLow (rail : Fin 22) (mV : BitVec 16) (s : State) : Outcome State Fault Refusal :=
  if !s.pads.railGood.getLsbD rail then done s
  else
    let s := s.modPads (fun p => { p with railGood := putBit p.railGood rail false })
    if s.boot.step = 1 then done s
    else done ((s.fault (pkgSource rail) 0x0D mV.toNat (2 ^ flagCond)).alarmErase 1)

/-- `SUPPLY_GOOD` (R678). -/
def execSupplyGood (rail : Fin 22) (s : State) : Outcome State Fault Refusal :=
  if s.pads.railGood.getLsbD rail then done s
  else
    let s := s.modPads (fun p => { p with railGood := putBit p.railGood rail true })
    if s.boot.step = 1 then done s.endStep1
    else done (s.fault (pkgSource rail) 0x0D 0 (2 ^ flagEnd))

/-! ## Clock monitors (R633) -/

/-- CONTEXT of a clock monitor's fault: the domain number. -/
def monitorDomain (m : Nat) : Nat := match m with
  | 0 => 0 | 1 => 0 | 2 => 21 | _ => 7

/-- `CLOCK_LOSS` (R633, R377). HOST_REFCLK lost takes every host port down (R387). -/
def execClockLoss (m : Fin 4) (s : State) : Outcome State Fault Refusal :=
  if !s.clk.good.getLsbD m then done s
  else
    let s := (s.modClk (fun c => { c with good := putBit c.good m false })).raise Reg.CLK_STATUS 3
    let s := (List.range 8).foldl State.portCheck s
    done ((s.fault (pkgSource m) 0x0F (monitorDomain m) (2 ^ flagCond)).alarmErase 2)

/-- `CLOCK_RETURN` (R633): the END message. -/
def execClockReturn (m : Fin 4) (s : State) : Outcome State Fault Refusal :=
  if s.clk.good.getLsbD m then done s
  else
    let s := (s.modClk (fun c => { c with good := putBit c.good m true })).raise Reg.CLK_STATUS 4
    let s := (List.range 8).foldl State.portCheck s
    done (s.fault (pkgSource m) 0x0F (monitorDomain m) (2 ^ flagEnd)).endStep1

/-! ## Temperature (R697) -/

/-- `TEMP_ALARM` (R697, R377): a reading at or above 110 °C. -/
def execTempAlarm (die : Fin 8) (celsius : BitVec 8) (s : State) : Outcome State Fault Refusal :=
  if s.pads.tempAlarm.getLsbD die ∨ celsius.toInt < 110 then done s
  else
    let s := s.modPads (fun p => { p with tempAlarm := putBit p.tempAlarm die true })
    done ((s.fault (pkgSource die) 0x0E celsius.toNat (2 ^ flagCond)).alarmErase 3)

/-- `TEMP_CLEAR` (R697). -/
def execTempClear (die : Fin 8) (s : State) : Outcome State Fault Refusal :=
  if !s.pads.tempAlarm.getLsbD die then done s
  else
    let s := s.modPads (fun p => { p with tempAlarm := putBit p.tempAlarm die false })
    done (s.fault (pkgSource die) 0x0E 0 (2 ^ flagEnd))

/-! ## RESET_N (R679) -/

/-- RESET_N is taken: Sprout runs from step 2. -/
def State.resetTaken (s : State) : State :=
  (s.packageReset.modPads (fun p => { p with inReset := true })).modBoot (fun b => { b with step := 2 })

/-- `RESET_N_ASSERT` (R679): below 100 ns ignored, from 1 µs taken, and one or the other between. -/
def execResetNAssert (widthNs : Nat) (s : State) : Outcome State Fault Refusal :=
  if widthNs < 100 then done s
  else if 1000 ≤ widthNs then done s.resetTaken
  else
    let (b, s) := s.drawBit
    done (if b then s.resetTaken else s)

/-! ## The TAP (R699, R700) -/

/-- The TAP holds an instruction: every PODn_AMP_KILL_N is low, which ends light in progress (gate condition 3). -/
def State.tapHold (s : State) (i : TapInstr) : State := (s.modPads (fun p => { p with tap := some i })).watchGate

def execExtest (s : State) : Outcome State Fault Refusal := done (s.tapHold .extest)
def execSamplePreload (s : State) : Outcome State Fault Refusal := done (s.tapHold .samplePreload)

/-- `IDCODE`: the identification word is shifted out. -/
def execIdcode (s : State) : Outcome State Fault Refusal := done ((s.tapHold .idcode).send (.tdo 0x1640004F))

def execClamp (s : State) : Outcome State Fault Refusal := done (s.tapHold .clamp)
def execHighz (s : State) : Outcome State Fault Refusal := done (s.tapHold .highz)
def execExtestPulse (s : State) : Outcome State Fault Refusal := done (s.tapHold .extestPulse)
def execExtestTrain (s : State) : Outcome State Fault Refusal := done (s.tapHold .extestTrain)

/-- Table ELP-11. -/
def tapOpcode (opcode : Nat) : Option TapInstr := match opcode with
  | 0x00 => some .extest
  | 0x01 => some .samplePreload
  | 0x02 => some .idcode
  | 0x03 => some .clamp
  | 0x04 => some .highz
  | 0x05 => some .extestPulse
  | 0x06 => some .extestTrain
  | 0xFF => some .bypass
  | _ => none

/-- `BYPASS`: opcode 0xFF, and once the fuses are loaded every opcode the table does not list. What such an opcode selects
before that is not laid down: a free choice. -/
def execBypass (opcode : Byte) (s : State) : Outcome State Fault Refusal :=
  match tapOpcode opcode.toNat with
  | some i => done (s.tapHold i)
  | none =>
    if 3 < s.boot.step then done (s.tapHold .bypass)
    else
      let (k, s) := s.drawBelow 8
      done (s.tapHold ((tapOpcode (if k = 7 then 0xFF else k)).getD .bypass))

end Sys2Proof.Machine
end

