-- ==== Sys2Proof/Machine/PwrOn.lean ====
section
/-! DEFINITION. Switching a power domain on (chapter 15): its retained banks (R592), the Pods and controllers it brings
back (R586, R588, R596), and the retries and the full domain reset of R589. -/

namespace Sys2Proof.Machine

open Host (Outcome)

/-! ## Lost banks (R592) -/

/-- The block that owns banks 0 to 3. -/
def bankOwner (b : Nat) : Option Nat := match b with
  | 0 => some 12
  | 1 => some 12
  | 2 => some 8
  | 3 => some 7
  | _ => none

/-- The reset contents of banks 0 to 3. -/
def State.bankReset (s : State) (b : Nat) : State := match b with
  | 0 => s.modCls (fun c => { c with bank0 := [], bank1 := [], stash := [] })
  | 1 => s.modCls (fun c => { c with sel := [], profs := [], sgs := [], ind := [] })
  | 2 => s.flushAll.modUsq (fun u => { u with queues := [], links := [], allocs := [] })
  | 3 => s.modDsf (fun d => { d with links := [] })
  | _ => s

/-- The image whose records refill a lost bank: that of the booted slot, or that of the other where it fails (R552). -/
def State.bankImage (s : State) : Option (List Byte) :=
  [s.boot.slot, !s.boot.slot].findSome? (fun k =>
    let img := s.stageImage k
    if (s.imageCheck img).isNone then some img else none)

/-- The configuration records of an image whose addresses lie in a block are applied again. -/
def State.reapply (s : State) (owner : Nat) : State := match s.bankImage with
  | none => s
  | some img =>
    let ws := ((imgRecords img).getD []).flatMap CfgRec.writes
    (ws.filter (fun w => blockOf (wordAddr w.1) == some owner)).foldl (fun s w => s.sproutWrite w.1 w.2) s

/-- A retained bank whose check fails. -/
def State.loseBank (s : State) (b : Nat) : State :=
  let s := s.modPwr (fun p => { p with lostBanks := putBit p.lostBanks b true })
  let s := (s.raise Reg.PWR_STATUS 5).bump Reg.PWR_CNT_BANK_LOST
  let s := s.fault (pkgSource (if 10 ≤ b ∧ b < 14 then b - 10 else 4)) 0x11 b 0
  match bankOwner b with
  | some owner => (s.bankReset b).reapply owner
  | none =>
    if b = 4 then s.flushAll.modHrd (fun h => { h with failing := [] })
    else if b = 5 then s.setSync 0
    else if b < 10 then s.modMcu (b - 6) (fun m => { m with corrupt := true })
    else if b < 14 then s.modPod (b - 10) (fun p => { p with calPass := false })
    else s.clearKeys 4

/-! ## Domains that return -/

/-- Pod n returns (R586, R588): its channel starts; it is recalibrated where a reaction, a full domain reset or its lost
bank asks for it. -/
def State.wakePod (s : State) (n : Nat) (recal : Bool) : State :=
  let s := if s.chEnabled n then s.chanStart n else s.modChan n (fun c => { c with asleep := false })
  if recal || s.flt.podOffline.getLsbD n then s.podRestart n else s.applyDeferred n

/-- PE returns (R596): the controllers run from ENTRY with their SRAM verified. -/
def State.wakePe (s : State) : State :=
  (List.range 4).foldl (fun s n => if (s.mcu n).state = .restarting then s.mcuCheck n else s) s

def State.wakeQuad (s : State) : State := (List.range 8).foldl State.portCheck s

/-- Crossings of a domain that resynchronise when it is released (R588). -/
def domainCrossings (d : Nat) : List Nat :=
  if d < 4 then (List.range 8).map (8 * d + ·)
  else if d = 4 then [3, 11, 19, 27, 70, 71]
  else if d < 13 then [36 + (d - 5), 44 + (d - 5)]
  else [68 + (d - 13)]

/-- The wake is over once no domain is switching on: the rules on leaving a sleep mode are judged, and a held request is
acted on. -/
def State.wakeOver (s : State) : State :=
  if s.pwr.phase ≠ .waking ∨ s.pwr.switching ≠ 0 then s
  else
    let s := s.modPwr (fun p => { p with phase := .steady })
    let s := if s.pwr.target = .cyclic ∨ s.pwr.target = .deep then s.conditionRows else s
    s.reconsider.actHeld

/-- R596: after Deep Sleep a domain comes on in its turn. -/
def wakeRank (d : Nat) : Nat := if 13 ≤ d then 0 else if d = 4 then 1 else if 5 ≤ d then 2 else 3

def State.inTurn (s : State) (d : Nat) : Bool :=
  !(s.pwr.phase == .waking && s.pwr.target == .deep) ||
    (bitList s.pwr.switching).all (fun e => decide (wakeRank d ≤ wakeRank e))

/-- A domain has been switched on; `failed` are the retained banks whose check fails. -/
def State.domainOn (s : State) (d : Nat) (failed : List Nat) : State :=
  let full := s.pwr.fullReset.getLsbD d
  let s := s.modPwr (fun p => { p with
    on := putBit p.on d true, switching := putBit p.switching d false, fullReset := putBit p.fullReset d false
    retries := Tab.erase p.retries d })
  let s := (domainCrossings d).foldl (fun s x => s.resyncStart x 0) s
  let lost := if full then banksOf d else (banksOf d).filter failed.contains
  let s := lost.foldl State.loseBank s
  let s :=
    if d < 4 then s.wakePod d (full || lost.contains (10 + d))
    else if d = 4 then s.wakePe
    else if d < 13 then s.wakeQuad
    else if full then s.flushAll.modHrd (fun h => { h with failing := [] })
    else s
  s.reconsider.wakeOver

/-- `DOMAIN_ON_DONE` (R588). -/
def execDomainOnDone (domain : Fin 15) (failedBanks : BitVec 15) (s : State) : Outcome State Fault Refusal :=
  if s.pwr.switching.getLsbD domain && s.inTurn domain then done (s.domainOn domain (bitList failedBanks)) else done s

/-- The last attempt has failed: the domain stays off until a package reset. -/
def State.domainFails (s : State) (d : Nat) : State :=
  let s := s.modPwr (fun p => { p with
    failed := putBit p.failed d true, switching := putBit p.switching d false, fullReset := putBit p.fullReset d false
    retries := Tab.erase p.retries d })
  let s := if d < 4 then s.podOffline d else s
  s.reconsider.wakeOver

/-- `WAKE_RETRY` (R589): three retries, 100 µs each, then the full domain reset and one attempt more. -/
def execWakeRetry (domain : Fin 15) (clock : Bool) (s : State) : Outcome State Fault Refusal :=
  let d := domain.val
  if !(s.pwr.switching.getLsbD d && s.inTurn d) then done s
  else if s.pwr.fullReset.getLsbD d then done (s.domainFails d)
  else
    let k := Tab.get 0 s.pwr.retries d
    if k < 3 then
      let s := s.passTicks (100 * ticksPerUs)
      done ((s.modPwr (fun p => { p with retries := Tab.set 0 p.retries d (k + 1) })).bump Reg.PWR_CNT_RETRY)
    else
      let s := (s.raise Reg.PWR_STATUS 4).bump Reg.PWR_CNT_WAKE_FAIL
      let s := s.modPwr (fun p => { p with wakeFail := true, fullReset := putBit p.fullReset d true })
      done (s.fault (pkgSource d) 0x10 (if clock then 2 else 1) 0)

end Sys2Proof.Machine
end

