-- ==== Sys2Proof/Machine/TwinApply.lean ====
section
/-! DEFINITION. The mirrored writes a standby applies (R517, R531): CFG and TABLE. -/

namespace Sys2Proof.Machine

open Host (Outcome)

/-- One mirrored write: only a register that R517 names takes it. -/
def State.mirrorApply (s : State) (w : Nat × Word) : State :=
  let a := wordAddr w.1
  match blockOf a, regRow a with
  | some b, some (r, _) =>
    if isMirrored b a && (commonOffset b a).isNone && (r.access == .rw || r.access == .w1p) then
      (s.writeCore mirrorIni a w.2).1
    else s
  | _, _ => s

/-- The standby takes a message of the mirror and applies its writes in order. -/
def State.mirrorRow (s : State) (gen : Word) (writes : List (Nat × Word)) : State :=
  let l := s.twn.lease
  if !s.mirrorIn || l.holds || !(l.sync == 1 || l.sync == 2 || l.sync == 3) then s
  else ((writes.foldl State.mirrorApply s).modMir (fun m => { m with gen := gen })).reportElig

/-- `TWIN_CFG` (R517). -/
def execTwinCfg (gen : Word) (writes : List (Nat × Word)) (s : State) : Outcome State Fault Refusal :=
  done (s.mirrorRow gen writes)

/-- `TABLE` (R517): a window's SEL register and DATA word stand as writes too. -/
def execTable (gen : Word) (writes : List (Nat × Word)) (s : State) : Outcome State Fault Refusal :=
  done (s.mirrorRow gen writes)

end Sys2Proof.Machine
end

