-- ==== Sys2Proof/Machine/Dispatch.lean ====
section
/-! DEFINITION. One arm per command: each is one call of the command's meaning. -/

namespace Sys2Proof.Machine

open Host (Outcome)

def exec (i : Instr) (s : State) : Host.Outcome State Fault Refusal :=
  match i with
  | .powerOn good => Sys2Proof.Machine.execPowerOn good s
  | .resetNAssert widthNs => Sys2Proof.Machine.execResetNAssert widthNs s
  | .resetRelease fuseEccOk hbmTrained nvmAnswers => Sys2Proof.Machine.execResetRelease fuseEccOk hbmTrained nvmAnswers s
  | .supplyLow rail mV => Sys2Proof.Machine.execSupplyLow rail mV s
  | .supplyGood rail => Sys2Proof.Machine.execSupplyGood rail s
  | .tempAlarm die celsius => Sys2Proof.Machine.execTempAlarm die celsius s
  | .tempClear die => Sys2Proof.Machine.execTempClear die s
  | .clockLoss monitor => Sys2Proof.Machine.execClockLoss monitor s
  | .clockReturn monitor => Sys2Proof.Machine.execClockReturn monitor s
  | .rootQualify ch => Sys2Proof.Machine.execRootQualify ch s
  | .dsLock phase => Sys2Proof.Machine.execDsLock phase s
  | .freqMeasure ini value => Sys2Proof.Machine.execFreqMeasure ini value s
  | .freqDone ppb => Sys2Proof.Machine.execFreqDone ppb s
  | .forceRefWrite ini value => Sys2Proof.Machine.execForceRefWrite ini value s
  | .resyncDone crossing => Sys2Proof.Machine.execResyncDone crossing s
  | .resyncTimeout crossing => Sys2Proof.Machine.execResyncTimeout crossing s
  | .cal ini ch value => Sys2Proof.Machine.execCal ini ch value s
  | .calDone ch report => Sys2Proof.Machine.execCalDone ch report s
  | .cdcDone ch best => Sys2Proof.Machine.execCdcDone ch best s
  | .losIndication ch up => Sys2Proof.Machine.execLosIndication ch up s
  | .agcHuntUpdate ch report => Sys2Proof.Machine.execAgcHuntUpdate ch report s
  | .gainRelease ch report noise => Sys2Proof.Machine.execGainRelease ch report noise s
  | .detection ch metric position power gain cfoInt cfoFrac => Sys2Proof.Machine.execDetection ch metric position power gain cfoInt cfoFrac s
  | .blockLost ch => Sys2Proof.Machine.execBlockLost ch s
  | .codewordDelivery ch final input iter decoder => Sys2Proof.Machine.execCodewordDelivery ch final input iter decoder s
  | .blockMark ch => Sys2Proof.Machine.execBlockMark ch s
  | .lobDeclare ch => Sys2Proof.Machine.execLobDeclare ch s
  | .headerSpace ch raw kinds => Sys2Proof.Machine.execHeaderSpace ch raw kinds s
  | .dsSegment ch hdr hdrKind payload bad left block sym arrival => Sys2Proof.Machine.execDsSegment ch hdr hdrKind payload bad left block sym arrival s
  | .skewStoreRelease link err => Sys2Proof.Machine.execSkewStoreRelease link err s
  | .reorderTimeout link => Sys2Proof.Machine.execReorderTimeout link s
  | .linkFrameAuth => Sys2Proof.Machine.execLinkFrameAuth s
  | .channelRemove ch => Sys2Proof.Machine.execChannelRemove ch s
  | .channelAdmit ch link => Sys2Proof.Machine.execChannelAdmit ch link s
  | .maskApply ch link => Sys2Proof.Machine.execMaskApply ch link s
  | .reorderWord0Write ini value => Sys2Proof.Machine.execReorderWord0Write ini value s
  | .linkWord12Write ini value => Sys2Proof.Machine.execLinkWord12Write ini value s
  | .degWindowEnd ch => Sys2Proof.Machine.execDegWindowEnd ch s
  | .ffrWindowEnd ch => Sys2Proof.Machine.execFfrWindowEnd ch s
  | .lokWindowEnd ch => Sys2Proof.Machine.execLokWindowEnd ch s
  | .secondEnd => Sys2Proof.Machine.execSecondEnd s
  | .binEnd day => Sys2Proof.Machine.execBinEnd day s
  | .binFinal day => Sys2Proof.Machine.execBinFinal day s
  | .pmSnap ini value => Sys2Proof.Machine.execPmSnap ini value s
  | .profArm ini ch value => Sys2Proof.Machine.execProfArm ini ch value s
  | .txprofArm ini ch value => Sys2Proof.Machine.execTxprofArm ini ch value s
  | .profileActivate ch tx index => Sys2Proof.Machine.execProfileActivate ch tx index s
  | .assignId msg => Sys2Proof.Machine.execAssignId msg s
  | .rangeReq msg => Sys2Proof.Machine.execRangeReq msg s
  | .rangeTime msg => Sys2Proof.Machine.execRangeTime msg s
  | .profileSet msg => Sys2Proof.Machine.execProfileSet msg s
  | .channelSet msg => Sys2Proof.Machine.execChannelSet msg s
  | .channelSetApply ch => Sys2Proof.Machine.execChannelSetApply ch s
  | .keyDeliver msg => Sys2Proof.Machine.execKeyDeliver msg s
  | .keySwitch msg => Sys2Proof.Machine.execKeySwitch msg s
  | .timeOfDay msg => Sys2Proof.Machine.execTimeOfDay msg s
  | .todHeldApply => Sys2Proof.Machine.execTodHeldApply s
  | .todHeldLapse => Sys2Proof.Machine.execTodHeldLapse s
  | .todTimeout => Sys2Proof.Machine.execTodTimeout s
  | .holdSpecEnd => Sys2Proof.Machine.execHoldSpecEnd s
  | .leaseGrant msg => Sys2Proof.Machine.execLeaseGrant msg s
  | .leaseRevoke msg => Sys2Proof.Machine.execLeaseRevoke msg s
  | .silence msg => Sys2Proof.Machine.execSilence msg s
  | .unsilence msg => Sys2Proof.Machine.execUnsilence msg s
  | .silenceExpiry => Sys2Proof.Machine.execSilenceExpiry s
  | .sleepAllow msg => Sys2Proof.Machine.execSleepAllow msg s
  | .wake msg => Sys2Proof.Machine.execWake msg s
  | .healthQuery msg => Sys2Proof.Machine.execHealthQuery msg s
  | .mgmtTunnel msg => Sys2Proof.Machine.execMgmtTunnel msg s
  | .inbandMgmtFrame port => Sys2Proof.Machine.execInbandMgmtFrame port s
  | .mgmtRead ini => Sys2Proof.Machine.execMgmtRead ini s
  | .mgmtWrite ini => Sys2Proof.Machine.execMgmtWrite ini s
  | .mgmtWritePairs ini => Sys2Proof.Machine.execMgmtWritePairs ini s
  | .actEnWrite ini value => Sys2Proof.Machine.execActEnWrite ini value s
  | .deactivate ini value => Sys2Proof.Machine.execDeactivate ini value s
  | .channelConditionTransition => Sys2Proof.Machine.execChannelConditionTransition s
  | .toRangeExpiry => Sys2Proof.Machine.execToRangeExpiry s
  | .toHeldExpiry => Sys2Proof.Machine.execToHeldExpiry s
  | .rangeReqLapse ch => Sys2Proof.Machine.execRangeReqLapse ch s
  | .batchStart => Sys2Proof.Machine.execBatchStart s
  | .fillDecision err => Sys2Proof.Machine.execFillDecision err s
  | .secondTest ch => Sys2Proof.Machine.execSecondTest ch s
  | .burstEnd ch => Sys2Proof.Machine.execBurstEnd ch s
  | .lateData ch => Sys2Proof.Machine.execLateData ch s
  | .leaseExpiry => Sys2Proof.Machine.execLeaseExpiry s
  | .rogueTrip ch long => Sys2Proof.Machine.execRogueTrip ch long s
  | .rogueClr ini value senseOff => Sys2Proof.Machine.execRogueClr ini value senseOff s
  | .senseLow ch => Sys2Proof.Machine.execSenseLow ch s
  | .gateLimitsWrite ini value => Sys2Proof.Machine.execGateLimitsWrite ini value s
  | .biasOff ch => Sys2Proof.Machine.execBiasOff ch s
  | .frameVisible queue => Sys2Proof.Machine.execFrameVisible queue s
  | .shaperRefill => Sys2Proof.Machine.execShaperRefill s
  | .flush ini value => Sys2Proof.Machine.execFlush ini value s
  | .latSnap ini value => Sys2Proof.Machine.execLatSnap ini value s
  | .queueSample => Sys2Proof.Machine.execQueueSample s
  | .latPeriodEnd => Sys2Proof.Machine.execLatPeriodEnd s
  | .queueWord0Write ini value => Sys2Proof.Machine.execQueueWord0Write ini value s
  | .bindApply queue => Sys2Proof.Machine.execBindApply queue s
  | .allocWord0Write ini value => Sys2Proof.Machine.execAllocWord0Write ini value s
  | .egressOffer port err => Sys2Proof.Machine.execEgressOffer port err s
  | .keySwitchApply link up => Sys2Proof.Machine.execKeySwitchApply link up s
  | .graceExpiry link => Sys2Proof.Machine.execGraceExpiry link s
  | .keyLoad ini value => Sys2Proof.Machine.execKeyLoad ini value s
  | .erase ini value => Sys2Proof.Machine.execErase ini value s
  | .lscCtrlWrite ini value => Sys2Proof.Machine.execLscCtrlWrite ini value s
  | .holdExpiry link => Sys2Proof.Machine.execHoldExpiry link s
  | .macReceive port frame symbolError startOk stamp fecCorr fecUncor overrun => Sys2Proof.Machine.execMacReceive port frame symbolError startOk stamp fecCorr fecUncor overrun s
  | .pauseEnd port => Sys2Proof.Machine.execPauseEnd port s
  | .macTransmit port => Sys2Proof.Machine.execMacTransmit port s
  | .portCfgWrite ini port value => Sys2Proof.Machine.execPortCfgWrite ini port value s
  | .portUpChange port locked localFault remoteFault => Sys2Proof.Machine.execPortUpChange port locked localFault remoteFault s
  | .firstPass pipe headroom => Sys2Proof.Machine.execFirstPass pipe headroom s
  | .recirculation => Sys2Proof.Machine.execRecirculation s
  | .recircWithdraw pipe => Sys2Proof.Machine.execRecircWithdraw pipe s
  | .delayReq port => Sys2Proof.Machine.execDelayReq port s
  | .ptpSync port macStamp => Sys2Proof.Machine.execPtpSync port macStamp s
  | .ptpAnnounce port => Sys2Proof.Machine.execPtpAnnounce port s
  | .insert ini => Sys2Proof.Machine.execInsert ini s
  | .update ini => Sys2Proof.Machine.execUpdate ini s
  | .delete ini => Sys2Proof.Machine.execDelete ini s
  | .find ini => Sys2Proof.Machine.execFind ini s
  | .readSlot ini => Sys2Proof.Machine.execReadSlot ini s
  | .clearGen ini => Sys2Proof.Machine.execClearGen ini s
  | .swap ini => Sys2Proof.Machine.execSwap ini s
  | .drained => Sys2Proof.Machine.execDrained s
  | .profileApply ini value => Sys2Proof.Machine.execProfileApply ini value s
  | .profileLoad ini value => Sys2Proof.Machine.execProfileLoad ini value s
  | .sgMapWrite ini value => Sys2Proof.Machine.execSgMapWrite ini value s
  | .selDataWrite ini value => Sys2Proof.Machine.execSelDataWrite ini value s
  | .seedWrite ini bank value => Sys2Proof.Machine.execSeedWrite ini bank value s
  | .partitionWrite ini value => Sys2Proof.Machine.execPartitionWrite ini value s
  | .scrub found => Sys2Proof.Machine.execScrub found s
  | .arbitration inst pc arriving => Sys2Proof.Machine.execArbitration inst pc arriving s
  | .grantEnd inst pc => Sys2Proof.Machine.execGrantEnd inst pc s
  | .arbWindowStart inst => Sys2Proof.Machine.execArbWindowStart inst s
  | .freezeWrite ini inst value => Sys2Proof.Machine.execFreezeWrite ini inst value s
  | .fabricTimeout requester => Sys2Proof.Machine.execFabricTimeout requester s
  | .beaconSend => Sys2Proof.Machine.execBeaconSend s
  | .huskEcho arrival given => Sys2Proof.Machine.execHuskEcho arrival given s
  | .huskHealth given retries => Sys2Proof.Machine.execHuskHealth given retries s
  | .recordMsg given => Sys2Proof.Machine.execRecordMsg given s
  | .captureMsg given => Sys2Proof.Machine.execCaptureMsg given s
  | .huskTrained => Sys2Proof.Machine.execHuskTrained s
  | .huskDown => Sys2Proof.Machine.execHuskDown s
  | .hskCmdStart ini => Sys2Proof.Machine.execHskCmdStart ini s
  | .hskCmdStop ini => Sys2Proof.Machine.execHskCmdStop ini s
  | .hskCmdStatus ini => Sys2Proof.Machine.execHskCmdStatus ini s
  | .hskCmdArm ini => Sys2Proof.Machine.execHskCmdArm ini s
  | .hskCfgSend ini => Sys2Proof.Machine.execHskCfgSend ini s
  | .commitLost => Sys2Proof.Machine.execCommitLost s
  | .shellPowerUp okA okB idA idB => Sys2Proof.Machine.execShellPowerUp okA okB idA idB s
  | .shellWatchdog okA okB idA idB => Sys2Proof.Machine.execShellWatchdog okA okB idA idB s
  | .beacon tRx reports => Sys2Proof.Machine.execBeacon tRx reports s
  | .beaconTimeout => Sys2Proof.Machine.execBeaconTimeout s
  | .cfgBlock params imageOk => Sys2Proof.Machine.execCfgBlock params imageOk s
  | .start => Sys2Proof.Machine.execStart s
  | .stop => Sys2Proof.Machine.execStop s
  | .status mismatch => Sys2Proof.Machine.execStatus mismatch s
  | .arm => Sys2Proof.Machine.execArm s
  | .definitionStart => Sys2Proof.Machine.execDefinitionStart s
  | .definitionStop reports => Sys2Proof.Machine.execDefinitionStop reports s
  | .intervalEnd d report => Sys2Proof.Machine.execIntervalEnd d report s
  | .captureStart => Sys2Proof.Machine.execCaptureStart s
  | .captureFillDone samples invalid => Sys2Proof.Machine.execCaptureFillDone samples invalid s
  | .recordSend mismatch => Sys2Proof.Machine.execRecordSend mismatch s
  | .healthSend temp => Sys2Proof.Machine.execHealthSend temp s
  | .shellAlarm kind => Sys2Proof.Machine.execShellAlarm kind s
  | .keyRestore => Sys2Proof.Machine.execKeyRestore s
  | .linkResync link => Sys2Proof.Machine.execLinkResync link s
  | .twinLinkUp rxGood peerGood taps => Sys2Proof.Machine.execTwinLinkUp rxGood peerGood taps s
  | .trainTimeout => Sys2Proof.Machine.execTrainTimeout s
  | .twinLinkLost => Sys2Proof.Machine.execTwinLinkLost s
  | .laneLockLoss lane atPeer violations retries => Sys2Proof.Machine.execLaneLockLoss lane atPeer violations retries s
  | .laneReturn lane atPeer => Sys2Proof.Machine.execLaneReturn lane atPeer s
  | .hello body => Sys2Proof.Machine.execHello body s
  | .twinState body => Sys2Proof.Machine.execTwinState body s
  | .renewSend => Sys2Proof.Machine.execRenewSend s
  | .renew expiry rid => Sys2Proof.Machine.execRenew expiry rid s
  | .renewAck expiry rid => Sys2Proof.Machine.execRenewAck expiry rid s
  | .orphanRenew => Sys2Proof.Machine.execOrphanRenew s
  | .release => Sys2Proof.Machine.execRelease s
  | .claim inTransit => Sys2Proof.Machine.execClaim inTransit s
  | .takeoverDone => Sys2Proof.Machine.execTakeoverDone s
  | .finalMark => Sys2Proof.Machine.execFinalMark s
  | .twinEchoSend => Sys2Proof.Machine.execTwinEchoSend s
  | .twinEcho body arrival => Sys2Proof.Machine.execTwinEcho body arrival s
  | .keymeta body => Sys2Proof.Machine.execKeymeta body s
  | .keyDiverge link up slotB => Sys2Proof.Machine.execKeyDiverge link up slotB s
  | .ctrSend => Sys2Proof.Machine.execCtrSend s
  | .ctr body => Sys2Proof.Machine.execCtr body s
  | .markSend => Sys2Proof.Machine.execMarkSend s
  | .mark body => Sys2Proof.Machine.execMark body s
  | .checkSend => Sys2Proof.Machine.execCheckSend s
  | .check body => Sys2Proof.Machine.execCheck body s
  | .checkWaitExpiry => Sys2Proof.Machine.execCheckWaitExpiry s
  | .twinCfg gen writes => Sys2Proof.Machine.execTwinCfg gen writes s
  | .table gen writes => Sys2Proof.Machine.execTable gen writes s
  | .range body => Sys2Proof.Machine.execRange body s
  | .bulkDone body => Sys2Proof.Machine.execBulkDone body s
  | .shaperSend => Sys2Proof.Machine.execShaperSend s
  | .shaper body => Sys2Proof.Machine.execShaper body s
  | .perf ch index body => Sys2Proof.Machine.execPerf ch index body s
  | .twinTime body => Sys2Proof.Machine.execTwinTime body s
  | .twinHealthBuild hottest => Sys2Proof.Machine.execTwinHealthBuild hottest s
  | .twinHealth body => Sys2Proof.Machine.execTwinHealth body s
  | .ports body => Sys2Proof.Machine.execPorts body s
  | .peerLost => Sys2Proof.Machine.execPeerLost s
  | .loopTest ch pass => Sys2Proof.Machine.execLoopTest ch pass s
  | .twnHandover ini => Sys2Proof.Machine.execTwnHandover ini s
  | .retrain ini => Sys2Proof.Machine.execRetrain ini s
  | .solo ini => Sys2Proof.Machine.execSolo ini s
  | .forceOff ini => Sys2Proof.Machine.execForceOff ini s
  | .forceOn ini => Sys2Proof.Machine.execForceOn ini s
  | .twinLoopWrite ini value => Sys2Proof.Machine.execTwinLoopWrite ini value s
  | .loop start => Sys2Proof.Machine.execLoop start s
  | .retry ini => Sys2Proof.Machine.execRetry ini s
  | .softReset ini => Sys2Proof.Machine.execSoftReset ini s
  | .fuseProg ini => Sys2Proof.Machine.execFuseProg ini s
  | .fuseRead ini => Sys2Proof.Machine.execFuseRead ini s
  | .fuseDone verified => Sys2Proof.Machine.execFuseDone verified s
  | .nvmRead ini => Sys2Proof.Machine.execNvmRead ini s
  | .nvmProgram ini => Sys2Proof.Machine.execNvmProgram ini s
  | .nvmErase4k ini => Sys2Proof.Machine.execNvmErase4k ini s
  | .nvmErase64k ini => Sys2Proof.Machine.execNvmErase64k ini s
  | .nvmReadId ini => Sys2Proof.Machine.execNvmReadId ini s
  | .nvmDone jedec => Sys2Proof.Machine.execNvmDone jedec s
  | .nvmTimeout => Sys2Proof.Machine.execNvmTimeout s
  | .mcuRestart ini mcu => Sys2Proof.Machine.execMcuRestart ini mcu s
  | .mcuWatchdog mcu => Sys2Proof.Machine.execMcuWatchdog mcu s
  | .semRead ini sem => Sys2Proof.Machine.execSemRead ini sem s
  | .semFree ini sem value => Sys2Proof.Machine.execSemFree ini sem value s
  | .semForce ini value => Sys2Proof.Machine.execSemForce ini value s
  | .modeReqActive ini => Sys2Proof.Machine.execModeReqActive ini s
  | .modeReqDoze ini => Sys2Proof.Machine.execModeReqDoze ini s
  | .modeReqCyclic ini => Sys2Proof.Machine.execModeReqCyclic ini s
  | .modeReqDeep ini => Sys2Proof.Machine.execModeReqDeep ini s
  | .modeReqWarm ini => Sys2Proof.Machine.execModeReqWarm ini s
  | .modeEntryDone => Sys2Proof.Machine.execModeEntryDone s
  | .domainOnDone domain failedBanks => Sys2Proof.Machine.execDomainOnDone domain failedBanks s
  | .wakeRetry domain clock => Sys2Proof.Machine.execWakeRetry domain clock s
  | .reqLapse => Sys2Proof.Machine.execReqLapse s
  | .listenPowerUp => Sys2Proof.Machine.execListenPowerUp s
  | .listenWindowStart => Sys2Proof.Machine.execListenWindowStart s
  | .listenWindowEnd => Sys2Proof.Machine.execListenWindowEnd s
  | .optical ch => Sys2Proof.Machine.execOptical ch s
  | .pattern ch window => Sys2Proof.Machine.execPattern ch window s
  | .hostEnergy lane => Sys2Proof.Machine.execHostEnergy lane s
  | .pin => Sys2Proof.Machine.execPin s
  | .faultMessage tick raised => Sys2Proof.Machine.execFaultMessage tick raised s
  | .regionResetEscalation region => Sys2Proof.Machine.execRegionResetEscalation region s
  | .fltRecClr ini value => Sys2Proof.Machine.execFltRecClr ini value s
  | .podRestart ini value => Sys2Proof.Machine.execPodRestart ini value s
  | .podAutoRestart ch => Sys2Proof.Machine.execPodAutoRestart ch s
  | .regionResetCmd ini value => Sys2Proof.Machine.execRegionResetCmd ini value s
  | .inject ini value => Sys2Proof.Machine.execInject ini value s
  | .ruleWrite ini value => Sys2Proof.Machine.execRuleWrite ini value s
  | .tcArm ini slot => Sys2Proof.Machine.execTcArm ini slot s
  | .tcDisarm ini slot => Sys2Proof.Machine.execTcDisarm ini slot s
  | .tcFire slot => Sys2Proof.Machine.execTcFire slot s
  | .trigArm ini trig => Sys2Proof.Machine.execTrigArm ini trig s
  | .trigStop ini trig => Sys2Proof.Machine.execTrigStop ini trig s
  | .triggerEdge trig => Sys2Proof.Machine.execTriggerEdge trig s
  | .captureEdge cap rising stamp => Sys2Proof.Machine.execCaptureEdge cap rising stamp s
  | .capturePop ini cap => Sys2Proof.Machine.execCapturePop ini cap s
  | .ntmSnap ini => Sys2Proof.Machine.execNtmSnap ini s
  | .ntmHold ini => Sys2Proof.Machine.execNtmHold ini s
  | .ntmRelease ini => Sys2Proof.Machine.execNtmRelease ini s
  | .timeSet ini => Sys2Proof.Machine.execTimeSet ini s
  | .timeAdj ini => Sys2Proof.Machine.execTimeAdj ini s
  | .servoEnWrite ini value => Sys2Proof.Machine.execServoEnWrite ini value s
  | .holdRefInterval stamp => Sys2Proof.Machine.execHoldRefInterval stamp s
  | .spiWrite addr words stalled => Sys2Proof.Machine.execSpiWrite addr words stalled s
  | .spiWriteFixed addr words stalled => Sys2Proof.Machine.execSpiWriteFixed addr words stalled s
  | .spiRead addr count => Sys2Proof.Machine.execSpiRead addr count s
  | .spiReadFixed addr count => Sys2Proof.Machine.execSpiReadFixed addr count s
  | .spiStatus => Sys2Proof.Machine.execSpiStatus s
  | .spiReset => Sys2Proof.Machine.execSpiReset s
  | .sqcClear ini addr value => Sys2Proof.Machine.execSqcClear ini addr value s
  | .unlock ini block value => Sys2Proof.Machine.execUnlock ini block value s
  | .guardExpiry block => Sys2Proof.Machine.execGuardExpiry block s
  | .registerWrite ini addr value => Sys2Proof.Machine.execRegisterWrite ini addr value s
  | .extest => Sys2Proof.Machine.execExtest s
  | .samplePreload => Sys2Proof.Machine.execSamplePreload s
  | .idcode => Sys2Proof.Machine.execIdcode s
  | .clamp => Sys2Proof.Machine.execClamp s
  | .highz => Sys2Proof.Machine.execHighz s
  | .extestPulse => Sys2Proof.Machine.execExtestPulse s
  | .extestTrain => Sys2Proof.Machine.execExtestTrain s
  | .bypass opcode => Sys2Proof.Machine.execBypass opcode s
  | .shellPowerDown => Sys2Proof.Machine.execShellPowerDown s
  | .holdRefLoss => Sys2Proof.Machine.execHoldRefLoss s
  | .dsLockLoss phase => Sys2Proof.Machine.execDsLockLoss phase s
  | .dsRange => Sys2Proof.Machine.execDsRange s
  | .selfRefreshEntry pc => Sys2Proof.Machine.execSelfRefreshEntry pc s
  | .claimMarkWaitExpiry => Sys2Proof.Machine.execClaimMarkWaitExpiry s
  | .sysrefEdge link => Sys2Proof.Machine.execSysrefEdge link s
  | .fieldTriggerEdge trig => Sys2Proof.Machine.execFieldTriggerEdge trig s
  | .registerRead ini addr => Sys2Proof.Machine.execRegisterRead ini addr s

end Sys2Proof.Machine
end

