-- ==== Sys2Proof/Safety.lean ====
section
/-! DEFINITION. The terms the claims use: the state between commands, what a command leaves as it was, what a status
register takes, and when a register access is served at once. -/

namespace Sys2Proof.Machine

/-- Between commands: no status event is left for a status register to take (R658). -/
def State.settled (s : State) : Prop := s.evt = []

/-- Every register but those listed keeps its word. -/
def State.regsKept (s t : State) (but : List Nat) : Prop := ∀ a, a ∉ but → t.reg a = s.reg a

/-- Every 48-bit counter but those listed keeps its count. -/
def State.cntsKept (s t : State) (but : List Nat) : Prop := ∀ a, a ∉ but → t.cnt a = s.cnt a

/-- The status register at `a` has taken one core cycle's events, the flags listed (R658). -/
def State.took (s t : State) (a : Nat) (flags : List Nat) : Prop :=
  t.fld a 31 24 = (s.fld a 31 24 + 1) % 256 ∧ ∀ i < 24, t.rbit a i = (s.rbit a i || flags.contains i)

/-- The CNT_HALF flag of a counter's block, where adding 1 to the counter at `a` makes its bit 47 become 1. -/
def State.halfAt (s : State) (a : Nat) : List Nat := if s.cnt a = 0x7FFFFFFFFFFF then [(halfFlag a).2] else []

/-- An access by `ini` to block `b` is granted at once and refused by nothing that stands before the register: the fabric
is free (R442, R445), the requester is not masked (R441), the block's domain is on (R590); for the host management SPI,
no write waits (R653), READY is 1 (R654) and the block may be written (R554). -/
def State.mayAccess (s : State) (ini b : Nat) : Prop :=
  ini < 14 ∧ s.frozen 0 = false ∧ Tab.find? s.arb.i0.holder 0 = none ∧ s.arb.extended = none ∧
  s.isMasked 0 ini = false ∧ s.blockOff b = false ∧
  (ini = 0 → s.spiReady = true ∧ s.spi.queue = [] ∧ s.hostBarred b = false)

/-- Beside the registers and counters listed, an access changes only the arbiter's grant count and status. -/
def State.served (s t : State) (ini : Nat) (regs cnts : List Nat) : Prop :=
  s.regsKept t (Reg.ARB_STATUS :: regs) ∧ s.cntsKept t (Reg.ARB_Ii_CNT_GRANTr 0 ini :: cnts)

/-- `s` with the registers, counters and arbiters of `t`: what every access may change. -/
def State.accessed (s t : State) : State := { s with regs := t.regs, wide := t.wide, arb := t.arb }

/-- `s` with the registers and counters of `t`. -/
def State.noted (s t : State) : State := { s with regs := t.regs, wide := t.wide }

/-- `s` with the registers and counters of `t`, and time moved on as far as `t` has it: nothing else has happened. -/
def State.later (s t : State) : State :=
  { s.noted t with
    ticks := t.ticks, ntm := { s.ntm with time := t.ntm.time, frac := t.ntm.frac }
    twn := { s.twn with lease := { s.twn.lease with left := t.twn.lease.left } } }

/-- The status registers and counters that move where a command changes what the time channel and the root are chosen by
(R320, R325, R627). -/
def rootRegs : List Nat := [Reg.NTM_STATUS, Reg.CLK_STATUS]
def rootCnts : List Nat := [Reg.NTM_CNT_HOLD, Reg.CLK_CNT_SRC_CHG, Reg.CLK_CNT_DS_LOSS]

/-- No twin pair mirrors this device's register writes, or bars them (R517, R518). -/
def State.alone (s : State) : Prop := s.mirrorBars = false ∧ (s.twinOn && s.twn.lease.holds) = false

/-- Twin operation is off and the twin link down: nothing is mirrored, barred or told to a peer (R495, R517). -/
def State.solitary (s : State) : Prop := s.twinOn = false ∧ s.twn.link.up = false

/-- A downstream message is this terminal's, new in its stream, and of a type acted on in this state (R75, R76, R216). -/
def State.hears (s : State) (m : MsgIn) (states : List TState) : Prop :=
  (isBcast m = true ∨ s.act.tid = some m.addr) ∧ (s.streamOf m).map (·.1) ≠ some m.seq ∧ s.act.state ∈ states

/-- The message has been acted on: it is the last of its stream, with the answer a repeat sends again, and it is counted. -/
def State.actedOn (s t : State) (m : MsgIn) (answer : Option UpMsg) : Prop :=
  t.streamOf m = some (m.seq, answer) ∧ t.cnt Reg.ACT_CNT_MSG_ACTED = s.cnt Reg.ACT_CNT_MSG_ACTED + 1

/-- Nothing of a registration is left (R195): no ID and nonce, no queue, no delay and armed request, no key, and no grant
but announcement windows. -/
def State.unregistered (t : State) : Prop :=
  t.act.tid = none ∧ t.act.nonce = none ∧ t.act.uq = [] ∧ t.lsc.kek = none ∧
  (∀ n < 4, (t.actCh n).rtd = none ∧ (t.actCh n).armed = none ∧ (t.actCh n).dDown = 0 ∧ (t.actCh n).dUp = 0) ∧
  (∀ k, (t.keys k).a.state = .empty ∧ (t.keys k).b.state = .empty) ∧ (∀ g ∈ t.usq.grants, g.kind = .announce)

/-- What ID loss may change where no burst waits and no Link is mapped. -/
def State.lostId (s t : State) : State :=
  { s.noted t with
    usq := { s.usq with grants := t.usq.grants }, twn := { s.twn with lease := t.twn.lease }, act := t.act, lsc := t.lsc
    ntm := t.ntm, clk := t.clk, fresh := t.fresh, guards := t.guards, sems := t.sems, pods := t.pods }
def lostIdRegs : List Nat := Reg.ACT_STATUS :: Reg.LSC_STATUS :: Reg.DEV_STATUS :: rootRegs
def lostIdCnts : List Nat := Reg.ACT_CNT_ID_LOSS :: Reg.LSC_CNT_ERASES :: rootCnts

/-- No burst is open or waits, and no Link is mapped: what ID loss discards beside the registration is empty. -/
def State.unladen (s : State) : Prop := (∀ n < 4, (s.ubtCh n).bursts = []) ∧ s.dsf.links = []

/-- A source offers a fault message to the collector (R604). -/
def State.offers (s t : State) (m : FaultMsg) : Prop := t.flt.offered = offerMsg s.flt.offered m

/-- No gate is open: no channel has a burst in the air. -/
def State.quiet (s : State) : Prop := ∀ n < 4, s.openBurst n = none

/-- The guard of block `b` is armed for `ini` (R662). -/
def State.armedFor (s : State) (b ini : Nat) : Prop := s.guardFor b ini = true

/-- A message crosses to the Shell: the Husk is up, the Shell powered, and nothing but the message waits for it. -/
def State.reaches (s : State) (m : HuskMsg) : Prop :=
  s.shell.powered = true ∧ s.hsk.link = .up ∧ s.hsk.toShell = [m]

/-- The Shell has acknowledged the message with a status, in a health message (R464). -/
def State.acks (s t : State) (m : HuskMsg) (status : Byte) : Prop :=
  t.shell.ack = (m.type, status, m.seq) ∧ t.hsk.toShell = [] ∧
  ∃ h : List Byte, t.hsk.toCore = s.hsk.toCore ++ [⟨0x83, s.shell.txSeq, h⟩] ∧
    Crypto.slice h 40 8 = [m.type, status, 0, 0] ++ Crypto.beBytes 4 m.seq.toNat

/-- `s` with the messages crossing the Husk as `t` has them, and of the Shell what an acknowledgement changes. -/
def State.answered (s t : State) : State :=
  { s with
    hsk := { s.hsk with toShell := t.hsk.toShell, toCore := t.hsk.toCore }
    shell := { s.shell with ack := t.shell.ack, txSeq := t.shell.txSeq, faults := t.shell.faults } }

/-- The pair has shaken hands and messages cross the twin link (R498, R516, R545). -/
def State.talks (s : State) : Prop :=
  s.twinOn = true ∧ s.twn.link.up = true ∧ s.twn.lease.paired = true ∧ s.twn.link.loopFar = false ∧
  s.fld Reg.TWN_LOOP 1 0 = 0

/-- The next SEQ of a class of twin-link messages (R516). -/
def State.twinSeq (s : State) (c : Nat) : Word := Tab.get 0 s.twn.mir.seqs c

/-- A twin-link message: TYPE, flags, length, SEQ, body and the CRC-32 of them (R516). -/
def twinMsg (type : Nat) (seq : Word) (body : List Byte) : Out :=
  let m := Crypto.beBytes 1 type ++ [0] ++ Crypto.beBytes 2 body.length ++ Crypto.beBytes 4 seq.toNat ++ body
  .twin (m ++ Crypto.beBytes 4 (Crypto.crc32 m).toNat)

/-- One message has been sent to the twin, in class `c`, and nothing else. -/
def State.told (s t : State) (c type : Nat) (body : List Byte) : Prop :=
  t.out = twinMsg type (s.twinSeq c) body :: s.out ∧ t.twinSeq c = s.twinSeq c + 1

/-- HELLO and then STATE have been sent, each with the expiry of this device's own lease (Table TWN-3, R504). -/
def State.toldLease (s t : State) (expiry : Nat) : Prop :=
  ∃ h x : List Byte, t.out = twinMsg 2 (s.twinSeq 1 + 1) x :: twinMsg 1 (s.twinSeq 1) h :: s.out ∧
    h.length = 29 ∧ h.drop 18 = ntimeBytes expiry ∧ x.length = 13 ∧ x.drop 2 = ntimeBytes expiry

/-- The mirror records of `s`, with the message numbers of `t`. -/
def State.mirSent (s t : State) : TwnMirror := { s.twn.mir with seqs := t.twn.mir.seqs }

/-- A wake source is enabled in the mode the device is in, and nothing else waits on the wake (R598). -/
def State.mayWake (s : State) (source : Nat) : Prop :=
  s.pwr.mode ≠ .active ∧ s.pwr.phase ≠ .entering ∧ s.wakeEnabled s.pwr.mode source = true ∧ s.pwr.held = none ∧
  s.pwr.wakeAck = none

/-- The device has returned to Active by a wake source, its domains switching on (R598, Table PWR-7). -/
def State.awoken (s t : State) (source : Nat) : Prop :=
  t.pwr = { s.pwr with
    mode := .active, target := s.pwr.mode, bias := 0xF, selfRefresh := 0
    phase := if t.pwr.switching = 0 then .steady else .waking
    lastWake := some ⟨source, BitVec.ofNat 10 (2 ^ source), ns32Of s.now, ppOf s.now⟩
    retries := t.pwr.retries
    switching := s.pwr.switching |||
      (s.activeDomains (s.pwr.mode == .deep) &&& ~~~ s.pwr.on &&& ~~~ s.pwr.failed &&& ~~~ s.pwr.switching) } ∧
  t.rbit Reg.PWR_STATUS 0 = true ∧ t.rbit Reg.PWR_STATUS 3 = true ∧
  t.cnt (Reg.PWR_CNT_WAKE source) = s.cnt (Reg.PWR_CNT_WAKE source) + 1

/-- The newest entry of the refusal log (R585). -/
def State.refusedAs (s t : State) (m : Mode) (code : Nat) (abort : Bool) : Prop :=
  t.pwr.log = (⟨modeCode m, code, abort, ns32Of s.now, ppOf s.now⟩ :: s.pwr.log).take 8 ∧
  t.cnt (Reg.PWR_CNT_REFUSE code) = s.cnt (Reg.PWR_CNT_REFUSE code) + 1 ∧
  t.rbit Reg.PWR_STATUS (if abort then 2 else 1) = true

end Sys2Proof.Machine
end

