-- ==== Sys2Proof/Certificates/Slice0/Obligations.lean ====
section
/-! DEFINITION. The statements for the provers, in the order of the spec's chapters. Each is about `exec` on every state
between commands (`State.settled`) or about `step`; the frames are those of Safety.lean. -/

section

open Sys2Proof Sys2Proof.Machine

/-- The block takes the command at the front of its queue, first in, first out (the model's form, log entry 1). -/
def Obligations.StepRunsFront : Prop :=
  ∀ (s : State) (c : Instr) (rest : List Instr),
    step { s with pending := c :: rest } = exec c { s with pending := rest }

/-- R314's advance of one tick; that an idle step is a tick is the model's choice (log entry 2). -/
def Obligations.IdleStepIsOneTick : Prop :=
  ∀ s : State, s.pending = [] → s.ntm.frac < 2 ^ 32 → -2 ^ 31 ≤ s.ntm.rate → s.ntm.rate < 2 ^ 31 →
    ∃ (t : State) (add : Nat), step s = .next t ∧ (add = 199 ∨ add = 200 ∨ add = 201) ∧
      (add : Int) = 200 + (s.ntm.frac + s.ntm.rate) / 2 ^ 32 ∧
      t.ticks = s.ticks + 1 ∧ t.now = (s.now + add) % (2 ^ 48 * 256000000000) ∧
      (t.ntm.frac : Int) = (s.ntm.frac + s.ntm.rate) % 2 ^ 32 ∧
      t.twn.lease.left = s.twn.lease.left - add ∧
      t = { s with
        ticks := t.ticks, ntm := { s.ntm with time := t.ntm.time, frac := t.ntm.frac }
        twn := { s.twn with lease := { s.twn.lease with left := t.twn.lease.left } } }

/-- No command stops the block, and the state between commands is kept. -/
def Obligations.EveryStepRuns : Prop :=
  ∀ s : State, s.settled → ∃ t, step s = .next t ∧ t.settled

/-- The invariant holds at reset. -/
def Obligations.ResetIsSettled : Prop := State.reset.settled ∧ State.reset.pending = []

/-- The values the spec states for reset. -/
def Obligations.ResetValues : Prop :=
  (∀ a ∈ [Reg.DEV_STATUS, Reg.BOOT_STATUS, Reg.CLK_STATUS, Reg.PWR_STATUS, Reg.FLT_STATUS, Reg.NTM_STATUS,
      Reg.ACT_STATUS, Reg.DSF_STATUS, Reg.USQ_STATUS, Reg.UBT_STATUS, Reg.LSC_STATUS, Reg.HPE_STATUS, Reg.CLS_STATUS,
      Reg.HRD_STATUS, Reg.ARB_STATUS, Reg.TWN_STATUS, Reg.HSK_STATUS], State.reset.reg a = 0) ∧
  (∀ n < 4, State.reset.reg (Reg.DSF_CHn_EVENT n) = 0 ∧ State.reset.reg (Reg.POD_RX_STATUS n) = 0 ∧
    State.reset.reg (Reg.POD_TX_STATUS n) = 0 ∧ (State.reset.chan n).fa = .hunt ∧ (State.reset.chan n).mf = .hunt) ∧
  (∀ p < 8, State.reset.reg (Reg.HPE_Pp_STATUS p) = 0) ∧
  State.reset.guards = [] ∧ (∀ k < 32, State.reset.sem k = ⟨15, false⟩) ∧
  State.reset.now = 0 ∧ State.reset.ntm.state = .unset ∧
  State.reset.act.state = .t0 ∧ State.reset.act.tid = none ∧
  State.reset.pwr.mode = .active ∧ State.reset.pwr.on = 0x7FFF ∧
  State.reset.flt.record = none ∧ (State.reset.rule 0).w2 = 0x7001 ∧ (State.reset.rule 0).w3 = 1 ∧
  State.reset.arb.i0.quota = [(9, 32), (10, 256), (11, 256), (12, 256), (13, 256)] ∧
  State.reset.hrd.usFree = 130023424 ∧ State.reset.hrd.dsFree = 64503808

/-- The SPI transactions of Table REG-2. -/
def Obligations.SpiCommands : Prop :=
  ∀ s : State, s.settled →
    (∀ (a : BitVec 28) (ws : List Word), s.spiReady = true → s.spi.queue.length + ws.length ≤ 64 →
      ∃ t, exec (.spiWrite a ws true) s = .next t ∧ t = { s with spi := t.spi } ∧ t.spi.err = s.spi.err ∧
        t.spi.queue = s.spi.queue ++ ((List.range ws.length).map (fun i => a.toNat + 4 * i)).zip ws) ∧
    (∀ (a : BitVec 28) (ws : List Word), s.spiReady = true → s.spi.queue.length + ws.length ≤ 64 →
      ∃ t, exec (.spiWriteFixed a ws true) s = .next t ∧ t = { s with spi := t.spi } ∧ t.spi.err = s.spi.err ∧
        t.spi.queue = s.spi.queue ++ ws.map (fun w => (a.toNat, w))) ∧
    (∀ (a : BitVec 28) (n : Nat), s.spiReady = true → s.spi.queue = [] →
      (∀ i < n, blockOf (wordAddr (a.toNat + 4 * i)) = some 14) →
      ∃ t, exec (.spiRead a n) s = .next t ∧ t = { s with out := t.out } ∧
        t.out = ((List.range n).map (fun i => Out.spiWord true (s.view (wordAddr (a.toNat + 4 * i))))).reverse ++ s.out) ∧
    (∀ (a : BitVec 28) (n : Nat), s.spiReady = true → s.spi.queue = [] → blockOf (wordAddr a.toNat) = some 14 →
      ∃ t, exec (.spiReadFixed a n) s = .next t ∧ t = { s with out := t.out } ∧
        t.out = List.replicate n (Out.spiWord true (s.view (wordAddr a.toNat))) ++ s.out) ∧
    (∃ (t : State) (b : Byte), exec .spiStatus s = .next t ∧ t.out = Out.spiStatus b :: s.out ∧
      b.getLsbD 0 = !s.spi.queue.isEmpty ∧ b.getLsbD 1 = decide (64 ≤ s.spi.queue.length) ∧ b.getLsbD 2 = s.spi.err ∧
      b.getLsbD 3 = s.spiReady ∧ b.toNat < 16 ∧ t.spi = { s.spi with err := false } ∧
      t = { s with out := t.out, spi := t.spi }) ∧
    (∃ t, exec .spiReset s = .next t ∧ t.spi = ⟨[], false⟩ ∧ t.guards = s.guards.filter (fun e => e.2.ini ≠ 0) ∧
      t = { s with spi := t.spi, guards := t.guards })

/-- R649, R656, R657, R669. -/
def Obligations.RegisterAccess : Prop :=
  ∀ (s : State) (ini : Nat), s.settled →
    (∀ (b a : Nat) (r : RegRow × Nat) (v : Word), s.mayAccess ini b → (b = 0 ∨ b = 1) → a < 2 ^ 28 → a % 4 = 0 →
      blockOf a = some b → regRow a = some r → r.1.access = .rw → commonOffset b a = none →
      ∃ t, exec (.registerWrite ini (BitVec.ofNat 28 a) v) s = .next t ∧
        t.reg a = mergeFields r.1.flds (s.reg a) v ∧ t = s.accessed t ∧ s.served t ini [a] []) ∧
    (∀ (a : BitVec 28) (v : Word), s.mayAccess ini 0 → 0 < ini → blockOf (wordAddr a.toNat) = none →
      (∃ t, exec (.registerWrite ini a v) s = .next t ∧
        t.reg Reg.DEV_CNT_UNMAPPED = s.reg Reg.DEV_CNT_UNMAPPED + 1 ∧ t = s.accessed t ∧
        s.served t ini [Reg.DEV_CNT_UNMAPPED] []) ∧
      (∃ t, exec (.registerRead ini a) s = .next t ∧
        t.reg Reg.DEV_CNT_UNMAPPED = s.reg Reg.DEV_CNT_UNMAPPED + 1 ∧
        t.out = Out.regRead ini (wordAddr a.toNat) 0 :: s.out ∧ t = { s.accessed t with out := t.out } ∧
        s.served t ini [Reg.DEV_CNT_UNMAPPED] [])) ∧
    (∀ _ : 0 < ini ∧ s.mayAccess ini 5,
      ∃ (t : State) (w : Word), exec (.registerRead ini (BitVec.ofNat 28 Reg.NTM_SNAP_PP)) s = .next t ∧
        t.out = Out.regRead ini Reg.NTM_SNAP_PP w :: s.out ∧ t.rbit Reg.NTM_SNAP_PP 8 = false ∧
        t.fld Reg.NTM_SNAP_PP 7 0 = s.fld Reg.NTM_SNAP_PP 7 0 ∧ t = { s.accessed t with out := t.out } ∧
        s.served t ini [Reg.NTM_SNAP_PP] []) ∧
    (∀ _ : 0 < ini ∧ s.mayAccess ini 2 ∧ s.fld Reg.CLK_X_ADDR 2 0 = 0 ∧ s.fld Reg.CLK_X_SEL 7 0 < 82,
      ∃ (t : State) (w : Word), exec (.registerRead ini (BitVec.ofNat 28 Reg.CLK_X_DATA)) s = .next t ∧
        t.out = Out.regRead ini Reg.CLK_X_DATA w :: s.out ∧ (t.crossing (s.fld Reg.CLK_X_SEL 7 0)).ovrFlag = false ∧
        t.fld Reg.CLK_X_ADDR 2 0 = 1 ∧ t = { s.accessed t with out := t.out, clk := t.clk } ∧
        s.served t ini [Reg.CLK_X_ADDR] []) ∧
    (∀ _ : 0 < ini ∧ s.mayAccess ini 4,
      ∃ (t : State) (w : Word), exec (.registerRead ini (BitVec.ofNat 28 Reg.FLT_RULE_DATA)) s = .next t ∧
        t.out = Out.regRead ini Reg.FLT_RULE_DATA w :: s.out ∧
        t.fld Reg.FLT_RULE_ADDR 2 0 = (s.fld Reg.FLT_RULE_ADDR 2 0 + 1) % 8 ∧
        t = { s.accessed t with out := t.out } ∧ s.served t ini [Reg.FLT_RULE_ADDR] [])

/-- R659. -/
def Obligations.SequenceClear : Prop :=
  ∀ (s : State) (ini b a : Nat) (v : Word), s.settled → s.mayAccess ini b → a < 2 ^ 28 → a % 4 = 0 →
    blockOf a = some b → (b = 14 → ini = 0) → commonOffset b a = none → (regRow a).map (fun r => r.1.access) = some .sqc →
    ∃ t, exec (.sqcClear ini (BitVec.ofNat 28 a) v) s = .next t ∧
      (v.toNat / 2 ^ 24 = (s.reg a).toNat / 2 ^ 24 →
        t.fld a 31 24 = s.fld a 31 24 ∧ (∀ i < 24, t.rbit a i = (s.rbit a i && !v.getLsbD i)) ∧
        s.regsKept t [Reg.ARB_STATUS, a]) ∧
      (v.toNat / 2 ^ 24 ≠ (s.reg a).toNat / 2 ^ 24 →
        t.reg (Reg.BLK_SEQ_MISS b) = s.reg (Reg.BLK_SEQ_MISS b) + 1 ∧ s.served t ini [Reg.BLK_SEQ_MISS b] [] ∧
        t = s.accessed t)

/-- R662, R663, R665. -/
def Obligations.GuardRules : Prop :=
  ∀ (s : State), s.settled →
    (∀ (ini : Nat) (b : Fin 21) (v : Word), s.mayAccess ini b → b.val ≠ 14 →
      ∃ t, exec (.unlock ini b v) s = .next t ∧
        (v = 0x5EED → (s.guardOf b = none ∨ s.armedFor b ini) →
          t.guardOf b = some ⟨ini, s.ticks⟩ ∧ s.regsKept t [Reg.ARB_STATUS]) ∧
        (v = 0x5EED → (s.guardOf b).isSome = true → ¬ s.armedFor b ini →
          t.guardOf b = s.guardOf b ∧ t.reg (Reg.BLK_GUARD_REFUSED b) = s.reg (Reg.BLK_GUARD_REFUSED b) + 1) ∧
        (v ≠ 0x5EED → t.reg (Reg.BLK_GUARD_REFUSED b) = s.reg (Reg.BLK_GUARD_REFUSED b) + 1 ∧
          t.guardOf b = if s.guardFor b ini then none else s.guardOf b) ∧
        (∀ c, c ≠ b.val → t.guardOf c = s.guardOf c) ∧
        t = { s.accessed t with guards := t.guards } ∧ s.served t ini [Reg.BLK_GUARD_REFUSED b] []) ∧
    (∀ (ini b a : Nat) (v : Word), s.mayAccess ini b → a < 2 ^ 28 → a % 4 = 0 → blockOf a = some b →
      b ≠ 14 → commonOffset b a = none → (regRow a).map (fun r => r.1.access) = some .kg → s.guardFor b ini = false →
      s.boot.sprout = false →
      ∃ t, exec (.registerWrite ini (BitVec.ofNat 28 a) v) s = .next t ∧
        t.reg (Reg.BLK_GUARD_REFUSED b) = s.reg (Reg.BLK_GUARD_REFUSED b) + 1 ∧ t = s.accessed t ∧
        s.served t ini [Reg.BLK_GUARD_REFUSED b] []) ∧
    (∀ (b : Fin 21) (g : Guard), Tab.find? s.guards b = some g →
      ∃ t, exec (.guardExpiry b) s = .next t ∧ t.guards = Tab.erase s.guards b ∧
        t.ticks = max s.ticks (g.armedAt + 12800) ∧ s.regsKept t [] ∧ s.cntsKept t [] ∧
        t = { s with guards := t.guards, ticks := t.ticks, ntm := t.ntm, twn := t.twn })

/-- R574, with the read of R573 and the force of R575. -/
def Obligations.Semaphores : Prop :=
  ∀ (s : State) (ini : Nat), s.settled → s.mayAccess ini 0 →
    (∀ k : Fin 32, 0 < ini → ∃ (t : State) (w : Word), exec (.semRead ini k) s = .next t ∧
        t.out = Out.regRead ini (Reg.DEV_SEMk k) w :: s.out ∧
        ((s.sem k).owner = 15 → t.sem k = ⟨ini, false⟩ ∧ w.getLsbD 0 = true ∧ bitsOf w.toNat 7 4 = ini ∧
          w.getLsbD 8 = (s.sem k).abandoned) ∧
        ((s.sem k).owner ≠ 15 → t.sem k = s.sem k ∧ w.getLsbD 0 = decide ((s.sem k).owner = ini) ∧
          w.getLsbD 8 = false) ∧
        (∀ j, j ≠ k.val → t.sem j = s.sem j) ∧ t = { s.accessed t with out := t.out, sems := t.sems } ∧
        s.served t ini [] []) ∧
    (∀ (k : Fin 32) (v : Word), v.getLsbD 0 = true → ∃ t, exec (.semFree ini k v) s = .next t ∧
        ((s.sem k).owner = ini → t.sem k = ⟨15, false⟩ ∧ s.served t ini [] []) ∧
        ((s.sem k).owner ≠ ini → t.sem k = s.sem k ∧ t.rbit Reg.DEV_STATUS 1 = true ∧
          t.cnt Reg.DEV_CNT_SEM_FOREIGN = s.cnt Reg.DEV_CNT_SEM_FOREIGN + 1 ∧
          s.served t ini [Reg.DEV_STATUS] [Reg.DEV_CNT_SEM_FOREIGN]) ∧
        (∀ j, j ≠ k.val → t.sem j = s.sem j) ∧ t = { s.accessed t with sems := t.sems }) ∧
    (∀ v : Word, ini < 10 → s.armedFor 0 ini → ∃ t, exec (.semForce ini v) s = .next t ∧ t.guardOf 0 = none ∧
        (∀ k < 32, t.sem k = if v.getLsbD k && (s.sem k).owner != 15 then ⟨15, true⟩ else s.sem k) ∧
        t = { s.accessed t with sems := t.sems, guards := t.guards } ∧ s.served t ini [Reg.DEV_STATUS] [])

/-- R441 to R445. -/
def Obligations.ArbiterCommands : Prop :=
  ∀ s : State, s.settled →
    (∀ (pc : Fin 64) (r : Nat), r < 7 → s.frozen 2 = false → s.arb.i2.holder = [] → s.arb.i2.waiting = [] →
      s.isMasked 2 r = false →
      ∃ t, exec (.arbitration 2 pc [r]) s = .next t ∧ Tab.find? t.arb.i2.holder pc = some r ∧
        t.arb.i2.waiting = [] ∧ t.cnt (Reg.ARB_Ii_CNT_GRANTr 2 r) = s.cnt (Reg.ARB_Ii_CNT_GRANTr 2 r) + 1 ∧
        t = { s.noted t with arb := t.arb } ∧ s.regsKept t [Reg.ARB_STATUS]) ∧
    (∀ (pc : Fin 64) (r : Nat), r < 7 → s.frozen 2 = true → s.arb.i2.waiting = [] →
      ∃ t, exec (.arbitration 2 pc [r]) s = .next t ∧ t.arb.i2.holder = s.arb.i2.holder ∧
        t.arb.i2.waiting = [pc.val * 16 + r] ∧ t = { s.noted t with arb := t.arb } ∧ s.cntsKept t []) ∧
    (∀ pc : Fin 64, ∃ t, exec (.grantEnd 2 pc) s = .next t ∧ Tab.find? t.arb.i2.holder pc = none ∧
        (∀ k, k ≠ pc.val → Tab.find? t.arb.i2.holder k = Tab.find? s.arb.i2.holder k) ∧
        t = { s.noted t with arb := t.arb } ∧ s.regsKept t [Reg.ARB_STATUS] ∧ s.cntsKept t []) ∧
    (∃ t, exec (.arbWindowStart 0) s = .next t ∧ t.arb.i0.used = [] ∧
        t.arb.i0.hiThr = s.fld (Reg.ARB_Ii_CTRL 0) 6 4 ∧ t.arb.i0.window = s.fld (Reg.ARB_Ii_CTRL 0) 31 16 ∧
        (∀ r < 14, Tab.get 0 t.arb.i0.quota r = s.fld (Reg.ARB_Ii_REQr 0 r) 31 16) ∧
        t.arb.i0.startAt = s.ticks ∧ t.arb.i0.holder = s.arb.i0.holder ∧ t = { s.noted t with arb := t.arb } ∧
        s.regsKept t [Reg.ARB_STATUS] ∧ s.cntsKept t []) ∧
    (∀ (inst : Fin 3) (v : Word), s.spiReady = true → s.spi.queue = [] →
      ∃ t, exec (.freezeWrite 0 inst v) s = .next t ∧ t.frozen inst = v.getLsbD 0 ∧
        t = { s.noted t with arb := t.arb } ∧ s.regsKept t [Reg.ARB_STATUS, Reg.ARB_Ii_CTRL inst] ∧ s.cntsKept t []) ∧
    (∀ r : Nat, 10 ≤ r → r < 14 → s.frozen 0 = false → Tab.find? s.arb.i0.holder 0 = some r →
      ∃ t, exec (.fabricTimeout r) s = .next t ∧ Tab.find? t.arb.i0.holder 0 = none ∧ t.ticks = s.ticks + 128000 ∧
        t.flt.offered = offerMsg s.flt.offered ⟨0x25000, 0x05, 0, 0⟩ ∧
        t = { s.noted t with ticks := t.ticks, ntm := t.ntm, twn := t.twn, arb := t.arb, flt := t.flt } ∧
        s.regsKept t [] ∧ s.cntsKept t [])

/-- R677, R678; the monitor numbering is the model's (log entry 20). -/
def Obligations.SupplyCommands : Prop :=
  ∀ (s : State) (rail : Fin 22), s.settled →
    (∀ mV : BitVec 16, s.pads.railGood.getLsbD rail = true → s.boot.step ≠ 1 →
      ∃ t, exec (.supplyLow rail mV) s = .next t ∧ t.pads = { s.pads with railGood := putBit s.pads.railGood rail false } ∧
        (s.rbit Reg.LSC_CTRL 0 = false →
          s.offers t ⟨pkgSource rail, 0x0D, BitVec.ofNat 40 mV.toNat, 1⟩ ∧ t = { s with pads := t.pads, flt := t.flt }) ∧
        (s.rbit Reg.LSC_CTRL 0 = true → s.dsf.links = [] → s.lsc.keys = [] →
          t.lsc = { s.lsc with kek := none, clearCause := 1, erased := true } ∧
          s.offers t ⟨pkgSource rail, 0x0D, BitVec.ofNat 40 mV.toNat, 1⟩ ∧
          t = { s.noted t with pads := t.pads, flt := t.flt, lsc := t.lsc } ∧
          s.regsKept t [Reg.LSC_STATUS] ∧ s.cntsKept t [Reg.LSC_CNT_ERASES])) ∧
    (∀ mV : BitVec 16, s.pads.railGood.getLsbD rail = true → s.boot.step = 1 →
      ∃ t, exec (.supplyLow rail mV) s = .next t ∧ t.pads = { s.pads with railGood := putBit s.pads.railGood rail false } ∧
        t = { s with pads := t.pads }) ∧
    (s.pads.railGood.getLsbD rail = false → s.boot.step ≠ 1 →
      ∃ t, exec (.supplyGood rail) s = .next t ∧ t.pads = { s.pads with railGood := putBit s.pads.railGood rail true } ∧
        s.offers t ⟨pkgSource rail, 0x0D, 0, 2⟩ ∧ t = { s with pads := t.pads, flt := t.flt }) ∧
    (s.pads.railGood.getLsbD rail = false → s.boot.step = 1 →
      ∃ t, exec (.supplyGood rail) s = .next t ∧ t.pads = { s.pads with railGood := putBit s.pads.railGood rail true } ∧
        t.boot.step = (if (putBit s.pads.railGood rail true = allRails ∧ s.clk.good.getLsbD 0 = true) ∧
          s.clk.good.getLsbD 2 = true then 2 else 1) ∧
        t = { s with pads := t.pads, boot := { s.boot with step := t.boot.step } })

/-- R633, R697; the source numbering is the model's (log entry 20). -/
def Obligations.ClockAndTemperatureAlarms : Prop :=
  ∀ s : State, s.settled →
    (∀ m : Fin 4, s.clk.good.getLsbD m = true → s.rbit Reg.LSC_CTRL 0 = false →
      ∃ t, exec (.clockLoss m) s = .next t ∧ t.clk = { s.clk with good := putBit s.clk.good m false } ∧
        s.took t Reg.CLK_STATUS [3] ∧
        s.offers t ⟨pkgSource m, 0x0F, BitVec.ofNat 40 (monitorDomain m), 1⟩ ∧
        ((∀ p < 8, s.portEn p = false ∧ (s.port p).up = false) →
          t = { s.noted t with clk := t.clk, flt := t.flt } ∧ s.regsKept t [Reg.CLK_STATUS] ∧ s.cntsKept t [])) ∧
    (∀ m : Fin 4, s.clk.good.getLsbD m = false → s.boot.step ≠ 1 →
      ∃ t, exec (.clockReturn m) s = .next t ∧ t.clk = { s.clk with good := putBit s.clk.good m true } ∧
        s.took t Reg.CLK_STATUS [4] ∧
        s.offers t ⟨pkgSource m, 0x0F, BitVec.ofNat 40 (monitorDomain m), 2⟩ ∧
        ((∀ p < 8, s.portEn p = false ∧ (s.port p).up = false) →
          t = { s.noted t with clk := t.clk, flt := t.flt } ∧ s.regsKept t [Reg.CLK_STATUS] ∧ s.cntsKept t [])) ∧
    (∀ (die : Fin 8) (c : BitVec 8), s.pads.tempAlarm.getLsbD die = false → 110 ≤ c.toInt → s.rbit Reg.LSC_CTRL 0 = false →
      ∃ t, exec (.tempAlarm die c) s = .next t ∧ t.pads = { s.pads with tempAlarm := putBit s.pads.tempAlarm die true } ∧
        s.offers t ⟨pkgSource die, 0x0E, BitVec.ofNat 40 c.toNat, 1⟩ ∧ t = { s with pads := t.pads, flt := t.flt }) ∧
    (∀ die : Fin 8, s.pads.tempAlarm.getLsbD die = true →
      ∃ t, exec (.tempClear die) s = .next t ∧ t.pads = { s.pads with tempAlarm := putBit s.pads.tempAlarm die false } ∧
        s.offers t ⟨pkgSource die, 0x0E, 0, 2⟩ ∧ t = { s with pads := t.pads, flt := t.flt })

/-- R677, R679. -/
def Obligations.PackageResets : Prop :=
  ∀ s : State, s.settled → s.boot.fuseBusy = none → s.boot.nvmBusy = none →
    (∀ good : BitVec 22, ∃ t, exec (.powerOn good) s = .next t ∧ t.pads = ⟨good, false, 0, 0, none⟩ ∧
      t.boot.step = (if good = allRails ∧ s.clk.good.getLsbD 0 = true ∧ s.clk.good.getLsbD 2 = true then 2 else 1) ∧
      t.boot = { Boot.reset with
        step := t.boot.step, fuses := s.boot.fuses, unit := s.boot.unit, kreg := s.boot.kreg, nvm := s.boot.nvm
        releasedAt := s.ticks } ∧
      t.clk = { Clk.reset with good := s.clk.good } ∧ t.regs = unitRegs s.boot.unit ∧
      (∀ n < 4, t.pod n = { Pod.reset with sense := (s.pod n).sense }) ∧
      t = { State.reset with
        pending := s.pending, ticks := s.ticks, fresh := s.fresh, out := s.out, regs := t.regs, boot := t.boot
        clk := t.clk, pads := t.pads, pods := t.pods, shell := { s.shell with ofs := s.shell.ofs + s.now }
        hsk := { Hsk.reset with latAsym := s.hsk.latAsym, latNom := s.hsk.latNom } }) ∧
    (∀ w : Nat, 1000 ≤ w → ∃ t, exec (.resetNAssert w) s = .next t ∧
      t.pads = { s.pads with tripped := 0, inReset := true } ∧
      t.boot = { Boot.reset with
        step := 2, fuses := s.boot.fuses, unit := s.boot.unit, kreg := s.boot.kreg, nvm := s.boot.nvm
        releasedAt := s.ticks } ∧
      t.clk = { Clk.reset with good := s.clk.good } ∧ t.regs = unitRegs s.boot.unit ∧
      t = { State.reset with
        pending := s.pending, ticks := s.ticks, fresh := s.fresh, out := s.out, regs := t.regs, boot := t.boot
        clk := t.clk, pads := t.pads, pods := t.pods, shell := { s.shell with ofs := s.shell.ofs + s.now }
        hsk := { Hsk.reset with latAsym := s.hsk.latAsym, latNom := s.hsk.latNom } }) ∧
    (∀ w : Nat, w < 100 → exec (.resetNAssert w) s = .next s) ∧
    (∀ w : Nat, 100 ≤ w → w < 1000 → ∃ t, exec (.resetNAssert w) s = .next t ∧
      (t = { s with fresh := s.fresh + 1 } ∨ (t.boot.step = 2 ∧ t.pads.inReset = true)))

/-- R548, R552, R565. -/
def Obligations.ResetRelease : Prop :=
  ∀ s : State, s.settled → (s.boot.step = 2 ∨ s.boot.step = 3) → s.boot.halted = false → s.pads.railGood = allRails →
    (∀ f h v : Bool, ¬ (f = true ∧ h = true ∧ v = true) → ∃ t, exec (.resetRelease f h v) s = .next t ∧
      t.boot.halted = true ∧ t.boot.failCode = (if f = false then 1 else if h = false then 2 else 3) ∧
      t.pads = { s.pads with inReset := false } ∧ s.took t Reg.BOOT_STATUS [1] ∧ s.regsKept t [Reg.BOOT_STATUS] ∧
      s.cntsKept t [] ∧ t = { s.noted t with boot := t.boot, pads := t.pads }) ∧
    (∀ c0 c1 : Nat, s.imageCheck (s.stageImage false) = some c0 → s.imageCheck (s.stageImage true) = some c1 →
      ∃ t, exec (.resetRelease true true true) s = .next t ∧ t.boot.halted = true ∧ t.boot.failCode = c1 ∧
        t.boot.step = stepOfCode c1 ∧ t.boot.fallback = true ∧ t.boot.slot = true ∧ t.boot.nvm = s.boot.nvm ∧
        s.took t Reg.BOOT_STATUS [1, 2] ∧ s.regsKept t [Reg.BOOT_STATUS] ∧ s.cntsKept t [] ∧
        t = { s.noted t with boot := t.boot, pads := t.pads }) ∧
    (∀ img : List Byte, img = s.stageImage false → s.imageCheck img = none → imgRecords img = some [] →
      (sectionsOf img).filter (fun x => x.type = 2) = [] → imgNat img 24 4 = 0 →
      (∀ n < 4, (s.pod n).calSprout = false) →
      ∃ t, exec (.resetRelease true true true) s = .next t ∧ t.boot.halted = false ∧ t.boot.failCode = 0 ∧
        t.boot.step = 9 ∧ t.boot.slot = false ∧ t.boot.sprout = false ∧ t.boot.schedule = scheduleOf img ∧
        t.reg Reg.BOOT_BUILD_LO = BitVec.ofNat 32 (imgNat img 16 4) ∧
        t.reg Reg.BOOT_BUILD_HI = BitVec.ofNat 32 (imgNat img 20 4) ∧ t.rbit Reg.BOOT_STATUS 0 = true)

/-- R699, R700. -/
def Obligations.TapInstructions : Prop :=
  ∀ s : State, s.settled →
    (∀ p ∈ [(Instr.extest, TapInstr.extest), (.samplePreload, .samplePreload), (.clamp, .clamp), (.highz, .highz),
        (.extestPulse, .extestPulse), (.extestTrain, .extestTrain), (.bypass 0xFF, .bypass), (.bypass 0x03, .clamp)],
      ∃ t, exec p.1 s = .next t ∧ t.pads.tap = some p.2 ∧ (∀ n, t.killLow n = true) ∧
        (s.quiet → t = { s with pads := { s.pads with tap := some p.2 } })) ∧
    (∃ t, exec .idcode s = .next t ∧ t.pads.tap = some .idcode ∧ (∀ n, t.killLow n = true) ∧
      (s.quiet → t = { s with pads := { s.pads with tap := some .idcode }, out := Out.tdo 0x1640004F :: s.out })) ∧
    (∀ op : Byte, tapOpcode op.toNat = none → 3 < s.boot.step →
      ∃ t, exec (.bypass op) s = .next t ∧ t.pads.tap = some .bypass ∧ (∀ n, t.killLow n = true) ∧
        (s.quiet → t = { s with pads := { s.pads with tap := some .bypass } }))

/-- The clock monitors' and the root's own commands (R629, R632, R643, R645, R647), on every state between commands.
ROOT_QUALIFY of the root channel makes DS the source; DS_LOCK and DS_LOCK_LOSS move DS_LOCK; DS_RANGE takes the
qualification away; FREQ_DONE loads CLK_FREQ; RESYNC_DONE ends a handshake, and a region waiting for it alone leaves
reset; RESYNC_TIMEOUT reports and starts the handshake again; CLK_FREQ_SEL starts a measurement and CLK_TEST forces
the reference. -/
def Obligations.ClockCommands : Prop :=
  ∀ s : State, s.settled →
    (∀ ch : Chan, s.chooseRootCh = some ch.val → s.mayQualify ch = true → s.clk.forceRef = false →
      s.ntm.state ≠ .holdover →
      ∃ t, exec (.rootQualify ch) s = .next t ∧ t.clk.rootCh = some ch.val ∧ t.clk.qualified.getLsbD ch = true ∧
        t.clk.source = .ds ∧ t = { s.noted t with clk := t.clk, fresh := t.fresh } ∧
        s.regsKept t [Reg.CLK_STATUS] ∧ s.cntsKept t [Reg.CLK_CNT_SRC_CHG, Reg.CLK_CNT_DS_LOSS]) ∧
    (∀ p : Int, s.clk.source = .ds → s.clk.dsLock = false → p.natAbs ≤ 1024 →
      ∃ t, exec (.dsLock p) s = .next t ∧ t.clk = { s.clk with dsLock := true, phaseErr := p } ∧
        s.took t Reg.CLK_STATUS [1] ∧ t = { s.noted t with clk := t.clk } ∧
        s.regsKept t [Reg.CLK_STATUS] ∧ s.cntsKept t []) ∧
    (∀ p : Int, s.clk.source = .ds → s.clk.dsLock = true → 4096 < p.natAbs →
      ∃ t, exec (.dsLockLoss p) s = .next t ∧ t.clk = { s.clk with dsLock := false, phaseErr := p } ∧
        s.took t Reg.CLK_STATUS [1] ∧ t = { s.noted t with clk := t.clk } ∧
        s.regsKept t [Reg.CLK_STATUS] ∧ s.cntsKept t []) ∧
    (∀ n : Chan, s.chooseRootCh = some n.val → s.clk.rootCh = some n.val → s.clk.forceRef = false →
      s.ntm.state ≠ .holdover →
      ∃ t, exec .dsRange s = .next t ∧ t.clk.qualified.getLsbD n = false ∧
        t.clk.source = (if s.clk.dsUsed then .hold else .ref) ∧ t.rbit Reg.CLK_STATUS 2 = true ∧
        t = { s.noted t with clk := t.clk, fresh := t.fresh } ∧
        s.regsKept t [Reg.CLK_STATUS] ∧ s.cntsKept t [Reg.CLK_CNT_SRC_CHG, Reg.CLK_CNT_DS_LOSS]) ∧
    (∀ p : Int, s.clk.freqBusy = true →
      ∃ t, exec (.freqDone p) s = .next t ∧ t.clk = { s.clk with freqBusy := false } ∧
        t.fld Reg.CLK_FREQ 30 0 = (p % 2 ^ 31).toNat ∧ t.rbit Reg.CLK_FREQ 31 = true ∧
        s.took t Reg.CLK_STATUS [7] ∧ t = { s.noted t with clk := t.clk } ∧
        s.regsKept t [Reg.CLK_STATUS, Reg.CLK_FREQ] ∧ s.cntsKept t []) ∧
    (∀ x : Fin 82,
      ∃ t, exec (.resyncDone x) s = .next t ∧ (t.crossing x).resyncing = false ∧
        (∀ y, y ≠ x.val → t.crossing y = s.crossing y) ∧
        t.flt.resetting = (s.flt.resetting.map (fun r => { r with crossings := r.crossings.filter (· ≠ x.val) })).filter
          (fun r => !r.crossings.isEmpty) ∧
        t = { s.noted t with
          clk := t.clk, flt := { s.flt with resetting := t.flt.resetting }, ntm := t.ntm, fresh := t.fresh } ∧
        s.regsKept t rootRegs ∧ s.cntsKept t rootCnts) ∧
    (∀ x : Fin 82, (s.crossing x).resyncing = true →
      ∃ t, exec (.resyncTimeout x) s = .next t ∧ (t.crossing x).resyncing = true ∧
        (t.crossing x).ovrFlag = false ∧ t.fld Reg.CLK_X_LAST 15 8 = x.val ∧
        t.flt.offered = offerMsg s.flt.offered ⟨0x20000, 0x05, BitVec.ofNat 40 x.val, 0⟩ ∧
        t.cnt Reg.CLK_CNT_RESYNC_TO = s.cnt Reg.CLK_CNT_RESYNC_TO + 1 ∧
        s.took t Reg.CLK_STATUS (6 :: (s.halfAt Reg.CLK_CNT_RESYNC_TO ++ s.halfAt Reg.CLK_CNT_RESYNC)) ∧
        t = { s.noted t with clk := t.clk, flt := t.flt } ∧
        s.regsKept t [Reg.CLK_STATUS, Reg.CLK_X_LAST] ∧
        s.cntsKept t [Reg.CLK_CNT_RESYNC_TO, Reg.CLK_CNT_RESYNC]) ∧
    (∀ (ini : Nat) (v : Word), s.mayAccess ini 2 →
      ∃ t, exec (.freqMeasure ini v) s = .next t ∧ t.clk = { s.clk with freqBusy := true } ∧
        t.reg Reg.CLK_FREQ_SEL = s.merged Reg.CLK_FREQ_SEL v ∧ t.rbit Reg.CLK_FREQ 31 = false ∧
        t = { s.accessed t with clk := t.clk } ∧ s.served t ini [Reg.CLK_FREQ_SEL, Reg.CLK_FREQ] []) ∧
    (∀ (ini : Nat) (v : Word), s.mayAccess ini 2 → s.armedFor 2 ini →
      ∃ t, exec (.forceRefWrite ini v) s = .next t ∧ t.clk.forceRef = v.getLsbD 0 ∧
        (v.getLsbD 0 = true → t.clk.source = .ref) ∧ t.guardOf 2 = none ∧
        t = { s.accessed t with clk := t.clk, fresh := t.fresh, guards := t.guards } ∧
        s.served t ini [Reg.CLK_STATUS] [Reg.CLK_CNT_SRC_CHG, Reg.CLK_CNT_DS_LOSS])

/-- R142, R143. -/
def Obligations.PodCalibration : Prop :=
  ∀ (s : State) (ch : Chan), s.settled →
    (∀ (ini : Nat) (v : Word), s.mayAccess ini (17 + ch.val) → s.alone → v.getLsbD 0 = true → (s.pod ch).calBusy = false →
      s.quiet → (s.ubtCh ch).bursts = [] →
      ∃ t, exec (.cal ini ch v) s = .next t ∧ (t.pod ch).calBusy = true ∧ (t.pod ch).decoding = [] ∧
        (t.pod ch).current = none ∧ (t.pod ch).predicted = none ∧ (t.pod ch).calPass = (s.pod ch).calPass ∧
        (∀ c < 15, t.reg (Reg.POD_REPAIR_EQL ch c) = 0) ∧ (∀ c < 2, t.reg (Reg.POD_REPAIR_LDP ch c) = 0) ∧
        (∀ m, m ≠ ch.val → t.pod m = s.pod m) ∧
        t = { s.accessed t with pods := t.pods, ntm := t.ntm, clk := t.clk, fresh := t.fresh } ∧
        s.served t ini (Reg.POD_RX_STATUS ch :: (rootRegs ++ (List.range 15).map (Reg.POD_REPAIR_EQL ch) ++
          (List.range 2).map (Reg.POD_REPAIR_LDP ch))) rootCnts) ∧
    (∀ (ini : Nat) (v : Word), s.mayAccess ini (17 + ch.val) → s.alone → (s.pod ch).calBusy = true →
      ∃ t, exec (.cal ini ch v) s = .next t ∧ t = s.accessed t ∧ s.served t ini [] []) ∧
    (∀ r : CalReport, (s.pod ch).calBusy = true → s.inReset ch 9 = false → (s.pod ch).restarting = false →
      (s.pod ch).calSprout = false →
      ∃ t, exec (.calDone ch r) s = .next t ∧ t.pod ch = { s.pod ch with calBusy := false, calPass := r.pass } ∧
        t.fld (Reg.POD_CAL_STATUS ch) 1 1 = b2n r.pass ∧ t.fld (Reg.POD_CAL_STATUS ch) 11 8 = r.failStep.toNat ∧
        t.fld (Reg.POD_CAL_STATUS ch) 31 16 = r.ms.toNat ∧ t.fld (Reg.POD_LAT ch) 15 0 = r.markDelay.toNat ∧
        t.fld (Reg.POD_LAT ch) 31 16 = r.cwLatency.toNat ∧ t.fld (Reg.POD_TX_LAT ch) 15 0 = r.dacDelay.toNat ∧
        t.fld (Reg.POD_TX_LAT ch) 31 16 = r.pipeLatency.toNat ∧
        t.rbit (Reg.POD_RX_STATUS ch) (if r.pass then 6 else 7) = true ∧ (∀ m, m ≠ ch.val → t.pod m = s.pod m) ∧
        t = { s.noted t with pods := t.pods, ntm := t.ntm, clk := t.clk, fresh := t.fresh } ∧
        s.regsKept t ([Reg.POD_RX_STATUS ch, Reg.POD_CAL_STATUS ch, Reg.POD_LAT ch, Reg.POD_TX_LAT ch] ++ rootRegs ++
          (List.range 15).map (Reg.POD_REPAIR_EQL ch) ++ (List.range 2).map (Reg.POD_REPAIR_LDP ch)) ∧
        s.cntsKept t rootCnts)

/-- R90 to R98, R101. -/
def Obligations.PodGainAndDispersion : Prop :=
  ∀ (s : State) (ch : Chan), s.settled →
    (∀ v : Int, -2000 ≤ v → v ≤ 2000 → (s.pod ch).scanning = true → (s.pod ch).current = none →
      ∃ t, exec (.cdcDone ch (some v)) s = .next t ∧
        t.pod ch = { s.pod ch with scanning := false, cdcNext := none } ∧
        t.fld (Reg.POD_CDC_VALUE ch) 15 0 = (v % 65536).toNat ∧ t.fld (Reg.POD_CDC_VALUE ch) 17 16 = 1 ∧
        s.took t (Reg.POD_RX_STATUS ch) [4] ∧ (∀ m, m ≠ ch.val → t.pod m = s.pod m) ∧
        t = { s.noted t with pods := t.pods } ∧
        s.regsKept t [Reg.POD_RX_STATUS ch, Reg.POD_CDC_VALUE ch] ∧ s.cntsKept t []) ∧
    ((s.pod ch).scanning = true → ∃ t, exec (.cdcDone ch none) s = .next t ∧ s.took t (Reg.POD_RX_STATUS ch) [5] ∧
      t = s.noted t ∧ s.regsKept t [Reg.POD_RX_STATUS ch] ∧ s.cntsKept t []) ∧
    (∀ r : AdcReport, (s.pod ch).missRun = 64 ∨ (s.pod ch).predicted = none →
      ∃ t, exec (.agcHuntUpdate ch r) s = .next t ∧
        (∀ k < 4, t.fld (Reg.POD_AGC_RMS ch) (8 * k + 7) (8 * k) = (r.rms.getD k 0).toNat) ∧
        (∀ k < 4, t.reg (Reg.POD_CLIP ch k) = s.reg (Reg.POD_CLIP ch k) + BitVec.ofNat 32 (r.clips.getD k 0)) ∧
        (t.pod ch).dacOut.toNat = t.fld (Reg.POD_AGC_DAC ch) 9 0 ∧
        (s.rbit (Reg.POD_AGC_CTRL ch) 13 = true → t.reg (Reg.POD_AGC_DAC ch) = s.reg (Reg.POD_AGC_DAC ch)) ∧
        (∀ m, m ≠ ch.val → t.pod m = s.pod m) ∧ t = { s.noted t with pods := t.pods, fresh := t.fresh } ∧
        s.regsKept t (Reg.POD_AGC_RMS ch :: Reg.POD_AGC_DAC ch :: (List.range 4).map (Reg.POD_CLIP ch)) ∧
        s.cntsKept t []) ∧
    (∀ (r : AdcReport) (noise : BitVec 16) (p : Nat) (b : Block), (s.pod ch).predicted = some p →
      (s.pod ch).current = some b → (s.pod ch).cdcNext = none →
      ∃ t, exec (.gainRelease ch r noise) s = .next t ∧ (t.pod ch).current = none ∧ (t.pod ch).acquiring = true ∧
        (t.pod ch).predicted = some p ∧ (t.pod ch).decoding = (s.pod ch).decoding ∧
        t.fld (Reg.POD_NOISE_VAR ch) 15 0 = noise.toNat ∧
        (∀ k < 4, t.fld (Reg.POD_AGC_RMS ch) (8 * k + 7) (8 * k) = (r.rms.getD k 0).toNat) ∧
        (∀ m, m ≠ ch.val → t.pod m = s.pod m) ∧ t = { s.later t with pods := t.pods, fresh := t.fresh } ∧
        s.regsKept t (Reg.POD_RX_STATUS ch :: Reg.POD_NOISE_VAR ch :: Reg.POD_AGC_RMS ch :: Reg.POD_AGC_DAC ch ::
          (List.range 4).map (Reg.POD_CLIP ch)) ∧ s.cntsKept t [])

/-- R99, R103, R127, R137, R140. -/
def Obligations.PodBlocks : Prop :=
  ∀ (s : State) (ch : Chan), s.settled →
    (∀ (metric pos : Nat) (power : Int) (gain : BitVec 10) (ci : BitVec 6) (cf : BitVec 16),
      s.podReceives ch = true → (s.pod ch).current = none → s.fld (Reg.POD_PRE_CTRL ch) 7 0 ≤ metric →
      ∃ (t : State) (b : Block), exec (.detection ch metric pos power gain ci cf) s = .next t ∧
        t.pod ch = { s.pod ch with
          decoding := (s.pod ch).decoding ++ [b], current := some b, predicted := some (pos + blockPips)
          acquiring := false, missRun := 0 } ∧
        b.start = pos ∧ b.mark = pos - s.fld (Reg.POD_LAT ch) 15 0 ∧ b.marked = false ∧ b.power = power ∧
        b.limit = s.iterEff ch ∧ b.cutAt = none ∧ b.nextCw = 0 ∧
        t.fld (Reg.POD_FGL_GAIN ch) 9 0 = gain.toNat ∧ t.fld (Reg.POD_CFO_STATUS ch) 5 0 = ci.toNat ∧
        t.fld (Reg.POD_CFO_STATUS ch) 31 16 = cf.toNat ∧
        t.cnt (Reg.POD_CNT_BLOCKS ch) = s.cnt (Reg.POD_CNT_BLOCKS ch) + 1 ∧
        (∀ m, m ≠ ch.val → t.pod m = s.pod m) ∧ t = { s.later t with pods := t.pods } ∧
        s.regsKept t [Reg.POD_RX_STATUS ch, Reg.POD_FGL_GAIN ch, Reg.POD_CFO_STATUS ch] ∧
        s.cntsKept t [Reg.POD_CNT_BLOCKS ch, Reg.POD_CNT_LIMIT_CUT ch]) ∧
    (∀ (metric pos : Nat) (power : Int) (gain : BitVec 10) (ci : BitVec 6) (cf : BitVec 16),
      metric < s.fld (Reg.POD_PRE_CTRL ch) 7 0 →
      ∃ t, exec (.detection ch metric pos power gain ci cf) s = .next t ∧ t = s.later t ∧ s.regsKept t [] ∧ s.cntsKept t []) ∧
    (∀ p : Nat, (s.pod ch).predicted = some p → (s.pod ch).current = none →
      ∃ t, exec (.blockLost ch) s = .next t ∧
        t.pod ch = { s.pod ch with
          predicted := some (p + blockPips), missRun := min ((s.pod ch).missRun + 1) 64, acquiring := true } ∧
        (t.chan ch).noMark = (s.chan ch).noMark + 1 ∧ (t.chan ch).markRun = 0 ∧
        t.cnt (Reg.POD_CNT_BLK_LOST ch) = s.cnt (Reg.POD_CNT_BLK_LOST ch) + 1 ∧
        s.took t (Reg.POD_RX_STATUS ch) (0 :: s.halfAt (Reg.POD_CNT_BLK_LOST ch)) ∧
        (∀ m, m ≠ ch.val → t.pod m = s.pod m ∧ t.chan m = s.chan m) ∧
        t = { s.later t with pods := t.pods, dsf := { s.dsf with chans := t.dsf.chans } } ∧
        s.regsKept t [Reg.POD_RX_STATUS ch] ∧ s.cntsKept t [Reg.POD_CNT_BLK_LOST ch]) ∧
    (∀ (b : Block) (rest : List Block) (final input : List Byte) (iter : Nat) (d : Option (Fin 32)),
      (s.pod ch).decoding = b :: rest → b.marked = true → b.cBits = 0 → b.nextCw < 495 → s.rxRegionReset ch = false →
      s.chEnabled ch = false → rest.all (fun x => x.start != b.start) = true →
      ∃ t, exec (.codewordDelivery ch final input iter d) s = .next t ∧
        (t.pod ch).decoding = { b with nextCw := b.nextCw + 1 } :: rest ∧
        t.cnt (Reg.POD_CNT_CW ch) = s.cnt (Reg.POD_CNT_CW ch) + 1 ∧
        t.cnt (Reg.POD_CNT_CW_ABAND ch) = s.cnt (Reg.POD_CNT_CW_ABAND ch) + 1 ∧
        t.cnt (Reg.POD_CNT_CW_CLEAN ch) = s.cnt (Reg.POD_CNT_CW_CLEAN ch) ∧ (∀ m, m ≠ ch.val → t.pod m = s.pod m) ∧
        t = { s.later t with pods := t.pods, ntm := t.ntm, clk := t.clk, fresh := t.fresh } ∧
        s.regsKept t (Reg.POD_RX_STATUS ch :: rootRegs) ∧
        s.cntsKept t ([Reg.POD_CNT_CW ch, Reg.POD_CNT_CW_ABAND ch] ++ rootCnts))

/-- R133 to R141: the four kinds of a codeword. -/
def Obligations.CodewordKinds : Prop :=
  ∀ (s : State) (ch : Chan) (b : Block) (rest : List Block) (final input : List Byte) (iter : Nat) (d : Fin 32),
    s.settled → (s.pod ch).decoding = b :: rest → b.marked = true → b.cBits ≠ 0 → b.nextCw + 1 < b.total →
    b.cutAt = none → (s.pod ch).loops = [] → s.rxRegionReset ch = false → s.chEnabled ch = false →
    s.decoderIsolated ch d = false → s.rbit (Reg.POD_LDPC_CTRL ch) 16 = true →
    ∃ t, exec (.codewordDelivery ch final input iter (some d)) s = .next t ∧
      t.cnt (Reg.POD_CNT_CW ch) = s.cnt (Reg.POD_CNT_CW ch) + 1 ∧
      t.cnt (Reg.POD_CNT_CW_ABAND ch) = s.cnt (Reg.POD_CNT_CW_ABAND ch) ∧
      (Line.parityDown input = true → t.cnt (Reg.POD_CNT_CW_CLEAN ch) = s.cnt (Reg.POD_CNT_CW_CLEAN ch) + 1 ∧
        t.cnt (Reg.POD_CNT_ITERS ch) = s.cnt (Reg.POD_CNT_ITERS ch)) ∧
      (Line.parityDown input = false → Line.parityDown final = true → 1 ≤ iter → iter ≤ b.limit →
        t.cnt (Reg.POD_CNT_CW_CORR ch) = s.cnt (Reg.POD_CNT_CW_CORR ch) + 1 ∧
        t.cnt (Reg.POD_CNT_CORR_BITS ch) = s.cnt (Reg.POD_CNT_CORR_BITS ch) + BitVec.ofNat 48 (Line.distance final input) ∧
        t.cnt (Reg.POD_CNT_ITERS ch) = s.cnt (Reg.POD_CNT_ITERS ch) + BitVec.ofNat 48 iter) ∧
      (Line.parityDown input = false → Line.parityDown final = false →
        t.cnt (Reg.POD_CNT_CW_UNCOR ch) = s.cnt (Reg.POD_CNT_CW_UNCOR ch) + 1 ∧
        t.cnt (Reg.POD_CNT_CW_CLEAN ch) = s.cnt (Reg.POD_CNT_CW_CLEAN ch)) ∧
      t = { s.later t with pods := t.pods, ntm := t.ntm, clk := t.clk, fresh := t.fresh } ∧
      s.regsKept t (Reg.POD_RX_STATUS ch :: rootRegs) ∧
      s.cntsKept t ([Reg.POD_CNT_CW ch, Reg.POD_CNT_ITERS ch, Reg.POD_CNT_CW_CLEAN ch, Reg.POD_CNT_CW_CORR ch,
        Reg.POD_CNT_CORR_BITS ch, Reg.POD_CNT_CW_UNCOR ch, Reg.POD_CNT_UNC_TX0 ch, Reg.POD_CNT_UNC_TX1 ch] ++ rootCnts)

/-- R125, R126, R286, R287. -/
def Obligations.Profiles : Prop :=
  ∀ (s : State) (ch : Chan), s.settled →
    (∀ (ini : Nat) (v : Word) (tx : Bool) (i : Nat), s.mayAccess ini (17 + ch.val) → s.alone → v.getLsbD 0 = true →
      i = s.fld (if tx then Reg.POD_TXPROF_SEL ch else Reg.POD_PROF_SEL ch) 2 0 →
      ∃ t, exec (if tx then .txprofArm ini ch v else .profArm ini ch v) s = .next t ∧
        ((i ≠ 0 ∧ profValid ((s.pod ch).prof tx i).staging = true) →
          ((t.pod ch).prof tx i).pending = some ⟨((s.pod ch).prof tx i).staging,
            BitVec.ofNat 16 (s.fld (if tx then Reg.POD_TXPROF_MF ch else Reg.POD_PROF_MF ch) 15 0),
            (s.chan ch).lastHdr.map (fun h => dueOf h
              (BitVec.ofNat 16 (s.fld (if tx then Reg.POD_TXPROF_MF ch else Reg.POD_PROF_MF ch) 15 0)))⟩ ∧
          ((t.pod ch).prof tx i).active = ((s.pod ch).prof tx i).active ∧
          (∀ j, j ≠ i → (t.pod ch).prof tx j = (s.pod ch).prof tx j) ∧
          (∀ j, (t.pod ch).prof (!tx) j = (s.pod ch).prof (!tx) j) ∧
          t = { s.accessed t with pods := t.pods } ∧ s.served t ini [] []) ∧
        (¬ (i ≠ 0 ∧ profValid ((s.pod ch).prof tx i).staging = true) →
          (if tx then t.rbit (Reg.POD_TX_STATUS ch) 4 else t.rbit (Reg.POD_RX_STATUS ch) 11) = true ∧
          t = s.accessed t ∧ s.served t ini [if tx then Reg.POD_TX_STATUS ch else Reg.POD_RX_STATUS ch] [])) ∧
    (∀ (tx : Bool) (i : Fin 8) (p : PendingProf) (d : Nat), s.mfSync ch = true → ((s.pod ch).prof tx i).pending = some p →
      p.due = some d →
      ∃ t, exec (.profileActivate ch tx i) s = .next t ∧
        (t.pod ch).prof tx i = { (s.pod ch).prof tx i with active := some p.words, pending := none } ∧
        (∀ j, j ≠ i.val → (t.pod ch).prof tx j = (s.pod ch).prof tx j) ∧
        (∀ j, (t.pod ch).prof (!tx) j = (s.pod ch).prof (!tx) j) ∧ (∀ m, m ≠ ch.val → t.pod m = s.pod m) ∧
        t = { s.later t with pods := t.pods } ∧ s.regsKept t [] ∧ s.cntsKept t [])

/-- R93, R149, R157, R163. -/
def Obligations.ChannelDefects : Prop :=
  ∀ (s : State) (ch : Chan), s.settled →
    (∀ b : Block, (s.pod ch).unmarked = some b → s.chEnabled ch = false →
      ∃ t, exec (.blockMark ch) s = .next t ∧
        t.pod ch = (s.pod ch).modBlock b.start (fun x => { x with marked := true, cBits := 28672 }) ∧
        t.cnt (Reg.POD_CNT_BLK_TX0 ch) = s.cnt (Reg.POD_CNT_BLK_TX0 ch) + 1 ∧ (∀ m, m ≠ ch.val → t.pod m = s.pod m) ∧
        t = { s.later t with pods := t.pods } ∧ s.regsKept t [Reg.POD_RX_STATUS ch] ∧
        s.cntsKept t [Reg.POD_CNT_BLK_TX0 ch]) ∧
    (∀ b : Block, (s.pod ch).unmarked = some b → s.chEnabled ch = true → (s.chan ch).asleep = false →
      (s.chan ch).fa = .hunt → (s.chan ch).lastMark = none → (s.chan ch).defects.getLsbD 1 = false →
      ∃ t, exec (.blockMark ch) s = .next t ∧
        t.chan ch = { s.chan ch with
          blockCount := (s.chan ch).blockCount + 1, skipRest := false, lastMark := some b.mark, noMark := 0
          markRun := (s.chan ch).markRun + 1, lastTx := false } ∧
        t.pod ch = (s.pod ch).modBlock b.start (fun x => { x with
          marked := true, slip := false, tx := false, cBits := 28672, number := (s.chan ch).blockCount + 1 }) ∧
        t.cnt (Reg.POD_CNT_BLK_TX0 ch) = s.cnt (Reg.POD_CNT_BLK_TX0 ch) + 1 ∧
        (∀ m, m ≠ ch.val → t.pod m = s.pod m ∧ t.chan m = s.chan m) ∧
        t = { s.later t with
          pods := t.pods, dsf := { s.dsf with chans := t.dsf.chans }, ntm := t.ntm, clk := t.clk, fresh := t.fresh } ∧
        s.regsKept t (Reg.POD_RX_STATUS ch :: rootRegs) ∧ s.cntsKept t (Reg.POD_CNT_BLK_TX0 ch :: rootCnts)) ∧
    (s.chEnabled ch = true → (s.chan ch).asleep = false → (s.chan ch).fa ≠ .sync → (s.chan ch).defects.getLsbD 0 = false →
      (s.chan ch).defects.getLsbD 1 = false →
      ∃ t, exec (.lobDeclare ch) s = .next t ∧ (t.chan ch).fa = .hunt ∧
        (∀ d < 7, (t.chan ch).defects.getLsbD d = (d == 1 || (d == 6 && (s.chan ch).defects.getLsbD 6))) ∧
        (t.chan ch).markRun = 0 ∧ t.rbit (Reg.DSF_CHn_EVENT ch) 1 = true ∧
        (∀ m, m ≠ ch.val → t.chan m = s.chan m) ∧
        t = { s.later t with
          dsf := { s.dsf with chans := t.dsf.chans }, ntm := t.ntm, clk := t.clk, fresh := t.fresh } ∧
        s.regsKept t (Reg.DSF_CHn_EVENT ch :: rootRegs) ∧ s.cntsKept t rootCnts) ∧
    (s.chEnabled ch = true → (s.chan ch).asleep = false → (s.chan ch).fa ≠ .sync → (s.chan ch).defects.getLsbD 0 = false →
      (s.pod ch).losInd = false →
      ∃ t, exec (.losIndication ch true) s = .next t ∧ t.pod ch = { s.pod ch with losInd := true } ∧
        (∀ d < 7, (t.chan ch).defects.getLsbD d = (d == 0 || (d == 6 && (s.chan ch).defects.getLsbD 6))) ∧
        s.took t (Reg.POD_RX_STATUS ch) [2] ∧ t.rbit (Reg.DSF_CHn_EVENT ch) 0 = true ∧
        (∀ m, m ≠ ch.val → t.chan m = s.chan m ∧ t.pod m = s.pod m) ∧
        t = { s.noted t with
          pods := t.pods, dsf := { s.dsf with chans := t.dsf.chans }, ntm := t.ntm, clk := t.clk, fresh := t.fresh } ∧
        s.regsKept t (Reg.POD_RX_STATUS ch :: Reg.DSF_CHn_EVENT ch :: rootRegs) ∧ s.cntsKept t rootCnts) ∧
    ((s.chan ch).defects.getLsbD 0 = true → (s.pod ch).losInd = true →
      ∃ t, exec (.losIndication ch false) s = .next t ∧ t.pod ch = { s.pod ch with losInd := false } ∧
        (t.chan ch).defects.getLsbD 0 = false ∧ s.took t (Reg.POD_RX_STATUS ch) [2] ∧
        t.rbit (Reg.DSF_CHn_EVENT ch) 7 = true ∧ (∀ m, m ≠ ch.val → t.chan m = s.chan m ∧ t.pod m = s.pod m) ∧
        t = { s.noted t with
          pods := t.pods, dsf := { s.dsf with chans := t.dsf.chans }, ntm := t.ntm, clk := t.clk, fresh := t.fresh } ∧
        s.regsKept t (Reg.POD_RX_STATUS ch :: Reg.DSF_CHn_EVENT ch :: rootRegs) ∧ s.cntsKept t rootCnts)

/-- R157 to R161. -/
def Obligations.DefectWindows : Prop :=
  ∀ (s : State) (ch : Chan), s.settled → s.chEnabled ch = true → (s.chan ch).asleep = false →
    (∀ d < 3, (s.chan ch).defects.getLsbD d = false) →
    (∀ w : Window, (s.chan ch).deg = w → w.active = true → w.masked = false → w.total ≠ 0 →
      ∃ t, exec (.degWindowEnd ch) s = .next t ∧
        ((if s.fld Reg.DSF_DEG_CTRL 5 4 = 0 then min (s.fld Reg.DSF_DEG_CTRL 3 0) 1 else s.fld Reg.DSF_DEG_CTRL 3 0) *
            14336 * w.total < w.errors * 10 ^ (min (s.fld Reg.DSF_DEG_CTRL 5 4) 2 + 2) →
          (t.chan ch).defects.getLsbD 4 = true ∧
          ((s.chan ch).defects.getLsbD 4 = false → t.rbit (Reg.DSF_CHn_EVENT ch) 4 = true)) ∧
        (w.errors * 10 ^ (min (s.fld Reg.DSF_DEG_CTRL 5 4) 2 + 2) * 2 ^ s.fld Reg.DSF_DEG_CTRL 7 6 ≤
            (if s.fld Reg.DSF_DEG_CTRL 5 4 = 0 then min (s.fld Reg.DSF_DEG_CTRL 3 0) 1 else s.fld Reg.DSF_DEG_CTRL 3 0) *
              14336 * w.total → 1 ≤ w.clears → (t.chan ch).defects.getLsbD 4 = false) ∧
        (t.chan ch).deg.start = t.now ∧ (t.chan ch).deg.active = true ∧ (t.chan ch).deg.errors = 0 ∧
        (t.chan ch).deg.total = 0 ∧ (∀ m, m ≠ ch.val → t.chan m = s.chan m) ∧
        t = { s.later t with dsf := { s.dsf with chans := t.dsf.chans } } ∧
        s.regsKept t [Reg.DSF_CHn_EVENT ch] ∧ s.cntsKept t []) ∧
    (∀ w : Window, (s.chan ch).ffr = w → w.active = true → w.masked = false → w.total ≠ 0 →
      ∃ t, exec (.ffrWindowEnd ch) s = .next t ∧
        (s.fld Reg.DSF_FFR_CTRL 3 0 * w.total < w.errors * 10 ^ max (s.fld Reg.DSF_FFR_CTRL 7 4) 1 →
          (t.chan ch).defects.getLsbD 5 = true ∧
          ((s.chan ch).defects.getLsbD 5 = false → t.rbit (Reg.DSF_CHn_EVENT ch) 5 = true)) ∧
        (w.errors * 10 ^ max (s.fld Reg.DSF_FFR_CTRL 7 4) 1 * 2 ^ s.fld Reg.DSF_FFR_CTRL 9 8 ≤
            s.fld Reg.DSF_FFR_CTRL 3 0 * w.total → 1 ≤ w.clears →
          ¬ s.fld Reg.DSF_FFR_CTRL 3 0 * w.total < w.errors * 10 ^ max (s.fld Reg.DSF_FFR_CTRL 7 4) 1 →
          (t.chan ch).defects.getLsbD 5 = false) ∧
        (t.chan ch).ffr.start = t.now ∧ (t.chan ch).ffr.active = true ∧ (t.chan ch).ffr.errors = 0 ∧
        (t.chan ch).ffr.total = 0 ∧ (∀ m, m ≠ ch.val → t.chan m = s.chan m) ∧
        t = { s.later t with dsf := { s.dsf with chans := t.dsf.chans } } ∧
        s.regsKept t [Reg.DSF_CHn_EVENT ch] ∧ s.cntsKept t []) ∧
    ((s.chan ch).lok.active = true → s.lokLinks ch = [] →
      ∃ t, exec (.lokWindowEnd ch) s = .next t ∧ (t.chan ch).defects.getLsbD 6 = false ∧ (t.chan ch).lokFails = [] ∧
        (t.chan ch).lok.start = t.now ∧ (t.chan ch).lok.active = true ∧
        ((s.chan ch).defects.getLsbD 6 = true → t.rbit (Reg.DSF_CHn_EVENT ch) 13 = true) ∧
        (∀ m, m ≠ ch.val → t.chan m = s.chan m) ∧ t = { s.later t with dsf := { s.dsf with chans := t.dsf.chans } } ∧
        s.regsKept t [Reg.DSF_CHn_EVENT ch] ∧ s.cntsKept t [])

/-- R164 to R170. -/
def Obligations.PerformanceBins : Prop :=
  ∀ s : State, s.settled →
    (∃ t, exec .secondEnd s = .next t ∧
      (∀ n < 4, (t.chan n).secCw = 0 ∧ (t.chan n).secBad = 0 ∧ (t.chan n).secDefects = (s.chan n).defects) ∧
      (∀ n < 4, s.pmOn n = true → (s.chan n).unavailable = false → (s.chan n).run = [] →
        (s.chan n).defects.getLsbD 0 = true → (s.chan n).cur15.valid = true → (s.chan n).cur15.final = false →
        (s.chan n).cur15.start ≤ s.dsf.second → s.dsf.second < (s.chan n).cur15.start + 900 →
        (t.chan n).cur15.es = (s.chan n).cur15.es + 1 ∧ (t.chan n).cur15.ses = (s.chan n).cur15.ses + 1 ∧
        (t.chan n).cur15.uas = (s.chan n).cur15.uas) ∧
      t.dsf.second = t.now / pipsPerSec ∧
      t.ntm.holdElapsed = s.ntm.holdElapsed + (if s.ntm.state = .holdover then 1 else 0) ∧
      t = { s.later t with
        dsf := { s.dsf with chans := t.dsf.chans, second := t.dsf.second }
        ntm := { s.ntm with time := t.ntm.time, frac := t.ntm.frac, holdElapsed := t.ntm.holdElapsed } } ∧
      s.regsKept t [] ∧ s.cntsKept t []) ∧
    (∃ t, exec (.binEnd false) s = .next t ∧
      (∀ n < 4, (t.chan n).hist15 = ((s.chan n).cur15 :: (s.chan n).hist15).take 32 ∧
        (t.chan n).cur15.start = t.now / pipsPerSec / 900 * 900 ∧ (t.chan n).cur15.valid = true ∧
        (t.chan n).cur15.es = 0 ∧ (t.chan n).cur15.corr = 0 ∧
        t.chan n = { s.chan n with hist15 := (t.chan n).hist15, cur15 := (t.chan n).cur15 }) ∧
      t = { s.later t with dsf := { s.dsf with chans := t.dsf.chans } } ∧ s.regsKept t [] ∧ s.cntsKept t []) ∧
    (∃ t, exec (.binEnd true) s = .next t ∧
      (∀ n < 4, (t.chan n).hist24 = ((s.chan n).cur24 :: (s.chan n).hist24).take 2 ∧ (t.chan n).cur24.valid = true ∧
        (t.chan n).cur24.day = true ∧
        t.chan n = { s.chan n with hist24 := (t.chan n).hist24, cur24 := (t.chan n).cur24 }) ∧
      t = { s.later t with dsf := { s.dsf with chans := t.dsf.chans } } ∧ s.regsKept t [] ∧ s.cntsKept t []) ∧
    ((∀ n < 4, (s.chan n).hist15 ≠ []) → s.twn.link.up = false →
      ∃ t, exec (.binFinal false) s = .next t ∧
        (∀ n < 4, ∃ b r, (s.chan n).hist15 = b :: r ∧ t.chan n = { s.chan n with hist15 := { b with final := true } :: r }) ∧
        s.took t Reg.DSF_STATUS [0] ∧ t = { s.later t with dsf := { s.dsf with chans := t.dsf.chans } } ∧
        s.regsKept t [Reg.DSF_STATUS] ∧ s.cntsKept t []) ∧
    ((∀ n < 4, (s.chan n).hist24 ≠ []) → s.twn.link.up = false →
      ∃ t, exec (.binFinal true) s = .next t ∧
        (∀ n < 4, ∃ b r, (s.chan n).hist24 = b :: r ∧ t.chan n = { s.chan n with hist24 := { b with final := true } :: r }) ∧
        s.took t Reg.DSF_STATUS [1] ∧ t = { s.later t with dsf := { s.dsf with chans := t.dsf.chans } } ∧
        s.regsKept t [Reg.DSF_STATUS] ∧ s.cntsKept t []) ∧
    (∀ (ini : Nat) (v : Word), s.mayAccess ini 7 → s.alone → v.getLsbD 0 = true →
      ∃ t, exec (.pmSnap ini v) s = .next t ∧ t.dsf = { s.dsf with snap := some s.selectedBin, snapDone := true } ∧
        t = { s.accessed t with dsf := t.dsf } ∧ s.served t ini [] [])

/-- R55, R56, R155. -/
def Obligations.HeaderSpaces : Prop :=
  ∀ (s : State) (ch : Chan) (raw data : List Byte) (kinds : List Nat), s.settled → s.coreReset 3 = false →
    (s.chan ch).fa = .sync → (s.chan ch).hdrDone = false → data = raw.take 16 ++ Line.scramble (raw.drop 16) →
    (badBytes kinds 0 16 = true ∨ Crypto.crc16 (data.take 14) ≠ BitVec.ofNat 16 (Crypto.beNat (Crypto.slice data 14 2)) ∨
        Crypto.beNat (Crypto.slice data 13 1) % 4 ≠ ch.val ∨ 8000 ≤ Crypto.beNat (Crypto.slice data 8 2) % 8192 →
      ∃ t, exec (.headerSpace ch raw kinds) s = .next t ∧ t.chan ch = { s.chan ch with hdrDone := true } ∧
        t.cnt (Reg.DSF_CHn_CNT_HDR_DISC ch) = s.cnt (Reg.DSF_CHn_CNT_HDR_DISC ch) + 1 ∧
        (∀ m, m ≠ ch.val → t.chan m = s.chan m) ∧ t = { s.later t with dsf := { s.dsf with chans := t.dsf.chans } } ∧
        s.regsKept t [Reg.DSF_CHn_EVENT ch] ∧ s.cntsKept t [Reg.DSF_CHn_CNT_HDR_DISC ch]) ∧
    (badBytes kinds 0 16 = false → Crypto.crc16 (data.take 14) = BitVec.ofNat 16 (Crypto.beNat (Crypto.slice data 14 2)) →
      Crypto.beNat (Crypto.slice data 13 1) % 4 = ch.val → Crypto.beNat (Crypto.slice data 8 2) % 8192 < 8000 →
      (s.chan ch).mf = .hunt →
      ∃ (t : State) (h : FrameHdr), exec (.headerSpace ch raw kinds) s = .next t ∧
        h.frame = Crypto.beNat (Crypto.slice data 8 2) % 8192 ∧
        h.mf = BitVec.ofNat 16 (Crypto.beNat (Crypto.slice data 10 2)) ∧ h.mark = (s.chan ch).block0Mark ∧
        h.block = (s.chan ch).block0 ∧ h.tick = (s.chan ch).block0Tick ∧
        (t.chan ch).mf = .presync ∧ (t.chan ch).mfCand = some h ∧ (t.chan ch).lastHdr = some h ∧
        (t.chan ch).hdrDone = true ∧ (t.chan ch).fa = .sync ∧ (∀ m, m ≠ ch.val → t.chan m = s.chan m) ∧
        t.cnt (Reg.DSF_CHn_CNT_HDR_DISC ch) = s.cnt (Reg.DSF_CHn_CNT_HDR_DISC ch) ∧
        t = { s.later t with
          dsf := { s.dsf with chans := t.dsf.chans }, pods := t.pods, ntm := t.ntm, clk := t.clk, fresh := t.fresh
          out := t.out } ∧
        s.regsKept t (Reg.DSF_CHn_EVENT ch :: rootRegs) ∧
        s.cntsKept t ([Reg.DSF_CHn_CNT_MAP_LOST ch, Reg.DSF_CHn_CNT_CTRL_LOST ch, Reg.DSF_CHn_CNT_MSG_DISC ch] ++ rootCnts))

/-- R63, R178, R180. -/
def Obligations.DownstreamSegments : Prop :=
  ∀ s : State, s.settled → s.coreReset 3 = false →
    (∀ (ch : Chan) (hdr pay : List Byte) (bad : Bool) (left blk sym arr : Nat), (s.chan ch).fa = .sync →
      (s.chan ch).skipRest = false → Line.hcsOk hdr = true → bitsOf (Crypto.beNat hdr) 47 34 ≤ left →
      ∃ t, exec (.dsSegment ch hdr 0 pay bad left blk sym arr) s = .next t ∧
        (bitsOf (Crypto.beNat hdr) 63 48 = 0xFFFF →
          (t.chan ch).skipRest = true ∧ t = { s.later t with dsf := { s.dsf with chans := t.dsf.chans } } ∧
          s.regsKept t [] ∧ s.cntsKept t []) ∧
        (0xFFF0 ≤ bitsOf (Crypto.beNat hdr) 63 48 → bitsOf (Crypto.beNat hdr) 63 48 < 0xFFFF →
          t.cnt (Reg.DSF_CHn_CNT_SEG_RSVD ch) = s.cnt (Reg.DSF_CHn_CNT_SEG_RSVD ch) + 1 ∧ t = s.later t ∧
          s.regsKept t [Reg.DSF_CHn_EVENT ch] ∧ s.cntsKept t [Reg.DSF_CHn_CNT_SEG_RSVD ch]) ∧
        (bitsOf (Crypto.beNat hdr) 63 48 < 0xFFF0 → s.linkOf (BitVec.ofNat 16 (bitsOf (Crypto.beNat hdr) 63 48)) = none →
          t.cnt (Reg.DSF_CHn_CNT_SEG_FOREIGN ch) = s.cnt (Reg.DSF_CHn_CNT_SEG_FOREIGN ch) + 1 ∧ t = s.later t ∧
          s.regsKept t [Reg.DSF_CHn_EVENT ch] ∧ s.cntsKept t [Reg.DSF_CHn_CNT_SEG_FOREIGN ch]) ∧
        (∀ i, bitsOf (Crypto.beNat hdr) 63 48 < 0xFFF0 →
          s.linkOf (BitVec.ofNat 16 (bitsOf (Crypto.beNat hdr) 63 48)) = some i → bad = false →
          s.accepts (s.dlink i) ch = true → s.bonded (s.dlink i) = false → (s.dlink i).synced = true →
          (s.dlink i).next = BitVec.ofNat 12 (bitsOf (Crypto.beNat hdr) 31 20) → (s.dlink i).openStamp = none →
          (Crypto.beNat hdr).testBit 33 = true → (Crypto.beNat hdr).testBit 32 = true →
          (pay.take (bitsOf (Crypto.beNat hdr) 47 34)).length ≤ 16448 →
          t.dsf.frames = s.dsf.frames ++ [⟨i, pay.take (bitsOf (Crypto.beNat hdr) 47 34),
            (s.chan ch).block0Mark + blk * blockPips + sym * symbolPips⟩] ∧
          (t.dlink i).next = (s.dlink i).next + 1 ∧ (∀ j, j ≠ i → t.dlink j = s.dlink j) ∧
          t = { s.later t with dsf := { s.dsf with frames := t.dsf.frames, links := t.dsf.links } } ∧
          s.regsKept t [] ∧ s.cntsKept t [])) ∧
    (∀ (ch : Chan) (hdr pay : List Byte) (bad : Bool) (left blk sym arr : Nat), (s.chan ch).fa = .sync →
      (s.chan ch).skipRest = false → Line.hcsOk hdr = false →
      ∃ t, exec (.dsSegment ch hdr 0 pay bad left blk sym arr) s = .next t ∧ (t.chan ch).skipRest = true ∧
        t.cnt (Reg.DSF_CHn_CNT_SEG_HDR_ERR ch) = s.cnt (Reg.DSF_CHn_CNT_SEG_HDR_ERR ch) + 1 ∧
        t = { s.later t with dsf := { s.dsf with chans := t.dsf.chans } } ∧
        s.regsKept t [Reg.DSF_CHn_EVENT ch] ∧ s.cntsKept t [Reg.DSF_CHn_CNT_SEG_HDR_ERR ch]) ∧
    (∀ (link : Fin 4096) (e : Held), (s.dlink link).skewStore = [e] → (s.dlink link).synced = true →
      (s.dlink link).reorder = [] → 1 ≤ (e.seq - (s.dlink link).next).toNat → (e.seq - (s.dlink link).next).toNat < 2048 →
      s.hoardFrozen = false →
      ∃ t, exec (.skewStoreRelease link none) s = .next t ∧
        t.dlink link = { s.dlink link with
          skewStore := [], reorder := [e]
          effective := if ((s.dlink link).maskOn e.ch).getLsbD e.ch then (s.dlink link).effective
            else putBit (s.dlink link).effective e.ch false } ∧ (∀ j, j ≠ link.val → t.dlink j = s.dlink j) ∧
        t = { s.later t with dsf := { s.dsf with links := t.dsf.links } } ∧ s.regsKept t [] ∧ s.cntsKept t []) ∧
    (∀ (link : Fin 4096) (e : Held), (s.dlink link).reorder = [e] → e.seg = none → (s.dlink link).openStamp = none →
      e.seq = (s.dlink link).next + 1 → (s.dlink link).skewStore = [] → (s.dlink link).mask = 0 →
      (s.dlink link).gapSkip ≠ 0x7FFFFFFFFFFF → s.ntm.frac < 2 ^ 32 → s.now < 2 ^ 48 * pipsPerSec →
      e.time + (s.dlink link).timeoutUs * 256000 ≤ s.now →
      ∃ t, exec (.reorderTimeout link) s = .next t ∧
        t.dlink link = { s.dlink link with
          reorder := [], next := (s.dlink link).next + 2, gapSkip := (s.dlink link).gapSkip + 1 } ∧
        (∀ j, j ≠ link.val → t.dlink j = s.dlink j) ∧
        t = { s.later t with dsf := { s.dsf with links := t.dsf.links } } ∧ s.regsKept t [] ∧ s.cntsKept t [])

/-- R177, R183 to R187. -/
def Obligations.LinkMembers : Prop :=
  ∀ s : State, s.settled →
    (∀ ch : Chan, s.dsLost ch = true → Tab.wf (fun _ => DsfLink.reset) s.dsf.links = true →
      ∃ t, exec (.channelRemove ch) s = .next t ∧
        (∀ i, t.dlink i = { s.dlink i with effective := putBit (s.dlink i).effective ch false }) ∧
        (t.chan ch).admitted = false ∧ s.took t (Reg.DSF_CHn_EVENT ch) [17] ∧ (∀ m, m ≠ ch.val → t.chan m = s.chan m) ∧
        t = { s.noted t with dsf := { s.dsf with chans := t.dsf.chans, links := t.dsf.links } } ∧
        s.regsKept t [Reg.DSF_CHn_EVENT ch] ∧ s.cntsKept t []) ∧
    (∀ (ch : Chan) (link : Fin 4096), s.mfSync ch = true → (s.dlink link).change = none →
      (s.dlink link).mask.getLsbD ch = true → (s.dlink link).effective.getLsbD ch = false → (s.chan ch).skewReady = true → s.skewInRange (s.dlink link) ch = true →
      ∃ t, exec (.channelAdmit ch link) s = .next t ∧
        t.dlink link = { s.dlink link with effective := putBit (s.dlink link).effective ch true } ∧
        t.chan ch = { s.chan ch with admitted := true, skewRange := false } ∧ s.took t (Reg.DSF_CHn_EVENT ch) [18] ∧
        (∀ m, m ≠ ch.val → t.chan m = s.chan m) ∧ (∀ j, j ≠ link.val → t.dlink j = s.dlink j) ∧
        t = { s.noted t with dsf := { s.dsf with chans := t.dsf.chans, links := t.dsf.links } } ∧
        s.regsKept t [Reg.DSF_CHn_EVENT ch] ∧ s.cntsKept t []) ∧
    (∀ (ch : Chan) (link : Fin 4096) (c : MaskChange), (s.dlink link).change = some c → c.mask.getLsbD ch = false →
      (s.dlink link).synced = false → (s.dlink link).skewStore = [] → (∀ k < 4, k ≠ ch.val → c.reached.getLsbD k = true) →
      ∃ t, exec (.maskApply ch link) s = .next t ∧
        t.dlink link = { s.dlink link with
          mask := c.mask, change := none, effective := putBit (s.dlink link).effective ch false } ∧
        (∀ j, j ≠ link.val → t.dlink j = s.dlink j) ∧ t = { s with dsf := { s.dsf with links := t.dsf.links } }) ∧
    (∀ (ini : Nat) (v : Word) (i : Nat), s.mayAccess ini 7 → s.alone → s.fld Reg.DSF_LINK_ADDR 3 0 = 0 →
      i = s.fld Reg.DSF_LINK_SEL 11 0 → (s.dlink i).mask = 0 → (s.dlink i).skewStore = [] → (s.dlink i).reorder = [] →
      s.poolUsed (some i) ≤ 1048576 →
      ∃ t, exec (.reorderWord0Write ini v) s = .next t ∧ t.fld Reg.DSF_LINK_ADDR 3 0 = 1 ∧
        ((64 ≤ bitsOf v.toNat 14 0 ∧ bitsOf v.toNat 14 0 ≤ 16384 ∧ 1 ≤ bitsOf v.toNat 25 16 ∧ bitsOf v.toNat 25 16 ≤ 1000) →
          t.dlink i = { s.dlink i with window := bitsOf v.toNat 14 0, timeoutUs := bitsOf v.toNat 25 16 } ∧
          (∀ j, j ≠ i → t.dlink j = s.dlink j) ∧ t = { s.accessed t with dsf := { s.dsf with links := t.dsf.links } } ∧
          s.served t ini [Reg.DSF_LINK_ADDR] []) ∧
        ((bitsOf v.toNat 14 0 < 64 ∨ 16384 < bitsOf v.toNat 14 0 ∨ bitsOf v.toNat 25 16 < 1 ∨ 1000 < bitsOf v.toNat 25 16) →
          s.took t Reg.DSF_STATUS [2] ∧ t = s.accessed t ∧ s.served t ini [Reg.DSF_LINK_ADDR, Reg.DSF_STATUS] [])) ∧
    (∀ (ini : Nat) (v : Word) (i : Nat), s.mayAccess ini 7 → s.alone → s.fld Reg.DSF_LINK_ADDR 3 0 = 12 →
      i = s.fld Reg.DSF_LINK_SEL 11 0 → 0xFFF0 ≤ bitsOf v.toNat 15 0 → (s.keys (2 * i + 1)).held = .none →
      (s.dlink i).mapped = false →
      ∃ t, exec (.linkWord12Write ini v) s = .next t ∧ t.fld Reg.DSF_LINK_ADDR 3 0 = 13 ∧
        t.cnt Reg.ACT_CNT_RSVD_MAP = s.cnt Reg.ACT_CNT_RSVD_MAP + 1 ∧ t.rbit Reg.DSF_STATUS 2 = true ∧
        t.rbit Reg.ACT_STATUS 14 = true ∧ t = s.accessed t ∧
        s.served t ini [Reg.DSF_LINK_ADDR, Reg.DSF_STATUS, Reg.ACT_STATUS] [Reg.ACT_CNT_RSVD_MAP]) ∧
    (∀ (ini : Nat) (v : Word) (i : Nat), s.mayAccess ini 7 → s.alone → s.fld Reg.DSF_LINK_ADDR 3 0 = 12 →
      i = s.fld Reg.DSF_LINK_SEL 11 0 → bitsOf v.toNat 15 0 < 0xFFF0 → v.getLsbD 16 = true →
      s.linkOf (BitVec.ofNat 16 (bitsOf v.toNat 15 0)) = none → (s.dlink i).en = false →
      (s.dlink i).mask = BitVec.ofNat 4 (bitsOf v.toNat 23 20) → (s.dlink i).skewStore = [] → (s.dlink i).reorder = [] →
      (s.dlink i).openStamp = none → (s.keys (2 * i + 1)).usable = true → (s.keys (2 * i + 1)).held = .none →
      ∃ t, exec (.linkWord12Write ini v) s = .next t ∧ t.fld Reg.DSF_LINK_ADDR 3 0 = 13 ∧
        t.dlink i = { s.dlink i with
          linkId := BitVec.ofNat 16 (bitsOf v.toNat 15 0), en := true, mapped := true
          members := BitVec.ofNat 4 (bitsOf v.toNat 23 20), openBytes := [], synced := false } ∧
        (∀ j, j ≠ i → t.dlink j = s.dlink j) ∧ t = { s.accessed t with dsf := { s.dsf with links := t.dsf.links } } ∧
        s.served t ini [Reg.DSF_LINK_ADDR] [])

/-- R192 to R199, R209, R210. -/
def Obligations.Activation : Prop :=
  ∀ s : State, s.settled → s.solitary →
    (∀ (ini : Nat) (v : Word), s.mayAccess ini 6 → v.getLsbD 0 = true → s.rbit Reg.ACT_CTRL 0 = false → s.act.state = .t0 →
      ∃ t, exec (.actEnWrite ini v) s = .next t ∧ t.act = { s.act with
          state := .t1, anchor := none, own := none, bcast := none, toRange := none, toHeld := none } ∧
        t.reg Reg.ACT_CTRL = s.merged Reg.ACT_CTRL v ∧ t.rbit Reg.ACT_STATUS 0 = true ∧
        t = { s.accessed t with act := t.act, pods := t.pods, ntm := t.ntm, clk := t.clk, fresh := t.fresh } ∧
        s.served t ini (Reg.ACT_CTRL :: Reg.ACT_STATUS :: rootRegs) rootCnts) ∧
    (∀ n : Nat, s.act.silence = none → s.act.state = .t1 → lowestCh (fun n => s.chEnabled n && s.mfSync n) = some n →
      (s.ceiling 0).isSome = true →
      ∃ t, exec .channelConditionTransition s = .next t ∧ t.act.state = .t2 ∧ t.act.anchor = some n ∧ t.act.annCount = 0 ∧
        t.act.skip ≤ s.fld Reg.ACT_ANN_CTRL 7 0 ∧ s.took t Reg.ACT_STATUS [0] ∧
        t = { s.noted t with
          act := { s.act with state := .t2, anchor := some n, annCount := 0, skip := t.act.skip }, fresh := s.fresh + 1 } ∧
        s.regsKept t [Reg.ACT_STATUS] ∧ s.cntsKept t []) ∧
    (∀ m : MsgIn, s.hears m [.t2] → m.body.length = 28 → Crypto.beNat (Crypto.slice m.body 0 8) = s.serial →
      Crypto.beNat (Crypto.slice m.body 8 2) < 1023 →
      ∃ t, exec (.assignId m) s = .next t ∧ t.act.state = .t3 ∧
        t.act.tid = some (BitVec.ofNat 10 (Crypto.beNat (Crypto.slice m.body 8 2))) ∧
        t.act.nonce = some (Crypto.slice m.body 12 16) ∧
        t.lsc.kek = some (s.kekOf (Crypto.beNat (Crypto.slice m.body 8 2)) (Crypto.slice m.body 12 16)) ∧
        t.act.toRange = some (s.ticks + s.fld Reg.ACT_TO_RANGE 15 0 * 1000 * ticksPerUs) ∧ s.actedOn t m none ∧
        s.took t Reg.ACT_STATUS (0 :: 1 :: s.halfAt Reg.ACT_CNT_MSG_ACTED) ∧
        t = { s.noted t with act := t.act, lsc := { s.lsc with kek := t.lsc.kek } } ∧
        s.regsKept t [Reg.ACT_STATUS] ∧ s.cntsKept t [Reg.ACT_CNT_MSG_ACTED])

/-- R193, R195, R228. -/
def Obligations.IdLoss : Prop :=
  ∀ s : State, s.settled → s.solitary → s.quiet → s.unladen →
    (∀ (ini : Nat) (v : Word), s.mayAccess ini 6 → v.getLsbD 0 = true → (s.act.state = .t3 ∨ s.act.state = .t4) →
      ∃ t, exec (.deactivate ini v) s = .next t ∧ t.unregistered ∧ t.act.state = .t1 ∧ t.act.anchor = none ∧
        t.cnt Reg.ACT_CNT_ID_LOSS = s.cnt Reg.ACT_CNT_ID_LOSS + 1 ∧ t.rbit Reg.ACT_STATUS 2 = true ∧
        t = { s.lostId t with arb := t.arb } ∧ s.served t ini lostIdRegs lostIdCnts) ∧
    (∀ k a : Nat, s.act.toRange = some k → s.act.state = .t3 → s.act.anchor = some a → s.ranged a = false →
      ∃ t, exec .toRangeExpiry s = .next t ∧ t.unregistered ∧ t.act.state = .t1 ∧ t.act.anchor = none ∧
        t.act.toRange = none ∧ t.ticks = max s.ticks k ∧ t.rbit Reg.ACT_STATUS 6 = true ∧ t.rbit Reg.ACT_STATUS 2 = true ∧
        t.cnt Reg.ACT_CNT_ID_LOSS = s.cnt Reg.ACT_CNT_ID_LOSS + 1 ∧ t = { s.lostId t with ticks := t.ticks } ∧
        s.regsKept t lostIdRegs ∧ s.cntsKept t lostIdCnts) ∧
    (∀ k : Nat, s.act.toHeld = some k → s.act.state = .t5 → s.rangedChs.any s.mfSync = false →
      ∃ t, exec .toHeldExpiry s = .next t ∧ t.unregistered ∧ t.act.state = .t1 ∧ t.act.anchor = none ∧
        t.act.toHeld = none ∧ t.ticks = max s.ticks k ∧ t.rbit Reg.ACT_STATUS 7 = true ∧ t.rbit Reg.ACT_STATUS 2 = true ∧
        t.cnt Reg.ACT_CNT_ID_LOSS = s.cnt Reg.ACT_CNT_ID_LOSS + 1 ∧ t = { s.lostId t with ticks := t.ticks } ∧
        s.regsKept t lostIdRegs ∧ s.cntsKept t lostIdCnts) ∧
    (∀ m : MsgIn, s.hears m [.t3] → m.body.length = 28 → Crypto.beNat (Crypto.slice m.body 0 8) = s.serial →
      2 ^ 15 ≤ Crypto.beNat (Crypto.slice m.body 8 2) → Crypto.beNat (Crypto.slice m.body 8 2) / 1024 % 32 = 0 →
      ∃ t, exec (.assignId m) s = .next t ∧ t.unregistered ∧ t.act.state = .t1 ∧ t.rbit Reg.ACT_STATUS 2 = true ∧
        t.cnt Reg.ACT_CNT_MSG_ACTED = s.cnt Reg.ACT_CNT_MSG_ACTED + 1 ∧ t = s.lostId t ∧
        s.regsKept t lostIdRegs ∧ s.cntsKept t (Reg.ACT_CNT_MSG_ACTED :: lostIdCnts)) ∧
    (∀ (ini : Nat) (v : Word), s.mayAccess ini 6 → v.getLsbD 0 = false → s.rbit Reg.ACT_CTRL 0 = true → s.act.state = .t4 →
      ∃ t, exec (.actEnWrite ini v) s = .next t ∧ t.unregistered ∧ t.act.state = .t0 ∧ t.rbit Reg.ACT_STATUS 2 = true ∧
        t.reg Reg.ACT_CTRL = s.merged Reg.ACT_CTRL v ∧ t = { s.lostId t with arb := t.arb } ∧
        s.served t ini (Reg.ACT_CTRL :: lostIdRegs) lostIdCnts)

/-- R204, R206. -/
def Obligations.Ranging : Prop :=
  ∀ s : State, s.settled → s.solitary →
    (∀ (m : MsgIn) (c : Nat), s.hears m [.t3, .t4, .t7] → m.body.length = 4 →
      c = Crypto.beNat (Crypto.slice m.body 0 1) % 4 →
      ∃ t, exec (.rangeReq m) s = .next t ∧
        (t.actCh c).armed = some ⟨Crypto.beNat (Crypto.slice m.body 1 1) % 2 = 1, m.seq, s.ticks + 128000000⟩ ∧
        (t.actCh c).rtd = (s.actCh c).rtd ∧ (∀ n, n ≠ c → t.actCh n = s.actCh n) ∧ s.actedOn t m none ∧
        t = { s.noted t with act := { s.act with chans := t.act.chans, own := t.act.own, bcast := t.act.bcast } } ∧
        s.regsKept t [Reg.ACT_STATUS] ∧ s.cntsKept t [Reg.ACT_CNT_MSG_ACTED]) ∧
    (∀ (ch : Chan) (r : ArmedReq), (s.actCh ch).armed = some r →
      ∃ t, exec (.rangeReqLapse ch) s = .next t ∧ t.actCh ch = { s.actCh ch with armed := none } ∧
        t.cnt Reg.ACT_CNT_RANGE_LAPSE = s.cnt Reg.ACT_CNT_RANGE_LAPSE + 1 ∧ (∀ n, n ≠ ch.val → t.actCh n = s.actCh n) ∧
        t.ticks = max s.ticks r.until_ ∧ t = { s.later t with act := { s.act with chans := t.act.chans } } ∧
        s.regsKept t [Reg.ACT_STATUS] ∧ s.cntsKept t [Reg.ACT_CNT_RANGE_LAPSE]) ∧
    (∀ (m : MsgIn) (c : Nat) (down up : Int), s.hears m [.t4] → m.body.length = 8 →
      c = Crypto.beNat (Crypto.slice m.body 0 1) % 4 → Crypto.beNat (Crypto.slice m.body 1 1) % 2 = 0 →
      s.delaysOf c (Crypto.beNat (Crypto.slice m.body 4 4)) = some (down, up) → s.act.uq.length < 64 →
      ∃ t, exec (.rangeTime m) s = .next t ∧ (t.actCh c).rtd = some (Crypto.beNat (Crypto.slice m.body 4 4)) ∧
        (t.actCh c).dDown = down ∧ (t.actCh c).dUp = up ∧ (t.actCh c).rangings = (s.actCh c).rangings + 1 ∧
        (∀ n, n ≠ c → t.actCh n = s.actCh n) ∧
        t.act.uq = s.act.uq ++ [⟨3, m.seq, Crypto.beBytes 1 c ++ [0, 0, 0] ++ Crypto.beBytes 4 (BitVec.ofInt 32 down).toNat⟩] ∧
        t.rbit Reg.ACT_STATUS 4 = true ∧ t.act.state = .t4 ∧ t.act.tid = s.act.tid ∧
        t = { s.noted t with
          act := { s.act with chans := t.act.chans, uq := t.act.uq, own := t.act.own, bcast := t.act.bcast }
          pods := t.pods, ntm := t.ntm, clk := t.clk, fresh := t.fresh } ∧
        s.regsKept t (Reg.ACT_STATUS :: Reg.POD_CDC_VALUE c :: rootRegs) ∧
        s.cntsKept t (Reg.ACT_CNT_MSG_ACTED :: rootCnts)) ∧
    (∀ (m : MsgIn) (c : Nat), s.hears m [.t3, .t4, .t7] → m.body.length = 8 →
      c = Crypto.beNat (Crypto.slice m.body 0 1) % 4 → Crypto.beNat (Crypto.slice m.body 1 1) % 2 = 0 →
      128000000 < Crypto.beNat (Crypto.slice m.body 4 4) → s.act.uq.length < 64 →
      ∃ t, exec (.rangeTime m) s = .next t ∧ (∀ n, t.actCh n = s.actCh n) ∧
        t.act.uq = s.act.uq ++ [⟨3, m.seq, Crypto.beBytes 1 c ++ [1, 0, 0] ++
          Crypto.beBytes 4 (BitVec.ofInt 32 (s.actCh c).dDown).toNat⟩] ∧
        t.cnt Reg.ACT_CNT_RTD_REFUSED = s.cnt Reg.ACT_CNT_RTD_REFUSED + 1 ∧ t.rbit Reg.ACT_STATUS 5 = true ∧
        t = { s.noted t with act := { s.act with uq := t.act.uq, own := t.act.own, bcast := t.act.bcast } } ∧
        s.regsKept t [Reg.ACT_STATUS] ∧ s.cntsKept t [Reg.ACT_CNT_MSG_ACTED, Reg.ACT_CNT_RTD_REFUSED])

/-- R126, R220. -/
def Obligations.ProfileAndChannelSets : Prop :=
  ∀ s : State, s.settled → s.solitary → s.act.tid = none →
    (∀ (m : MsgIn) (up : Bool) (i : Nat), s.hears m t1to7 → m.body.length = 1796 →
      up = decide (Crypto.beNat (Crypto.slice m.body 0 1) % 2 = 1) → i = Crypto.beNat (Crypto.slice m.body 1 1) % 8 →
      ∃ t, exec (.profileSet m) s = .next t ∧ s.actedOn t m none ∧
        (i ≠ 0 → loadingOk (Crypto.slice m.body 4 1792) = true → profValid (loadingWords (Crypto.slice m.body 4 1792)) = true →
          (∀ n < 4, ((t.pod n).prof up i).active = ((s.pod n).prof up i).active ∧
            (((t.pod n).prof up i).pending).map (fun p => (p.words, p.mf)) =
              some (loadingWords (Crypto.slice m.body 4 1792), BitVec.ofNat 16 (Crypto.beNat (Crypto.slice m.body 2 2)))) ∧
          t = { s.noted t with pods := t.pods, act := { s.act with own := t.act.own, bcast := t.act.bcast } } ∧
          s.regsKept t [Reg.ACT_STATUS]) ∧
        (i = 0 → (∀ n < 4, (if up then t.rbit (Reg.POD_TX_STATUS n) 4 else t.rbit (Reg.POD_RX_STATUS n) 11) = true) ∧
          t = { s.noted t with act := { s.act with own := t.act.own, bcast := t.act.bcast } } ∧
          s.regsKept t (Reg.ACT_STATUS ::
            (List.range 4).map (fun n => if up then Reg.POD_TX_STATUS n else Reg.POD_RX_STATUS n))) ∧
        s.cntsKept t [Reg.ACT_CNT_MSG_ACTED]) ∧
    (∀ (m : MsgIn) (n : Nat), s.hears m t1to7 → n = Crypto.beNat (Crypto.slice m.body 4 2) → n ≤ 510 →
      m.body.length = 6 + 4 * n → s.dsf.links = [] →
      ∃ (t : State) (h : HeldSet), exec (.channelSet m) s = .next t ∧ t.act.held = some h ∧ s.actedOn t m none ∧
        h.mf = BitVec.ofNat 16 (Crypto.beNat (Crypto.slice m.body 0 2)) ∧
        h.upEn = BitVec.ofNat 4 (Crypto.beNat (Crypto.slice m.body 2 1)) ∧
        h.guard = max 2 (Crypto.beNat (Crypto.slice m.body 3 1)) ∧ h.entries.length = n ∧ h.carrier = m.ch.val ∧
        h.left = 15 ∧
        t = { s.noted t with act := { s.act with held := t.act.held, own := t.act.own, bcast := t.act.bcast } } ∧
        s.regsKept t [Reg.ACT_STATUS] ∧ s.cntsKept t [Reg.ACT_CNT_MSG_ACTED]) ∧
    (∀ (ch : Chan) (h : HeldSet), s.act.held = some h → h.left.getLsbD ch = true → h.carrier ≠ ch.val → h.entries = [] →
      ∃ t, exec (.channelSetApply ch) s = .next t ∧
        t.actCh ch = { s.actCh ch with upEn := h.upEn.getLsbD ch, guard := h.guard } ∧
        (∀ n, n ≠ ch.val → t.actCh n = s.actCh n) ∧
        t.act.held = (if putBit h.left ch false = 0 then none else some { h with left := putBit h.left ch false }) ∧
        t = { s with act := { s.act with chans := t.act.chans, held := t.act.held } })

/-- R224 to R227. -/
def Obligations.SilenceLatch : Prop :=
  ∀ s : State, s.settled → s.solitary → s.mcusRun = true → s.quiet → (∀ n < 4, (s.actCh n).armed = none) →
    (∀ (m : MsgIn) (ms : Nat), s.hears m [.t1, .t2, .t3, .t4] → m.body.length = 4 →
      ms = Crypto.beNat (Crypto.slice m.body 0 2) → ms ≠ 0 → s.act.silence = none →
      ∃ t, exec (.silence m) s = .next t ∧ t.act.state = .t6 ∧ t.act.prior = s.act.state ∧
        t.act.silence = some ⟨isBcast m, some (s.ticks + ms * 1000 * ticksPerUs), false⟩ ∧ s.actedOn t m none ∧
        t.act.toRange = none ∧ t.act.toHeld = none ∧ t.act.tid = s.act.tid ∧ s.took t Reg.UBT_STATUS [0] ∧
        t.rbit Reg.ACT_STATUS 8 = true ∧ t.rbit Reg.ACT_STATUS 0 = true ∧ t = { s.noted t with act := t.act } ∧
        s.regsKept t [Reg.ACT_STATUS, Reg.UBT_STATUS] ∧ s.cntsKept t [Reg.ACT_CNT_MSG_ACTED]) ∧
    (∀ (m : MsgIn) (x : Silence), s.hears m [.t6] → m.body = [] → s.act.silence = some x → s.act.prior = .t4 →
      (s.rangedChs.isEmpty = true ∨ s.rangedChs.all s.dsLost = false) → s.act.uq.length < 64 →
      ∃ t, exec (.unsilence m) s = .next t ∧ t.act.state = .t4 ∧ t.act.silence = none ∧
        t.act.uq = s.act.uq ++ [⟨12, m.seq, []⟩] ∧ s.actedOn t m (some ⟨12, m.seq, []⟩) ∧
        t.rbit Reg.ACT_STATUS 9 = true ∧ t.rbit Reg.ACT_STATUS 0 = true ∧ s.took t Reg.UBT_STATUS [1] ∧ t.boot.operAt.isSome = true ∧
        t = { s.noted t with act := t.act, boot := { s.boot with
          operAt := t.boot.operAt, step := if s.boot.step = 9 ∨ s.boot.step = 10 then 11 else s.boot.step } } ∧ s.regsKept t [Reg.ACT_STATUS, Reg.UBT_STATUS] ∧
        s.cntsKept t [Reg.ACT_CNT_MSG_ACTED]) ∧
    (∀ (b owed : Bool) (k : Nat), s.act.silence = some ⟨b, some k, owed⟩ → s.act.state = .t6 → s.act.prior = .t4 →
      (s.rangedChs.isEmpty = true ∨ s.rangedChs.all s.dsLost = false) → s.act.unsilenceAck = none →
      ∃ t, exec .silenceExpiry s = .next t ∧ t.act = { s.act with state := .t4, silence := none } ∧
        t.ticks = max s.ticks k ∧ s.took t Reg.ACT_STATUS [0, 9] ∧ s.took t Reg.UBT_STATUS [1] ∧
        t.boot.operAt.isSome = true ∧ t = { s.later t with act := t.act, boot := { s.boot with
          operAt := t.boot.operAt, step := if s.boot.step = 9 ∨ s.boot.step = 10 then 11 else s.boot.step } } ∧ s.regsKept t [Reg.ACT_STATUS, Reg.UBT_STATUS] ∧ s.cntsKept t [])

/-- R229 to R232, R422. -/
def Obligations.ManagementRequests : Prop :=
  ∀ s : State, s.settled →
    (∀ m : MsgIn, s.hears m t3to7 → 8 ≤ m.body.length →
      ∃ t, exec (.mgmtTunnel m) s = .next t ∧ s.actedOn t m none ∧
        (s.act.tunnel.length < 8 → t.act.tunnel = s.act.tunnel ++ [mgmtReq m.body m.seq [] false (fun n => n == m.body.length)] ∧
          t = { s.noted t with act := { s.act with tunnel := t.act.tunnel, own := t.act.own, bcast := t.act.bcast } } ∧
          s.cntsKept t [Reg.ACT_CNT_MSG_ACTED]) ∧
        (8 ≤ s.act.tunnel.length → t.rbit Reg.ACT_STATUS 13 = true ∧
          t.cnt Reg.ACT_CNT_TUN_REFUSED = s.cnt Reg.ACT_CNT_TUN_REFUSED + 1 ∧
          t = { s.noted t with act := { s.act with own := t.act.own, bcast := t.act.bcast } } ∧
          s.cntsKept t [Reg.ACT_CNT_MSG_ACTED, Reg.ACT_CNT_TUN_REFUSED]) ∧ s.regsKept t [Reg.ACT_STATUS]) ∧
    (∀ (c : Instr) (op : Nat) (r : MgmtReq) (rest : List MgmtReq),
      (c, op) ∈ [(Instr.mgmtRead 9, 1), (.mgmtWrite 9, 2), (.mgmtWritePairs 9, 3)] → s.act.tunnel = r :: rest → r.op = op →
      r.malformed = false → s.act.tunnelLast = none → s.rbit Reg.ACT_CTRL 1 = false → s.act.uq.length < 64 →
      ∃ t, exec c s = .next t ∧ t.act.tunnel = rest ∧
        t.act.uq = s.act.uq ++ [⟨16, r.seq, Crypto.beBytes 2 r.tag ++ [1, 0]⟩] ∧
        t.cnt Reg.ACT_CNT_TUN_REFUSED = s.cnt Reg.ACT_CNT_TUN_REFUSED + 1 ∧ t.rbit Reg.ACT_STATUS 13 = true ∧
        t = { s.noted t with act := { s.act with tunnel := rest, uq := t.act.uq, tunnelLast := t.act.tunnelLast } } ∧
        s.regsKept t [Reg.ACT_STATUS] ∧ s.cntsKept t [Reg.ACT_CNT_TUN_REFUSED]) ∧
    (∀ (c : Instr) (r : MgmtReq) (rest : List MgmtReq) (a : Nat) (v : Word),
      (c = .mgmtWrite 9 ∧ r.op = 2 ∧ r.addr = a ∧ r.data = [v]) ∨
        (c = .mgmtWritePairs 9 ∧ r.op = 3 ∧ r.data = [BitVec.ofNat 32 a, v]) →
      a = Reg.BOOT_NVM_ADDR → r.c = 1 → s.act.tunnel = r :: rest → r.malformed = false → s.act.tunnelLast = none →
      s.rbit Reg.ACT_CTRL 1 = true → s.rbit Reg.ACT_CTRL 2 = false → s.mayAccess 9 1 → s.spiReady = true →
      s.act.uq.length < 64 →
      ∃ t, exec c s = .next t ∧ t.reg a = s.merged a v ∧ t.act.tunnel = rest ∧
        t.act.uq = s.act.uq ++ [⟨16, r.seq, Crypto.beBytes 2 r.tag ++ [0, 1]⟩] ∧
        t = { s.accessed t with act := { s.act with tunnel := rest, uq := t.act.uq, tunnelLast := t.act.tunnelLast } } ∧
        s.served t 9 [Reg.ACT_STATUS, a] [Reg.ACT_CNT_TUN_REQ]) ∧
    (∀ (r : MgmtReq) (rest : List MgmtReq), r.op = 1 → r.addr = Reg.BOOT_NVM_ADDR → r.c = 1 → s.act.tunnel = r :: rest →
      r.malformed = false → s.act.tunnelLast = none → s.rbit Reg.ACT_CTRL 1 = true → s.mayAccess 9 1 → s.spiReady = true →
      s.act.uq.length < 64 →
      ∃ t, exec (.mgmtRead 9) s = .next t ∧ t.act.tunnel = rest ∧
        t.act.uq = s.act.uq ++ [⟨16, r.seq, Crypto.beBytes 2 r.tag ++ [0, 1] ++
          Crypto.beBytes 4 (s.reg Reg.BOOT_NVM_ADDR).toNat⟩] ∧
        t = { s.accessed t with act := { s.act with tunnel := rest, uq := t.act.uq, tunnelLast := t.act.tunnelLast } } ∧
        s.served t 9 [Reg.ACT_STATUS] [Reg.ACT_CNT_TUN_REQ]) ∧
    (∀ (p : Port) (f : List Byte) (rest : List (List Byte)), (s.port p).mgmtIn = f :: rest → (s.port p).mgmt.length < 8 →
      s.rbit (Reg.HPE_Pp_MAC_CTRL p) 5 = false →
      ∃ t, exec (.inbandMgmtFrame p) s = .next t ∧ (t.port p).mgmtIn = rest ∧
        (Crypto.slice f 0 6 = s.portMac p → (t.port p).mgmt.length = (s.port p).mgmt.length + 1 ∧
          t.cnt (Reg.HPE_Pp_RX_MGMT p) = s.cnt (Reg.HPE_Pp_RX_MGMT p) + 1 ∧ s.cntsKept t [Reg.HPE_Pp_RX_MGMT p]) ∧
        (Crypto.slice f 0 6 ≠ s.portMac p → (t.port p).mgmt = (s.port p).mgmt ∧
          t.cnt (Reg.HPE_Pp_RX_MGMT_DROP p) = s.cnt (Reg.HPE_Pp_RX_MGMT_DROP p) + 1 ∧
          t.rbit (Reg.HPE_Pp_STATUS p) 6 = true ∧ s.cntsKept t [Reg.HPE_Pp_RX_MGMT_DROP p]) ∧
        (∀ q, q ≠ p.val → t.port q = s.port q) ∧ t = { s.noted t with ports := t.ports } ∧
        s.regsKept t [Reg.HPE_Pp_STATUS p])

/-- R244, R245, R247, R269, R270, R272. -/
def Obligations.QueueCommands : Prop :=
  ∀ s : State, s.settled → s.usq.queues.wf (fun _ => Queue.reset) = true →
    (∀ (q : Fin 8192) (f : QFrame), (s.queue q).frames.find? (fun f => !f.visible) = some f →
      ∃ t, exec (.frameVisible q) s = .next t ∧
        t.queue q = { s.queue q with frames := (s.queue q).frames.map (fun y =>
          if y.id = f.id then { y with visible := true, seenAt := s.now } else y) } ∧
        (∀ k, k ≠ q.val → t.queue k = s.queue k) ∧ t = { s with usq := { s.usq with queues := t.usq.queues } }) ∧
    (∃ t, exec .shaperRefill s = .next t ∧
      (∀ q < 8192, t.queue q = { s.queue q with bucket := match s.rateOf q with
        | none => 0
        | some r => min ((s.queue q).bucket + r) (8 * (s.queue q).burst) }) ∧
      t = { s with usq := { s.usq with queues := t.usq.queues } }) ∧
    (∀ (ini : Nat) (v : Word) (q : Nat), s.mayAccess ini 8 → s.solitary → v.getLsbD 0 = true → q = s.fld Reg.USQ_Q_SEL 12 0 →
      (s.queue q).enable = false → s.hrd.failing = [] →
      ∃ t, exec (.flush ini v) s = .next t ∧ (t.queue q).frames = [] ∧ (t.queue q).flushed =
          (s.queue q).flushed + BitVec.ofNat 48 (s.queue q).frames.length ∧
        (q < 4096 → (t.queue q).aligned = false) ∧ (∀ k, k ≠ q → t.queue k = s.queue k) ∧
        t.hrd.usDesc + t.hrd.dsDesc = s.hrd.usDesc + s.hrd.dsDesc + (s.queue q).frames.length ∧
        t = { s.accessed t with
          usq := { s.usq with queues := t.usq.queues, links := t.usq.links }
          hrd := { s.hrd with
            usFree := t.hrd.usFree, dsFree := t.hrd.dsFree, usDesc := t.hrd.usDesc, dsDesc := t.hrd.dsDesc } } ∧
        s.served t ini [Reg.USQ_STATUS, Reg.TWN_STATUS] [Reg.TWN_CNT_UNALIGNED]) ∧
    (∀ (ini : Nat) (v : Word), s.mayAccess ini 8 → s.solitary → v.getLsbD 0 = true →
      (s.queue (s.fld Reg.USQ_Q_SEL 12 0)).enable = true →
      ∃ t, exec (.flush ini v) s = .next t ∧ s.took t Reg.USQ_STATUS [4] ∧ t = s.accessed t ∧
        s.served t ini [Reg.USQ_STATUS] []) ∧
    (∀ (ini : Nat) (v : Word) (q : Nat), s.mayAccess ini 8 → s.solitary → v.getLsbD 1 = true → q = s.fld Reg.USQ_Q_SEL 12 0 →
      ∃ t, exec (.latSnap ini v) s = .next t ∧ t.queue q = { s.queue q with snap := s.latRecord q } ∧
        (∀ k, k ≠ q → t.queue k = s.queue k) ∧ t = { s.accessed t with usq := { s.usq with queues := t.usq.queues } } ∧
        s.served t ini [] []) ∧
    (s.usq.latOff = false → ∃ t, exec .queueSample s = .next t ∧ t.usq.latN = s.usq.latN + 1 ∧
      (∀ q f r, (s.queue q).frames = f :: r → f.visible = true →
        (t.queue q).lat.n = (s.queue q).lat.n + 1 ∧
        (t.queue q).lat.depthSum = (s.queue q).lat.depthSum + ((s.queue q).depth + 255) / 256 ∧
        (t.queue q).lat.depthMax = max (s.queue q).lat.depthMax (((s.queue q).depth + 255) / 256) ∧
        (t.queue q).lat.delaySum = (s.queue q).lat.delaySum + min ((s.now - f.seenAt) / 256) (2 ^ 32 - 1) ∧
        t.queue q = { s.queue q with lat := (t.queue q).lat }) ∧
      (∀ q, (s.queue q).frames = [] → t.queue q = s.queue q) ∧
      t = { s with usq := { s.usq with queues := t.usq.queues, latN := t.usq.latN } }) ∧
    (s.usq.latOff = false → ∃ t, exec .latPeriodEnd s = .next t ∧ t.usq.latN = 0 ∧ t.usq.latStep = false ∧
      t.usq.latLast = some (s.usq.latStart, s.usq.latStep, s.usq.latN) ∧ t.usq.latStart ≤ t.now ∧
      t.usq.latStart % (s.fld Reg.USQ_LAT_PERIOD 19 0 * 256000) = 0 ∧
      (∀ q, t.queue q = { s.queue q with last := (s.queue q).lat, lat := .zero }) ∧ s.took t Reg.USQ_STATUS [3] ∧
      t = { s.later t with
        usq := { s.usq with queues := t.usq.queues, latN := 0, latStep := false, latStart := t.usq.latStart
                            latLast := t.usq.latLast } } ∧
      s.regsKept t [Reg.USQ_STATUS] ∧ s.cntsKept t [])

/-- R223, R236 to R241. -/
def Obligations.QueueWords : Prop :=
  ∀ s : State, s.settled →
    (∀ (ini q : Nat) (v : Word) (x : Queue), s.mayAccess ini 8 → s.solitary → s.fld Reg.USQ_Q_ADDR 5 0 = 0 →
      s.rbit Reg.USQ_Q_SEL 16 = false → q = s.fld Reg.USQ_Q_SEL 12 0 → q < 4096 → x = s.queue q →
      bitsOf v.toNat 22 20 = 0 →
      ∃ t, exec (.queueWord0Write ini v) s = .next t ∧ t.fld Reg.USQ_Q_ADDR 5 0 = 1 ∧
        (x.isOpen = false → t.queue q = { x with
          link := bitsOf v.toNat 11 0, alloc := bitsOf v.toNat 19 12, cls := 0, enable := v.getLsbD 24
          linkF := bitsOf v.toNat 11 0, allocF := bitsOf v.toNat 19 12, bindPending := false
          bucket := if v.getLsbD 24 && !x.enable then 0 else x.bucket
          deficit := if v.getLsbD 24 && !x.enable then 0 else x.deficit } ∧
          s.cntsKept t [Reg.ARB_Ii_CNT_GRANTr 0 ini]) ∧
        (x.isOpen = true → bitsOf v.toNat 11 0 ≠ x.linkF → x.bindPending = false →
          (t.queue q).bindPending = true ∧ (t.queue q).linkF = x.linkF ∧ (t.queue q).allocF = x.allocF ∧
          (t.queue q).link = bitsOf v.toNat 11 0 ∧ (t.queue q).frames = x.frames ∧
          t.cnt Reg.USQ_CNT_BIND_DEFER = s.cnt Reg.USQ_CNT_BIND_DEFER + 1) ∧
        (∀ k, k ≠ q → t.queue k = s.queue k) ∧ t = { s.accessed t with usq := { s.usq with queues := t.usq.queues } } ∧
        s.served t ini [Reg.USQ_Q_ADDR, Reg.USQ_STATUS] [Reg.USQ_CNT_BIND_DEFER]) ∧
    (∀ (ini q c : Nat) (v : Word), s.mayAccess ini 8 → s.solitary → s.fld Reg.USQ_Q_ADDR 5 0 = 0 →
      s.rbit Reg.USQ_Q_SEL 16 = false → q = s.fld Reg.USQ_Q_SEL 12 0 → q < 4096 → c = bitsOf v.toNat 22 20 →
      (5 ≤ c ∨ v.getLsbD 24 = true ∧ 1 ≤ c ∧ s.rankTaken q (bitsOf v.toNat 19 12) c = true) →
      ∃ t, exec (.queueWord0Write ini v) s = .next t ∧ s.took t Reg.USQ_STATUS [0] ∧ t = s.accessed t ∧
        s.served t ini [Reg.USQ_Q_ADDR, Reg.USQ_STATUS] []) ∧
    (∀ q : Fin 8192, (s.queue q).bindPending = true → (s.queue q).isOpen = false →
      ∃ t, exec (.bindApply q) s = .next t ∧
        t.queue q = { s.queue q with linkF := (s.queue q).link, allocF := (s.queue q).alloc, bindPending := false } ∧
        (∀ k, k ≠ q.val → t.queue k = s.queue k) ∧ t = { s with usq := { s.usq with queues := t.usq.queues } }) ∧
    (∀ (ini i : Nat) (v : Word), s.mayAccess ini 8 → s.solitary → s.fld Reg.USQ_ALLOC_ADDR 2 0 = 0 →
      i = s.fld Reg.USQ_ALLOC_SEL 7 0 → (v.getLsbD 16 = true → v.toNat % 65536 < 0xFC00) →
      (∀ e ∈ s.usq.allocs, e.1 ≠ i → e.2.id ≠ v.setWidth 16) →
      ∃ t, exec (.allocWord0Write ini v) s = .next t ∧ (t.alloc i).id = v.setWidth 16 ∧ (t.alloc i).valid = v.getLsbD 16 ∧
        (t.alloc i).report = v.getLsbD 17 ∧ (v.setWidth 16 ≠ (s.alloc i).id → (t.alloc i).hist = [] ∧ (t.alloc i).ptr = 0) ∧
        (∀ k, k ≠ i → t.alloc k = s.alloc k) ∧ t.fld Reg.USQ_ALLOC_ADDR 2 0 = 1 ∧
        t = { s.accessed t with usq := { s.usq with allocs := t.usq.allocs } } ∧
        s.served t ini [Reg.USQ_ALLOC_ADDR] []) ∧
    (∀ (ini : Nat) (v : Word), s.mayAccess ini 8 → s.solitary → s.fld Reg.USQ_ALLOC_ADDR 2 0 = 0 →
      v.getLsbD 16 = true → 0xFC00 ≤ v.toNat % 65536 →
      ∃ t, exec (.allocWord0Write ini v) s = .next t ∧ t.cnt Reg.ACT_CNT_RSVD_MAP = s.cnt Reg.ACT_CNT_RSVD_MAP + 1 ∧
        t.rbit Reg.ACT_STATUS 14 = true ∧ t = s.accessed t ∧
        s.served t ini [Reg.USQ_ALLOC_ADDR, Reg.ACT_STATUS] [Reg.ACT_CNT_RSVD_MAP])

/-- R252 to R264, R273, R303. -/
def Obligations.Filling : Prop :=
  ∀ s : State, s.settled →
    (∀ (g : Grant) (u : State) (b : Burst), s.usq.grants = [g] → s.coreReset 4 = false → s.coreReset 5 = false →
      (s.ubtCh g.ch).bursts = [] → (∀ e ∈ s.usq.allocs, e.2.report = false) → g.ch < 4 →
      u = s.passTo (g.launch - s.fillLead) → b = u.newBurst g [] →
      b.g = g ∧ b.space = Line.capacity g.len g.cBits ∧ b.started = false ∧ b.places = [] ∧
      ∃ t, exec .batchStart s = .next t ∧ t.usq.grants = [] ∧ (∀ n, n ≠ g.ch → t.ubtCh n = s.ubtCh n) ∧
        (u.gateFails g.ch b = [] → t.ubtCh g.ch = { s.ubtCh g.ch with bursts := [b] } ∧
          t = { s.later t with usq := { s.usq with grants := [], ran := t.usq.ran }, ubt := t.ubt } ∧
          s.regsKept t [] ∧ s.cntsKept t []) ∧
        (∀ c r, u.gateFails g.ch b = c :: r → c < 9 → g.kind ≠ .announce →
          t.ubtCh g.ch = { s.ubtCh g.ch with cause := c, stage := 1 } ∧ t.rbit Reg.UBT_STATUS 4 = true ∧
          t.cnt (Reg.UBT_CNT_CAUSE c) = s.cnt (Reg.UBT_CNT_CAUSE c) + 1 ∧
          t.cnt (Reg.UBT_CHn_CNT_DISC g.ch) = s.cnt (Reg.UBT_CHn_CNT_DISC g.ch) + 1 ∧
          t = { s.later t with usq := { s.usq with grants := [], ran := t.usq.ran }, ubt := t.ubt } ∧
          s.regsKept t [Reg.UBT_STATUS] ∧ s.cntsKept t [Reg.UBT_CNT_CAUSE c, Reg.UBT_CHn_CNT_DISC g.ch])) ∧
    (∀ (b : Burst) (n : Nat), n < 4 → b.g.ch = n → (s.ubtCh n).bursts = [b] → (∀ m < 4, m ≠ n → (s.ubtCh m).bursts = []) →
      s.coreReset 4 = false → s.coreReset 6 = false → s.hoardFrozen = false → b.finished = false →
      (∀ (m : UpMsg) (k : Bool), b.g.kind = .ranging k → b.started = false → b.g.msg = some m → s.act.uq = [] →
        ∃ t x, exec (.fillDecision none) s = .next t ∧ (t.ubtCh n).bursts = [x] ∧ x.started = true ∧ x.ctrl = true ∧
          x.area = b.area ++ Line.sleHeader 0xFFFE (12 + m.body.length) true true 0 ++
            Line.frameMsg (s.act.tid.getD 1023).toNat m.type true m.seq m.body ∧
          x.space = b.space - (20 + m.body.length) ∧ x.finished = false ∧
          t.cnt Reg.USQ_CNT_CTRL_SEGS = s.cnt Reg.USQ_CNT_CTRL_SEGS + 1 ∧ (∀ m, m ≠ n → t.ubtCh m = s.ubtCh m) ∧
          t = { s.noted t with usq := { s.usq with cursor := t.usq.cursor }, ubt := t.ubt } ∧
          s.regsKept t [Reg.USQ_STATUS] ∧ s.cntsKept t [Reg.USQ_CNT_CTRL_SEGS]) ∧
      (b.started = true → (s.rbit Reg.USQ_CTRL 0 = false ∨ b.space < 8) →
        ∃ t x, exec (.fillDecision none) s = .next t ∧ (t.ubtCh n).bursts = [x] ∧ x.finished = true ∧ x.space = 0 ∧
          x.area.length = b.area.length + b.space ∧ x.places = b.places ∧
          t.cnt Reg.USQ_CNT_FILL_BYTES = s.cnt Reg.USQ_CNT_FILL_BYTES + BitVec.ofNat 48 b.space ∧
          t.cnt Reg.USQ_CNT_GRANTS = s.cnt Reg.USQ_CNT_GRANTS + 1 ∧
          t.cnt Reg.USQ_CNT_BATCHES = s.cnt Reg.USQ_CNT_BATCHES + 1 ∧ (∀ m, m ≠ n → t.ubtCh m = s.ubtCh m) ∧
          t = { s.noted t with usq := { s.usq with cursor := t.usq.cursor }, ubt := t.ubt } ∧
          s.regsKept t [Reg.USQ_STATUS] ∧
          s.cntsKept t [Reg.USQ_CNT_FILL_BYTES, Reg.USQ_CNT_GRANTS, Reg.USQ_CNT_BATCHES, Reg.USQ_CNT_GRANT_EMPTY]) ∧
      (∀ (a q i : Nat) (f : QFrame) (rest : List QFrame), b.g.kind = .alloc a → b.started = true →
        s.rbit Reg.USQ_CTRL 0 = true → s.placingStopped = false → s.queuesOf a = [q] → (s.queue q).frames = f :: rest →
        (s.queue q).cls = 1 → f.sent = 0 → s.candidate b q = true → q ∉ b.passed → 0 < f.len → f.len ≤ 16383 →
        f.len + 8 ≤ b.space → (∀ g ∈ rest, g.id ≠ f.id) → i = (s.queue q).linkF →
        (∃ x, (s.keys (2 * i + 1)).current? = some x ∧ x.ctr + 1 < ctrEnd) →
        ∃ t x, exec (.fillDecision none) s = .next t ∧ (t.ubtCh n).bursts = [x] ∧ x.space = b.space - (f.len + 8) ∧
          x.area = b.area ++ Line.sleHeader (s.dlink i).linkId.toNat f.len true true (s.ulink i).nextSeq.toNat ++
            Crypto.slice (s.encryptFrame i f.data).1 0 f.len ∧
          x.places = b.places ++ [⟨q, f.id, f.len + 8, b.area.length⟩] ∧ x.frames = b.frames ++ [(q, f.id)] ∧
          (t.queue q).frames = rest ∧ (t.ulink i).nextSeq = (s.ulink i).nextSeq + 1 ∧
          (∀ r, s.rateOf q = some r → (t.queue q).bucket = (s.queue q).bucket - 8 * (f.len + 8 : Nat)) ∧
          (∃ g, t.usq.flight = s.usq.flight ++ [(q, g)] ∧ g.id = f.id ∧ g.data = f.data ∧
            g.prot = (s.encryptFrame i f.data).1) ∧
          (∀ k, k ≠ q → t.queue k = s.queue k) ∧ (∀ m, m ≠ n → t.ubtCh m = s.ubtCh m) ∧
          t = { s.noted t with
            lsc := { s.lsc with keys := t.lsc.keys }, ubt := t.ubt
            usq := { s.usq with cursor := t.usq.cursor, queues := t.usq.queues, links := t.usq.links
                                flight := t.usq.flight } } ∧
          s.regsKept t [Reg.USQ_STATUS, Reg.LSC_STATUS, Reg.LSC_NEAR_LINK] ∧
          s.cntsKept t [Reg.LSC_CNT_ENC_FRAMES, Reg.LSC_CNT_NEAR_END])) ∧
    (∀ (p : Port) (i q : Nat) (f : QFrame) (rest : List QFrame), s.coreReset 7 = false → s.portUp p = true →
      (s.port p).tx = none → s.rbit Reg.USQ_CTRL 1 = true → s.hoardFrozen = false →
      (List.range 8).find? (fun i => s.egressReady (4096 + 512 * p.val + i)) = some i → q = 4096 + 512 * p.val + i →
      (s.queue q).frames = f :: rest →
      ∃ t, exec (.egressOffer p none) s = .next t ∧ t.port p = { s.port p with tx := some (q, f.id) } ∧
        (t.queue q).frames = rest ∧ t.usq.flight = s.usq.flight ++ [(q, f)] ∧
        (∀ r, s.rateOf q = some r → (t.queue q).bucket = (s.queue q).bucket - 8 * f.len) ∧
        (∀ k, k ≠ q → t.queue k = s.queue k) ∧ (∀ k, k ≠ p.val → t.port k = s.port k) ∧
        t = { s with ports := t.ports, usq := { s.usq with queues := t.usq.queues, flight := t.usq.flight } })

/-- R290, R298, R300, R303, R305, R308 to R310, R580. -/
def Obligations.BurstGate : Prop :=
  ∀ (s : State) (ch : Chan), s.settled →
    (∀ (b : Burst) (u : State), (s.ubtCh ch).bursts = [b] → b.launched = false → b.places = [] → b.msgs = [] →
      b.joined = false → u = s.passTo b.testAt →
      ∃ t, exec (.secondTest ch) s = .next t ∧ (∀ m, m ≠ ch.val → t.ubtCh m = s.ubtCh m) ∧
        (u.gateFails ch b = [] →
          t.ubtCh ch = { s.ubtCh ch with
            bseq := (s.ubtCh ch).bseq + 1, bursts := [{ b with launched := true, bseq := (s.ubtCh ch).bseq }] } ∧
          t.pwr.bias.getLsbD ch = true ∧ t.cnt (Reg.UBT_CHn_CNT_BURSTS ch) = s.cnt (Reg.UBT_CHn_CNT_BURSTS ch) + 1 ∧
          t.cnt (Reg.POD_TX_CNT_BURSTS ch) = s.cnt (Reg.POD_TX_CNT_BURSTS ch) + 1 ∧
          t = { s.later t with ubt := t.ubt, pwr := { s.pwr with bias := t.pwr.bias } } ∧
          s.regsKept t [Reg.POD_TX_STATUS ch, Reg.UBT_STATUS, Reg.ACT_STATUS] ∧
          s.cntsKept t [Reg.UBT_CHn_CNT_BURSTS ch, Reg.POD_TX_CNT_BURSTS ch, Reg.ACT_CNT_ANN_SENT,
            Reg.ACT_CNT_RANGE_SENT]) ∧
        (∀ c r, u.gateFails ch b = c :: r → c < 9 → b.g.kind ≠ .announce → s.act.uq.length ≤ 64 →
          t.ubtCh ch = { s.ubtCh ch with bursts := [], cause := c, stage := 2 } ∧ t.rbit Reg.UBT_STATUS 3 = true ∧
          t.cnt (Reg.UBT_CHn_CNT_ABANDON ch) = s.cnt (Reg.UBT_CHn_CNT_ABANDON ch) + 1 ∧
          t.cnt (Reg.UBT_CNT_CAUSE c) = s.cnt (Reg.UBT_CNT_CAUSE c) + 1 ∧ t = { s.later t with ubt := t.ubt } ∧
          s.regsKept t [Reg.UBT_STATUS] ∧ s.cntsKept t [Reg.UBT_CHn_CNT_ABANDON ch, Reg.UBT_CNT_CAUSE c])) ∧
    (∀ b : Burst, (s.ubtCh ch).bursts = [b] → b.launched = true → b.places = [] → b.frames = [] → 5 ≤ b.g.len →
      ∃ t, exec (.burstEnd ch) s = .next t ∧ (t.ubtCh ch).bursts = [] ∧ (t.ubtCh ch).lastEnd = b.end_ ∧
        t.out = Out.burst ch b.g.launch (s.burstHeader b) b.area b.g.prof b.g.len none :: s.out ∧
        t.cnt (Reg.POD_TX_CNT_SYMBOLS ch) = s.cnt (Reg.POD_TX_CNT_SYMBOLS ch) + BitVec.ofNat 48 b.g.len ∧
        t.cnt (Reg.POD_TX_CNT_CWS ch) =
          s.cnt (Reg.POD_TX_CNT_CWS ch) + BitVec.ofNat 48 (4 + (b.g.len - 5) * b.g.cBits / 7168) ∧
        (∀ m, m ≠ ch.val → t.ubtCh m = s.ubtCh m) ∧ t = { s.later t with out := t.out, ubt := t.ubt } ∧
        s.regsKept t [Reg.POD_TX_STATUS ch, Reg.UBT_STATUS] ∧
        s.cntsKept t [Reg.POD_TX_CNT_SYMBOLS ch, Reg.POD_TX_CNT_CWS ch, Reg.UBT_CHn_CNT_LIGHT_US ch]) ∧
    (∀ b : Burst, (s.ubtCh ch).bursts = [b] → b.launched = true → b.places = [] → b.msgs = [] → b.g.kind ≠ .announce →
      s.act.uq.length ≤ 64 →
      ∃ t, exec (.lateData ch) s = .next t ∧ (t.ubtCh ch).bursts = [] ∧ (t.ubtCh ch).lastEnd = min b.end_ s.now ∧
        t.out = Out.burst ch b.g.launch (s.burstHeader b) b.area b.g.prof b.g.len (some s.now) :: s.out ∧
        s.offers t ⟨sourceId ch 7 0 0, 0x09, BitVec.ofNat 40 b.bseq.toNat, 0⟩ ∧
        t.cnt (Reg.UBT_CHn_CNT_CUT ch) = s.cnt (Reg.UBT_CHn_CNT_CUT ch) + 1 ∧
        t.cnt (Reg.POD_TX_CNT_CUT ch) = s.cnt (Reg.POD_TX_CNT_CUT ch) + 1 ∧ t.rbit Reg.UBT_STATUS 2 = true ∧
        t.rbit (Reg.POD_TX_STATUS ch) 0 = true ∧ t.rbit (Reg.POD_TX_STATUS ch) 1 = true ∧
        (∀ m, m ≠ ch.val → t.ubtCh m = s.ubtCh m) ∧
        t = { s.noted t with out := t.out, ubt := t.ubt, flt := { s.flt with offered := t.flt.offered } } ∧
        s.regsKept t [Reg.POD_TX_STATUS ch, Reg.UBT_STATUS] ∧
        s.cntsKept t [Reg.UBT_CHn_CNT_CUT ch, Reg.POD_TX_CNT_CUT ch, Reg.POD_TX_CNT_SYMBOLS ch, Reg.POD_TX_CNT_CWS ch,
          Reg.UBT_CHn_CNT_LIGHT_US ch]) ∧
    (∀ long : Bool, s.quiet →
      ∃ t, exec (.rogueTrip ch long) s = .next t ∧ t.pod ch = { s.pod ch with sense := true } ∧
        (∀ m < 4, t.pads.tripped.getLsbD m = (s.pads.tripped.getLsbD m || m == ch.val)) ∧
        t.killLow ch = true ∧ s.took t (Reg.POD_TX_STATUS ch) [2] ∧ s.took t Reg.UBT_STATUS [8] ∧
        s.offers t ⟨sourceId ch 8 0 0, 0x0A, if long then 1 else 2, 0⟩ ∧ (∀ m, m ≠ ch.val → t.pod m = s.pod m) ∧
        t = { s.noted t with
          pods := t.pods, pads := { s.pads with tripped := t.pads.tripped }, flt := { s.flt with offered := t.flt.offered } } ∧
        s.regsKept t [Reg.POD_TX_STATUS ch, Reg.UBT_STATUS] ∧ s.cntsKept t []) ∧
    (∀ (ini : Nat) (v : Word) (off : BitVec 4), s.mayAccess ini 9 → s.armedFor 9 ini →
      ∃ t, exec (.rogueClr ini v off) s = .next t ∧ t.guardOf 9 = none ∧
        (∀ m < 4, t.pads.tripped.getLsbD m = (s.pads.tripped.getLsbD m && !(v.getLsbD m && off.getLsbD m))) ∧
        t.cnt Reg.UBT_CNT_ROGUE_CLR_REF = s.cnt Reg.UBT_CNT_ROGUE_CLR_REF +
          BitVec.ofNat 48 ((List.range 4).countP (fun m => v.getLsbD m && !off.getLsbD m)) ∧
        (∀ m, 4 ≤ m ∨ v.getLsbD m = false → t.pod m = s.pod m) ∧
        t = { s.accessed t with
          pods := t.pods, pads := { s.pads with tripped := t.pads.tripped }, guards := t.guards } ∧
        s.served t ini [Reg.UBT_STATUS] [Reg.UBT_CNT_ROGUE_CLR_REF]) ∧
    (∃ t, exec (.senseLow ch) s = .next t ∧ t.pod ch = { s.pod ch with sense := false } ∧
      (s.openBurst ch = none → t = { s with pods := t.pods }) ∧
      ((s.openBurst ch).isSome = true → s.took t (Reg.POD_TX_STATUS ch) (3 :: s.halfAt (Reg.POD_TX_CNT_SENSE_LOW ch)) ∧
        t.cnt (Reg.POD_TX_CNT_SENSE_LOW ch) = s.cnt (Reg.POD_TX_CNT_SENSE_LOW ch) + 1 ∧
        t = { s.noted t with pods := t.pods } ∧ s.regsKept t [Reg.POD_TX_STATUS ch] ∧
        s.cntsKept t [Reg.POD_TX_CNT_SENSE_LOW ch]) ∧ (∀ m, m ≠ ch.val → t.pod m = s.pod m)) ∧
    (∀ (ini : Nat) (v : Word), s.mayAccess ini 9 → s.armedFor 9 ini →
      ∃ t, exec (.gateLimitsWrite ini v) s = .next t ∧ t.reg Reg.UBT_GATE_LIMITS = s.merged Reg.UBT_GATE_LIMITS v ∧
        t.guardOf 9 = none ∧ t = { s.accessed t with guards := t.guards } ∧ s.served t ini [Reg.UBT_GATE_LIMITS] []) ∧
    (∃ t, exec (.biasOff ch) s = .next t ∧
      (s.openBurst ch = none → s.pwr.mode ≠ .active → t.pwr.bias.getLsbD ch = false ∧
        (∀ m, m ≠ ch.val → t.pwr.bias.getLsbD m = s.pwr.bias.getLsbD m)) ∧
      (s.openBurst ch ≠ none ∨ s.pwr.mode = .active → t = s) ∧ t = { s with pwr := { s.pwr with bias := t.pwr.bias } })

/-- R360, R361, R365, R366. -/
def Obligations.KeyCommands : Prop :=
  ∀ s : State, s.settled → s.solitary →
    (∀ (m : MsgIn) (i dir kx : Nat) (kek key : List Byte) (ep : BitVec 15), s.hears m t3to7 → m.body.length = 50 →
      s.linkOf (BitVec.ofNat 16 (Crypto.beNat (Crypto.slice m.body 0 2))) = some i → s.act.uq.length < 64 →
      dir = Crypto.beNat (Crypto.slice m.body 2 1) % 4 → ep = BitVec.ofNat 15 (Crypto.beNat (Crypto.slice m.body 4 2)) →
      s.lsc.kek = some kek → Crypto.kwUnwrap kek (Crypto.slice m.body 10 40) = some key →
      (dir = 1 ∧ kx = 2 * i ∨ dir = 2 ∧ kx = 2 * i + 1 ∧ (s.keys kx).current? = none) → (s.keys kx).a.state = .empty →
      ((s.keys kx).b.state = .empty ∨ (s.keys kx).b.epoch ≠ ep) → (s.keys kx).mirrors = [] →
      ∃ t u, exec (.keyDeliver m) s = .next t ∧
        (t.keys kx).a = { state := if (s.keys kx).current?.isSome then .next else .current, key := key
                          salt := BitVec.ofNat 32 (Crypto.beNat (Crypto.slice m.body 6 4)), epoch := ep
                          twin := decide (dir = 2) && s.twinBit, ctr := 0, nearEnd := false, mirror := 0 } ∧
        u = ⟨6, m.seq, Crypto.slice m.body 0 2 ++ Crypto.slice m.body 4 2 ++ [0, 0, 0, 0]⟩ ∧
        t.act.uq = s.act.uq ++ [u] ∧ s.actedOn t m (some u) ∧ t.rbit Reg.LSC_STATUS 2 = true ∧
        (dir = 2 → (t.keys kx).held = .none) ∧ (∀ k, k ≠ kx → t.keys k = s.keys k) ∧
        t = { s.noted t with
          lsc := { s.lsc with keys := t.lsc.keys }
          act := { s.act with uq := t.act.uq, own := t.act.own, bcast := t.act.bcast } } ∧
        s.regsKept t [Reg.LSC_STATUS, Reg.LSC_NEAR_LINK, Reg.ACT_STATUS] ∧
        s.cntsKept t [Reg.ACT_CNT_MSG_ACTED, Reg.LSC_CNT_NEAR_END]) ∧
    (∀ m : MsgIn, s.hears m t3to7 → m.body.length = 50 → s.lsc.kek = none → s.act.uq.length < 64 →
      ∃ t u, exec (.keyDeliver m) s = .next t ∧
        u = ⟨6, m.seq, Crypto.slice m.body 0 2 ++ Crypto.slice m.body 4 2 ++ [1, 0, 0, 0]⟩ ∧
        t.act.uq = s.act.uq ++ [u] ∧ s.actedOn t m (some u) ∧ t.rbit Reg.LSC_STATUS 3 = true ∧
        t.cnt Reg.LSC_CNT_KEY_REFUSED = s.cnt Reg.LSC_CNT_KEY_REFUSED + 1 ∧
        t = { s.noted t with act := { s.act with uq := t.act.uq, own := t.act.own, bcast := t.act.bcast } } ∧
        s.regsKept t [Reg.LSC_STATUS, Reg.ACT_STATUS] ∧
        s.cntsKept t [Reg.ACT_CNT_MSG_ACTED, Reg.LSC_CNT_KEY_REFUSED]) ∧
    (∀ (ini i : Nat) (v : Word), s.mayAccess ini 10 → s.armedFor 10 ini → v.getLsbD 0 = true →
      i = s.fld Reg.LSC_KL_CTRL 11 0 →
      ∃ t, exec (.keyLoad ini v) s = .next t ∧ t.guardOf 10 = none ∧ (∀ w < 10, t.reg (Reg.LSC_KL_WRAP w) = 0) ∧
        t.rbit Reg.LSC_KL_RESULT 8 = true ∧
        (s.lsc.kek = none → t.fld Reg.LSC_KL_RESULT 2 0 = 1 ∧ t.rbit Reg.LSC_STATUS 3 = true ∧
          t.cnt Reg.LSC_CNT_KEY_REFUSED = s.cnt Reg.LSC_CNT_KEY_REFUSED + 1 ∧ t = { s.accessed t with guards := t.guards } ∧
          s.served t ini (Reg.LSC_STATUS :: Reg.LSC_KL_RESULT :: (List.range 10).map Reg.LSC_KL_WRAP)
            [Reg.LSC_CNT_KEY_REFUSED]) ∧
        (∀ kek key : List Byte, s.lsc.kek = some kek → (s.dlink i).mapped = true → s.rbit Reg.LSC_KL_CTRL 12 = false →
          Crypto.kwUnwrap kek ((List.range 10).flatMap (fun w => Crypto.beBytes 4 (s.reg (Reg.LSC_KL_WRAP w)).toNat)) =
            some key →
          (s.keys (2 * i)).a.state = .empty → (s.keys (2 * i)).b.state = .empty → (s.keys (2 * i)).mirrors = [] →
          t.keys (2 * i) = { s.keys (2 * i) with
            a := { state := .current, key := key, salt := s.reg Reg.LSC_KL_SALT
                   epoch := BitVec.ofNat 15 (s.fld Reg.LSC_KL_CTRL 30 16), twin := false, ctr := 0, nearEnd := false
                   mirror := 0 } } ∧
          (∀ k, k ≠ 2 * i → t.keys k = s.keys k) ∧ t.fld Reg.LSC_KL_RESULT 2 0 = 0 ∧ t.rbit Reg.LSC_STATUS 2 = true ∧
          t = { s.accessed t with guards := t.guards, lsc := { s.lsc with keys := t.lsc.keys } } ∧
          s.served t ini (Reg.LSC_STATUS :: Reg.LSC_KL_RESULT :: (List.range 10).map Reg.LSC_KL_WRAP) [])) ∧
    (∀ (m : MsgIn) (i dir kx : Nat) (ep : BitVec 15), s.hears m t3to7 → m.body.length = 20 →
      ntimeOk (Crypto.slice m.body 8 11) = true → s.act.uq.length < 64 →
      s.linkOf (BitVec.ofNat 16 (Crypto.beNat (Crypto.slice m.body 0 2))) = some i →
      dir = Crypto.beNat (Crypto.slice m.body 2 1) % 4 → (dir = 1 ∧ kx = 2 * i ∨ dir = 2 ∧ kx = 2 * i + 1) →
      ep = BitVec.ofNat 15 (Crypto.beNat (Crypto.slice m.body 4 2)) →
      ∃ t u, exec (.keySwitch m) s = .next t ∧ s.actedOn t m (some u) ∧ t.act.uq = s.act.uq ++ [u] ∧
        u.type = 7 ∧ u.seq = m.seq ∧
        ((s.keys kx).a.state = .next → (s.keys kx).a.epoch = ep →
          u.body = Crypto.slice m.body 0 2 ++ Crypto.slice m.body 4 2 ++ [0, 0, 0, 0] ∧
          t.keys kx = { s.keys kx with sched := some (ep, ntimeOf (Crypto.slice m.body 8 11)) }) ∧
        ((s.keys kx).a.epoch ≠ ep → (s.keys kx).b.epoch ≠ ep →
          u.body = Crypto.slice m.body 0 2 ++ Crypto.slice m.body 4 2 ++ [6, 0, 0, 0] ∧ t.keys kx = s.keys kx) ∧
        (∀ k, k ≠ kx → t.keys k = s.keys k) ∧
        t = { s.noted t with
          lsc := { s.lsc with keys := t.lsc.keys }
          act := { s.act with uq := t.act.uq, own := t.act.own, bcast := t.act.bcast } } ∧
        s.regsKept t [Reg.ACT_STATUS] ∧ s.cntsKept t [Reg.ACT_CNT_MSG_ACTED]) ∧
    (∀ (l : Fin 4096) (ep : BitVec 15) (at_ : Nat), (s.keys (2 * l.val)).sched = some (ep, at_) → s.ntm.slots = [] →
      ∃ t, exec (.keySwitchApply l false) s = .next t ∧ (t.keys (2 * l.val)).sched = none ∧
        ((s.keys (2 * l.val)).a.state = .current → (s.keys (2 * l.val)).a.epoch ≠ ep →
          (s.keys (2 * l.val)).b.state = .next → (s.keys (2 * l.val)).b.epoch = ep →
          (t.keys (2 * l.val)).a = { (s.keys (2 * l.val)).a with state := .old } ∧
          (t.keys (2 * l.val)).b = { (s.keys (2 * l.val)).b with state := .current } ∧
          (t.keys (2 * l.val)).graceUntil = some (t.ticks + s.fld Reg.LSC_GRACE 15 0 * 1000 * ticksPerUs) ∧
          t.rbit Reg.LSC_STATUS 4 = true ∧ s.cntsKept t []) ∧
        ((s.keys (2 * l.val)).a.epoch ≠ ep → (s.keys (2 * l.val)).b.epoch ≠ ep →
          t.keys (2 * l.val) = { s.keys (2 * l.val) with sched := none } ∧ t.rbit Reg.LSC_STATUS 5 = true ∧
          t.cnt Reg.LSC_CNT_SW_FAIL = s.cnt Reg.LSC_CNT_SW_FAIL + 1) ∧
        (∀ k, k ≠ 2 * l.val → t.keys k = s.keys k) ∧ t = { s.later t with lsc := { s.lsc with keys := t.lsc.keys } } ∧
        s.regsKept t [Reg.LSC_STATUS] ∧ s.cntsKept t [Reg.LSC_CNT_SW_FAIL]) ∧
    (∀ (l : Fin 4096) (g : Nat), (s.keys (2 * l.val)).graceUntil = some g →
      ∃ t, exec (.graceExpiry l) s = .next t ∧ (t.keys (2 * l.val)).graceUntil = none ∧
        (∀ x : KeySlot, (x = (s.keys (2 * l.val)).a → (t.keys (2 * l.val)).a = if x.state = .old then .empty else x) ∧
          (x = (s.keys (2 * l.val)).b → (t.keys (2 * l.val)).b = if x.state = .old then .empty else x)) ∧
        t.ticks = max s.ticks g ∧ (∀ k, k ≠ 2 * l.val → t.keys k = s.keys k) ∧
        t = { s.later t with lsc := { s.lsc with keys := t.lsc.keys } } ∧ s.regsKept t [] ∧ s.cntsKept t [])

/-- R359, R370, R375 to R377. -/
def Obligations.LinkSecurity : Prop :=
  ∀ s : State, s.settled →
    (∀ (f : LinkFrame) (r : List LinkFrame), s.coreReset 6 = false → s.dsf.frames = f :: r →
      (s.dlink f.link).mask = 0 →
      (∀ code : Nat,
        (f.bytes.length < 24 ∧ code = 1 ∨ 24 ≤ f.bytes.length ∧ code = 2 ∧
          (∀ x ∈ (s.keys (2 * f.link)).slots, x.state = .empty ∨
            x.epoch.toNat ≠ Crypto.beNat (Crypto.slice f.bytes 0 2) % 2 ^ 15)) →
        ∃ t, exec .linkFrameAuth s = .next t ∧ t.dsf.frames = r ∧ t.arrivals = s.arrivals ∧
          t.fld Reg.LSC_FAIL_LINK 11 0 = f.link % 4096 ∧ t.fld Reg.LSC_FAIL_LINK 17 16 = code ∧
          t.rbit Reg.LSC_FAIL_LINK 20 = true ∧ t.rbit Reg.LSC_STATUS 6 = true ∧
          (t.keys (2 * f.link)).fails = (s.keys (2 * f.link)).fails + 1 ∧
          t.cnt (if code = 1 then Reg.LSC_CNT_MALFORMED else Reg.LSC_CNT_NO_KEY) =
            s.cnt (if code = 1 then Reg.LSC_CNT_MALFORMED else Reg.LSC_CNT_NO_KEY) + 1 ∧
          t = { s.noted t with dsf := { s.dsf with frames := r }, lsc := { s.lsc with keys := t.lsc.keys } } ∧
          s.regsKept t [Reg.LSC_STATUS, Reg.LSC_FAIL_LINK] ∧
          s.cntsKept t [if code = 1 then Reg.LSC_CNT_MALFORMED else Reg.LSC_CNT_NO_KEY]) ∧
      (∀ (x : KeySlot) (pt : List Byte), 24 ≤ f.bytes.length → s.twinOn = false → x = (s.keys (2 * f.link)).a →
        x.state ≠ .empty → x.epoch.toNat = Crypto.beNat (Crypto.slice f.bytes 0 2) % 2 ^ 15 →
        (s.keys (2 * f.link)).b.state = .empty →
        Crypto.gcmOpen x.key (ivOf x.salt (Crypto.beNat (Crypto.slice f.bytes 0 2)) (Crypto.beNat (Crypto.slice f.bytes 2 6)))
          (aadOf (s.dlink f.link).linkId.toNat (Crypto.beNat (Crypto.slice f.bytes 0 2))
            (Crypto.beNat (Crypto.slice f.bytes 2 6)))
          (Crypto.slice f.bytes 8 (f.bytes.length - 24)) (f.bytes.drop (8 + (f.bytes.length - 24))) = some pt →
        ∃ t, exec .linkFrameAuth s = .next t ∧ t.dsf.frames = r ∧
          t.arrivals = s.arrivals ++ [⟨9, f.link, pt ++ Crypto.leBytes 4 (Crypto.crc32 pt).toNat, f.stamp, false⟩] ∧
          (t.keys (2 * f.link)).a.ctr = Crypto.beNat (Crypto.slice f.bytes 2 6) ∧
          (t.keys (2 * f.link)).a.key = x.key ∧ (t.keys (2 * f.link)).b = (s.keys (2 * f.link)).b ∧
          t.cnt Reg.LSC_CNT_DEC_OK = s.cnt Reg.LSC_CNT_DEC_OK + 1 ∧ (∀ k, k ≠ 2 * f.link → t.keys k = s.keys k) ∧
          t = { s.noted t with
            dsf := { s.dsf with frames := r }, lsc := { s.lsc with keys := t.lsc.keys }, arrivals := t.arrivals } ∧
          s.regsKept t [Reg.LSC_STATUS] ∧ s.cntsKept t [Reg.LSC_CNT_DEC_OK])) ∧
    (∀ (ini : Nat) (v : Word), s.mayAccess ini 10 → s.armedFor 10 ini → v.getLsbD 0 = true → s.solitary →
      s.dsf.links = [] →
      ∃ t, exec (.erase ini v) s = .next t ∧ t.guardOf 10 = none ∧ t.lsc.kek = none ∧ t.lsc.clearCause = 5 ∧
        (∀ k, (t.keys k).a.state = .empty ∧ (t.keys k).b.state = .empty) ∧
        t.cnt Reg.LSC_CNT_ERASES = s.cnt Reg.LSC_CNT_ERASES + 1 ∧ t.rbit Reg.LSC_STATUS 8 = true ∧
        t = { s.accessed t with guards := t.guards, lsc := t.lsc } ∧
        s.served t ini [Reg.LSC_STATUS] [Reg.LSC_CNT_ERASES]) ∧
    (∀ (ini : Nat) (v : Word), s.mayAccess ini 10 → s.armedFor 10 ini →
      ∃ t, exec (.lscCtrlWrite ini v) s = .next t ∧ t.guardOf 10 = none ∧
        (∀ i < 2, t.rbit Reg.LSC_CTRL i = v.getLsbD i) ∧ t = { s.accessed t with guards := t.guards } ∧
        s.served t ini [Reg.LSC_CTRL] []) ∧
    (∀ (l : Fin 4096) (k : Nat), (s.keys (2 * l.val + 1)).holdUntil = some k → s.usq.queues = [] →
      ∃ t, exec (.holdExpiry l) s = .next t ∧
        t.keys (2 * l.val + 1) = { s.keys (2 * l.val + 1) with held := .discarding, holdUntil := none } ∧
        (∀ n, n ≠ 2 * l.val + 1 → t.keys n = s.keys n) ∧ t.ticks = max s.ticks k ∧
        t = { s.later t with lsc := { s.lsc with keys := t.lsc.keys } } ∧ s.regsKept t [] ∧ s.cntsKept t [])

/-- R385 to R397, Table HPE-2. -/
def Obligations.HostPorts : Prop :=
  ∀ (s : State) (p : Port), s.settled →
    (∀ (f : List Byte) (stamp corr unc : Nat), s.coreReset 7 = false → s.portUp p = true →
      (∀ sok : Bool, ∃ t, exec (.macReceive p f true sok stamp corr unc false) s = .next t ∧
        t.cnt (Reg.HPE_Pp_RX_SYMBOL p) = s.cnt (Reg.HPE_Pp_RX_SYMBOL p) + 1 ∧
        t.cnt (Reg.HPE_Pp_RX_OCTETS_ALL p) = s.cnt (Reg.HPE_Pp_RX_OCTETS_ALL p) + BitVec.ofNat 48 f.length ∧
        t.cnt (Reg.HPE_Pp_RX_FEC_CORR p) = s.cnt (Reg.HPE_Pp_RX_FEC_CORR p) + BitVec.ofNat 48 corr ∧ t = s.noted t ∧
        s.regsKept t [Reg.HPE_Pp_STATUS p] ∧
        s.cntsKept t [Reg.HPE_Pp_RX_SYMBOL p, Reg.HPE_Pp_RX_OCTETS_ALL p, Reg.HPE_Pp_RX_FEC_CORR p,
          Reg.HPE_Pp_RX_FEC_UNCOR p]) ∧
      (∀ sum : List Byte, 64 ≤ f.length → f.length ≤ s.fld (Reg.HPE_Pp_MAXLEN p) 13 0 → sum = f.drop (f.length - 4) →
        sum ≠ Crypto.leBytes 4 (Crypto.crc32 (f.take (f.length - 4))).toNat →
        ∃ t, exec (.macReceive p f false true stamp corr unc false) s = .next t ∧
          t.cnt (Reg.HPE_Pp_RX_FCS_ERR p) = s.cnt (Reg.HPE_Pp_RX_FCS_ERR p) + 1 ∧ t = s.noted t ∧
          s.regsKept t [Reg.HPE_Pp_STATUS p] ∧
          s.cntsKept t [Reg.HPE_Pp_RX_FCS_ERR p, Reg.HPE_Pp_RX_OCTETS_ALL p, Reg.HPE_Pp_RX_FEC_CORR p,
            Reg.HPE_Pp_RX_FEC_UNCOR p]) ∧
      (64 ≤ f.length → f.length ≤ s.fld (Reg.HPE_Pp_MAXLEN p) 13 0 →
        f.drop (f.length - 4) = Crypto.leBytes 4 (Crypto.crc32 (f.take (f.length - 4))).toNat →
        ∃ t, exec (.macReceive p f false true stamp corr unc false) s = .next t ∧
          t.cnt (Reg.HPE_Pp_RX_FRAMES_OK p) = s.cnt (Reg.HPE_Pp_RX_FRAMES_OK p) + 1 ∧
          t.cnt (Reg.HPE_Pp_RX_OCTETS_OK p) = s.cnt (Reg.HPE_Pp_RX_OCTETS_OK p) + BitVec.ofNat 48 f.length ∧
          (Crypto.slice f 12 2 = [0x88, 0x08] → Crypto.beNat (Crypto.slice f 14 2) = 1 →
            s.rbit (Reg.HPE_Pp_MAC_CTRL p) 0 = true → 0 < Crypto.beNat (Crypto.slice f 16 2) →
            t.port p = { s.port p with
              pauseUntil := some (s.ticks + s.pauseTicks p (Crypto.beNat (Crypto.slice f 16 2))) } ∧
            t.rbit (Reg.HPE_Pp_STATUS p) 4 = true ∧
            t.cnt (Reg.HPE_Pp_RX_PAUSE p) = s.cnt (Reg.HPE_Pp_RX_PAUSE p) + 1 ∧
            (∀ q, q ≠ p.val → t.port q = s.port q) ∧ t = { s.noted t with ports := t.ports }) ∧
          (Crypto.beNat (Crypto.slice f 12 2) ≠ 0x8808 → s.rbit (Reg.NTM_PTPp_CTRL p) 0 = false →
            s.rbit (Reg.HPE_Pp_MAC_CTRL p) 2 = false →
            t.arrivals = s.arrivals ++ [⟨p, 0, f, stamp, false⟩] ∧ t = { s.noted t with arrivals := t.arrivals }) ∧
          s.regsKept t [Reg.HPE_Pp_STATUS p] ∧
          s.cntsKept t ([Reg.HPE_Pp_RX_FRAMES_OK p, Reg.HPE_Pp_RX_OCTETS_OK p, Reg.HPE_Pp_RX_OCTETS_ALL p,
            Reg.HPE_Pp_RX_FEC_CORR p, Reg.HPE_Pp_RX_FEC_UNCOR p, Reg.HPE_Pp_RX_BKT p (bucketOf f.length),
            Reg.HPE_Pp_RX_UNICAST p, Reg.HPE_Pp_RX_MULTICAST p, Reg.HPE_Pp_RX_BROADCAST p, Reg.HPE_Pp_RX_PAUSE p,
            Reg.HPE_Pp_RX_CTRL p, Reg.HPE_Pp_RX_PTP p, Reg.HPE_Pp_TX_PAUSED p]))) ∧
    (∀ k : Nat, (s.port p).pauseUntil = some k →
      ∃ t, exec (.pauseEnd p) s = .next t ∧ t.port p = { s.port p with pauseUntil := none } ∧ t.ticks = max s.ticks k ∧
        (∀ q, q ≠ p.val → t.port q = s.port q) ∧ t = { s.later t with ports := t.ports } ∧ s.regsKept t [] ∧
        s.cntsKept t []) ∧
    (∀ (q : Nat) (f : QFrame), s.coreReset 7 = false → (s.port p).tx = some (q, f.id) → s.mayStart p = true →
      s.usq.flight = [(q, f)] → 64 ≤ f.data.length → s.hrd.failing = [] →
      ∃ t, exec (.macTransmit p) s = .next t ∧ t.out = Out.frame p f.data :: s.out ∧ t.usq.flight = [] ∧
        t.port p = { s.port p with tx := none } ∧
        t.queue q = { s.queue q with
          sentBytes := (s.queue q).sentBytes + BitVec.ofNat 48 f.len, sentFrames := (s.queue q).sentFrames + 1
          sentPos := f.pos } ∧
        t.hrd.usDesc + t.hrd.dsDesc = s.hrd.usDesc + s.hrd.dsDesc + 1 ∧
        t.cnt (Reg.HPE_Pp_TX_FRAMES p) = s.cnt (Reg.HPE_Pp_TX_FRAMES p) + 1 ∧
        t.cnt (Reg.HPE_Pp_TX_OCTETS p) = s.cnt (Reg.HPE_Pp_TX_OCTETS p) + BitVec.ofNat 48 f.data.length ∧
        (∀ k, k ≠ q → t.queue k = s.queue k) ∧ (∀ k, k ≠ p.val → t.port k = s.port k) ∧
        t = { s.noted t with
          out := t.out, ports := t.ports, usq := { s.usq with queues := t.usq.queues, flight := [] }
          hrd := { s.hrd with
            usFree := t.hrd.usFree, dsFree := t.hrd.dsFree, usDesc := t.hrd.usDesc, dsDesc := t.hrd.dsDesc } } ∧
        s.regsKept t [Reg.HPE_Pp_STATUS p, Reg.USQ_STATUS] ∧
        s.cntsKept t [Reg.HPE_Pp_TX_FRAMES p, Reg.HPE_Pp_TX_OCTETS p, Reg.HPE_Pp_TX_UNICAST p,
          Reg.HPE_Pp_TX_MULTICAST p, Reg.HPE_Pp_TX_BROADCAST p, Reg.HPE_Pp_TX_BKT p (bucketOf f.data.length)]) ∧
    (∀ (ini : Nat) (v : Word), s.mayAccess ini 11 → s.solitary →
      ∃ t, exec (.portCfgWrite ini p v) s = .next t ∧ (∀ q, q ≠ p.val → t.port q = s.port q) ∧
        (s.portCfgRefused p v = true → s.took t Reg.HPE_STATUS [0] ∧ t = s.accessed t ∧
          s.served t ini [Reg.HPE_STATUS] []) ∧
        (s.portCfgRefused p v = false → v.getLsbD 0 = true →
          t.reg (Reg.HPE_Pp_CFG p) = v &&& 0xFF ∧ t.portEn p = true ∧ (t.port p).rxCut = false ∧
          (t.port p).up = t.portUp p ∧ t = { s.accessed t with ports := t.ports, pwr := t.pwr } ∧
          s.served t ini [Reg.HPE_Pp_CFG p, Reg.HPE_Pp_STATUS p] []) ∧
        (s.portCfgRefused p v = false → v.getLsbD 0 = false → s.portEn p = true → (s.port p).tx = none →
          t.reg (Reg.HPE_Pp_CFG p) = v &&& 0xFF ∧ (t.port p).up = false ∧ (t.port p).rxCut = true ∧
          (t.port p).pauseUntil = none ∧ (∀ b g, t.guardOf b = some g → g.ini ≠ 1 + p.val) ∧
          (∀ k < 32, (t.sem k).owner ≠ 1 + p.val) ∧
          t = { s.accessed t with ports := t.ports, guards := t.guards, sems := t.sems } ∧
          s.served t ini [Reg.HPE_Pp_CFG p, Reg.HPE_Pp_STATUS p, Reg.DEV_STATUS] [])) ∧
    (∀ (lk : Byte) (lf rf : Bool), ∃ t, exec (.portUpChange p lk lf rf) s = .next t ∧
      t.port p = { s.port p with locked := lk, localFault := lf, remoteFault := rf, up := t.portUp p } ∧
      t.rbit (Reg.HPE_Pp_STATUS p) 0 = (s.rbit (Reg.HPE_Pp_STATUS p) 0 || (t.port p).up != (s.port p).up) ∧
      t.rbit (Reg.HPE_Pp_STATUS p) 1 = (s.rbit (Reg.HPE_Pp_STATUS p) 1 || lf && !(s.port p).localFault ||
        rf && !(s.port p).remoteFault) ∧
      (∀ q, q ≠ p.val → t.port q = s.port q) ∧ t = { s.noted t with ports := t.ports } ∧
      s.regsKept t [Reg.HPE_Pp_STATUS p] ∧ s.cntsKept t [])

/-- R335 to R338; the message layouts are those of the standard the spec names (log entry 21). -/
def Obligations.PtpMaster : Prop :=
  ∀ (s : State) (p : Port), s.settled →
    (∀ (mac : Nat) (u : State), u = s.passTo mac →
      ∃ t, exec (.ptpSync p mac) s = .next t ∧ (s.ptpSends p = false → t = s.later t ∧ s.regsKept t [] ∧ s.cntsKept t []) ∧
        (s.ptpSends p = true → s.fld (Reg.NTM_PTPp_CTRL p) 2 1 = 0 →
          (∃ f : List Byte, t.out = Out.frame p f :: s.out ∧ f.length = 64 ∧ Crypto.slice f 12 2 = [0x88, 0xF7] ∧
            Crypto.slice f 6 6 = s.portMac p ∧ Crypto.slice f 14 1 = [0] ∧
            Crypto.slice f 44 2 = Crypto.beBytes 2 (s.ptpSeqs p).1.toNat ∧
            Crypto.slice f 48 10 = ptpTime (s.egressStamp p mac) ∧
            f.drop 60 = Crypto.leBytes 4 (Crypto.crc32 (f.take 60)).toNat) ∧
          t.ptpSeqs p = ((s.ptpSeqs p).1 + 1, (s.ptpSeqs p).2) ∧
          t.cnt (Reg.NTM_PTPp_CNT_SYNC p) = s.cnt (Reg.NTM_PTPp_CNT_SYNC p) + 1 ∧
          t.cnt (Reg.HPE_Pp_TX_PTP p) = s.cnt (Reg.HPE_Pp_TX_PTP p) + 1 ∧
          t = { s.later t with out := t.out, ntm := { u.ntm with ptpSeq := t.ntm.ptpSeq } } ∧
          s.regsKept t [Reg.HPE_Pp_STATUS p, Reg.NTM_STATUS] ∧
          s.cntsKept t [Reg.NTM_PTPp_CNT_SYNC p, Reg.HPE_Pp_TX_PTP p, Reg.HPE_Pp_TX_PADDED p, Reg.HPE_Pp_TX_FRAMES p,
            Reg.HPE_Pp_TX_OCTETS p, Reg.HPE_Pp_TX_MULTICAST p, Reg.HPE_Pp_TX_BKT p 0])) ∧
    (∃ t, exec (.ptpAnnounce p) s = .next t ∧ (s.ptpSends p = false → t = s) ∧
      (s.ptpSends p = true → s.fld (Reg.NTM_PTPp_CTRL p) 2 1 = 0 →
        (∃ f : List Byte, t.out = Out.frame p f :: s.out ∧ f.length = 82 ∧ Crypto.slice f 12 2 = [0x88, 0xF7] ∧
          Crypto.slice f 14 1 = [11] ∧ Crypto.slice f 44 2 = Crypto.beBytes 2 (s.ptpSeqs p).2.toNat ∧
          Crypto.slice f 62 1 = Crypto.beBytes 1 s.clockClass) ∧
        t.ptpSeqs p = ((s.ptpSeqs p).1, (s.ptpSeqs p).2 + 1) ∧
        t.cnt (Reg.NTM_PTPp_CNT_ANN p) = s.cnt (Reg.NTM_PTPp_CNT_ANN p) + 1 ∧
        t = { s.noted t with out := t.out, ntm := { s.ntm with ptpSeq := t.ntm.ptpSeq } } ∧
        s.regsKept t [Reg.HPE_Pp_STATUS p, Reg.NTM_STATUS] ∧
        s.cntsKept t [Reg.NTM_PTPp_CNT_ANN p, Reg.HPE_Pp_TX_PTP p, Reg.HPE_Pp_TX_FRAMES p, Reg.HPE_Pp_TX_OCTETS p,
          Reg.HPE_Pp_TX_MULTICAST p, Reg.HPE_Pp_TX_BKT p 1])) ∧
    (∀ (f : List Byte) (mac : Nat) (r : List (List Byte × Nat)) (m : List Byte), (s.port p).ptp = (f, mac) :: r →
      m = (f.take (f.length - 4)).drop (s.ptpOffset p f) →
      ∃ t, exec (.delayReq p) s = .next t ∧ t.port p = { s.port p with ptp := r } ∧
        (∀ q, q ≠ p.val → t.port q = s.port q) ∧
        (s.validDreq m = false ∨ s.ptpSends p = false ∨ 512 ≤ s.drespSent p →
          t.cnt (Reg.NTM_PTPp_CNT_DROP p) = s.cnt (Reg.NTM_PTPp_CNT_DROP p) + 1 ∧ t = { s.noted t with ports := t.ports } ∧
          s.regsKept t [Reg.NTM_STATUS] ∧ s.cntsKept t [Reg.NTM_PTPp_CNT_DROP p]) ∧
        (s.validDreq m = true → s.ptpSends p = true → s.drespSent p < 512 → s.fld (Reg.NTM_PTPp_CTRL p) 2 1 = 0 →
          (∃ a : List Byte, t.out = Out.frame p a :: s.out ∧ a.length = 72 ∧ Crypto.slice a 14 1 = [9] ∧
            Crypto.slice a 44 2 = Crypto.slice m 30 2 ∧ Crypto.slice a 48 10 = ptpTime (s.ingressStamp p mac) ∧
            Crypto.slice a 58 10 = Crypto.slice m 20 10) ∧
          t.drespSent p = s.drespSent p + 1 ∧
          t.cnt (Reg.NTM_PTPp_CNT_DRESP p) = s.cnt (Reg.NTM_PTPp_CNT_DRESP p) + 1 ∧
          t = { s.noted t with out := t.out, ports := t.ports, ntm := { s.ntm with dresp := t.ntm.dresp } } ∧
          s.regsKept t [Reg.HPE_Pp_STATUS p, Reg.NTM_STATUS] ∧
          s.cntsKept t [Reg.NTM_PTPp_CNT_DRESP p, Reg.HPE_Pp_TX_PTP p, Reg.HPE_Pp_TX_FRAMES p, Reg.HPE_Pp_TX_OCTETS p,
            Reg.HPE_Pp_TX_MULTICAST p, Reg.HPE_Pp_TX_BKT p 1]))

/-- R407 to R410, R416, R417. -/
def Obligations.TableCommands : Prop :=
  ∀ s : State, s.settled →
    (∀ ini : Nat, s.mayAccess ini 12 → s.solitary →
      (∃ t st pl i, exec (.insert ini) s = .next t ∧ t.cls.result = packWord [(i, 15, 0), (pl, 2, 15), (st, 3, 17), (1, 1, 20)] ∧
        (s.genBusy s.staged.gen = true → st = 5 ∧ t.cls = { s.cls with result := t.cls.result }) ∧
        (s.genBusy s.staged.gen = false → s.entryBad s.staged = true →
          st = 6 ∧ t.cls = { s.cls with result := t.cls.result }) ∧
        (s.genBusy s.staged.gen = false → s.entryBad s.staged = false → (s.lookup s.staged).isSome = true →
          st = 2 ∧ s.lookup s.staged = some (pl, i) ∧ t.cls = { s.cls with result := t.cls.result }) ∧
        (s.genBusy s.staged.gen = false → s.entryBad s.staged = false → s.lookup s.staged = none →
          ((s.cls.entry 0 (s.slotOf s.staged 0)).valid = false →
            st = 0 ∧ pl = 0 ∧ i = s.slotOf s.staged 0 ∧
            t.cls = { s.cls.put 0 i s.staged with result := t.cls.result }) ∧
          ((s.cls.entry 0 (s.slotOf s.staged 0)).valid = true → (s.cls.entry 1 (s.slotOf s.staged 1)).valid = false →
            st = 0 ∧ pl = 1 ∧ i = s.slotOf s.staged 1 ∧
            t.cls = { s.cls.put 1 i s.staged with result := t.cls.result }) ∧
          (st ≤ 1 → (t.lookup s.staged).isSome = true) ∧ (1 < st → st = 3 ∧ t.cls = { s.cls with result := t.cls.result })) ∧
        st ≤ 6 ∧ t.rbit Reg.CLS_STATUS 3 = true ∧ t.rbit Reg.CLS_STATUS 4 = (s.rbit Reg.CLS_STATUS 4 || decide (1 < st)) ∧
        t.rbit Reg.CLS_STATUS 5 = (s.rbit Reg.CLS_STATUS 5 || decide (st = 1)) ∧ t.cls.stage = s.cls.stage ∧
        t = { s.accessed t with cls := t.cls } ∧ s.served t ini [Reg.CLS_STATUS] []) ∧
      (∃ t, exec (.update ini) s = .next t ∧
        (s.genBusy s.staged.gen = false → ∀ pl i, s.lookup s.staged = some (pl, i) →
          t.cls = { s.cls.put pl i { s.cls.entry pl i with act := s.cls.stage.act } with
            result := packWord [(i, 15, 0), (pl, 2, 15), (0, 3, 17), (1, 1, 20)] }) ∧
        (s.genBusy s.staged.gen = false → s.lookup s.staged = none →
          t.cls = { s.cls with result := packWord [(0, 15, 0), (0, 2, 15), (4, 3, 17), (1, 1, 20)] }) ∧
        t.rbit Reg.CLS_STATUS 3 = true ∧ t = { s.accessed t with cls := t.cls } ∧ s.served t ini [Reg.CLS_STATUS] []) ∧
      (∃ t, exec (.delete ini) s = .next t ∧
        (s.genBusy s.staged.gen = false → ∀ pl i, s.lookup s.staged = some (pl, i) →
          t.cls = { s.cls.put pl i { s.cls.entry pl i with valid := false } with
            result := packWord [(i, 15, 0), (pl, 2, 15), (0, 3, 17), (1, 1, 20)] }) ∧
        (s.genBusy s.staged.gen = true →
          t.cls = { s.cls with result := packWord [(0, 15, 0), (0, 2, 15), (5, 3, 17), (1, 1, 20)] }) ∧
        t.rbit Reg.CLS_STATUS 3 = true ∧ t = { s.accessed t with cls := t.cls } ∧ s.served t ini [Reg.CLS_STATUS] []) ∧
      (∃ t, exec (.find ini) s = .next t ∧
        (∀ pl i, s.lookup s.staged = some (pl, i) → t.cls = { s.cls with
          stage := s.cls.entry pl i, result := packWord [(i, 15, 0), (pl, 2, 15), (0, 3, 17), (1, 1, 20)] }) ∧
        (s.lookup s.staged = none → t.cls.stage = s.cls.stage ∧ t.rbit Reg.CLS_STATUS 4 = true) ∧
        t = { s.accessed t with cls := { s.cls with stage := t.cls.stage, result := t.cls.result } } ∧
        s.served t ini [Reg.CLS_STATUS] []) ∧
      (∀ pl i : Nat, pl = s.fld Reg.CLS_TBL_IDX 16 15 → i = s.fld Reg.CLS_TBL_IDX 14 0 →
        ∃ t, exec (.readSlot ini) s = .next t ∧
          (pl < 2 ∨ pl = 2 ∧ i < 16 → t.cls = { s.cls with
            stage := s.cls.entry pl i, result := packWord [(i, 15, 0), (pl, 2, 15), (0, 3, 17), (1, 1, 20)] }) ∧
          (pl = 3 ∨ pl = 2 ∧ 16 ≤ i → t.cls.stage = s.cls.stage ∧ t.rbit Reg.CLS_STATUS 4 = true) ∧
          t = { s.accessed t with cls := { s.cls with stage := t.cls.stage, result := t.cls.result } } ∧
          s.served t ini [Reg.CLS_STATUS] []) ∧
      (∀ g : Nat, g = s.fld Reg.CLS_TBL_GEN 0 0 → s.genBusy g = false → s.cls.bank0.wf (fun _ => .empty) = true →
        s.cls.bank1.wf (fun _ => .empty) = true → s.cls.stash.wf (fun _ => .empty) = true →
        ∃ t, exec (.clearGen ini) s = .next t ∧
          (∀ pl i, t.cls.entry pl i =
            if (s.cls.entry pl i).gen = g then { s.cls.entry pl i with valid := false } else s.cls.entry pl i) ∧
          t = { s.accessed t with cls := { s.cls with
            bank0 := t.cls.bank0, bank1 := t.cls.bank1, stash := t.cls.stash, result := t.cls.result } } ∧
          s.served t ini [Reg.CLS_STATUS] []) ∧
      (∃ t, exec (.swap ini) s = .next t ∧
        (s.cls.drained = true → t.cls = { s.cls with
            active := 1 - s.cls.active
            drained := decide (∀ r ∈ s.cls.recirc, r.gen = 1 - s.cls.active) } ∧ s.took t Reg.CLS_STATUS [0] ∧
          s.cntsKept t [Reg.ARB_Ii_CNT_GRANTr 0 ini]) ∧
        (s.cls.drained = false → t.cls = s.cls ∧ t.rbit Reg.CLS_STATUS 1 = true ∧
          t.cnt Reg.CLS_CNT_SWAP_REFUSED = s.cnt Reg.CLS_CNT_SWAP_REFUSED + 1) ∧
        t = { s.accessed t with cls := t.cls } ∧ s.served t ini [Reg.CLS_STATUS] [Reg.CLS_CNT_SWAP_REFUSED])) ∧
    (s.cls.drained = false → (∀ r ∈ s.cls.recirc, r.gen = s.cls.active) →
      ∃ t, exec .drained s = .next t ∧ t.cls = { s.cls with drained := true } ∧ s.took t Reg.CLS_STATUS [2] ∧
        t = { s.noted t with cls := t.cls } ∧ s.regsKept t [Reg.CLS_STATUS] ∧ s.cntsKept t [])

/-- R399, R412 to R414, R447. -/
def Obligations.PacketEngine : Prop :=
  ∀ s : State, s.settled →
    (∀ (pipe : Fin 8) (head : Bool) (p : PktIn) (prof : Nat) (r : Pass), s.coreReset 8 = false →
      s.rbit Reg.CLS_CTRL 0 = true → s.flt.isoCls.getLsbD pipe = false → s.hoardFrozen = false →
      s.nextArrival = some p → prof = s.selectProfile p (s.tagsOf p) → lenConflict p (s.tagsOf p) (s.profile prof) = false →
      r = (s.makePass p prof s.cls.active false none).1 → r.act.bit 30 = false →
      ∃ t, exec (.firstPass pipe head) s = .next t ∧ t.arrivals = s.arrivals.erase p ∧
        t.cls.lastPort = (if p.source < 8 then p.source else s.cls.lastPort) ∧
        (∀ pl i, t.cls.entry pl i = { s.cls.entry pl i with hits := (t.cls.entry pl i).hits }) ∧
        t.cnt Reg.CLS_CNT_PASS1 = s.cnt Reg.CLS_CNT_PASS1 + 1 ∧ t.fresh = s.fresh + 16 ∧
        (r.act.bit 31 = true → t.cnt Reg.CLS_CNT_DROP = s.cnt Reg.CLS_CNT_DROP + 1 ∧
          t = { s.noted t with
            arrivals := t.arrivals, fresh := t.fresh
            cls := { s.cls with
              bank0 := t.cls.bank0, bank1 := t.cls.bank1, stash := t.cls.stash, lastPort := t.cls.lastPort } } ∧
          s.regsKept t [Reg.CLS_STATUS] ∧
          s.cntsKept t [Reg.CLS_CNT_PASS1, Reg.CLS_CNT_DROP, Reg.CLS_CNT_INCOMPLETE, Reg.CLS_CNT_MISS, Reg.CLS_CNT_HIT]) ∧
        (r.act.bit 31 = false → r.act.bit 29 = true → head = true →
          keyBits (s.profile (bitsOf r.act.a1.toNat 9 4)) ≤ 304 →
          t.cls.recirc = s.cls.recirc ++ [⟨pipe, p, s.cls.active, false, r, s.ticks, false⟩] ∧
          (16 * 0 + pipe.val + 1 ∈ t.arb.i1.waiting) ∧
          t = { s.noted t with
            arrivals := t.arrivals, fresh := t.fresh, arb := { s.arb with i1 := { s.arb.i1 with waiting := t.arb.i1.waiting } }
            cls := { s.cls with
              bank0 := t.cls.bank0, bank1 := t.cls.bank1, stash := t.cls.stash, lastPort := t.cls.lastPort
              recirc := t.cls.recirc } } ∧
          s.regsKept t [Reg.CLS_STATUS] ∧
          s.cntsKept t [Reg.CLS_CNT_PASS1, Reg.CLS_CNT_INCOMPLETE, Reg.CLS_CNT_MISS, Reg.CLS_CNT_HIT]) ∧
        (∀ (q : Nat) (x : Queue), r.act.bit 31 = false → r.act.bit 29 = false → p.ovs = false → p.source < 8 →
          ({ s with fresh := s.fresh + 16 } : State).resolve p [r] = .ok q → q < 4096 → x = s.queue q → x.enable = true → x.maxDepth = 0 → x.trim = none →
          x.waits = [] → (s.keys (2 * x.linkF + 1)).held = .none → s.hasRoom q (p.dataLen + 24) = true →
          (∃ f : QFrame, (t.queue q).frames = x.frames ++ [f] ∧ f.data = p.data.take p.dataLen ∧
            f.len = (p.data.take p.dataLen).length + 24 ∧ f.visible = false ∧ f.sent = 0 ∧ f.stamp = p.stamp ∧
            f.id = s.usq.nextId) ∧
          (t.queue q).enqFrames = x.enqFrames + 1 ∧ t.usq.nextId = s.usq.nextId + 1 ∧ t.hrd.usDesc = s.hrd.usDesc - 1 ∧
          (∀ k, k ≠ q → t.queue k = s.queue k) ∧
          t = { s.noted t with
            arrivals := t.arrivals, fresh := t.fresh, usq := { s.usq with queues := t.usq.queues, nextId := t.usq.nextId }
            hrd := { s.hrd with usFree := t.hrd.usFree, usDesc := t.hrd.usDesc }
            cls := { s.cls with
              bank0 := t.cls.bank0, bank1 := t.cls.bank1, stash := t.cls.stash, lastPort := t.cls.lastPort } } ∧
          s.regsKept t [Reg.CLS_STATUS, Reg.USQ_STATUS] ∧
          s.cntsKept t [Reg.CLS_CNT_PASS1, Reg.CLS_CNT_INCOMPLETE, Reg.CLS_CNT_MISS, Reg.CLS_CNT_HIT])) ∧
    (∀ (r : Recirc) (p2 : Pass), s.coreReset 8 = false → s.cls.recirc.find? (·.granted) = some r →
      p2 = (s.makePass r.pkt (bitsOf r.first.act.a1.toNat 9 4) r.gen r.conflict (some r.first)).1 →
      p2.act.bit 31 = true → p2.act.bit 30 = false → r.first.act.bit 30 = false →
      ∃ t, exec .recirculation s = .next t ∧ t.cls.recirc = s.cls.recirc.erase r ∧
        t.cnt Reg.CLS_CNT_PASS2 = s.cnt Reg.CLS_CNT_PASS2 + 1 ∧ t.cnt Reg.CLS_CNT_DROP = s.cnt Reg.CLS_CNT_DROP + 1 ∧
        (∀ pl i, t.cls.entry pl i = { s.cls.entry pl i with hits := (t.cls.entry pl i).hits }) ∧
        t = { s.noted t with
          fresh := s.fresh + 16
          cls := { s.cls with
            bank0 := t.cls.bank0, bank1 := t.cls.bank1, stash := t.cls.stash, recirc := t.cls.recirc } } ∧
        s.regsKept t [Reg.CLS_STATUS] ∧
        s.cntsKept t [Reg.CLS_CNT_PASS2, Reg.CLS_CNT_DROP, Reg.CLS_CNT_INCOMPLETE, Reg.CLS_CNT_MISS, Reg.CLS_CNT_HIT]) ∧
    (∀ (pipe : Fin 8) (r : Recirc), s.cls.recirc.find? (fun r => r.pipe = pipe.val ∧ r.granted = false) = some r →
      (Tab.get 0 (s.profile r.first.prof) 0).getLsbD 28 = false →
      ∃ t, exec (.recircWithdraw pipe) s = .next t ∧ t.cls = { s.cls with recirc := s.cls.recirc.erase r } ∧
        t.ticks = max s.ticks (r.tick + 52) ∧ t.rbit Reg.CLS_STATUS 8 = true ∧
        t.cnt Reg.CLS_CNT_RECIRC_BUDGET = s.cnt Reg.CLS_CNT_RECIRC_BUDGET + 1 ∧
        t = { s.later t with
          cls := t.cls, arb := { s.arb with i1 := { s.arb.i1 with waiting := t.arb.i1.waiting } } } ∧
        s.regsKept t [Reg.CLS_STATUS] ∧ s.cntsKept t [Reg.CLS_CNT_RECIRC_BUDGET])

/-- R404, R408, R420, R431, R436, R438. -/
def Obligations.EngineSettings : Prop :=
  ∀ s : State, s.settled →
    (∀ (ini : Nat) (v : Word), s.mayAccess ini 12 → s.solitary →
      (∃ t, exec (.profileApply ini (v ||| 1)) s = .next t ∧
        (profRefused s.cls.profStage = false → t.profile (s.fld Reg.CLS_PROF_SEL 5 0) = s.cls.profStage ∧
          (∀ k, k ≠ s.fld Reg.CLS_PROF_SEL 5 0 → t.profile k = s.profile k) ∧ s.served t ini [] []) ∧
        (profRefused s.cls.profStage = true → t.cls = s.cls ∧ s.took t Reg.CLS_STATUS [6]) ∧
        t = { s.accessed t with cls := { s.cls with profs := t.cls.profs } } ∧ s.served t ini [Reg.CLS_STATUS] []) ∧
      (∃ t, exec (.profileLoad ini (v ||| 2)) s = .next t ∧
        t.cls = { s.cls with profStage := s.profile (s.fld Reg.CLS_PROF_SEL 5 0) } ∧
        t = { s.accessed t with cls := t.cls } ∧ s.served t ini [] []) ∧
      (∃ t, exec (.selDataWrite ini v) s = .next t ∧
        Tab.get (0, 0) t.cls.sel (s.fld Reg.CLS_SEL_IDX 5 0) = (v &&& 0x3F07FFFF, s.reg Reg.CLS_SEL_SRC) ∧
        (∀ k, k ≠ s.fld Reg.CLS_SEL_IDX 5 0 → Tab.get (0, 0) t.cls.sel k = Tab.get (0, 0) s.cls.sel k) ∧
        t = { s.accessed t with cls := { s.cls with sel := t.cls.sel } } ∧ s.served t ini [] []) ∧
      (∃ t, exec (.sgMapWrite ini v) s = .next t ∧
        (bitsOf v.toNat 15 12 ≤ 12 → bitsOf v.toNat 11 0 + 2 ^ bitsOf v.toNat 15 12 ≤ 4096 →
          Tab.get (0, 0) t.cls.sgs (s.fld Reg.CLS_SG_SEL 5 0) = (s.reg Reg.CLS_SG_CFG, v &&& 0x1FFFFFFF) ∧
          (∀ k, k ≠ s.fld Reg.CLS_SG_SEL 5 0 → Tab.get (0, 0) t.cls.sgs k = Tab.get (0, 0) s.cls.sgs k) ∧
          s.served t ini [] []) ∧
        (12 < bitsOf v.toNat 15 12 ∨ 4096 < bitsOf v.toNat 11 0 + 2 ^ bitsOf v.toNat 15 12 →
          t.cls = s.cls ∧ s.took t Reg.CLS_STATUS [7]) ∧
        t = { s.accessed t with cls := { s.cls with sgs := t.cls.sgs } } ∧ s.served t ini [Reg.CLS_STATUS] []) ∧
      (∀ bank : Fin 2, ∃ t, exec (.seedWrite ini bank v) s = .next t ∧
        ((∀ e ∈ s.cls.bank0 ++ s.cls.bank1 ++ s.cls.stash, e.2.valid = false) →
          t.reg (if bank = 0 then Reg.CLS_SEED0 else Reg.CLS_SEED1) = v ∧
          s.served t ini [if bank = 0 then Reg.CLS_SEED0 else Reg.CLS_SEED1] []) ∧
        ((∃ e ∈ s.cls.bank0 ++ s.cls.bank1 ++ s.cls.stash, e.2.valid = true) → s.took t Reg.CLS_STATUS [4] ∧ s.served t ini [Reg.CLS_STATUS] []) ∧
        t = s.accessed t)) ∧
    (∀ (ini : Nat) (v : Word), s.mayAccess ini 13 → s.solitary →
      ∃ t, exec (.partitionWrite ini v) s = .next t ∧
        (s.fld Reg.USQ_CTRL 1 0 = 0 → s.fld Reg.DSF_CTRL 3 0 = 0 → s.hoardEmpty = true → 8 ≤ bitsOf v.toNat 5 0 →
          bitsOf v.toNat 5 0 ≤ 40 → s.hrd.retired0 = [] → s.hrd.retired1 = [] →
          t.fld Reg.HRD_PART 5 0 = bitsOf v.toNat 5 0 ∧ t.hrd.usFree = bitsOf v.toNat 5 0 * 4063232 ∧
          t.hrd.dsFree = (48 - bitsOf v.toNat 5 0) * 4063232 - 507904 ∧ s.served t ini [Reg.HRD_PART] []) ∧
        (s.fld Reg.USQ_CTRL 1 0 ≠ 0 ∨ s.fld Reg.DSF_CTRL 3 0 ≠ 0 ∨ s.hoardEmpty = false ∨ bitsOf v.toNat 5 0 < 8 ∨
            40 < bitsOf v.toNat 5 0 → t.hrd = s.hrd ∧ s.took t Reg.HRD_STATUS [0] ∧ s.served t ini [Reg.HRD_STATUS] []) ∧
        t = { s.accessed t with hrd := { s.hrd with usFree := t.hrd.usFree, dsFree := t.hrd.dsFree } }) ∧
    (s.rbit Reg.HRD_CTRL 0 = true → s.hoardFrozen = false →
      (∃ t, exec (.scrub []) s = .next t ∧ t = { s with hrd := { s.hrd with pcs := t.hrd.pcs } } ∧
        ∀ x < 64, t.pc x = (if (s.pc x).pos + 1 = 3145728 then { s.pc x with pos := 0, passes := (s.pc x).passes + 1 }
          else { s.pc x with pos := (s.pc x).pos + 1 })) ∧
      (∀ x : Fin 64, (s.pc x).pos + 1 ≠ 3145728 →
        ∃ t, exec (.scrub [⟨x, .corrected⟩]) s = .next t ∧
          t.pc x = { s.pc x with
            pos := (s.pc x).pos + 1, corr := (s.pc x).corr + 1, scrubCorr := (s.pc x).scrubCorr + 1 } ∧
          s.offers t ⟨sourceId (6 + x.val / 32) (x.val / 2 % 16) (x.val % 2) 0, 0x02, BitVec.ofNat 40 (s.pc x).pos, 8⟩ ∧
          t.rbit Reg.HRD_STATUS 1 = true ∧
          t.cnt (Reg.HRD_CNT_CORR_S0 + 8 * (x.val / 32)) = s.cnt (Reg.HRD_CNT_CORR_S0 + 8 * (x.val / 32)) + 1 ∧
          t = { s.noted t with
            hrd := { s.hrd with pcs := t.hrd.pcs }, flt := { s.flt with offered := t.flt.offered } } ∧
          s.regsKept t [Reg.HRD_STATUS] ∧ s.cntsKept t [Reg.HRD_CNT_CORR_S0 + 8 * (x.val / 32)]))

/-- R456, R461, R463, R465, R466, R470, R482, R497. -/
def Obligations.HuskEndpoint : Prop :=
  ∀ s : State, s.settled →
    (s.hskUp = true → ∃ t m, exec .beaconSend s = .next t ∧ t.hsk.toShell = m :: s.hsk.toShell ∧ m.type = 1 ∧
      m.seq = s.hsk.txSeq ∧
      m.body = ntimeBytes s.now ++ Crypto.beBytes 1 (b2n (s.hsk.beacons % 16 == 15) + 2 * timeCode s.ntm.state) ++
        Crypto.beBytes 4 (BitVec.ofInt 32 s.hsk.latIn).toNat ∧
      t.hsk = { s.hsk with
        txSeq := s.hsk.txSeq + 1, beacons := s.hsk.beacons + 1, toShell := t.hsk.toShell, echoTx := t.hsk.echoTx } ∧
      (s.hsk.beacons % 16 ≠ 15 → t.hsk.echoTx = s.hsk.echoTx) ∧
      (s.hsk.beacons % 16 = 15 → Tab.find? t.hsk.echoTx s.hsk.txSeq.toNat = some s.now) ∧
      t.cnt Reg.HSK_CNT_BEACONS = s.cnt Reg.HSK_CNT_BEACONS + 1 ∧ t = { s.noted t with hsk := t.hsk } ∧
      s.regsKept t [Reg.HSK_STATUS] ∧ s.cntsKept t [Reg.HSK_CNT_BEACONS, Reg.HSK_CNT_TX_MSG]) ∧
    (∀ (m : HuskMsg) (arr tTx : Nat) (rt : Int), s.hskUp = true → m.type = 0x84 →
      Tab.find? s.hsk.echoTx (Crypto.beNat (Crypto.slice m.body 22 4)) = some tTx →
      rt = ((arr : Int) - tTx) - ((ntimeOf (Crypto.slice m.body 11 11) : Int) - ntimeOf (Crypto.slice m.body 0 11)) →
      ∃ t, exec (.huskEcho arr (some m)) s = .next t ∧
        (s.hsk.rts.length < 15 → t.hsk.rts = rt :: s.hsk.rts ∧ t.hsk.dIn = s.hsk.dIn) ∧
        (s.hsk.rts.length = 15 → t.hsk.rts = [] ∧
          t.hsk.dIn = some ((Int.tdiv ((rt :: s.hsk.rts).foldl (· + ·) 0) 16 + s.hsk.latAsym) / 2)) ∧
        t.hsk = { s.hsk with rts := t.hsk.rts, dIn := t.hsk.dIn, echoTx := t.hsk.echoTx } ∧
        t = { s.later t with hsk := t.hsk } ∧ s.regsKept t [Reg.HSK_STATUS] ∧ s.cntsKept t [Reg.HSK_CNT_RX_MSG]) ∧
    (∀ (m : HuskMsg) (n : Nat) (new : List Nat), s.hskUp = true → m.type = 0x83 →
      new = (List.range 12).filter (fun i =>
        (healthField m.body 48 4).testBit i && !(healthField s.hsk.health 48 4).testBit i) →
      ∃ t, exec (.huskHealth (some m) n) s = .next t ∧ t.hsk.health = m.body ∧ t.rbit Reg.HSK_STATUS 1 = true ∧
        t.flt.offered = new.foldl (fun l i => offerMsg l ⟨sourceId 5 1 0 0, 0x12, BitVec.ofNat 40 i, 0⟩) s.flt.offered ∧
        (new ≠ [] → t.rbit Reg.HSK_STATUS 2 = true) ∧
        (s.hsk.cmd = some (BitVec.ofNat 8 (healthField m.body 40 1), BitVec.ofNat 32 (healthField m.body 44 4)) →
          t.hsk.cmd = none ∧ t.rbit Reg.HSK_STATUS 5 = true ∧
          t.hsk.result = packWord [(healthField m.body 41 1, 8, 0),
            ((BitVec.ofNat 8 (healthField m.body 40 1)).toNat, 8, 8), (1, 1, 16)]) ∧
        (s.hsk.cmd = none → t.hsk = { s.hsk with health := m.body }) ∧
        t.cnt Reg.HSK_CNT_RETRY = s.cnt Reg.HSK_CNT_RETRY + BitVec.ofNat 48 n ∧
        t = { s.noted t with hsk := t.hsk, flt := { s.flt with offered := t.flt.offered } } ∧
        s.regsKept t [Reg.HSK_STATUS] ∧ s.cntsKept t [Reg.HSK_CNT_RX_MSG, Reg.HSK_CNT_RETRY]) ∧
    (∀ (m : HuskMsg) (c : Instr), (c, m.type) ∈ [(Instr.recordMsg (some m), 0x81), (.captureMsg (some m), 0x82)] →
      s.hskUp = true → s.rbit Reg.HSK_CTRL 1 = true → s.twinOn = false → 0 < m.body.length → m.body.length ≤ 8192 →
      s.hsk.stalledAt = none →
      ∃ t, exec c s = .next t ∧
        t.arrivals = s.arrivals ++
          [⟨8, 0, s.portSFrame (Crypto.slice m.body 16 4) 0 true true m.body, s.now, false⟩] ∧
        t.cnt Reg.HSK_CNT_PS_FRAMES = s.cnt Reg.HSK_CNT_PS_FRAMES + 1 ∧
        t.cnt Reg.HSK_CNT_PS_BYTES = s.cnt Reg.HSK_CNT_PS_BYTES + BitVec.ofNat 48 m.body.length ∧
        t = { s.noted t with arrivals := t.arrivals } ∧ s.regsKept t [Reg.HSK_STATUS] ∧
        s.cntsKept t [Reg.HSK_CNT_RX_MSG, Reg.HSK_CNT_PS_FRAMES, Reg.HSK_CNT_PS_BYTES]) ∧
    (∀ (ini ty len : Nat) (c : Instr),
      (c, ty, len) ∈ [(Instr.hskCmdStart ini, 3, 16), (.hskCmdStop ini, 4, 16), (.hskCmdStatus ini, 5, 12),
        (.hskCmdArm ini, 6, 24)] →
      s.mayAccess ini 16 → s.fld Reg.HSK_CMD_TYPE 7 0 = ty → s.hskUp = true →
      ∃ t, exec c s = .next t ∧ t.hsk = { s.hsk with
          toShell := s.hsk.toShell ++ [⟨BitVec.ofNat 8 ty, s.hsk.txSeq, ((List.range 7).flatMap (fun i =>
            Crypto.beBytes 4 (s.reg (Reg.HSK_CMD_ARG i)).toNat)).take len⟩]
          txSeq := s.hsk.txSeq + 1, cmd := some (BitVec.ofNat 8 ty, s.hsk.txSeq), result := s.hsk.result &&& 0xFFFF#32 } ∧
        t = { s.accessed t with hsk := t.hsk } ∧ s.served t ini [Reg.HSK_STATUS] [Reg.HSK_CNT_TX_MSG]) ∧
    (∀ ini : Nat, s.mayAccess ini 16 → s.hskUp = true →
      ∃ t b, exec (.hskCfgSend ini) s = .next t ∧ b.length = s.fld Reg.HSK_CFG_LEN 15 0 ∧
        (∀ i < b.length, b[i]? = some (BitVec.ofNat 8 ((Tab.get (0 : Word) s.hsk.stage (i / 4)).toNat /
          2 ^ (8 * (3 - i % 4))))) ∧
        t.hsk = { s.hsk with
          toShell := s.hsk.toShell ++ [⟨2, s.hsk.txSeq, b⟩], txSeq := s.hsk.txSeq + 1, cmd := some (2, s.hsk.txSeq)
          result := s.hsk.result &&& 0xFFFF#32 } ∧
        t = { s.accessed t with hsk := t.hsk } ∧ s.served t ini [Reg.HSK_STATUS] [Reg.HSK_CNT_TX_MSG]) ∧
    (s.shell.powered = true → s.hsk.link ≠ .up → s.hsk.held = [] →
      ∃ t, exec .huskTrained s = .next t ∧
        t.hsk = { s.hsk with link := .up, txSeq := 0, toShell := [], toCore := [], echoTx := [] } ∧
        t.shell = { s.shell with txSeq := 0 } ∧ s.took t Reg.HSK_STATUS [0] ∧
        (s.hsk.link = .down → s.offers t ⟨sourceId 5 0 0 0, 0x13, 0, 2⟩) ∧
        t = { s.noted t with hsk := t.hsk, shell := t.shell, flt := { s.flt with offered := t.flt.offered } } ∧
        s.regsKept t [Reg.HSK_STATUS] ∧ s.cntsKept t []) ∧
    (s.hsk.link = .up → ∃ t, exec .huskDown s = .next t ∧
      t.hsk = { s.hsk with link := .down, toShell := [], toCore := [], cmd := none, echoTx := [] } ∧
      s.offers t ⟨sourceId 5 0 0 0, 0x13, 0, 1⟩ ∧ t.rbit Reg.HSK_STATUS 0 = true ∧
      t.cnt Reg.HSK_CNT_LINK_DOWN = s.cnt Reg.HSK_CNT_LINK_DOWN + 1 ∧
      t = { s.noted t with hsk := t.hsk, flt := { s.flt with offered := t.flt.offered } } ∧
      s.regsKept t [Reg.HSK_STATUS] ∧ s.cntsKept t [Reg.HSK_CNT_LINK_DOWN]) ∧
    (∀ h : HeldStart, s.hsk.held = [h] → h.time ≤ s.now + us100 → s.ntm.frac < 2 ^ 32 → s.now < 2 ^ 48 * pipsPerSec →
      ∃ t, exec .commitLost s = .next t ∧ t.hsk = { s.hsk with held := [] } ∧ t.rbit Reg.HSK_STATUS 4 = true ∧
        t.cnt Reg.HSK_CNT_COMMIT_LOST = s.cnt Reg.HSK_CNT_COMMIT_LOST + 1 ∧ t = { s.noted t with hsk := t.hsk } ∧
        s.regsKept t [Reg.HSK_STATUS] ∧ s.cntsKept t [Reg.HSK_CNT_COMMIT_LOST])

/-- R457, R458, R464, R466, R467, R472, R473, R487. -/
def Obligations.ShellTimeAndKeys : Prop :=
  ∀ s : State, s.settled →
    (∀ (okA okB : Bool) (a b : BitVec 64), s.shell.powered = false → s.shell.keyNext = none → s.shell.nv.pointerB = false →
      ∃ t, exec (.shellPowerUp okA okB a b) s = .next t ∧ t.shell.powered = true ∧ t.shell.time = .unsync ∧
        t.shell.nv = { s.shell.nv with bootCount := s.shell.nv.bootCount + 1 } ∧ t.shell.ofs = -(s.now : Int) ∧
        t.shell.key = s.shell.unwrapKey ∧ t.shell.store = [] ∧
        (okA = true → t.shell.st = .idle ∧ t.shell.slotB = false ∧ t.shell.swId = a ∧ t.shell.faults = 0) ∧
        (okA = false → okB = true → t.shell.st = .idle ∧ t.shell.slotB = true ∧ t.shell.swId = b ∧
          t.shell.faults = 1) ∧
        (okA = false → okB = false → t.shell.st = .safe ∧ t.shell.faults = 3) ∧ t = { s with shell := t.shell }) ∧
    (s.shell.keyNext = none → ∃ t, exec .shellPowerDown s = .next t ∧ t.shell.nv = s.shell.nv ∧ t.shell.powered = false ∧
      t.shell.key = none ∧ t.shell.store = [] ∧ t.shell.cap = none ∧ t.shell.running = [] ∧
      t = { s with shell := t.shell }) ∧
    (∀ (okA okB : Bool) (a b : BitVec 64), s.shell.powered = true → s.shell.keyNext = none → s.shell.nv.pointerB = false →
      s.hsk.link = .up → okA = true →
      ∃ t, exec (.shellWatchdog okA okB a b) s = .next t ∧ t.hsk.link = .down ∧ t.hsk.toShell = [] ∧ t.hsk.toCore = [] ∧
        t.shell.st = .idle ∧ t.shell.nv = { s.shell.nv with bootCount := s.shell.nv.bootCount + 1 } ∧
        t.shell.store = [] ∧ t.shell.cap = none ∧ t.shell.faults.getLsbD 9 = true ∧
        s.offers t ⟨sourceId 5 0 0 0, 0x13, 0, 1⟩ ∧
        t = { s.noted t with hsk := t.hsk, shell := t.shell, flt := { s.flt with offered := t.flt.offered } } ∧
        s.regsKept t [Reg.HSK_STATUS] ∧ s.cntsKept t [Reg.HSK_CNT_LINK_DOWN]) ∧
    (∀ (m : HuskMsg) (tRx core : Nat) (e : Int), s.reaches m → m.type = 1 → s.shell.st ≠ .safe →
      Crypto.beNat (Crypto.slice m.body 11 1) = 2 * core → core < 8 →
      e = (ntimeOf (Crypto.slice m.body 0 11) : Int) + signedOf 32 (Crypto.beNat (Crypto.slice m.body 12 4)) - tRx →
      ∃ t, exec (.beacon tRx []) s = .next t ∧ t.hsk = { s.hsk with toShell := [] } ∧ t.shell.beaconTick = s.ticks ∧
        t.shell.lastCore = core ∧
        (core = 0 → t.shell.time = .unsync ∧ t.shell.ofs = (tRx : Int) - s.now) ∧
        (core = 2 → s.shell.stepped = false → s.shell.running = [] → s.shell.time = .unsync → s.shell.lockRun < 7 →
          t.shell.ofs = (tRx : Int) - s.now + e ∧ t.shell.stepped = true ∧ t.shell.time = .unsync ∧
          t.shell.lastErr = e ∧ t.shell.lockRun = if e.natAbs ≤ 32 then s.shell.lockRun + 1 else 0) ∧
        (core = 2 → s.shell.stepped = true → e.natAbs ≤ 32 →
          (s.shell.time ≠ .locked → s.shell.lockRun = 7 → t.shell.time = .locked) ∧
          (s.shell.time = .locked → t.shell.time = .locked) ∧
          (40 ≤ s.fld Reg.HSK_BEACON 13 0 → t.shell.ofs = (tRx : Int) - s.now + e)) ∧
        t = { s with hsk := t.hsk, shell := t.shell }) ∧
    (s.shell.powered = true → s.shell.st ≠ .safe →
      ∃ t, exec .beaconTimeout s = .next t ∧ t.shell.time = (if s.shell.time = .unsync then .unsync else .holdover) ∧
        t.ticks = max s.ticks (s.shell.beaconTick + 12800000) ∧ t.shell.store = s.shell.store ∧ t.shell.key = s.shell.key ∧
        t = { s.later t with shell := t.shell } ∧ s.regsKept t [] ∧ s.cntsKept t []) ∧
    (∀ temp : Byte, s.shell.powered = true → s.hsk.link = .up →
      ∃ t h, exec (.healthSend temp) s = .next t ∧ t.hsk = { s.hsk with toCore := s.hsk.toCore ++ [⟨0x83, s.shell.txSeq, h⟩] } ∧
        h = ({ s.shell with temp := temp } : Shell).health ∧
        t.shell = { s.shell with
          temp := temp, txSeq := s.shell.txSeq + 1, faults := s.shell.faults &&& ~~~ 0x384#32 } ∧
        t = { s with hsk := t.hsk, shell := t.shell }) ∧
    (∀ k : Fin 3, s.shell.powered = true →
      ∃ t, exec (.shellAlarm k) s = .next t ∧ t.shell.alarm = true ∧ t.shell.faults.getLsbD (4 + k.val) = true ∧
        t.shell.key = (if s.shell.nv.twice then s.shell.key else none) ∧
        (s.shell.nv.twice = false → t.shell.faults.getLsbD 3 = true) ∧
        t = { s with shell := { s.shell with alarm := true, key := t.shell.key, faults := t.shell.faults } }) ∧
    (s.shell.powered = true → s.shell.store = [] →
      ∃ t, exec .keyRestore s = .next t ∧ t.shell = { s.shell with
        alarm := false, faults := s.shell.faults &&& ~~~ 0x78#32
        key := if s.shell.key.isSome then s.shell.key else s.shell.unwrapKey } ∧ t = { s with shell := t.shell }) ∧
    (∀ j : Fin 4, s.shell.powered = true →
      (∃ t, exec (.linkResync j) s = .next t ∧ (∀ k < 4, t.shell.up.getLsbD k = (s.shell.up.getLsbD k && k != j.val)) ∧
        t.shell.resync = s.shell.resync + 1 ∧ t.shell.faults.getLsbD 8 = true ∧
        t = { s with shell := { s.shell with up := t.shell.up, resync := t.shell.resync, faults := t.shell.faults } }) ∧
      (∀ l : ConvLink, Tab.find? s.shell.nv.links j = some l → l.en = true → s.shell.st ≠ .safe → 0 < l.sysrefNs →
        ∃ t, exec (.sysrefEdge j) s = .next t ∧ (∀ k < 4, t.shell.up.getLsbD k = (s.shell.up.getLsbD k || k == j.val)) ∧
          (∃ e : Nat, e % (l.sysrefNs * 256) = 0 ∧ s.shellNow < e ∧ e ≤ s.shellNow + l.sysrefNs * 256 ∧
            t.out = Out.edge (8 + j.val) ((e : Int) - l.sysrefAdj) :: s.out) ∧
          t = { s.later t with out := t.out, shell := { s.shell with up := t.shell.up } } ∧ s.regsKept t [] ∧
          s.cntsKept t [])) ∧
    (∀ (n : Fin 4) (x : Trig), s.shell.powered = true → x = Tab.get Trig.reset s.shell.ftrigs n → x.armed = true →
      ∃ t, exec (.fieldTriggerEdge n) s = .next t ∧ Tab.get Trig.reset t.shell.ftrigs n = x.edge ∧
        t.out = (if s.shell.time = .locked then
          [Out.edge (12 + n.val) (((max (x.time x.next) s.shellNow : Nat) : Int) - Tab.get 0 s.shell.ftrigAdj n)]
          else []) ++ s.out ∧
        (∀ k, k ≠ n.val → Tab.get Trig.reset t.shell.ftrigs k = Tab.get Trig.reset s.shell.ftrigs k) ∧
        t = { s.later t with out := t.out, shell := { s.shell with ftrigs := t.shell.ftrigs } } ∧ s.regsKept t [] ∧
        s.cntsKept t [])

/-- R469, R478, R480, R483 to R485, R488, R492, R493. -/
def Obligations.ShellMeasurement : Prop :=
  ∀ s : State, s.settled →
    (∀ (m : HuskMsg) (c : Instr), s.reaches m → s.shell.refuses = true →
      (c, m.type) ∈ [(Instr.start, 3), (.stop, 4), (.arm, 6)] →
      ∃ t, exec c s = .next t ∧ s.acks t m 1 ∧ t = s.answered t) ∧
    (∀ (m : HuskMsg) (mask : BitVec 16) (at_ : Nat), s.reaches m → s.shell.refuses = false → m.body.length = 16 →
      mask = BitVec.ofNat 16 (Crypto.beNat (Crypto.slice m.body 0 2)) → ntimeOk (Crypto.slice m.body 4 11) = true →
      at_ = ntimeOf (Crypto.slice m.body 4 11) → Crypto.slice m.body 15 1 = [0] →
      (m.type = 3 → s.shellNow + us100 ≤ at_ → s.shell.running = [] → s.shell.starts = [] →
        (bitList mask).all (s.shell.nv.startable mask) = true →
        ∃ t, exec .start s = .next t ∧ s.acks t m 0 ∧
          t.shell.starts = [(BitVec.ofNat 16 (Crypto.beNat (Crypto.slice m.body 2 2)), mask, at_)] ∧
          t = { s.answered t with shell := { (s.answered t).shell with starts := t.shell.starts } }) ∧
      (m.type = 4 → Crypto.slice m.body 2 2 = [0, 0] →
        ∃ t, exec .stop s = .next t ∧ s.acks t m 0 ∧ t.shell.stops = s.shell.stops ++ [(mask, max s.shellNow at_)] ∧
          t = { s.answered t with shell := { (s.answered t).shell with stops := t.shell.stops } })) ∧
    (∀ (m : HuskMsg) (convs : BitVec 16) (n : Nat), s.reaches m → m.type = 6 → s.shell.refuses = false →
      m.body.length = 24 → convs = BitVec.ofNat 16 (Crypto.beNat (Crypto.slice m.body 4 2)) → convs ≠ 0 →
      Crypto.slice m.body 6 1 = [0] → ntimeOk (Crypto.slice m.body 8 11) = true →
      s.shellNow + us100 ≤ ntimeOf (Crypto.slice m.body 8 11) → n = Crypto.beNat (Crypto.slice m.body 20 4) → 0 < n →
      n ≤ 33554432 → (s.shell.nv.capRate convs).isSome = true →
      (s.shell.cap = none → ∃ t, exec .arm s = .next t ∧ s.acks t m 0 ∧
        t.shell.cap = some { st := .armed, id := BitVec.ofNat 32 (Crypto.beNat (Crypto.slice m.body 0 4)), convs := convs
                             evidence := false, at_ := ntimeOf (Crypto.slice m.body 8 11), bytes := n, step := false
                             samples := [], spans := [], seg := 0 } ∧
        t = { s.answered t with shell := { (s.answered t).shell with cap := t.shell.cap } }) ∧
      (s.shell.cap.isSome = true → ∃ t, exec .arm s = .next t ∧ s.acks t m 2 ∧ t = s.answered t)) ∧
    (∀ (m : HuskMsg) (b : Bool), s.reaches m → m.type = 5 → m.body.length = 12 → Crypto.slice m.body 0 1 = [0] →
      ∃ t, exec (.status b) s = .next t ∧ s.acks t m 0 ∧ t = s.answered t) ∧
    (∀ (id mask : BitVec 16) (at_ d : Nat), s.shell.starts = [(id, mask, at_)] → bitList mask = [d] →
      (s.shell.nv.defn d).en = true → s.shell.st = .idle →
      ∃ t r, exec .definitionStart s = .next t ∧ t.shell.starts = [] ∧ Tab.find? t.shell.running d = some r ∧
        r.start = at_ ∧ r.isPartial = true ∧ r.cal = s.shell.nv.cal (s.shell.nv.base d).chan ∧ t.shell.st = .run ∧
        (∀ k, k ≠ d → Tab.find? t.shell.running k = Tab.find? s.shell.running k) ∧
        t = { s.later t with shell := { s.shell with starts := [], running := t.shell.running, st := .run } } ∧
        s.regsKept t [] ∧ s.cntsKept t []) ∧
    (∀ (mask : BitVec 16) (at_ d : Nat) (r : RunDef), s.shell.stops = [(mask, at_)] → s.shell.starts = [] →
      s.shell.running = [(d, r)] → mask.getLsbD d = true → s.shell.st = .run → s.shell.time ≠ .unsync →
      ∃ t, exec (.definitionStop []) s = .next t ∧ t.shell.stops = [] ∧ t.shell.running = [] ∧ t.shell.st = .idle ∧
        t.shell.nextSeq = s.shell.nextSeq + 1 ∧ t.shell.nv = s.shell.nv ∧
        t = { s.later t with shell := t.shell, fresh := t.fresh } ∧ s.regsKept t [] ∧ s.cntsKept t []) ∧
    (∀ (d : Fin 16) (r : RunDef) (x : Interval) (len : Nat), Tab.find? s.shell.running d = some r →
      s.shell.keyNext = none → s.shell.time ≠ .unsync → len = (s.shell.nv.base d).intMs * msPips →
      ∃ t u, exec (.intervalEnd d x) s = .next t ∧ Tab.find? t.shell.running d = some u ∧
        u.start = (r.start / len + 1) * len ∧ u.isPartial = false ∧ u.step = false ∧
        t.shell.nextSeq = s.shell.nextSeq + 1 ∧ t.shell.nv = s.shell.nv ∧
        (∀ k, k ≠ d.val → Tab.find? t.shell.running k = Tab.find? s.shell.running k) ∧
        t = { s.later t with shell := t.shell, fresh := t.fresh } ∧ s.regsKept t [] ∧ s.cntsKept t []) ∧
    (∀ c : ShellCap, s.shell.cap = some c →
      (c.st = .armed → ∃ t, exec .captureStart s = .next t ∧ t.shell = { s.shell with cap := some { c with st := .filling } } ∧
        t = { s.later t with shell := t.shell } ∧ s.regsKept t [] ∧ s.cntsKept t []) ∧
      (∀ (l : List Byte) (a n : Nat), c.st = .filling → l.length = c.bytes →
        ∃ t k, exec (.captureFillDone l [(a, n)]) s = .next t ∧ t.shell = { s.shell with cap := some k } ∧
          k = { c with st := .draining, samples := k.samples, spans := [(a, n)] } ∧ k.samples.length = c.bytes ∧
          (∀ i < c.bytes, k.samples[i]? = if a ≤ i ∧ i < a + n then some 0x80 else l[i]?) ∧
          t = { s.later t with shell := t.shell } ∧ s.regsKept t [] ∧ s.cntsKept t [])) ∧
    (∀ (r : Rec) (rest : List Rec) (tr : List Byte) (b : Bool), s.shell.powered = true → s.hskUp = true →
      s.shell.store = r :: rest → r.trailer = some tr →
      ∃ t, exec (.recordSend b) s = .next t ∧
        (s.huskCredit (r.body ++ tr).length = true →
          t.hsk.toCore = s.hsk.toCore ++
            [⟨if r.kind ∈ [4, 5, 6] then 0x82 else 0x81, s.shell.txSeq, r.body ++ tr⟩] ∧
          t.shell = { s.shell with store := rest, txSeq := s.shell.txSeq + 1 } ∧
          t = { s with hsk := { s.hsk with toCore := t.hsk.toCore }, shell := t.shell }) ∧
        (s.huskCredit (r.body ++ tr).length = false → t.hsk.stalledAt.isSome = true ∧
          t = { s with hsk := { s.hsk with stalledAt := t.hsk.stalledAt } })) ∧
    (∀ (m : HuskMsg) (ps : List (List ShellParam)) (ok : Bool), s.reaches m → m.type = 2 → s.shell.st = .idle →
      (s.cfgFormat m.body ps = false → ∃ t, exec (.cfgBlock ps ok) s = .next t ∧ s.acks t m 3 ∧ t = s.answered t) ∧
      (∀ seq : Word, s.cfgFormat m.body ps = true → Crypto.beNat (Crypto.slice m.body 8 8) = s.serial →
        s.cfgSigned m.body = true → Crypto.slice m.body 5 1 = [3] → s.shell.nv.digests = [] →
        seq = BitVec.ofNat 32 (Crypto.beNat (Crypto.slice m.body 16 4)) → s.shell.nv.cfgSeq < seq →
        s.shell.nv.events < 8192 →
        ∃ t e, exec (.cfgBlock ps ok) s = .next t ∧ s.acks t m 0 ∧
          t.shell.nv = { s.shell.nv with
            cfgSeq := seq, events := s.shell.nv.events + 1, audit := s.shell.nv.audit ++ [e]
            digests := [(0, Crypto.slice m.body 125 48)] } ∧
          Crypto.slice e 0 4 = Crypto.beBytes 4 (s.shell.nv.events + 1) ∧ Crypto.slice e 16 1 = [7] ∧
          t = { s.answered t with shell := { (s.answered t).shell with nv := t.shell.nv } }))

/-- R502 to R513, R527 to R529, R546. -/
def Obligations.TwinLease : Prop :=
  ∀ s : State, s.settled → s.twinOn = true → s.quiet →
    (∀ (m : MsgIn) (e : Nat) (foreign : Bool), s.hears m t3to7 → m.body.length = 16 →
      ntimeOk (Crypto.slice m.body 4 11) = true → e = ntimeOf (Crypto.slice m.body 4 11) → s.localMode = false →
      foreign = decide (Crypto.beNat (Crypto.slice m.body 0 4) ≠ (s.reg Reg.ACT_TWIN_ID).toNat) →
      ∃ t, exec (.leaseGrant m) s = .next t ∧
        (foreign = true → t.twn.lease = { s.twn.lease with cause := 3, discAt := some s.ticks } ∧
          t.cnt Reg.ACT_CNT_MSG_BAD = s.cnt Reg.ACT_CNT_MSG_BAD + 1 ∧
          t.cnt Reg.TWN_CNT_LEASE_DISC = s.cnt Reg.TWN_CNT_LEASE_DISC + 1 ∧ t.rbit Reg.TWN_STATUS 10 = true) ∧
        (foreign = false → (e ≤ s.now ∨ s.now + pipsPerSec < e) →
          t.twn.lease = { s.twn.lease with cause := 1, discAt := some s.ticks } ∧ t.rbit Reg.TWN_STATUS 10 = true) ∧
        (foreign = false → s.now < e → e ≤ s.now + pipsPerSec → s.twn.lease.holds = false →
          s.twn.lease.preparing = false →
          (s.eligibleNow = false → t.twn.lease = { s.twn.lease with cause := 2, discAt := some s.ticks } ∧
            t.rbit Reg.TWN_STATUS 10 = true) ∧
          (∀ due : Nat, s.eligibleNow = true → s.twn.lease.lostByExpiry = false →
            ((s.twn.peer.expiry = none ∧ due = s.now) ∨
              ∃ p, s.twn.peer.expiry = some p ∧ due = if s.twn.lease.paired = true ∧ s.now ≤ p then
                p + 256000 * s.fld Reg.TWN_GUARD_US 16 0 else s.now) →
            t.twn.lease = { s.twn.lease with claim := some ⟨some e, due, s.twn.lease.solo⟩ })) ∧
        (foreign = false → s.now < e → e ≤ s.now + pipsPerSec → s.twn.lease.holds = true → s.talks →
          t.twn.lease = { s.twn.lease with left := e - s.now } ∧ s.toldLease t e ∧
          t.cnt Reg.TWN_CNT_RENEW = s.cnt Reg.TWN_CNT_RENEW + 1) ∧
        t = { s.noted t with
          act := { s.act with own := t.act.own, bcast := t.act.bcast }
          twn := { s.twn with lease := t.twn.lease, mir := s.mirSent t }, out := t.out } ∧
        s.regsKept t [Reg.ACT_STATUS, Reg.TWN_STATUS] ∧
        s.cntsKept t [Reg.ACT_CNT_MSG_ACTED, Reg.ACT_CNT_MSG_BAD, Reg.TWN_CNT_LEASE_DISC, Reg.TWN_CNT_LEASE_WAIT,
          Reg.TWN_CNT_RENEW]) ∧
    (∀ m : MsgIn, s.hears m t3to7 → m.body = Crypto.beBytes 4 (s.reg Reg.ACT_TWIN_ID).toNat → s.twn.lease.holds = true →
      s.act.uq.length < 64 →
      ∃ t, exec (.leaseRevoke m) s = .next t ∧ t.twn.lease.holds = false ∧ t.twn.lease.left = 0 ∧
        t.twn.lease.finalOwed = true ∧ t.twn.lease.releaseOwed = s.twn.link.up ∧
        (s.act.state = .t4 → t.act.state = .t7) ∧ (s.act.state ≠ .t4 → t.act.state = s.act.state) ∧
        t.act.uq = s.act.uq ++ [⟨10, m.seq, m.body⟩] ∧ t.rbit Reg.TWN_STATUS 1 = true ∧
        t.cnt Reg.ACT_CNT_MSG_ACTED = s.cnt Reg.ACT_CNT_MSG_ACTED + 1 ∧
        t = { s.noted t with
          act := { s.act with
            state := t.act.state, prior := t.act.prior, uq := t.act.uq, own := t.act.own, bcast := t.act.bcast }
          twn := { s.twn with lease := t.twn.lease, mir := s.mirSent t }, out := t.out } ∧
        s.regsKept t [Reg.ACT_STATUS, Reg.TWN_STATUS] ∧ s.cntsKept t [Reg.ACT_CNT_MSG_ACTED, Reg.TWN_CNT_LEASE_WAIT]) ∧
    (s.twn.lease.holds = true →
      ∃ t, exec .leaseExpiry s = .next t ∧ t.twn.lease.holds = false ∧ t.twn.lease.left = 0 ∧
        t.twn.lease.finalOwed = true ∧ t.twn.lease.releaseOwed = (s.localMode && s.twn.link.up) ∧
        (s.act.state = .t4 → t.act.state = .t7) ∧ t.rbit Reg.TWN_STATUS 1 = true ∧
        (s.localMode = true → s.twn.link.up = false → s.twn.lease.peerEligible = true → t.twn.lease.lostByExpiry = true) ∧
        t.cnt Reg.TWN_CNT_EXPIRY = s.cnt Reg.TWN_CNT_EXPIRY + 1 ∧
        t = { s.later t with
          act := { s.act with state := t.act.state, prior := t.act.prior }
          twn := { s.twn with lease := t.twn.lease, mir := s.mirSent t }, out := t.out } ∧
        s.regsKept t [Reg.ACT_STATUS, Reg.TWN_STATUS] ∧ s.cntsKept t [Reg.TWN_CNT_EXPIRY, Reg.TWN_CNT_LEASE_WAIT]) ∧
    (s.talks → s.localMode = true → s.twn.lease.holds = true →
      ∃ t, exec .renewSend s = .next t ∧ t.twn.lease = { s.twn.lease with
          rid := s.twn.lease.rid + 1, renew := some (s.twn.lease.rid + 1, s.now + s.leasePips) } ∧
        s.told t 1 3 (ntimeBytes (s.now + s.leasePips) ++ Crypto.beBytes 4 (s.twn.lease.rid + 1).toNat) ∧
        t = { s with twn := { s.twn with lease := t.twn.lease, mir := s.mirSent t }, out := t.out }) ∧
    (∀ (e : Nat) (rid : Word), s.talks →
      ∃ t, exec (.renew e rid) s = .next t ∧ t.twn.peer = { s.twn.peer with expiry := some e } ∧
        s.told t 1 4 (ntimeBytes e ++ Crypto.beBytes 4 rid.toNat) ∧
        t = { s with twn := { s.twn with peer := t.twn.peer, mir := s.mirSent t }, out := t.out }) ∧
    (∀ (e : Nat) (rid : Word), s.talks → s.localMode = true → s.twn.lease.holds = true → 0 < s.twn.lease.left →
      s.twn.lease.renew = some (rid, e) → s.twn.lease.left < e - s.now →
      ∃ t, exec (.renewAck e rid) s = .next t ∧ t.twn.lease = { s.twn.lease with renew := none, left := e - s.now } ∧
        s.toldLease t e ∧ t.cnt Reg.TWN_CNT_RENEW = s.cnt Reg.TWN_CNT_RENEW + 1 ∧
        t = { s.noted t with twn := { s.twn with lease := t.twn.lease, mir := s.mirSent t }, out := t.out } ∧
        s.regsKept t [Reg.TWN_STATUS] ∧ s.cntsKept t [Reg.TWN_CNT_RENEW]) ∧
    (s.twn.lease.holds = true → s.twn.lease.orphan = true → s.twn.link.up = false →
      ∃ t, exec .orphanRenew s = .next t ∧ t.twn.lease = { s.twn.lease with left := s.leasePips } ∧
        t.cnt Reg.TWN_CNT_RENEW = s.cnt Reg.TWN_CNT_RENEW + 1 ∧
        t = { s.noted t with twn := { s.twn with lease := t.twn.lease } } ∧
        s.regsKept t [Reg.TWN_STATUS] ∧ s.cntsKept t [Reg.TWN_CNT_RENEW]) ∧
    (s.talks → s.twn.lease.holds = false → s.localMode = true → s.twn.lease.lostByExpiry = false →
      ∃ t, exec .release s = .next t ∧ t.twn.peer = { s.twn.peer with holds := false, expiry := none } ∧
        (∀ c : Claim, s.twn.lease.claim = some c →
          t.twn.lease = { s.twn.lease with claim := some { c with due := s.now } } ∧ t.out = s.out) ∧
        (s.twn.lease.claim = none → s.eligibleNow = true →
          t.twn.lease = { s.twn.lease with claim := some ⟨none, s.now, false⟩ } ∧ t.out = s.out) ∧
        (s.twn.lease.claim = none → s.eligibleNow = false → t.twn.lease = s.twn.lease ∧ ∃ x, s.told t 1 2 x) ∧
        t = { s with
          twn := { s.twn with lease := t.twn.lease, peer := t.twn.peer, mir := s.mirSent t }, out := t.out }) ∧
    (∀ c : Claim, s.twn.lease.claim = some c → s.claimReady = true → s.pwr.mode = .active → s.pwr.phase ≠ .entering →
      (∃ t, exec (.claim false) s = .next t ∧ s.now ≤ t.now ∧ t.twn.lease.claim = none ∧
        (c.expiry = none → 0 < s.leasePips → t.twn.lease.preparing = true ∧ t.twn.lease.left = s.leasePips) ∧
        (∀ e, c.expiry = some e → t.now < e → t.twn.lease.preparing = true ∧ t.twn.lease.left = e - t.now) ∧
        (∀ e, c.expiry = some e → e ≤ t.now → t.twn.lease.preparing = s.twn.lease.preparing) ∧
        t = { s.later t with twn := { s.twn with lease := { s.twn.lease with
          claim := none, preparing := t.twn.lease.preparing, left := t.twn.lease.left
          markWait := t.twn.lease.markWait } } } ∧ s.regsKept t [] ∧ s.cntsKept t []) ∧
      (s.twn.link.up = true → s.twn.peer.finalSeen = false → s.twn.lease.markWait = false →
        ∃ t, exec (.claim true) s = .next t ∧ t.twn.lease.markWait = true ∧ t.twn.lease.claim = some c ∧
          t = { s.later t with twn := { s.twn with
            lease := { s.twn.lease with left := t.twn.lease.left, markWait := true } } } ∧
          s.regsKept t [] ∧ s.cntsKept t []) ∧
      (s.twn.lease.markWait = true → c.expiry = none → 0 < s.leasePips →
        ∃ t, exec .claimMarkWaitExpiry s = .next t ∧ t.twn.lease.preparing = true ∧ t.twn.lease.left = s.leasePips ∧
          t.twn.lease.claim = none ∧ t.twn.lease.markWait = false ∧
          t = { s.later t with twn := { s.twn with lease := { s.twn.lease with
            claim := none, preparing := true, left := s.leasePips, markWait := false } } } ∧
          s.regsKept t [] ∧ s.cntsKept t [])) ∧
    (s.twn.lease.preparing = true → 0 < s.twn.lease.left → (∀ q, (s.queue q).frames = []) → s.act.state = .t7 →
      s.twn.peer.shQueues = [] → s.twn.peer.shAllocs = [] → Tab.wf (fun _ => LinkKeys.reset) s.lsc.keys = true →
      s.pwr.mode = .active → s.dsf.links = [] → Tab.wf (fun _ => ((0 : Nat), (0 : Nat))) s.twn.peer.markLinks = true →
      ∃ t, exec .takeoverDone s = .next t ∧ t.twn.lease.holds = true ∧ t.twn.lease.preparing = false ∧
        t.twn.lease.left = s.twn.lease.left ∧ t.twn.lease.takeKind = (if s.twn.peer.finalSeen then 1 else 2) ∧
        t.twn.lease.orphan = (s.twn.lease.solo || (s.localMode && !s.twn.link.up)) ∧ t.act.state = .t4 ∧
        (s.twn.lease.forceOff = false → t.acorn = true) ∧
        (∀ (k : Nat) (v : Nat × Nat), Tab.find? s.twn.peer.markLinks k = some v →
          (t.ulink k).nextSeq = BitVec.ofNat 12 (v.1 + if s.twn.peer.finalSeen then 0 else s.fld Reg.TWN_SEQ_SKIP 10 0) ∧
          (t.ulink k).turn = v.2) ∧
        (∀ k, (t.keys (2 * k + 1)).a.ctr = (let y := (s.keys (2 * k + 1)).a
            if y.state = .empty then y.ctr else skippedCtr y.ctr y.mirror) ∧
          (t.keys (2 * k + 1)).a.state = (s.keys (2 * k + 1)).a.state ∧ t.keys (2 * k) = s.keys (2 * k)) ∧
        t.rbit Reg.TWN_STATUS 0 = true ∧ t.rbit Reg.TWN_STATUS 2 = true ∧ t.rbit Reg.LSC_STATUS 11 = true ∧
        t = { s.noted t with
          act := { s.act with state := .t4 }, boot := { s.boot with operAt := t.boot.operAt }
          lsc := { s.lsc with keys := t.lsc.keys }, usq := { s.usq with links := t.usq.links }
          twn := { s.twn with
            lease := t.twn.lease, peer := { s.twn.peer with finalSeen := false, holds := false }, mir := t.twn.mir }
          out := t.out } ∧
        s.regsKept t [Reg.ACT_STATUS, Reg.LSC_STATUS, Reg.TWN_STATUS] ∧
        s.cntsKept t [Reg.LSC_CNT_SKIP, Reg.TWN_CNT_TAKE_CLEAN, Reg.TWN_CNT_TAKE_BLIND, Reg.TWN_CNT_TAKE_UNALIGNED]) ∧
    (s.talks → s.twn.lease.finalOwed = true → s.burstsOver = true →
      ∃ t b, exec .finalMark s = .next t ∧ b.getD 5 0 = 1 ∧ b.take 5 = snapBytes s.now ∧
        t.out = (if s.twn.lease.releaseOwed then [twinMsg 5 (s.twinSeq 1 + 1) []] else []) ++
          twinMsg 0x20 (s.twinSeq 1) b :: s.out ∧
        t.twn.lease = { s.twn.lease with finalOwed := false, releaseOwed := false } ∧
        t.twn.mir.markTick = some s.ticks ∧ (∀ q, (t.queue q).frames = (s.queue q).frames ∧ (t.queue q).pos = (s.queue q).pos) ∧
        t = { s with
          usq := { s.usq with queues := t.usq.queues }
          twn := { s.twn with lease := t.twn.lease, mir := t.twn.mir }, out := t.out }) ∧
    (∀ ini : Nat, s.mayAccess ini 15 →
      (s.talks → s.twn.lease.holds = true → s.twn.lease.peerEligible = true →
        ∃ t, exec (.twnHandover ini) s = .next t ∧ t.twn.lease.holds = false ∧ t.twn.lease.left = 0 ∧
          t.twn.lease.finalOwed = true ∧ t.twn.lease.releaseOwed = true ∧ (s.act.state = .t4 → t.act.state = .t7) ∧
          t.rbit Reg.TWN_STATUS 1 = true ∧
          t = { s.accessed t with
            act := { s.act with state := t.act.state, prior := t.act.prior }
            twn := { s.twn with lease := t.twn.lease, mir := s.mirSent t }, out := t.out } ∧
          s.served t ini [Reg.ACT_STATUS, Reg.TWN_STATUS] [Reg.TWN_CNT_LEASE_WAIT]) ∧
      (s.twn.lease.holds = false ∨ s.twn.lease.peerEligible = false ∨ s.twn.link.up = false →
        ∃ t, exec (.twnHandover ini) s = .next t ∧ t.rbit Reg.TWN_STATUS 15 = true ∧ t = s.accessed t ∧
          s.served t ini [Reg.TWN_STATUS] []) ∧
      (s.armedFor 15 ini → s.twn.lease.paired = false →
        ∃ t, exec (.solo ini) s = .next t ∧ t.twn.lease.solo = true ∧ t.twn.lease.lostByExpiry = false ∧
          t.twn.lease.orphan = s.twn.lease.holds ∧ t.twn.lease.holds = s.twn.lease.holds ∧
          (s.twn.lease.holds = false → s.twn.lease.preparing = false → s.twn.lease.claim = none → s.claimReady = true →
            ∃ c, t.twn.lease.claim = some c ∧ c.expiry = none ∧ c.solo = true) ∧
          t.guardOf 15 = none ∧ t = { s.accessed t with
            guards := t.guards, twn := { s.twn with lease := t.twn.lease } } ∧
          s.served t ini [Reg.TWN_STATUS] [Reg.TWN_CNT_LEASE_WAIT]) ∧
      (s.armedFor 15 ini → s.twn.lease.paired = true →
        ∃ t, exec (.solo ini) s = .next t ∧ t.rbit Reg.TWN_STATUS 15 = true ∧ t.guardOf 15 = none ∧
          t = { s.accessed t with guards := t.guards } ∧ s.served t ini [Reg.TWN_STATUS] []) ∧
      (s.armedFor 15 ini → s.act.state = .t4 → (∃ n ∈ s.rangedChs, s.dsLost n = false) →
        ∃ t, exec (.forceOff ini) s = .next t ∧ t.twn.lease.forceOff = true ∧ t.twn.lease.forceOn = false ∧
          t.acorn = false ∧ t.act.state = .t7 ∧ t.guardOf 15 = none ∧
          t = { s.accessed t with
            guards := t.guards, act := { s.act with state := .t7 }
            twn := { s.twn with lease := t.twn.lease, mir := s.mirSent t }, out := t.out } ∧
          s.served t ini [Reg.ACT_STATUS, Reg.TWN_STATUS] [Reg.TWN_CNT_LEASE_WAIT]) ∧
      (s.armedFor 15 ini → s.act.state = .t7 → (∃ n ∈ s.rangedChs, s.dsLost n = false) →
        (∀ n < 4, s.rbit (Reg.POD_TX_CTRL n) 1 = true) →
        ∃ t, exec (.forceOn ini) s = .next t ∧ t.twn.lease.forceOn = true ∧ t.twn.lease.forceOff = false ∧
          t.acorn = true ∧ t.act.state = .t4 ∧ t.guardOf 15 = none ∧
          t = { s.accessed t with
            guards := t.guards, act := { s.act with state := .t4 }, boot := { s.boot with operAt := t.boot.operAt }
            twn := { s.twn with lease := t.twn.lease, mir := s.mirSent t }, out := t.out } ∧
          s.served t ini [Reg.ACT_STATUS, Reg.TWN_STATUS] [Reg.TWN_CNT_LEASE_WAIT]))

/-- R498 to R501, R508, R514, R534, R541 to R545. -/
def Obligations.TwinLinkCommands : Prop :=
  ∀ s : State, s.settled →
    (∀ (rx peer : Byte) (taps : List (Nat × Nat × Nat)) (w : Nat), s.rbit Reg.TWN_CTRL 3 = true → s.twn.link.loopFar = false →
      s.fld Reg.TWN_LOOP 1 0 = 0 → w = (if 8 ≤ (bitList peer).length then 8 else if 4 ≤ (bitList peer).length then 4
        else if 2 ≤ (bitList peer).length then 2 else (bitList peer).length) →
      (s.twn.link.up = false → ∃ t h, exec (.twinLinkUp rx peer taps) s = .next t ∧
        t.twn.link = { s.twn.link with
          up := true, training := false, rate := 0, target := 0, width := w, rxGood := rx, peerGood := peer
          txUse := t.twn.link.txUse, lanes := t.twn.link.lanes, lostAt := none } ∧
        (∀ i < 8, t.twn.link.txUse.getLsbD i = (peer.getLsbD i && decide ((bitList peer).idxOf i < w))) ∧
        (∀ i < 8, ∃ l, Tab.get Lane.reset t.twn.link.lanes i = l ∧ l.lock = rx.getLsbD i ∧ l.ready = rx.getLsbD i ∧
          l.cv = (Tab.get Lane.reset s.twn.link.lanes i).cv ∧ (l.pre, l.main, l.post) = tapsOf (taps.getD i (0, 48, 8))) ∧
        t.rbit Reg.TWN_STATUS 6 = true ∧ h.length = 29 ∧ s.told t 1 1 h ∧
        t = { s.noted t with twn := { s.twn with link := t.twn.link, mir := s.mirSent t }, out := t.out } ∧
        s.regsKept t [Reg.TWN_STATUS] ∧ s.cntsKept t []) ∧
      (s.twn.link.up = true → s.twn.link.training = true → ∃ t, exec (.twinLinkUp rx peer taps) s = .next t ∧
        t.twn.link.rate = s.twn.link.rate + 1 ∧
        t.twn.link.training = decide (s.twn.link.rate + 1 < s.twn.link.target) ∧ t.twn.link.width = w ∧
        t.twn.link.up = true ∧ t.rbit Reg.TWN_STATUS 7 = (s.rbit Reg.TWN_STATUS 7 || w != s.twn.link.width) ∧
        t = { s.noted t with twn := { s.twn with link := t.twn.link } } ∧ s.regsKept t [Reg.TWN_STATUS] ∧
        s.cntsKept t [])) ∧
    (s.rbit Reg.TWN_CTRL 3 = true → s.twn.link.up = false ∨ s.twn.link.training = true →
      ∃ t, exec .trainTimeout s = .next t ∧
        t.twn.link = { s.twn.link with training := false, target := s.twn.link.rate } ∧ s.took t Reg.TWN_STATUS [8] ∧
        t = { s.noted t with twn := { s.twn with link := t.twn.link } } ∧ s.regsKept t [Reg.TWN_STATUS] ∧
        s.cntsKept t []) ∧
    (∀ (lane : Fin 8) (v r : Nat), s.twn.link.up = true →
      (s.twn.link.rxGood.getLsbD lane = true → ∃ t, exec (.laneLockLoss lane false v r) s = .next t ∧
        (∀ i < 8, t.twn.link.rxGood.getLsbD i = (s.twn.link.rxGood.getLsbD i && i != lane.val)) ∧
        (∀ i < 8, Tab.get Lane.reset t.twn.link.lanes i = (let l := Tab.get Lane.reset s.twn.link.lanes i
          if i = lane.val then { l with lock := false, ready := false, cv := l.cv + BitVec.ofNat 32 v } else l)) ∧
        t.cnt Reg.TWN_CNT_LANE_DROP = s.cnt Reg.TWN_CNT_LANE_DROP + 1 ∧
        t.cnt Reg.TWN_CNT_MSG_RETRY = s.cnt Reg.TWN_CNT_MSG_RETRY + BitVec.ofNat 48 r ∧
        t = { s.noted t with twn := { s.twn with
          link := { s.twn.link with rxGood := t.twn.link.rxGood, lanes := t.twn.link.lanes } } } ∧
        s.regsKept t [Reg.TWN_STATUS] ∧ s.cntsKept t [Reg.TWN_CNT_LANE_DROP, Reg.TWN_CNT_MSG_RETRY]) ∧
      (∀ (c : Instr) (g : Byte) (w : Nat), (c = .laneLockLoss lane true v r ∧ s.twn.link.peerGood.getLsbD lane = true ∧
          g = putBit s.twn.link.peerGood lane false) ∨
          (c = .laneReturn lane true ∧ g = putBit s.twn.link.peerGood lane true) →
        w = (if 8 ≤ (bitList g).length then 8 else if 4 ≤ (bitList g).length then 4
          else if 2 ≤ (bitList g).length then 2 else (bitList g).length) →
        ∃ t, exec c s = .next t ∧ t.twn.link = { s.twn.link with peerGood := g, width := w, txUse := t.twn.link.txUse } ∧
        (∀ i < 8, t.twn.link.txUse.getLsbD i = (g.getLsbD i && decide ((bitList g).idxOf i < w))) ∧
        t.rbit Reg.TWN_STATUS 7 = (s.rbit Reg.TWN_STATUS 7 || w != s.twn.link.width) ∧
        t = { s.noted t with twn := { s.twn with link := t.twn.link } } ∧
        s.regsKept t [Reg.TWN_STATUS] ∧ s.cntsKept t [Reg.TWN_CNT_LANE_DROP, Reg.TWN_CNT_MSG_RETRY]) ∧
      (∃ t, exec (.laneReturn lane false) s = .next t ∧
        (∀ i < 8, t.twn.link.rxGood.getLsbD i = (s.twn.link.rxGood.getLsbD i || i == lane.val)) ∧
        (∀ i < 8, Tab.get Lane.reset t.twn.link.lanes i = (let l := Tab.get Lane.reset s.twn.link.lanes i
          if i = lane.val then { l with lock := true, ready := true } else l)) ∧
        t = { s with twn := { s.twn with
          link := { s.twn.link with rxGood := t.twn.link.rxGood, lanes := t.twn.link.lanes } } })) ∧
    (s.twn.link.up = true → s.pwr.mode = .active →
      ∀ c : Instr, (c = .twinLinkLost ∨ ∃ ini, c = .retrain ini ∧ s.mayAccess ini 15) →
      ∃ t, exec c s = .next t ∧ t.twn.link = { s.twn.link with
          up := false, training := true, rate := 0, target := 0, width := 0, txUse := 0, rxGood := 0, peerGood := 0
          lostAt := some s.ticks, lanes := t.twn.link.lanes } ∧
        t.twn.lease.paired = false ∧ t.twn.lease.finalOwed = false ∧ t.twn.lease.releaseOwed = false ∧
        t.twn.lease.holds = s.twn.lease.holds ∧ t.twn.lease.left = s.twn.lease.left ∧
        t.rbit Reg.TWN_STATUS 6 = true ∧ t.cnt Reg.TWN_CNT_LINK_DOWN = s.cnt Reg.TWN_CNT_LINK_DOWN + 1 ∧
        (s.twn.lease.paired = true → s.twn.lease.sync = 3 → t.twn.lease.sync = 4 ∧ t.rbit Reg.TWN_STATUS 4 = true) ∧
        (s.twn.lease.paired = true → (s.twn.lease.sync = 1 ∨ s.twn.lease.sync = 2) → t.twn.lease.sync = 0) ∧
        (s.twinOn = true → s.localMode = true → s.twn.lease.paired = true → s.twn.lease.holds = true →
          s.twn.lease.peerEligible = false → t.twn.lease.orphan = true) ∧
        (s.twinOn = true → s.localMode = true → s.twn.lease.paired = true → s.twn.lease.holds = false →
          s.twn.lease.eligible = true → s.twn.lease.claim = none → s.twn.lease.preparing = false →
          s.twn.lease.lostByExpiry = false →
          t.twn.lease.claim = some ⟨none, match s.twn.peer.expiry with
            | some e => max s.now (e + s.guardPips)
            | none => s.now, false⟩) ∧
        t = { s.noted t with twn := { s.twn with lease := t.twn.lease, link := t.twn.link }, arb := t.arb } ∧
        s.regsKept t [Reg.TWN_STATUS, Reg.ARB_STATUS] ∧
        (c = .twinLinkLost → t.arb = s.arb ∧ s.cntsKept t [Reg.TWN_CNT_LINK_DOWN]) ∧
        (∀ ini, c = .retrain ini → s.cntsKept t [Reg.TWN_CNT_LINK_DOWN, Reg.ARB_Ii_CNT_GRANTr 0 ini])) ∧
    (∀ k : Nat, s.twn.link.lostAt = some k → s.pwr.mode = .active →
      ∃ t, exec .peerLost s = .next t ∧ t.twn.link = { s.twn.link with lostAt := none } ∧ t.twn.lease.sync = 0 ∧
        t.ticks = max s.ticks (k + 1280000000) ∧ (s.twn.lease.holds = true → t.rbit Reg.TWN_STATUS 5 = true) ∧
        t = { s.later t with twn := { s.twn with link := t.twn.link, lease := { s.twn.lease with
          sync := 0, left := t.twn.lease.left } } } ∧
        s.regsKept t [Reg.TWN_STATUS] ∧ s.cntsKept t []) ∧
    (∀ (b : List Byte) (fl : Nat), b.length = 29 → s.twn.link.up = true → fl = Crypto.beNat (Crypto.slice b 12 1) →
      s.pwr.mode = .active → ∃ t, exec (.hello b) s = .next t ∧
        (s.twn.lease.paired = true → t.twn.link = s.twn.link) ∧
        (s.twn.lease.paired = false → t.twn.link = { s.twn.link with
          target := min (s.fld Reg.TWN_CTRL 6 4) (Crypto.beNat (Crypto.slice b 13 1))
          training := decide (s.twn.link.rate < min (s.fld Reg.TWN_CTRL 6 4) (Crypto.beNat (Crypto.slice b 13 1))) }) ∧
        t.twn.peer.serial = Crypto.beNat (Crypto.slice b 0 8) ∧
        t.twn.peer.gen = BitVec.ofNat 32 (Crypto.beNat (Crypto.slice b 14 4)) ∧
        (s.twn.lease.paired = true ∨ (s.twinOn = true ∧ Crypto.beNat (Crypto.slice b 8 4) = (s.reg Reg.ACT_TWIN_ID).toNat ∧
            s.reg Reg.ACT_TWIN_ID ≠ 0 ∧ fl.testBit 0 ≠ s.twinBit ∧ fl.testBit 1 = s.localMode) →
          t.twn.lease.paired = true ∧ t.twn.peer.holds = fl.testBit 2 ∧
          (fl.testBit 2 = true → t.twn.peer.expiry = some (ntimeOf (Crypto.slice b 18 11)))) ∧
        (s.twn.lease.paired = false → (s.twinOn = false ∨
            Crypto.beNat (Crypto.slice b 8 4) ≠ (s.reg Reg.ACT_TWIN_ID).toNat ∨ s.reg Reg.ACT_TWIN_ID = 0 ∨
            fl.testBit 0 = s.twinBit ∨ fl.testBit 1 ≠ s.localMode) →
          t.twn.lease = s.twn.lease ∧ t.rbit Reg.TWN_STATUS 9 = true ∧ t.out = s.out) ∧
        t = { s.noted t with twn := t.twn, out := t.out } ∧ s.regsKept t [Reg.TWN_STATUS] ∧
        s.cntsKept t [Reg.TWN_CNT_LEASE_WAIT]) ∧
    (∀ (b : List Byte) (fl : Nat), b.length = 13 → s.talks → fl = Crypto.beNat (Crypto.slice b 0 1) →
      s.pwr.mode = .active → ∃ t, exec (.twinState b) s = .next t ∧ t.twn.peer.holds = fl.testBit 2 ∧
        t.twn.peer.ready = fl.testBit 3 ∧
        (fl.testBit 2 = true → t.twn.peer.expiry = some (ntimeOf (Crypto.slice b 2 11))) ∧
        (s.twn.lease.holds = true → t.twn.lease.peerEligible = fl.testBit 0 ∧
          t.twn.lease.sync = Crypto.beNat (Crypto.slice b 1 1) % 8 ∧ t.twn.lease.holds = true ∧
          t.twn.lease.left = s.twn.lease.left) ∧
        (s.twn.lease.holds = false → s.twn.lease.toldElig = true → s.eligibleNow = true → s.twn.lease.sync = 3 →
          s.twn.lease.heldSince = true → fl.testBit 2 = s.twn.peer.holds → fl.testBit 1 = true →
          t.twn.lease.eligible = true) ∧
        t = { s.noted t with twn := { s.twn with lease := t.twn.lease, peer := t.twn.peer, mir := t.twn.mir }, out := t.out } ∧
        s.regsKept t [Reg.TWN_STATUS] ∧ s.cntsKept t [Reg.TWN_CNT_LEASE_WAIT]) ∧
    (s.talks → ∃ t, exec .twinEchoSend s = .next t ∧
      (∀ p : Nat × Nat, s.twn.peer.echo = some p →
        s.told t 1 6 (ntimeBytes p.1 ++ ntimeBytes p.2 ++ ntimeBytes s.now)) ∧
      (s.twn.peer.echo = none → s.told t 1 6 (List.replicate 22 0 ++ ntimeBytes s.now)) ∧
      t = { s with twn := { s.twn with mir := s.mirSent t }, out := t.out }) ∧
    (∀ (b : List Byte) (arr : Nat) (o : Int), s.twn.lease.paired = true → b.length = 33 →
      ntimeOf (Crypto.slice b 0 11) ≠ 0 → o = (((ntimeOf (Crypto.slice b 11 11) : Int) - ntimeOf (Crypto.slice b 0 11)) +
        ((ntimeOf (Crypto.slice b 22 11) : Int) - arr)) / 2 →
      ∃ t, exec (.twinEcho b arr) s = .next t ∧ t.twn.peer.echo = some (ntimeOf (Crypto.slice b 22 11), arr) ∧
        (s.twn.peer.echoes.length < 15 → t.twn.peer.echoes = o :: s.twn.peer.echoes ∧
          t.twn.peer.timeOfs = s.twn.peer.timeOfs) ∧
        (s.twn.peer.echoes.length = 15 → t.twn.peer.echoes = [] ∧
          t.twn.peer.timeOfs = Int.tdiv ((o :: s.twn.peer.echoes).foldl (· + ·) 0) 16 ∧
          (s.guardPips < 2 * t.twn.peer.timeOfs.natAbs → t.rbit Reg.TWN_STATUS 11 = true)) ∧
        t = { s.later t with twn := { s.twn with
          lease := { s.twn.lease with left := t.twn.lease.left }
          peer := { s.twn.peer with
            echo := t.twn.peer.echo, echoes := t.twn.peer.echoes, timeOfs := t.twn.peer.timeOfs } } } ∧
        s.regsKept t [Reg.TWN_STATUS] ∧ s.cntsKept t []) ∧
    (∀ (ini : Nat) (v : Word), s.mayAccess ini 15 →
      ∃ t, exec (.twinLoopWrite ini v) s = .next t ∧
        (s.twinOn = true → v.toNat % 4 ≠ 0 → t.reg Reg.TWN_LOOP = s.reg Reg.TWN_LOOP ∧ t.out = s.out) ∧
        (s.twinOn = false ∨ v.toNat % 4 = 0 → t.reg Reg.TWN_LOOP = BitVec.ofNat 32 (v.toNat % 4) ∧
          t.out = (if v.toNat % 4 = 3 ∧ s.fld Reg.TWN_LOOP 1 0 ≠ 3 then [Out.twinLoop true]
            else if v.toNat % 4 ≠ 3 ∧ s.fld Reg.TWN_LOOP 1 0 = 3 then [Out.twinLoop false] else []) ++ s.out) ∧
        t = { s.accessed t with out := t.out } ∧ s.served t ini [Reg.TWN_LOOP] []) ∧
    (∀ b : Bool, ∃ t, exec (.loop b) s = .next t ∧
      t.twn.link.loopFar = (if s.twinOn then s.twn.link.loopFar else b) ∧
      t = { s with twn := { s.twn with link := { s.twn.link with loopFar := t.twn.link.loopFar } } })

/-- R517, R518, R521, R523, R529. -/
def Obligations.MirrorSent : Prop :=
  ∀ s : State, s.settled → s.talks →
    (s.twn.lease.holds = true →
      (∃ t b, exec .markSend s = .next t ∧ s.told t 3 0x20 b ∧ b.take 6 = snapBytes t.now ++ [0] ∧
        (∀ q x, (q, x) ∈ s.usq.queues → s.usq.queues.length < 65536 → isUs q = true →
          s.sentPosOf q ≠ Tab.get 0 s.twn.mir.sentQueues q →
          ∃ i < Crypto.beNat (Crypto.slice b 6 2),
            Crypto.slice b (8 + 8 * i) 8 = Crypto.beBytes 2 q ++ Crypto.beBytes 6 (s.sentPosOf q)) ∧
        t.twn.mir.markTick = some t.ticks ∧
        (∀ q, t.queue q = { s.queue q with sentPos := (t.queue q).sentPos }) ∧
        t = { s.later t with
          usq := { s.usq with queues := t.usq.queues }
          twn := { s.twn with lease := { s.twn.lease with left := t.twn.lease.left }, mir := t.twn.mir }, out := t.out } ∧
        s.regsKept t [] ∧ s.cntsKept t []) ∧
      (∃ t b, exec .checkSend s = .next t ∧ s.told t 3 0x21 b ∧
        b.take 9 = snapBytes t.now ++ Crypto.beBytes 4 s.twn.mir.gen.toNat ∧ b.length = 11 + 19 * Crypto.beNat (Crypto.slice b 9 2) ∧
        (∀ q, isUs q = true → (s.queue q).checkDue = true → s.usq.queues.length < 65536 →
          (t.queue q).checkDue = false ∧ (t.queue q).srcS = false ∧
          ∃ i < Crypto.beNat (Crypto.slice b 9 2), Crypto.slice b (11 + 19 * i) 18 = Crypto.beBytes 2 q ++
            Crypto.beBytes 6 (s.queue q).f ++ Crypto.beBytes 6 (s.queue q).pos ++ Crypto.beBytes 4 (s.queue q).acc.toNat) ∧
        (∀ q, t.queue q = { s.queue q with checkDue := (t.queue q).checkDue, srcS := (t.queue q).srcS }) ∧
        t = { s.later t with
          usq := { s.usq with queues := t.usq.queues }
          twn := { s.twn with lease := { s.twn.lease with left := t.twn.lease.left }, mir := s.mirSent t }
          out := t.out } ∧
        s.regsKept t [] ∧ s.cntsKept t []) ∧
      (∀ e : Nat × Nat, [e] = s.upCtrs → Tab.get 0 s.twn.mir.sentCtrs e.1 ≠ e.2 →
        ∃ t, exec .ctrSend s = .next t ∧
          s.told t 2 0x11 (Crypto.beBytes 2 (e.1 / 4) ++ Crypto.beBytes 1 (e.1 % 4) ++ Crypto.beBytes 6 e.2) ∧
          t.twn.mir = { s.twn.mir with seqs := t.twn.mir.seqs, sentCtrs := Tab.set 0 s.twn.mir.sentCtrs e.1 e.2 } ∧
          t = { s with twn := { s.twn with mir := t.twn.mir }, out := t.out }) ∧
      (∃ t b, exec .shaperSend s = .next t ∧ s.told t 5 0x40 b ∧ b.length = 38656 ∧
        (∀ q < 4096, Crypto.slice b (9 * q) 9 = Crypto.beBytes 6 (BitVec.ofInt 48 (s.queue q).bucket).toNat ++
          Crypto.beBytes 3 (BitVec.ofInt 24 (s.queue q).deficit).toNat) ∧
        (∀ a < 256, Crypto.slice b (36864 + 7 * a) 7 = Crypto.beBytes 2 (s.alloc a).ptr ++
          Crypto.beBytes 1 (s.alloc a).hist.length ++ Crypto.beBytes 4 ((s.alloc a).hist.foldl max 0)) ∧
        t = { s with twn := { s.twn with mir := s.mirSent t }, out := t.out })) ∧
    (∀ (ini : Nat) (v : Word), s.mayAccess ini 6 → ini < 9 →
      (s.twn.lease.holds = true →
        ∃ t, exec (.registerWrite ini (BitVec.ofNat 28 Reg.ACT_TO_RANGE) v) s = .next t ∧
          t.reg Reg.ACT_TO_RANGE = s.merged Reg.ACT_TO_RANGE v ∧ s.told t 4 0x30
            (Crypto.beBytes 4 (s.twn.mir.gen + 1).toNat ++ Crypto.beBytes 4 Reg.ACT_TO_RANGE ++ Crypto.beBytes 4 v.toNat) ∧
          t.twn.mir = { s.twn.mir with gen := s.twn.mir.gen + 1, seqs := t.twn.mir.seqs } ∧
          t = { s.accessed t with twn := { s.twn with mir := t.twn.mir }, out := t.out } ∧
          s.served t ini [Reg.ACT_TO_RANGE] []) ∧
      (s.twn.lease.holds = false → s.twn.lease.sync ∈ [1, 2, 3] →
        ∃ t, exec (.registerWrite ini (BitVec.ofNat 28 Reg.ACT_TO_RANGE) v) s = .next t ∧
          t.cnt Reg.TWN_CNT_MIRROR_RO = s.cnt Reg.TWN_CNT_MIRROR_RO + 1 ∧ t = s.accessed t ∧
          s.served t ini [Reg.TWN_STATUS] [Reg.TWN_CNT_MIRROR_RO]))

/-- R372, R517, R519, R522 to R526, R529, R531. -/
def Obligations.MirrorTaken : Prop :=
  ∀ s : State, s.settled → s.talks → s.twn.lease.holds = false → s.twn.lease.preparing = false → s.pwr.mode = .active →
    (∀ (b : List Byte) (q pos k w : Nat), b.length = 22 → Crypto.slice b 6 2 = [0, 1] → Crypto.slice b 16 2 = [0, 1] →
      q = Crypto.beNat (Crypto.slice b 8 2) → pos = Crypto.beNat (Crypto.slice b 10 6) → k = Crypto.beNat (Crypto.slice b 18 2) →
      w = Crypto.beNat (Crypto.slice b 20 2) → isUs q = true → s.twn.lease.markWait = false →
      ∃ t, exec (.mark b) s = .next t ∧ (t.queue q).sentPos = pos ∧
        ((s.queue q).aligned = true → ∀ f ∈ (t.queue q).frames, pos < f.pos ∧ f ∈ (s.queue q).frames) ∧
        ((s.queue q).aligned = true → (s.queue q).pos < pos → (t.queue q).trim = some pos) ∧
        ((s.queue q).aligned = true → (s.queue q).frames = [] → (t.queue q).aligned = true) ∧
        ((s.queue q).aligned = false → t.queue q = { s.queue q with sentPos := pos }) ∧
        (∀ j, j ≠ q → t.queue j = s.queue j) ∧
        Tab.get (0, 0) t.twn.peer.markLinks k = (w % 4096, w / 4096 % 4) ∧
        t.twn.peer.finalSeen = (s.twn.peer.finalSeen || (Crypto.beNat (Crypto.slice b 5 1)).testBit 0) ∧
        t.twn.mir.markTick = some s.ticks ∧
        ((s.queue q).frames = [] → t = { s.noted t with
          usq := { s.usq with queues := t.usq.queues }
          twn := { s.twn with
            peer := { s.twn.peer with markLinks := t.twn.peer.markLinks, finalSeen := t.twn.peer.finalSeen }
            mir := t.twn.mir } } ∧ s.regsKept t [] ∧ s.cntsKept t [])) ∧
    (∀ (b : List Byte) (q fl f pos : Nat) (acc gen : Word), b.length = 30 → Crypto.slice b 9 2 = [0, 1] →
      gen = BitVec.ofNat 32 (Crypto.beNat (Crypto.slice b 5 4)) → q = Crypto.beNat (Crypto.slice b 11 2) → isUs q = true →
      f = Crypto.beNat (Crypto.slice b 13 6) → pos = Crypto.beNat (Crypto.slice b 19 6) →
      acc = BitVec.ofNat 32 (Crypto.beNat (Crypto.slice b 25 4)) → fl = Crypto.beNat (Crypto.slice b 29 1) →
      ∃ t, exec (.check b) s = .next t ∧ t.twn.peer.gen = gen ∧
        ((s.queue q).aligned = true → fl.testBit 1 = true → (t.queue q).aligned = false ∧ t.rbit Reg.TWN_STATUS 12 = true) ∧
        ((s.queue q).aligned = true → fl.testBit 1 = false → (s.queue q).f = f →
          (t.queue q).aligned = decide ((s.queue q).pos = pos ∧ (s.queue q).acc = acc)) ∧
        ((s.queue q).aligned = true → fl.testBit 1 = false → (s.queue q).f < f → t.queue q = { s.queue q with
          waits := (s.queue q).waits ++ [(f, pos, acc, s.ticks + 1280000)] }) ∧
        ((s.queue q).aligned = false → fl.testBit 1 = false → fl.testBit 0 = true → (s.queue q).frames = [] →
          t.queue q = { s.queue q with pos := pos, f := f, acc := acc, trim := none, waits := [], aligned := true } ∧
          t.cnt Reg.TWN_CNT_REALIGN = s.cnt Reg.TWN_CNT_REALIGN + 1) ∧
        ((s.queue q).aligned = false → fl.testBit 0 = false → t.queue q = s.queue q) ∧
        (s.twn.lease.sync = 2 → s.twn.mir.gen = gen → t.twn.lease.sync = 3 ∧ t.rbit Reg.TWN_STATUS 3 = true) ∧
        (s.twn.lease.sync ≠ 2 ∨ s.twn.mir.gen ≠ gen → t.twn.lease = s.twn.lease ∧ t.out = s.out) ∧
        (∀ j, j ≠ q → t.queue j = s.queue j) ∧
        ((s.queue q).frames = [] → t = { s.noted t with
          usq := { s.usq with queues := t.usq.queues }
          twn := { s.twn with
            lease := t.twn.lease, peer := { s.twn.peer with gen := gen }, mir := s.mirSent t
            test := { s.twn.test with genDiffAt := t.twn.test.genDiffAt } }
          out := t.out } ∧
          s.regsKept t [Reg.TWN_STATUS] ∧
          s.cntsKept t [Reg.TWN_CNT_UNALIGNED, Reg.TWN_CNT_REALIGN, Reg.TWN_CNT_CHECK_SKIP, Reg.TWN_CNT_LEASE_WAIT])) ∧
    (∀ (q : Nat) (x : Queue) (w : Nat × Nat × Word × Nat), s.usq.queues = [(q, x)] → isUs q = true → x.waits = [w] →
      x.aligned = true →
      ∃ t, exec .checkWaitExpiry s = .next t ∧ t.queue q = { x with waits := [], aligned := false } ∧
        t.ticks = max s.ticks w.2.2.2 ∧ t.rbit Reg.TWN_STATUS 12 = true ∧
        t.cnt Reg.TWN_CNT_UNALIGNED = s.cnt Reg.TWN_CNT_UNALIGNED + 1 ∧
        t = { s.later t with usq := { s.usq with queues := t.usq.queues } } ∧ s.regsKept t [Reg.TWN_STATUS] ∧
        s.cntsKept t [Reg.TWN_CNT_UNALIGNED]) ∧
    (∀ b : List Byte, b.length = 4 → s.twn.lease.sync = 1 →
      ∃ t, exec (.bulkDone b) s = .next t ∧ t.twn.lease.sync = 2 ∧ t.twn.mir = { s.twn.mir with
          gen := BitVec.ofNat 32 (Crypto.beNat b), bulk := 100, bulkGen := some (BitVec.ofNat 32 (Crypto.beNat b))
          seqs := t.twn.mir.seqs } ∧
        t.rbit Reg.TWN_STATUS 3 = true ∧
        t = { s.noted t with twn := { s.twn with lease := t.twn.lease, mir := t.twn.mir }, out := t.out } ∧
        s.regsKept t [Reg.TWN_STATUS] ∧ s.cntsKept t [Reg.TWN_CNT_LEASE_WAIT]) ∧
    (∀ (b : List Byte) (k : Nat) (p : PeerSlot), b.length = 13 →
      k = Crypto.beNat (Crypto.slice b 0 2) % 4096 * 4 + Crypto.beNat (Crypto.slice b 2 1) % 4 →
      p = ⟨Crypto.beNat (Crypto.slice b 3 1) % 4, BitVec.ofNat 16 (Crypto.beNat (Crypto.slice b 4 2)),
        BitVec.ofNat 32 (Crypto.beNat (Crypto.slice b 6 4)), Crypto.slice b 10 3⟩ →
      ∃ t, exec (.keymeta b) s = .next t ∧ Tab.find? t.twn.peer.slots k = some p ∧
        (t.slotDiffers k = false → k ∉ t.twn.peer.diverged) ∧
        t = { s with twn := { s.twn with peer := { s.twn.peer with
          slots := t.twn.peer.slots, diverged := t.twn.peer.diverged } } }) ∧
    (∀ (l : Fin 4096) (up slotB : Bool) (k : Nat), k = l.val * 4 + b2n up + 2 * b2n slotB → s.slotDiffers k = true →
      k ∉ s.twn.peer.diverged →
      ∃ t, exec (.keyDiverge l up slotB) s = .next t ∧ t.twn.peer.diverged = s.twn.peer.diverged ++ [k] ∧
        t.ticks = s.ticks + 12800000 ∧ t.rbit Reg.TWN_STATUS 13 = true ∧
        t = { s.later t with twn := { s.twn with
          lease := { s.twn.lease with left := t.twn.lease.left }
          peer := { s.twn.peer with diverged := t.twn.peer.diverged } } } ∧
        s.regsKept t [Reg.TWN_STATUS] ∧ s.cntsKept t []) ∧
    (∀ (b : List Byte) (l c : Nat) (x : KeySlot), b.length = 9 → l = Crypto.beNat (Crypto.slice b 0 2) → l < 4096 →
      Crypto.beNat (Crypto.slice b 2 1) % 4 = 1 → c = Crypto.beNat (Crypto.slice b 3 6) → x = (s.keys (2 * l + 1)).a →
      x.state ≠ .empty → Tab.find? s.twn.peer.slots (4 * l + 1) = none →
      ∃ t, exec (.ctr b) s = .next t ∧ (t.keys (2 * l + 1)).a = { x with mirror := c } ∧
        (∀ k, k ≠ 2 * l + 1 → t.keys k = s.keys k) ∧ t = { s with lsc := { s.lsc with keys := t.lsc.keys } }) ∧
    (∀ (gen v : Word) (c : Instr), s.twn.lease.sync ∈ [1, 2, 3] → s.blockOff 6 = false →
      (c = .twinCfg gen [(Reg.ACT_TO_RANGE, v), (Reg.ACT_TWIN_CFG, v), (Reg.TWN_CTRL, v)] ∨
        c = .table gen [(Reg.ACT_TO_RANGE, v), (Reg.ACT_TWIN_CFG, v), (Reg.TWN_CTRL, v)]) →
      ∃ t, exec c s = .next t ∧ t.reg Reg.ACT_TO_RANGE = s.merged Reg.ACT_TO_RANGE v ∧ t.twn.mir.gen = gen ∧
        t = { s.noted t with twn := { s.twn with
          lease := t.twn.lease, mir := { s.twn.mir with gen := gen, seqs := t.twn.mir.seqs } }, out := t.out } ∧
        s.regsKept t [Reg.ACT_TO_RANGE, Reg.TWN_STATUS] ∧ s.cntsKept t [Reg.TWN_CNT_LEASE_WAIT]) ∧
    (∀ b : List Byte, b.length = 38656 →
      ∃ t, exec (.shaper b) s = .next t ∧
        (∀ q < 4096, t.twn.peer.shQueues[q]? = some (q, signedOf 48 (Crypto.beNat (Crypto.slice b (9 * q) 6)),
          signedOf 24 (Crypto.beNat (Crypto.slice b (9 * q + 6) 3)))) ∧
        (∀ a < 256, t.twn.peer.shAllocs[a]? = some (a, Crypto.beNat (Crypto.slice b (36864 + 7 * a) 2),
          Crypto.beNat (Crypto.slice b (36866 + 7 * a) 1), Crypto.beNat (Crypto.slice b (36867 + 7 * a) 4))) ∧
        t = { s with twn := { s.twn with peer := { s.twn.peer with
          shQueues := t.twn.peer.shQueues, shAllocs := t.twn.peer.shAllocs } } })

/-- R535 to R537, R544. -/
def Obligations.TwinRecords : Prop :=
  ∀ s : State, s.settled →
    (s.twinOn = true → s.twn.lease.paired = true →
      (∀ (c : Instr) (b : List Byte) (base n : Nat), n ≤ 16 →
        (c = .range b ∧ b.length = 48 ∧ base = 0 ∧ n = 12) ∨ (c = .twinHealth b ∧ b.length = 64 ∧ base = 16 ∧ n = 16) →
        ∃ t, exec c s = .next t ∧
          (∀ k < n, Tab.get 0 t.twn.peer.words (base + k) = BitVec.ofNat 32 (Crypto.beNat (Crypto.slice b (4 * k) 4))) ∧
          (∀ k, k < base ∨ base + n ≤ k → Tab.get 0 t.twn.peer.words k = Tab.get 0 s.twn.peer.words k) ∧
          t = { s with twn := { s.twn with peer := { s.twn.peer with words := t.twn.peer.words } } }) ∧
      (∀ b : List Byte, b.length = 13 →
        ∃ t, exec (.twinTime b) s = .next t ∧
          Tab.get 0 t.twn.peer.words 12 = BitVec.ofNat 32 (Crypto.beNat (Crypto.slice b 0 1)) ∧
          (∀ k < 3, Tab.get 0 t.twn.peer.words (13 + k) =
            BitVec.ofNat 32 (Crypto.beNat (Crypto.slice b (1 + 4 * k) 4))) ∧
          (∀ k, k < 12 ∨ 16 ≤ k → Tab.get 0 t.twn.peer.words k = Tab.get 0 s.twn.peer.words k) ∧
          t = { s with twn := { s.twn with peer := { s.twn.peer with words := t.twn.peer.words } } }) ∧
      (∀ (ch : Chan) (i : Fin 64) (b : List Byte), b.length = 96 →
        ∃ t, exec (.perf ch i b) s = .next t ∧
          (∀ k < 24, Tab.get 0 t.twn.peer.bins ((i.val * 4 + ch.val) * 32 + k) =
            BitVec.ofNat 32 (Crypto.beNat (Crypto.slice b (4 * k) 4))) ∧
          (∀ a, a < (i.val * 4 + ch.val) * 32 ∨ (i.val * 4 + ch.val) * 32 + 24 ≤ a →
            Tab.get 0 t.twn.peer.bins a = Tab.get 0 s.twn.peer.bins a) ∧
          t = { s with twn := { s.twn with peer := { s.twn.peer with bins := t.twn.peer.bins } } }) ∧
      (∀ b : List Byte, s.twn.lease.holds = true →
        ∃ t, exec (.ports b) s = .next t ∧ t.arrivals = s.arrivals ++ [⟨8, 0, b, s.now, false⟩] ∧
          t.cnt Reg.TWN_CNT_PORTS_BYTES = s.cnt Reg.TWN_CNT_PORTS_BYTES + BitVec.ofNat 48 b.length ∧
          t = { s.noted t with arrivals := t.arrivals } ∧ s.regsKept t [Reg.TWN_STATUS] ∧
          s.cntsKept t [Reg.TWN_CNT_PORTS_BYTES])) ∧
    (∀ (ch : Chan) (pass : Bool), s.twinOn = true → s.twn.lease.holds = false → s.rbit Reg.TWN_ST_CTRL 16 = true →
      s.podInService ch = true → s.usq.grants = [] → (s.ubtCh ch).bursts = [] → s.inReset ch 9 = false →
      ∃ t, exec (.loopTest ch pass) s = .next t ∧ t.twn.test.tested.getLsbD ch = true ∧
        t.twn.test.passed.getLsbD ch = pass ∧ t.twn.test.testAt = some s.ticks ∧
        (∀ n, n ≠ ch.val → t.twn.test.tested.getLsbD n = s.twn.test.tested.getLsbD n ∧
          t.twn.test.passed.getLsbD n = s.twn.test.passed.getLsbD n ∧ t.pod n = s.pod n) ∧
        t.cnt (Reg.POD_TX_CNT_LOOP ch) = s.cnt (Reg.POD_TX_CNT_LOOP ch) + 1 ∧
        (pass = true → t.flt = s.flt ∧ t.twn.test.failAt = s.twn.test.failAt) ∧
        (pass = false → s.offers t ⟨sourceId ch 9 0 0, 0x04, 0, 0⟩ ∧ t.rbit Reg.TWN_STATUS 14 = true ∧
          t.twn.test.failAt = s.ticks :: s.twn.test.failAt ∧
          t.cnt Reg.TWN_CNT_ST_FAIL = s.cnt Reg.TWN_CNT_ST_FAIL + 1) ∧
        t = { s.noted t with
          pods := t.pods, flt := { s.flt with offered := t.flt.offered }, twn := { s.twn with test := t.twn.test } } ∧
        s.regsKept t [Reg.TWN_STATUS, Reg.POD_TX_STATUS ch] ∧
        s.cntsKept t [Reg.POD_TX_CNT_LOOP ch, Reg.TWN_CNT_ST_FAIL]) ∧
    (∀ hot : Byte, ∃ t, exec (.twinHealthBuild hot) s = .next t ∧
      (∀ i < 16, (s.healthItems hot)[i]? = some (Tab.get 0 t.twn.test.health i)) ∧
      bitsOf (Tab.get (0 : Word) t.twn.test.health 11).toNat 31 30 = (if 159 < hot.toNat then 1 else 0) ∧
      (s.twinOn = false → ∀ i ∈ [0, 2, 4, 5, 6, 7, 10, 15], 
        bitsOf (Tab.get (0 : Word) t.twn.test.health i).toNat 31 30 = 3) ∧
      (s.talks → ∃ b, s.told t 6 0x43 b ∧ b.length = 64 ∧
        ∀ i < 16, BitVec.ofNat 32 (Crypto.beNat (Crypto.slice b (4 * i) 4)) = Tab.get 0 t.twn.test.health i) ∧
      t = { s with
        twn := { s.twn with
          mir := s.mirSent t, test := { s.twn.test with
            health := t.twn.test.health, uncorBase := t.twn.test.uncorBase, cvBase := t.twn.test.cvBase } }
        out := t.out }) ∧
    (∀ m : MsgIn, s.hears m t3to7 → m.body = [] → s.act.uq.length < 64 →
      ∃ t b, exec (.healthQuery m) s = .next t ∧ t.act.uq = s.act.uq ++ [⟨15, m.seq, b⟩] ∧ b.length = 68 ∧
        b.getD 2 0 = BitVec.ofNat 8 (b2n s.acorn + 2 * b2n s.twinOn) ∧
        (∀ i < 16, Crypto.beNat (Crypto.slice b (4 + 4 * i) 4) = (Tab.get 0 s.twn.test.health i).toNat) ∧
        s.actedOn t m (some ⟨15, m.seq, b⟩) ∧
        t = { s.noted t with act := { s.act with uq := t.act.uq, own := t.act.own, bcast := t.act.bcast } } ∧
        s.regsKept t [Reg.ACT_STATUS] ∧ s.cntsKept t [Reg.ACT_CNT_MSG_ACTED])

/-- R549, R552, R553, R566, R567, R569, R570, R575. That programming only clears bits of the NVM is the model's choice
(log entry 22). -/
def Obligations.BootCommands : Prop :=
  ∀ s : State, s.settled →
    (∀ ini : Nat, s.mayAccess ini 1 → ini < 10 → s.armedFor 1 ini → s.boot.fuseBusy = none → s.boot.nvmBusy = none →
      (∀ c0 c1 : Nat, s.boot.halted = true → s.imageCheck (s.stageImage false) = some c0 →
        s.imageCheck (s.stageImage true) = some c1 →
        ∃ t, exec (.retry ini) s = .next t ∧ t.boot = { s.boot with
            halted := true, failCode := c1, slot := true, fallback := true, step := stepOfCode c1 } ∧
          t.rbit Reg.BOOT_STATUS 1 = true ∧ t.rbit Reg.BOOT_STATUS 2 = true ∧ t.guardOf 1 = none ∧
          t = { s.accessed t with boot := t.boot, guards := t.guards } ∧ s.served t ini [Reg.BOOT_STATUS] []) ∧
      (s.boot.halted = false → ∃ t, exec (.retry ini) s = .next t ∧ t.guardOf 1 = none ∧
        t = { s.accessed t with guards := t.guards } ∧ s.served t ini [] []) ∧
      (∃ t, exec (.softReset ini) s = .next t ∧ t.boot = { State.reset.boot with
          fuses := s.boot.fuses, unit := s.boot.unit, kreg := s.boot.kreg, nvm := s.boot.nvm, releasedAt := s.ticks } ∧
        t.ticks = s.ticks + 12800 ∧ t.act = State.reset.act ∧ t.lsc = State.reset.lsc ∧ t.usq = State.reset.usq ∧
        t.ubt = State.reset.ubt ∧ t.dsf = State.reset.dsf ∧ t.cls = State.reset.cls ∧ t.hrd = State.reset.hrd ∧
        t.flt = State.reset.flt ∧ t.pwr = State.reset.pwr ∧ t.sems = [] ∧ t.guards = [] ∧ t.ports = [] ∧
        t.arrivals = [] ∧ t.out = s.out ∧ t.pending = s.pending ∧ t.shell = { s.shell with ofs := s.shell.ofs + s.now } ∧
        t.hsk.toShell = [] ∧ t.ntm.state = .unset ∧ (∀ a, a ≠ Reg.ARB_STATUS → blockOf a ≠ some 0 → t.reg a = resetWord a))) ∧
    (∀ ini f v : Nat, s.mayAccess ini 1 → ini < 10 → s.armedFor 1 ini → f = s.fld Reg.BOOT_FUSE_SEL 3 0 → v = s.fuseData f →
      (f < 7 → (s.fuse f).programmed = false → (s.fuse f).bad = false → v ≠ 0 → s.boot.fuseBusy = none →
        ∃ t, exec (.fuseProg ini) s = .next t ∧ t.boot = { s.boot with fuseBusy := some (f, v) } ∧ t.guardOf 1 = none ∧
          t = { s.accessed t with boot := t.boot, guards := t.guards } ∧ s.served t ini [] []) ∧
      (8 < f ∨ v = 0 ∨ s.boot.fuseBusy.isSome = true ∨ (f < 7 ∧ (s.fuse f).programmed = true) →
        ∃ t, exec (.fuseProg ini) s = .next t ∧ t.boot = { s.boot with fuseResult := 1 } ∧ t.guardOf 1 = none ∧
          t = { s.accessed t with boot := t.boot, guards := t.guards } ∧ s.served t ini [] []) ∧
      (f ≤ 8 → s.boot.fuseBusy = none →
        ∃ t, exec (.fuseRead ini) s = .next t ∧ t.boot = { s.boot with fuseResult := 0 } ∧
          (∀ i < 12, t.reg (Reg.BOOT_FUSE_DATA i) = BitVec.ofNat 32 ((s.fuse f).value / 2 ^ (32 * i))) ∧
          t.rbit Reg.BOOT_STATUS 6 = true ∧ t.guardOf 1 = none ∧
          t = { s.accessed t with boot := t.boot, guards := t.guards } ∧
          s.served t ini (Reg.BOOT_STATUS :: (List.range 12).map Reg.BOOT_FUSE_DATA) [])) ∧
    (∀ f v : Nat, s.boot.fuseBusy = some (f, v) → f ≤ 8 →
      (∃ t, exec (.fuseDone true) s = .next t ∧ t.boot.fuseBusy = none ∧ t.boot.fuseResult = 0 ∧
        t.fuse f = { s.fuse f with value := if 7 ≤ f then (s.fuse f).value ||| v else v, programmed := true } ∧
        (∀ g, g ≠ f → t.fuse g = s.fuse g) ∧ s.took t Reg.BOOT_STATUS [6] ∧
        t = { s.noted t with boot := { s.boot with fuses := t.boot.fuses, fuseBusy := none, fuseResult := 0 } } ∧
        s.regsKept t [Reg.BOOT_STATUS] ∧ s.cntsKept t []) ∧
      (∃ t, exec (.fuseDone false) s = .next t ∧ (t.fuse f).programmed = true ∧ (t.fuse f).bad = true ∧
        (∀ g, g ≠ f → t.fuse g = s.fuse g) ∧ s.took t Reg.BOOT_STATUS [6] ∧
        t = { s.noted t with
          fresh := t.fresh, boot := { s.boot with fuses := t.boot.fuses, fuseBusy := none, fuseResult := 2 } } ∧
        s.regsKept t [Reg.BOOT_STATUS] ∧ s.cntsKept t [])) ∧
    (∀ (ini op : Nat) (c : Instr), s.mayAccess ini 1 → ini < 10 → s.armedFor 1 ini →
      (c, op) ∈ [(Instr.nvmRead ini, 1), (.nvmProgram ini, 2), (.nvmErase4k ini, 3), (.nvmErase64k ini, 4), (.nvmReadId ini, 5)] →
      (s.boot.step < 4 ∨ 6 < s.boot.step → s.boot.nvmBusy = none →
        (op ≤ 2 → s.fld Reg.BOOT_NVM_ADDR 24 0 + s.fld Reg.BOOT_NVM_LEN 8 0 ≤ 0x2000000) →
        (op = 2 → s.fld Reg.BOOT_NVM_ADDR 24 0 % 256 + s.fld Reg.BOOT_NVM_LEN 8 0 ≤ 256) →
        (op = 3 → s.fld Reg.BOOT_NVM_ADDR 24 0 % 4096 = 0) → (op = 4 → s.fld Reg.BOOT_NVM_ADDR 24 0 % 65536 = 0) →
        ∃ t, exec c s = .next t ∧
          t.boot = { s.boot with nvmBusy := some ⟨op, s.fld Reg.BOOT_NVM_ADDR 24 0, s.fld Reg.BOOT_NVM_LEN 8 0⟩ } ∧
          t.fld Reg.BOOT_NVM_RESULT 3 1 = 0 ∧ t.guardOf 1 = none ∧
          t = { s.accessed t with boot := t.boot, guards := t.guards } ∧ s.served t ini [Reg.BOOT_NVM_RESULT] []) ∧
      (s.boot.nvmBusy.isSome = true ∨ (4 ≤ s.boot.step ∧ s.boot.step ≤ 6 ∧ s.boot.halted = false) ∨
          (op = 3 ∧ s.fld Reg.BOOT_NVM_ADDR 24 0 % 4096 ≠ 0) →
        ∃ t, exec c s = .next t ∧ t.fld Reg.BOOT_NVM_RESULT 3 2 = 1 ∧ t.rbit Reg.BOOT_NVM_RESULT 1 = false ∧
          t.guardOf 1 = none ∧ t = { s.accessed t with guards := t.guards } ∧ s.served t ini [Reg.BOOT_NVM_RESULT] [])) ∧
    (∀ (o : NvmOp) (j : BitVec 24), s.boot.nvmBusy = some o → 1 ≤ o.op → o.op ≤ 5 → o.len ≤ 256 →
      Tab.wf (fun _ => (0xFF : Byte)) s.boot.nvm = true →
      ∃ t, exec (.nvmDone j) s = .next t ∧ t.fld Reg.BOOT_NVM_RESULT 3 1 = 1 ∧ t.rbit Reg.BOOT_STATUS 7 = true ∧
        (o.op = 1 → (∀ i < o.len, t.nvmBuf[i]? = some (Tab.get 0xFF s.boot.nvm (o.addr + i))) ∧
          t.boot.nvm = s.boot.nvm) ∧
        (o.op = 2 → ∀ a, Tab.get 0xFF t.boot.nvm a = if o.addr ≤ a ∧ a < o.addr + o.len then
          Tab.get 0xFF s.boot.nvm a &&& s.nvmBuf.getD (a - o.addr) 0 else Tab.get 0xFF s.boot.nvm a) ∧
        (o.op = 3 ∨ o.op = 4 → ∀ a, Tab.get 0xFF t.boot.nvm a =
          if o.addr ≤ a ∧ a < o.addr + (if o.op = 3 then 4096 else 65536) then 0xFF else Tab.get 0xFF s.boot.nvm a) ∧
        (o.op = 5 → t.fld Reg.BOOT_NVM_RESULT 31 8 = j.toNat ∧ t.boot.nvm = s.boot.nvm) ∧
        t = { s.noted t with boot := { s.boot with nvm := t.boot.nvm, nvmBusy := none } } ∧
        s.regsKept t (Reg.BOOT_STATUS :: Reg.BOOT_NVM_RESULT ::
          if o.op = 1 then (List.range 64).map Reg.BOOT_NVM_BUF else []) ∧ s.cntsKept t []) ∧
    (∀ o : NvmOp, s.boot.nvmBusy = some o →
      ∃ t, exec .nvmTimeout s = .next t ∧ t.fld Reg.BOOT_NVM_RESULT 3 1 = 5 ∧ t.rbit Reg.BOOT_STATUS 7 = true ∧
        (o.op = 1 ∨ o.op = 5 → t.boot.nvm = s.boot.nvm) ∧
        t = { s.noted t with fresh := t.fresh, boot := { s.boot with nvm := t.boot.nvm, nvmBusy := none } } ∧
        s.regsKept t [Reg.BOOT_STATUS, Reg.BOOT_NVM_RESULT] ∧ s.cntsKept t []) ∧
    (∀ m : Fin 4, (s.mcu m).state = .running → (s.mcu m).corrupt = false →
      ∀ (c : Instr) (w : Bool), ((∃ ini, c = .mcuRestart ini m ∧ s.mayAccess ini 1 ∧ (10 ≤ ini → s.alone)) ∧ w = false) ∨
        (c = .mcuWatchdog m ∧ s.rbit (Reg.BOOT_MCUn_CTRL m) 16 = true ∧ w = true) →
      ∃ t, exec c s = .next t ∧ t.mcu m = { s.mcu m with restarts := (s.mcu m).restarts + 1 } ∧
        (∀ j, j ≠ m.val → t.mcu j = s.mcu j) ∧
        s.offers t ⟨sourceId 4 1 m 0, 0x08, BitVec.ofNat 40 ((s.mcu m).restarts + 1).toNat, 0⟩ ∧
        (∀ b g, t.guardOf b = some g → g.ini ≠ 10 + m.val ∧ s.guardOf b = some g) ∧
        (∀ k < 32, t.sem k = if (s.sem k).owner = 10 + m.val then ⟨15, true⟩ else s.sem k) ∧
        (w = true → t.cnt Reg.BOOT_CNT_WDT = s.cnt Reg.BOOT_CNT_WDT + 1 ∧ t.rbit Reg.BOOT_STATUS 8 = true) ∧
        t = { s.accessed t with
          boot := { s.boot with mcus := t.boot.mcus }, guards := t.guards, sems := t.sems
          flt := { s.flt with offered := t.flt.offered } } ∧
        (w = true → t.arb = s.arb ∧ s.cntsKept t [Reg.BOOT_CNT_WDT]) ∧
        s.regsKept t [Reg.ARB_STATUS, Reg.BOOT_STATUS, Reg.DEV_STATUS])

/-- R583 to R587, R595. -/
def Obligations.PowerModes : Prop :=
  ∀ s : State, s.settled →
    (∀ (ini : Nat) (c : Instr) (m : Mode), s.mayAccess ini 3 → s.rbit Reg.PWR_CTRL 0 = true →
      (c, m) ∈ [(Instr.modeReqDoze ini, Mode.doze), (.modeReqCyclic ini, .cyclic), (.modeReqDeep ini, .deep),
        (.modeReqWarm ini, .warm)] →
      ∃ t, exec c s = .next t ∧ t.reg Reg.PWR_MODE_REQ = BitVec.ofNat 32 (modeCode m) ∧ t.pwr.mode = s.pwr.mode ∧
        t.pwr.on = s.pwr.on ∧
        (s.inSequence = true → t.pwr = { s.pwr with held := some (modeCode m) } ∧ t.act = s.act) ∧
        (s.inSequence = false → s.refuser m = none → t.pwr.phase = .entering ∧ t.pwr.target = m ∧ t.act = s.act ∧
          t.pwr.log = s.pwr.log ∧ t.pwr.keptPod = if m = .warm then s.podToKeep else s.pwr.keptPod) ∧
        (∀ code, s.inSequence = false → s.refuser m = some code → code ≠ 3 → s.refusedAs t m code false ∧
          t.act = s.act ∧ t.pwr = { s.pwr with log := t.pwr.log }) ∧
        (s.inSequence = false → s.refuser m = some 3 → s.act.uq.length < 64 → s.refusedAs t m 3 false ∧
          t.pwr = { s.pwr with log := t.pwr.log, reqPending := some (m, s.ticks) } ∧
          t.act = { s.act with uq := s.act.uq ++ [⟨13, 0, [BitVec.ofNat 8 (modeCode m), 0, 0, 0]⟩] } ∧
          t.rbit Reg.PWR_STATUS 7 = true) ∧
        t = { s.accessed t with pwr := t.pwr, act := t.act } ∧
        (s.act.uq.length < 64 → s.served t ini [Reg.PWR_MODE_REQ, Reg.PWR_STATUS]
          [Reg.PWR_CNT_REFUSE ((s.refuser m).getD 1)])) ∧
    (∀ ini : Nat, s.solitary → s.mayAccess ini 3 → s.rbit Reg.PWR_CTRL 0 = true → s.inSequence = false → s.mayWake 0 →
      ∃ t, exec (.modeReqActive ini) s = .next t ∧ s.awoken t 0 ∧ t.reg Reg.PWR_MODE_REQ = 0 ∧
        t = { s.accessed t with pwr := t.pwr } ∧
        s.served t ini [Reg.PWR_MODE_REQ, Reg.PWR_STATUS] [Reg.PWR_CNT_WAKE 0]) ∧
    (∀ ini : Nat, s.solitary → s.mayAccess ini 3 → s.inSequence = false → s.pwr.mode = .active →
      ∃ t, exec (.modeReqActive ini) s = .next t ∧ t.reg Reg.PWR_MODE_REQ = 0 ∧
        t = { s.accessed t with pwr := { s.pwr with held := t.pwr.held } } ∧ (s.pwr.held = none → t.pwr = s.pwr) ∧
        s.served t ini [Reg.PWR_MODE_REQ] []) ∧
    (∀ (m : MsgIn) (p : Nat), s.solitary → s.hears m [.t4, .t7] → m.body.length = 8 →
      p = Crypto.beNat (Crypto.slice m.body 0 1) → p ≤ 3 →
      ∃ t, exec (.sleepAllow m) s = .next t ∧ t.act = { s.act with
          permit := p, sleepMs := Crypto.beNat (Crypto.slice m.body 2 2), listenMs := Crypto.beNat (Crypto.slice m.body 4 2)
          own := t.act.own, bcast := t.act.bcast } ∧ s.actedOn t m none ∧
        (s.pwr.reqPending = none → s.pwr.mode = .active ∨ 2 ≤ p → t.pwr = s.pwr) ∧
        (s.pwr.reqPending = none → s.pwr.mode = .doze → p = 0 → s.mayWake 7 → s.awoken t 7) ∧
        (∀ k, s.pwr.reqPending = some (.doze, k) → s.pwr.mode = .active → 1 ≤ p → s.inSequence = false → 11 ≤ s.boot.step →
          t.pwr = { s.pwr with reqPending := none, phase := .entering, target := .doze }) ∧
        (∀ k, s.pwr.reqPending = some (.doze, k) → s.pwr.mode = .active → p = 0 → t.pwr = { s.pwr with reqPending := none }) ∧
        t = { s.noted t with pwr := t.pwr, act := t.act } ∧ s.regsKept t [Reg.ACT_STATUS, Reg.PWR_STATUS]) ∧
    (∀ m : MsgIn, s.solitary → s.hears m [.t4, .t7] → m.body = [] →
      ∃ t, exec (.wake m) s = .next t ∧ s.actedOn t m (some ⟨14, m.seq, []⟩) ∧
        (s.pwr.mode = .active → s.act.uq.length < 64 → t.act.uq = s.act.uq ++ [⟨14, m.seq, []⟩] ∧ t.pwr = s.pwr) ∧
        (s.pwr.mode = .cyclic → s.pwr.phase = .listen → s.mayWake 4 → s.act.uq.length < 64 → s.awoken t 4 ∧
          t.act.uq = s.act.uq ++ [⟨14, m.seq, []⟩]) ∧
        (s.pwr.mode ≠ .active → s.pwr.phase ≠ .listen → t.pwr = { s.pwr with wakeAck := some (14, m.seq) } ∧ t.act.uq = s.act.uq) ∧
        t = { s.noted t with
          pwr := t.pwr, act := { s.act with uq := t.act.uq, own := t.act.own, bcast := t.act.bcast } }) ∧
    (∀ (m : Mode) (k : Nat), s.solitary → s.pwr.reqPending = some (m, k) →
      ∃ t, exec .reqLapse s = .next t ∧ t.pwr = { s.pwr with reqPending := none } ∧
        t.ticks = max s.ticks (k + 12800000000) ∧ t = { s.later t with pwr := t.pwr } ∧ s.regsKept t [] ∧ s.cntsKept t []) ∧
    (s.pwr.phase = .entering → s.pwr.held = none →
      (∀ code, s.refuser s.pwr.target = some code →
        ∃ t, exec .modeEntryDone s = .next t ∧ s.refusedAs t s.pwr.target code true ∧
          t.cnt Reg.PWR_CNT_ABORT = s.cnt Reg.PWR_CNT_ABORT + 1 ∧ t.pwr = { s.pwr with
            phase := s.restPhase s.pwr.mode, target := s.pwr.mode, log := t.pwr.log } ∧
          t = { s.noted t with pwr := t.pwr } ∧ s.regsKept t [Reg.PWR_STATUS] ∧
          s.cntsKept t [Reg.PWR_CNT_REFUSE code, Reg.PWR_CNT_ABORT]) ∧
      (s.refuser s.pwr.target = none →
        ∃ t, exec .modeEntryDone s = .next t ∧ t.pwr.mode = s.pwr.target ∧ t.pwr.switching = 0 ∧ t.pwr.lostBanks = 0 ∧
          t.pwr.periods = (s.act.sleepMs, s.act.listenMs) ∧ t.cnt Reg.PWR_CNT_ENTRY = s.cnt Reg.PWR_CNT_ENTRY + 1 ∧
          (s.pwr.target = .doze → s.solitary → t.pwr.on = s.pwr.on ∧ t.pwr.phase = .steady ∧ s.regsKept t (Reg.PWR_STATUS :: rootRegs) ∧
            t = { s.noted t with pwr := t.pwr, ntm := t.ntm, clk := t.clk, pods := t.pods, fresh := t.fresh }) ∧
          (s.pwr.target = .deep → t.pwr.on = 0 ∧ t.pwr.phase = .steady) ∧
          (s.pwr.target = .cyclic → t.pwr.phase = .sleepPeriod → ∀ n < 4, t.pwr.on.getLsbD n = false) ∧
          (s.pwr.target = .cyclic → ∀ d, 4 ≤ d → t.pwr.on.getLsbD d = s.pwr.on.getLsbD d) ∧
          (s.pwr.target = .warm → ∀ d < 15, t.pwr.on.getLsbD d =
            (s.pwr.on.getLsbD d && decide (4 ≤ d ∨ d = s.pwr.keptPod)))))

/-- R581, R588, R589, R592, R593, R598, R599. The crossings a domain resynchronises are the model's assignment (log entry
23). -/
def Obligations.PowerDomains : Prop :=
  ∀ s : State, s.settled → s.solitary →
    (∀ (c : Instr) (source : Nat),
      ((c, source) = (.pin, 6) ∨
        (∃ ch : Chan, (c, source) = (.optical ch, 1) ∧ s.chEnabled ch = true ∧ s.inReset ch 11 = false) ∨
        (∃ (ch : Chan) (w : BitVec 64), (c, source) = (.pattern ch w, 2) ∧ s.chEnabled ch = true ∧ s.inReset ch 11 = false ∧
          s.rbit Reg.PWR_WK_PAT_CTRL 8 = true ∧
          ((List.range 64).filter (fun i => w.getLsbD i != (if i < 32 then (s.reg Reg.PWR_WK_PAT_ALL_LO).getLsbD i
            else (s.reg Reg.PWR_WK_PAT_ALL_HI).getLsbD (i - 32)))).length ≤ s.fld Reg.PWR_WK_PAT_CTRL 2 0) ∨
        (∃ (l : Fin 32) (p : Nat), (c, source) = (.hostEnergy l, 3) ∧ p < 8 ∧ s.portEn p = true ∧
          s.fld (Reg.HPE_Pp_CFG p) 7 3 ≤ l.val ∧ l.val < s.fld (Reg.HPE_Pp_CFG p) 7 3 + s.portLanes p)) →
      (s.mayWake source → ∃ t, exec c s = .next t ∧ s.awoken t source ∧ t = { s.noted t with pwr := t.pwr } ∧
        s.regsKept t [Reg.PWR_STATUS] ∧ s.cntsKept t [Reg.PWR_CNT_WAKE source]) ∧
      (s.pwr.mode = .active → s.pwr.phase ≠ .entering → s.pwr.held = none → exec c s = .next s) ∧
      (s.pwr.phase = .entering → s.wakeEnabled s.pwr.target source = true → s.pwr.held = none →
        ∃ t, exec c s = .next t ∧ s.refusedAs t s.pwr.target 11 true ∧ t.pwr.mode = s.pwr.mode ∧
          t.pwr.phase = s.restPhase s.pwr.mode ∧ t.pwr.on = s.pwr.on ∧
          t.cnt (Reg.PWR_CNT_WAKE source) = s.cnt (Reg.PWR_CNT_WAKE source) + 1 ∧ t = { s.noted t with pwr := t.pwr } ∧
          s.regsKept t [Reg.PWR_STATUS] ∧
          s.cntsKept t [Reg.PWR_CNT_WAKE source, Reg.PWR_CNT_REFUSE 11, Reg.PWR_CNT_ABORT])) ∧
    (∀ (d : Fin 15) (f : BitVec 15), s.pwr.switching.getLsbD d = true → s.pwr.phase ≠ .waking →
      s.pwr.fullReset.getLsbD d = false →
      ∃ t, exec (.domainOnDone d f) s = .next t ∧
        (d.val ≠ 4 → ∀ i < 15, t.pwr.on.getLsbD i = (s.pwr.on.getLsbD i || i == d.val)) ∧
        (13 ≤ d.val → t.pwr = { s.pwr with
            on := t.pwr.on, switching := t.pwr.switching, fullReset := t.pwr.fullReset, retries := t.pwr.retries } ∧
          (∀ i < 15, t.pwr.switching.getLsbD i = (s.pwr.switching.getLsbD i && i != d.val)) ∧
          t = { s.noted t with
            pwr := t.pwr, clk := t.clk, ntm := t.ntm, pods := t.pods, fresh := t.fresh }) ∧
        (d.val < 4 → f.getLsbD (10 + d.val) = true → t.pwr.on.getLsbD d = true ∧
          t.pwr.lostBanks.getLsbD (10 + d.val) = true ∧ t.rbit Reg.PWR_STATUS 5 = true ∧
          t.cnt Reg.PWR_CNT_BANK_LOST = s.cnt Reg.PWR_CNT_BANK_LOST + 1) ∧
        (d.val < 4 → f.getLsbD (10 + d.val) = false → t.pwr.on.getLsbD d = true ∧ t.pwr.lostBanks = s.pwr.lostBanks ∧
          t.cnt Reg.PWR_CNT_BANK_LOST = s.cnt Reg.PWR_CNT_BANK_LOST)) ∧
    (∀ (d : Fin 15) (clock : Bool), s.pwr.switching.getLsbD d = true → s.pwr.phase ≠ .waking →
      (s.pwr.fullReset.getLsbD d = false → Tab.get 0 s.pwr.retries d < 3 →
        ∃ t, exec (.wakeRetry d clock) s = .next t ∧ t.pwr = { s.pwr with retries := t.pwr.retries } ∧
          Tab.get 0 t.pwr.retries d = Tab.get 0 s.pwr.retries d + 1 ∧ t.ticks = s.ticks + 128000 ∧
          t.cnt Reg.PWR_CNT_RETRY = s.cnt Reg.PWR_CNT_RETRY + 1 ∧ t = { s.later t with pwr := t.pwr } ∧
          s.regsKept t [Reg.PWR_STATUS] ∧ s.cntsKept t [Reg.PWR_CNT_RETRY]) ∧
      (s.pwr.fullReset.getLsbD d = false → 3 ≤ Tab.get 0 s.pwr.retries d →
        ∃ t, exec (.wakeRetry d clock) s = .next t ∧ t.pwr.wakeFail = true ∧
          (∀ i < 15, t.pwr.fullReset.getLsbD i = (s.pwr.fullReset.getLsbD i || i == d.val)) ∧
          s.offers t ⟨pkgSource d, 0x10, if clock then 2 else 1, 0⟩ ∧ t.rbit Reg.PWR_STATUS 4 = true ∧
          t.cnt Reg.PWR_CNT_WAKE_FAIL = s.cnt Reg.PWR_CNT_WAKE_FAIL + 1 ∧
          t = { s.noted t with
            pwr := { s.pwr with wakeFail := true, fullReset := t.pwr.fullReset }
            flt := { s.flt with offered := t.flt.offered } } ∧
          s.regsKept t [Reg.PWR_STATUS] ∧ s.cntsKept t [Reg.PWR_CNT_WAKE_FAIL]) ∧
      (s.pwr.fullReset.getLsbD d = true → ∃ t, exec (.wakeRetry d clock) s = .next t ∧ t.pwr.failed.getLsbD d = true ∧
        t.pwr.switching.getLsbD d = false ∧ t.pwr.fullReset.getLsbD d = false ∧ t.pwr.on = s.pwr.on ∧
        (4 ≤ d.val → t = { s.noted t with pwr := t.pwr, clk := t.clk, ntm := t.ntm, pods := t.pods, fresh := t.fresh }))) ∧
    (s.pwr.mode = .cyclic → s.pwr.phase = .sleepPeriod → s.act.sleepMs + s.act.listenMs ≠ 0 →
      (∃ t, exec .listenPowerUp s = .next t ∧ t.pwr = { s.pwr with
          switching := s.pwr.switching ||| (domains s.enabledPods &&& ~~~ s.pwr.on &&& ~~~ s.pwr.failed &&& ~~~ s.pwr.switching)
          retries := t.pwr.retries } ∧
        t = { s.later t with pwr := t.pwr } ∧ s.regsKept t [] ∧ s.cntsKept t []) ∧
      (∃ t, exec .listenWindowStart s = .next t ∧ t.pwr = { s.pwr with
          phase := .listen, periods := (s.act.sleepMs, s.act.listenMs)
          switching := s.pwr.switching ||| (domains s.enabledPods &&& ~~~ s.pwr.on &&& ~~~ s.pwr.failed &&& ~~~ s.pwr.switching)
          retries := t.pwr.retries } ∧
        t.cnt Reg.PWR_CNT_LISTEN = s.cnt Reg.PWR_CNT_LISTEN + 1 ∧ t.rbit Reg.PWR_STATUS 6 = true ∧
        t = { s.later t with pwr := t.pwr } ∧ s.regsKept t [Reg.PWR_STATUS] ∧ s.cntsKept t [Reg.PWR_CNT_LISTEN])) ∧
    (s.pwr.mode = .cyclic → s.pwr.phase = .listen → s.pwr.periods.1 ≠ 0 → (∀ n < 4, (s.ubtCh n).bursts = []) →
      ∃ t, exec .listenWindowEnd s = .next t ∧ t.pwr.phase = .sleepPeriod ∧ t.pwr.mode = .cyclic ∧
        (∀ n < 4, t.pwr.on.getLsbD n = false) ∧ (∀ d, 4 ≤ d → t.pwr.on.getLsbD d = s.pwr.on.getLsbD d) ∧
        (∀ n < 4, s.pwr.on.getLsbD n = true → (t.chan n).asleep = true)) ∧
    (∀ pc : Fin 64, ∃ t, exec (.selfRefreshEntry pc) s = .next t ∧
      (s.pwr.mode = .cyclic ∨ s.pwr.mode = .warm → ∀ i < 64,
        t.pwr.selfRefresh.getLsbD i = (s.pwr.selfRefresh.getLsbD i || i == pc.val)) ∧
      (s.pwr.mode ≠ .cyclic → s.pwr.mode ≠ .warm → t = s) ∧
      t = { s with pwr := { s.pwr with selfRefresh := t.pwr.selfRefresh } })

/-- R604 to R606, R608 to R611, R613, R615 to R618. -/
def Obligations.FaultReactions : Prop :=
  ∀ s : State, s.settled → s.solitary →
    (∀ (m : FaultMsg) (tick : Nat), s.flt.offered = [] → m.kind ≠ 0x0B → ¬ (srcDie m.source = 4 ∧ srcRegion m.source = 6) →
      ∃ t, exec (.faultMessage tick [m]) s = .next t ∧ t.ticks = max s.ticks tick ∧ t.flt.offered = [] ∧
        (msgIsEnd m = true → t.flt.conds = s.flt.conds.filter (fun e => e.2 ≠ some (m.source, m.kind)) ∧
          t.flt.record = s.flt.record.map (fun r => if r.msg.source = m.source ∧ r.msg.kind = m.kind then
            { r with condPresent := false } else r) ∧
          t = { s.later t with flt := { s.flt with conds := t.flt.conds, record := t.flt.record } } ∧ s.regsKept t [] ∧
          s.cntsKept t []) ∧
        (msgIsEnd m = false → m.flags = 0 → s.ruleFor m = none →
          t.cnt Reg.FLT_CNT_EVENTS = s.cnt Reg.FLT_CNT_EVENTS + 1 ∧
          t.cnt (Reg.FLT_CNT_REACT 0) = s.cnt (Reg.FLT_CNT_REACT 0) + 1 ∧
          (s.flt.record = none → t.flt.recSeq = s.flt.recSeq + 1 ∧ t.rbit Reg.FLT_STATUS 0 = true ∧
            t.flt.record = some ⟨m, ns32Of t.now, ppOf t.now, 64, 0, false, 0, false, none, 0, false⟩) ∧
          (∀ r, s.flt.record = some r → t.flt.recSeq = s.flt.recSeq ∧ t.rbit Reg.FLT_STATUS 1 = true ∧
            t.cnt Reg.FLT_CNT_MERGED = s.cnt Reg.FLT_CNT_MERGED + 1 ∧
            t.flt.record = some { r with
              secondary := some (r.secondary.getD (m.source, m.kind)), secCount := min (r.secCount + 1) 65535
              overflow := r.overflow || (match r.secondary with
                | some x => decide (x ≠ (m.source, m.kind))
                | none => false) }) ∧
          t = { s.later t with flt := { s.flt with record := t.flt.record, recSeq := t.flt.recSeq } } ∧
          s.regsKept t [Reg.FLT_STATUS] ∧
          s.cntsKept t [Reg.FLT_CNT_EVENTS, Reg.FLT_CNT_REACT 0, Reg.FLT_CNT_MERGED]) ∧
        (∀ k code : Nat, msgIsEnd m = false → m.flags = 0 → s.ruleFor m = some k → (s.rule k).w0.getLsbD 27 = false →
          bitsOf (s.rule k).w2.toNat 7 0 ≤ 1 → bitsOf (s.rule k).w2.toNat 14 12 = code → s.flt.record = none →
          s.clusterIsolated m.source = false →
          t.cnt Reg.FLT_CNT_SEVERE = s.cnt Reg.FLT_CNT_SEVERE + 1 ∧ t.rbit Reg.FLT_STATUS 3 = true ∧
          (t.rule k).hits = (s.rule k).hits + 1 ∧ (t.rule k).severes = (s.rule k).severes + 1 ∧ (t.rule k).count = 0 ∧
          (t.rule k).w2 = (s.rule k).w2 ∧ (∀ j, j ≠ k → t.rule j = s.rule j) ∧
          (code = 1 → t.rbit Reg.FLT_STATUS 2 = true ∧ t.cnt (Reg.FLT_CNT_REACT 1) = s.cnt (Reg.FLT_CNT_REACT 1) + 1 ∧
            t.flt.record = some ⟨m, ns32Of t.now, ppOf t.now, k, 1, true, 1, false, none, 0, false⟩ ∧
            t = { s.later t with flt := { s.flt with
              rules := t.flt.rules, record := t.flt.record, recSeq := s.flt.recSeq + 1, severeAt := t.flt.severeAt } }) ∧
          (code = 5 → srcDie m.source < 4 → s.quiet → t.flt.podOffline.getLsbD (srcDie m.source) = true ∧
            t.rbit Reg.FLT_STATUS 6 = true ∧ t.flt.record.map (·.react) = some 5 ∧
            ∀ n < 4, n ≠ srcDie m.source → t.flt.podOffline.getLsbD n = s.flt.podOffline.getLsbD n) ∧
          (code = 7 → s.quiet → s.flt.safe = none → srcDie m.source < 6 → t.flt.safe = some m.source ∧
            t.rbit Reg.FLT_STATUS 8 = true ∧ t.flt.record.map (·.react) = some 7))) ∧
    (∀ (region : Fin 16) (r : RegionReset), region.val ∉ [1, 2, 11, 12, 14, 15] → s.quiet →
      s.flt.resetting.find? (fun r => srcDie r.source = 4 ∧ srcRegion r.source = region.val) = some r →
      s.flt.safe = none → s.pwr.mode = .active → s.pwr.held = none →
      ∃ t, exec (.regionResetEscalation region) s = .next t ∧ t.flt.safe = some r.source ∧
        t.cnt (Reg.FLT_CNT_REACT 7) = s.cnt (Reg.FLT_CNT_REACT 7) + 1 ∧ t.rbit Reg.FLT_STATUS 8 = true ∧
        t.flt = { s.flt with safe := some r.source, heavyAt := t.flt.heavyAt } ∧
        (s.pwr.phase ≠ .entering → t = { s.noted t with flt := t.flt } ∧ s.regsKept t [Reg.FLT_STATUS] ∧
          s.cntsKept t [Reg.FLT_CNT_REACT 7])) ∧
    (∀ (ini k w : Nat) (v : Word), s.mayAccess ini 4 → k = s.fld Reg.FLT_RULE_SEL 5 0 → w = s.fld Reg.FLT_RULE_ADDR 2 0 →
      ∃ t, exec (.ruleWrite ini v) s = .next t ∧ t.fld Reg.FLT_RULE_ADDR 2 0 = (w + 1) % 8 ∧
        t.rule k = { s.rule k with
          w0 := if w = 0 then v &&& 0x0FFFFFFF else (s.rule k).w0
          w1 := if w = 1 then v &&& 0x03FFFFFF else (s.rule k).w1
          w2 := if w = 2 then v &&& 0x000077FF else (s.rule k).w2
          w3 := if w = 3 ∧ 1 ≤ v.toNat ∧ v.toNat ≤ 3600000000 then v else (s.rule k).w3
          count := 0, windowAt := 0 } ∧
        (∀ j, j ≠ k → t.rule j = s.rule j) ∧ t.flt.tracker = s.flt.tracker.filter (fun e => e.rule ≠ k) ∧
        t = { s.accessed t with flt := { s.flt with rules := t.flt.rules, tracker := t.flt.tracker } } ∧
        s.served t ini [Reg.FLT_RULE_ADDR] [])

/-- R611, R619, R624, R705. -/
def Obligations.FaultCommands : Prop :=
  ∀ s : State, s.settled → s.solitary → s.quiet →
    (∀ (n : Fin 4) (c : Instr), s.pwr.on.getLsbD n = true → (s.pod n).restarting = false → (s.ubtCh n).bursts = [] →
      ((c = .podAutoRestart n ∧ s.flt.autoRunning.getLsbD n = true) ∨
        (∃ (ini : Nat) (v : Word), c = .podRestart ini v ∧ s.mayAccess ini 4 ∧ ∀ j < 4, v.getLsbD j = decide (j = n.val))) →
      ∃ t, exec c s = .next t ∧ t.pod n = { Pod.reset with
          rxProf := (s.pod n).rxProf, txProf := (s.pod n).txProf, sense := (s.pod n).sense, restarting := true
          calBusy := true, acquiring := true } ∧
        t.flt.autoRunning.getLsbD n = false ∧ (∀ j, j ≠ n.val → t.pod j = s.pod j) ∧
        t.flt = { s.flt with autoRunning := t.flt.autoRunning } ∧
        t = { s.accessed t with pods := t.pods, flt := t.flt, ntm := t.ntm, clk := t.clk, fresh := t.fresh } ∧
        (∀ a, a ∉ Reg.ARB_STATUS :: Reg.POD_RX_STATUS n :: rootRegs ++ (List.range 15).map (Reg.POD_REPAIR_EQL n) ++
          (List.range 2).map (Reg.POD_REPAIR_LDP n) → t.reg a = s.reg a)) ∧
    (∀ (ini die region : Nat) (v : Word), s.mayAccess ini 4 → s.armedFor 4 ini → v.getLsbD 31 = true →
      die = v.toNat % 8 → region = v.toNat / 8 % 16 →
      (5 ≤ die ∨ region = 15 → ∃ t, exec (.regionResetCmd ini v) s = .next t ∧ t.rbit Reg.FLT_STATUS 11 = true ∧
        t.guardOf 4 = none ∧ t = { s.accessed t with guards := t.guards } ∧ s.served t ini [Reg.FLT_STATUS] []) ∧
      (die = 4 → region = 4 → s.flt.resetting = [] → ∃ t, exec (.regionResetCmd ini v) s = .next t ∧ t.usq.grants = [] ∧
        t.guardOf 4 = none ∧ t = { s.accessed t with
          guards := t.guards, usq := { s.usq with grants := [] }, flt := t.flt, ntm := t.ntm, clk := t.clk
          pods := t.pods, fresh := t.fresh }) ∧
      (die < 5 → region < 15 → s.inReset die region = true → ∃ t, exec (.regionResetCmd ini v) s = .next t ∧
        t.guardOf 4 = none ∧ t = { s.accessed t with guards := t.guards } ∧ s.served t ini [] []) ∧
      (die < 4 → region = 6 → s.flt.resetting = [] → ∃ t, exec (.regionResetCmd ini v) s = .next t ∧
        t.flt.resetting = [⟨sourceId die 6 0 0, [8 * die + 3]⟩] ∧ t.guardOf 4 = none)) ∧
    (∀ (ini : Nat) (v : Word), s.mayAccess ini 4 → s.armedFor 4 ini → v.getLsbD 0 = true →
      ∃ t m, exec (.inject ini v) s = .next t ∧ s.offers t m ∧ m.source = (s.reg Reg.FLT_INJ_SRC).setWidth 18 ∧
        m.kind.toNat = s.fld Reg.FLT_INJ_SRC 25 18 ∧ (∀ i < 5, m.flags.getLsbD i = s.rbit Reg.FLT_INJ_SRC (26 + i)) ∧
        m.flags.getLsbD 5 = true ∧
        m.context.toNat = (s.reg Reg.FLT_INJ_CTX_LO).toNat + s.fld Reg.FLT_INJ_CTX_HI 7 0 * 2 ^ 32 ∧
        t.guardOf 4 = none ∧
        t = { s.accessed t with guards := t.guards, flt := { s.flt with offered := t.flt.offered } } ∧ s.served t ini [] []) ∧
    (∀ (ini : Nat) (v : Word), s.mayAccess ini 4 →
      ∃ t, exec (.fltRecClr ini v) s = .next t ∧ t.flt.recSeq = s.flt.recSeq ∧
        (s.flt.record.isSome = true → v.toNat % 256 = s.flt.recSeq.toNat → t.flt.record = none ∧ s.served t ini [] []) ∧
        (s.flt.record = none ∨ v.toNat % 256 ≠ s.flt.recSeq.toNat → t.flt.record = s.flt.record ∧
          t.cnt Reg.FLT_CNT_CLR_MISS = s.cnt Reg.FLT_CNT_CLR_MISS + 1 ∧ s.served t ini [Reg.FLT_STATUS] [Reg.FLT_CNT_CLR_MISS]) ∧
        t = { s.accessed t with flt := { s.flt with record := t.flt.record } })

/-- R320 to R332. -/
def Obligations.NetworkTime : Prop :=
  ∀ s : State, s.settled → s.solitary →
    (∀ (m : MsgIn) (tod : Tod) (c : Instr) (l : Latch) (e : Int), s.todBarred tod = false → s.todLatch tod = some l →
      ((c = .todHeldApply ∧ s.ntm.heldTod = some tod) ∨
        (c = .timeOfDay m ∧ s.hears m t1to7 ∧ m.body.length = 20 ∧ ntimeOk (Crypto.slice m.body 6 11) = true ∧
          tod = ⟨Crypto.beNat (Crypto.slice m.body 0 6), ntimeOf (Crypto.slice m.body 6 11),
            Crypto.beNat (Crypto.slice m.body 17 1) % 2 == 1, s.ticks⟩)) →
      e = tod.launch + l.dDown - l.mark → s.rbit Reg.NTM_CTRL 1 = true →
      ∃ t, exec c s = .next t ∧ t.ntm.lastErr = e ∧ t.ntm.lastMf = BitVec.ofNat 16 tod.sf ∧ t.ntm.lastSf = some tod.sf ∧
        t.ntm.traceable = tod.traceable ∧ t.ntm.heldTod = none ∧ t.ntm.acceptTick = some s.ticks ∧
        t.ntm.prevTick = some l.tick ∧ t.cnt Reg.NTM_CNT_TOD_ACCEPT = s.cnt Reg.NTM_CNT_TOD_ACCEPT + 1 ∧
        (s.ntm.state = .unset → t.ntm.state = .acquire ∧ t.ntm.rate = s.ntm.rateI ∧ t.ntm.everSet = true ∧
          t.ticks = s.ticks + 1 ∧ t.rbit Reg.NTM_STATUS 1 = true ∧
          t.cnt Reg.NTM_CNT_STEP = s.cnt Reg.NTM_CNT_STEP + 1) ∧
        (∀ (p : Nat) (i : Int), s.ntm.state = .acquire → e.natAbs ≤ s.stepThr → s.ntm.prevTick = some p → p < l.tick →
          i = clampRate (s.ntm.rateI + (e * 2 ^ 32).tdiv ((l.tick : Int) - p) / 2 ^ s.fld Reg.NTM_SERVO 7 4) →
          t.ntm.rateI = i ∧ t.ntm.rate = clampRate (clampInt
            (i + (e * 2 ^ 32).tdiv ((l.tick : Int) - p) / 2 ^ s.fld Reg.NTM_SERVO 3 0) (i - s.slewMax) (i + s.slewMax)) ∧
          t.ticks = s.ticks ∧
          (e.natAbs ≤ s.fld Reg.NTM_SERVO 31 16 → s.fld Reg.NTM_SERVO 15 8 ≤ s.ntm.lockCount + 1 → t.ntm.state = .locked) ∧
          (e.natAbs ≤ s.fld Reg.NTM_SERVO 31 16 → s.ntm.lockCount + 1 < s.fld Reg.NTM_SERVO 15 8 →
            t.ntm.state = .acquire ∧ t.ntm.lockCount = s.ntm.lockCount + 1) ∧
          (s.fld Reg.NTM_SERVO 31 16 < e.natAbs → t.ntm.state = .acquire ∧ t.ntm.lockCount = 0) ∧
          (s.fld Reg.NTM_SERVO 31 16 < e.natAbs ∨ s.ntm.lockCount + 1 < s.fld Reg.NTM_SERVO 15 8 →
            t = { s.noted t with act := { s.act with own := t.act.own, bcast := t.act.bcast }, ntm := t.ntm } ∧
            t.now = s.now ∧ s.regsKept t [Reg.NTM_STATUS, Reg.ACT_STATUS] ∧
            s.cntsKept t [Reg.NTM_CNT_TOD_ACCEPT, Reg.ACT_CNT_MSG_ACTED])) ∧
        (s.ntm.state = .locked → e.natAbs ≤ s.stepThr →
          t.ntm.state = if 4 * s.fld Reg.NTM_SERVO 31 16 < e.natAbs then .acquire else .locked) ∧
        (s.ntm.state = .holdover → s.rbit Reg.NTM_CTRL 3 = true → t.ntm.state = .acquire ∧ t.rbit Reg.NTM_STATUS 3 = true)) ∧
    (∀ (m : MsgIn) (tod : Tod), s.hears m t1to7 → m.body.length = 20 → ntimeOk (Crypto.slice m.body 6 11) = true →
      tod = ⟨Crypto.beNat (Crypto.slice m.body 0 6), ntimeOf (Crypto.slice m.body 6 11),
        Crypto.beNat (Crypto.slice m.body 17 1) % 2 == 1, s.ticks⟩ →
      s.ntm.tch = none ∨ s.ntm.forced = true ∨ (∃ p, s.ntm.lastSf = some p ∧ tod.sf ≤ p) ∨ s.todLatch tod = none →
      ∃ t, exec (.timeOfDay m) s = .next t ∧ s.actedOn t m none ∧
        (s.ntm.tch = none ∨ s.ntm.forced = true ∨ (∃ p, s.ntm.lastSf = some p ∧ tod.sf ≤ p) ∨ s.todBegun tod = true →
          t.cnt Reg.NTM_CNT_TOD_REJECT = s.cnt Reg.NTM_CNT_TOD_REJECT + 1 ∧ t.rbit Reg.NTM_STATUS 5 = true ∧
          t.ntm = s.ntm) ∧
        (s.todBarred tod = false → s.todBegun tod = false → t.ntm = { s.ntm with heldTod := some tod } ∧
          t.reg Reg.NTM_STATUS = s.reg Reg.NTM_STATUS) ∧
        t = { s.noted t with ntm := t.ntm, act := { s.act with own := t.act.own, bcast := t.act.bcast } } ∧
        s.regsKept t [Reg.NTM_STATUS, Reg.ACT_STATUS] ∧
        s.cntsKept t [Reg.NTM_CNT_TOD_REJECT, Reg.ACT_CNT_MSG_ACTED]) ∧
    (∀ tod : Tod, s.ntm.heldTod = some tod → s.todLatch tod = none →
      ∃ t, exec .todHeldLapse s = .next t ∧ t.ntm.heldTod = none ∧ t.ticks = max s.ticks (tod.tick + 2560000000) ∧
        t.cnt Reg.NTM_CNT_TOD_REJECT = s.cnt Reg.NTM_CNT_TOD_REJECT + 1 ∧ t.rbit Reg.NTM_STATUS 5 = true ∧
        t = { (s.later t) with ntm := { (s.later t).ntm with heldTod := none } } ∧ s.regsKept t [Reg.NTM_STATUS] ∧
        s.cntsKept t [Reg.NTM_CNT_TOD_REJECT]) ∧
    (∀ k ini : Nat, s.ntm.state = .acquire ∨ s.ntm.state = .locked →
      ∀ (c : Instr) (f : Bool), ((c, f) = (.todTimeout, false) ∧ s.ntm.acceptTick = some k) ∨
        ((c, f) = (.ntmHold ini, true) ∧ s.mayAccess ini 5) →
      ∃ t, exec c s = .next t ∧ t.ntm.state = .holdover ∧ t.ntm.forced = f ∧ t.ntm.holdAt = t.ticks ∧
        t.ntm.hrefInUse = (s.rbit Reg.NTM_CTRL 2 && s.ntm.hrefValid) ∧
        t.ntm.rate = (if s.rbit Reg.NTM_CTRL 2 && s.ntm.hrefValid then s.ntm.hrefRate else s.ntm.rateI) ∧
        (f = false → t.ticks = max s.ticks (k + s.fld Reg.NTM_TOD_TIMEOUT 15 0 * 1280000) ∧ t.arb = s.arb) ∧
        t.rbit Reg.NTM_STATUS 0 = true ∧ t.rbit Reg.NTM_STATUS 2 = true ∧
        t.cnt Reg.NTM_CNT_HOLD = s.cnt Reg.NTM_CNT_HOLD + 1 ∧
        t = { s.later t with ntm := t.ntm, clk := t.clk, fresh := t.fresh, arb := t.arb } ∧
        s.regsKept t (Reg.ARB_STATUS :: rootRegs)) ∧
    (s.ntm.state = .holdover → s.ntm.specEnded = false →
      ∃ t, exec .holdSpecEnd s = .next t ∧ t.ntm.specEnded = true ∧ t.rbit Reg.NTM_STATUS 4 = true ∧
        t.ticks = max s.ticks (s.ntm.holdAt + (s.fld Reg.NTM_HOLD_SPEC 23 0 + 1) * 1280000000) ∧
        t = { (s.later t) with ntm := { (s.later t).ntm with specEnded := true } } ∧ s.regsKept t [Reg.NTM_STATUS] ∧
        s.cntsKept t []) ∧
    (∀ ini : Nat, s.mayAccess ini 5 →
      (∃ t, exec (.ntmRelease ini) s = .next t ∧ t.ntm = { s.ntm with forced := false } ∧
        t = { s.accessed t with ntm := t.ntm } ∧ s.served t ini [] []) ∧
      (∃ t, exec (.ntmSnap ini) s = .next t ∧ t.reg Reg.NTM_SNAP_S_LO = BitVec.ofNat 32 (secOf s.now) ∧
        t.reg Reg.NTM_SNAP_S_HI = BitVec.ofNat 32 (secOf s.now / 2 ^ 32) ∧ t.reg Reg.NTM_SNAP_NS = BitVec.ofNat 32 (nsOf s.now) ∧
        t.reg Reg.NTM_SNAP_PP = BitVec.ofNat 32 (s.now % 256 + 256) ∧ t = s.accessed t ∧
        s.served t ini [Reg.NTM_SNAP_S_LO, Reg.NTM_SNAP_S_HI, Reg.NTM_SNAP_NS, Reg.NTM_SNAP_PP] [])) ∧
    (∀ (ini x : Nat), s.mayAccess ini 5 → s.armedFor 5 ini → ini < 10 → (∀ i < 16, (s.tcSlot i).status ≠ 1) →
      (∀ p ∈ s.lsc.keys, p.2.sched = none) → s.pwr.mode = .active →
      x = mkTime ((s.reg Reg.NTM_SET_S_LO).toNat + s.fld Reg.NTM_SET_S_HI 15 0 * 2 ^ 32) (s.fld Reg.NTM_SET_NS 29 0)
        (s.fld Reg.NTM_SET_PP 7 0) →
      (s.fld Reg.NTM_SET_NS 29 0 ≤ 999999999 → ∃ t, exec (.timeSet ini) s = .next t ∧ t.now = x ∧ t.ntm.frac = 0 ∧
        t.ticks = s.ticks + 1 ∧ t.ntm.everSet = true ∧ t.ntm.acceptTick = some (s.ticks + 1) ∧
        (s.ntm.state = .unset ∨ s.ntm.state = .locked → t.ntm.state = .acquire) ∧
        (s.ntm.state = .manual → t.ntm.state = .manual) ∧ t.rbit Reg.NTM_STATUS 1 = true ∧
        t.cnt Reg.NTM_CNT_STEP = s.cnt Reg.NTM_CNT_STEP + 1 ∧ t.guardOf 5 = none ∧ t.act.state = s.act.state ∧
        t.act.tid = s.act.tid ∧ t.lsc = s.lsc ∧ t.cls = s.cls ∧ t.hrd = s.hrd ∧ t.flt = s.flt ∧ t.boot = s.boot ∧
        t.pwr = s.pwr ∧ t.pads = s.pads ∧ t.hsk = s.hsk ∧ t.ports = s.ports ∧ t.arrivals = s.arrivals ∧
        s.regsKept t [Reg.ARB_STATUS, Reg.NTM_STATUS, Reg.USQ_STATUS]) ∧
      (999999999 < s.fld Reg.NTM_SET_NS 29 0 → ∃ t, exec (.timeSet ini) s = .next t ∧ t.rbit Reg.NTM_STATUS 14 = true ∧
        t.guardOf 5 = none ∧ t = { s.accessed t with guards := t.guards } ∧ s.served t ini [Reg.NTM_STATUS] []) ∧
      (∃ t, exec (.timeAdj ini) s = .next t ∧ t.ticks = s.ticks + 1 ∧
        (∀ u, (s.passTicks 1).now = u → t.now = wrapTime ((u : Int) + (s.reg Reg.NTM_ADJ).toInt).toNat) ∧
        (s.ntm.state = .locked → t.ntm.state = .acquire) ∧ (s.ntm.state = .unset → t.ntm.state = .unset) ∧
        t.rbit Reg.NTM_STATUS 1 = true ∧ t.cnt Reg.NTM_CNT_STEP = s.cnt Reg.NTM_CNT_STEP + 1 ∧ t.guardOf 5 = none ∧
        t.lsc = s.lsc ∧ t.cls = s.cls ∧ t.hrd = s.hrd ∧ t.flt = s.flt ∧ t.boot = s.boot ∧ t.pwr = s.pwr ∧
        s.regsKept t [Reg.ARB_STATUS, Reg.NTM_STATUS, Reg.USQ_STATUS])) ∧
    (∀ (ini : Nat) (v : Word), s.mayAccess ini 5 →
      ∃ t, exec (.servoEnWrite ini v) s = .next t ∧ t.reg Reg.NTM_CTRL = s.merged Reg.NTM_CTRL v ∧
        (s.rbit Reg.NTM_CTRL 1 = true → v.getLsbD 1 = false → t.ntm.state = .manual ∧ t.ntm.forced = false ∧
          t.ntm.rate = (s.reg Reg.NTM_RATE_MAN).toInt) ∧
        (s.rbit Reg.NTM_CTRL 1 = false → v.getLsbD 1 = true → s.act.anchor = none → v.getLsbD 4 = false →
          (List.range 4).any s.timeEligible = true → t.ntm.state = (if s.ntm.everSet then .acquire else .unset) ∧
          t.ntm.rate = if s.ntm.everSet then s.ntm.rateI else 0) ∧
        t = { s.accessed t with ntm := t.ntm, clk := t.clk, fresh := t.fresh } ∧
        s.served t ini (Reg.NTM_CTRL :: rootRegs) rootCnts) ∧
    (∀ p q : Nat, s.ntm.state = .locked → s.ntm.hrefLast = some p → p < q → q ≤ s.now →
      ∃ t, exec (.holdRefInterval q) s = .next t ∧ t.ntm.hrefPresent = true ∧ t.ntm.hrefLast = some q ∧
        t.ntm.intervals = ((q - p) :: s.ntm.intervals).take (s.fld Reg.NTM_HREF_CTRL 6 0) ∧
        t.ntm.hrefValid = (decide (t.ntm.intervals.length = s.fld Reg.NTM_HREF_CTRL 6 0) &&
          decide (0 < s.fld Reg.NTM_HREF_CTRL 6 0) &&
          t.ntm.intervals.all (fun d => decide (255997440000 ≤ d) && decide (d ≤ 256002560000))) ∧
        (s.fld Reg.NTM_HREF_CTRL 6 0 = 1 → t.ntm.hrefValid = true →
          t.ntm.hrefRate = ((((q - p : Nat) : Int) - 256000000000) * 2 ^ 32).tdiv 1280000000) ∧
        t.rbit Reg.NTM_STATUS 7 = (s.rbit Reg.NTM_STATUS 7 || s.ntm.hrefValid != t.ntm.hrefValid) ∧
        t = { (s.later t) with ntm := { (s.later t).ntm with
          hrefPresent := true, hrefLast := some q, intervals := t.ntm.intervals, hrefValid := t.ntm.hrefValid
          hrefRate := t.ntm.hrefRate } } ∧
        s.regsKept t [Reg.NTM_STATUS] ∧ s.cntsKept t []) ∧
    (∃ t, exec .holdRefLoss s = .next t ∧ t.ntm = { s.ntm with
        hrefPresent := false, hrefValid := false, intervals := [], hrefLast := none, hrefInUse := false
        rate := if s.ntm.hrefInUse then s.ntm.rateI else s.ntm.rate } ∧
      t.rbit Reg.NTM_STATUS 7 = (s.rbit Reg.NTM_STATUS 7 || s.ntm.hrefInUse || s.ntm.hrefValid) ∧
      t = { s.noted t with ntm := t.ntm, clk := t.clk, fresh := t.fresh } ∧ s.regsKept t rootRegs ∧
      s.cntsKept t rootCnts)

/-- R339 to R350. -/
def Obligations.TimedOutputs : Prop :=
  ∀ s : State, s.settled → s.solitary →
    (∀ (ini T : Nat) (i : Fin 16) (m : BitVec 16), s.mayAccess ini 5 → m = BitVec.ofNat 16 (s.fld (Reg.NTM_TCs_MASK i) 15 0) →
      T = mkTime ((s.reg (Reg.NTM_TCs_TIME_S_LO i)).toNat + s.fld (Reg.NTM_TCs_TIME_S_HI i) 15 0 * 2 ^ 32)
        (s.fld (Reg.NTM_TCs_TIME_NS i) 29 0) (s.fld (Reg.NTM_TCs_TIME_PP i) 7 0) → m.getLsbD 6 = false →
      (s.tcSlot i).status ≠ 1 →
      (∃ t, exec (.tcArm ini i) s = .next t ∧
        (s.ntm.state ≠ .unset → s.ntm.state ≠ .manual → m ≠ 0 → m.toNat < 128 → s.now + 2560000 ≤ T →
          t.tcSlot i = ⟨1, T, m, false, false, false, 0, 0, 0⟩ ∧ s.served t ini [] []) ∧
        (s.ntm.state = .unset ∨ s.ntm.state = .manual ∨ m = 0 ∨ 128 ≤ m.toNat ∨ T < s.now + 2560000 →
          t.tcSlot i = { s.tcSlot i with status := 3 } ∧ t.rbit Reg.NTM_STATUS 10 = true ∧
          s.served t ini [Reg.NTM_STATUS] []) ∧
        (∀ j, j ≠ i.val → t.tcSlot j = s.tcSlot j) ∧
        t = { s.accessed t with ntm := { s.ntm with slots := t.ntm.slots } })) ∧
    (∀ (ini : Nat) (i : Fin 16), s.mayAccess ini 5 → (s.tcSlot i).mask.getLsbD 6 = false →
      ∃ t, exec (.tcDisarm ini i) s = .next t ∧ t.tcSlot i = { s.tcSlot i with status := 0 } ∧
        (∀ j, j ≠ i.val → t.tcSlot j = s.tcSlot j) ∧
        t = { s.accessed t with ntm := { s.ntm with slots := t.ntm.slots } } ∧ s.served t ini [] []) ∧
    (∀ i : Fin 16, (s.tcSlot i).status = 1 → (∀ j < 16, j ≠ i.val → (s.tcSlot j).status ≠ 1) →
      s.ntm.frac < 2 ^ 32 → s.now < 2 ^ 48 * pipsPerSec → -2 ^ 31 ≤ s.ntm.rate → s.ntm.rate < 2 ^ 31 → (s.tcSlot i).time < 2 ^ 48 * pipsPerSec - 2 ^ 32 →
      ∃ t, exec (.tcFire i) s = .next t ∧ (t.tcSlot i).status = 2 ∧ (t.tcSlot i).late = false ∧
        (t.tcSlot i).mask = (s.tcSlot i).mask ∧ (t.tcSlot i).firedNs = ns32Of t.now ∧ (t.tcSlot i).firedPp = ppOf t.now ∧
        (t.tcSlot i).holdover = (s.ntm.state == .holdover) ∧ (s.tcSlot i).time ≤ t.now ∧ t.rbit Reg.NTM_STATUS 8 = true ∧
        ((s.tcSlot i).mask = 16 → t = { (s.later t) with
            ntm := { (s.later t).ntm with slots := t.ntm.slots }, usq := t.usq } ∧
          (t.tcSlot i).empty.getLsbD 4 = !s.usq.queues.any (fun (e : Nat × Queue) => e.2.sh0.isSome) ∧
          ∀ q, (t.queue q).frames = (s.queue q).frames ∧ (t.queue q).sh0 = none)) ∧
    (∀ (ini : Nat) (k : Fin 8) (x : Trig), s.mayAccess ini 5 → x = ⟨true, false, false,
        mkTime ((s.reg (Reg.NTM_TRIGt_START_S_LO k)).toNat + s.fld (Reg.NTM_TRIGt_START_S_HI k) 15 0 * 2 ^ 32)
          (s.fld (Reg.NTM_TRIGt_START_NS k) 29 0) (s.fld (Reg.NTM_TRIGt_START_PP k) 7 0),
        (s.reg (Reg.NTM_TRIGt_PERIOD_NS k)).toNat * 256 + s.fld (Reg.NTM_TRIGt_PERIOD_PP k) 7 0,
        (s.reg (Reg.NTM_TRIGt_WIDTH_NS k)).toNat, (s.reg (Reg.NTM_TRIGt_COUNT k)).toNat, 0, 0,
        s.rbit (Reg.NTM_TRIGt_CTRL k) 1⟩ →
      s.rbit (Reg.NTM_TRIGt_CTRL k) 0 = true →
      (∃ t, exec (.trigArm ini k) s = .next t ∧
        (x.periodic = false → s.now + 256000 ≤ x.start → t.trig k = x ∧ s.served t ini [] []) ∧
        (x.periodic = false → x.start < s.now + 256000 → t.trig k = s.trig k ∧ t.rbit Reg.NTM_STATUS 11 = true) ∧
        (x.periodic = true → s.now ≤ x.start → t.trig k = x) ∧
        (x.periodic = true → x.start < s.now → 0 < x.period → ∃ j, t.trig k = { x with next := j } ∧
          s.now + 256000 ≤ x.start + j * x.period ∧ (0 < j → x.start + (j - 1) * x.period < s.now + 256000)) ∧
        (∀ j, j ≠ k.val → t.trig j = s.trig j) ∧ t = { s.accessed t with ntm := { s.ntm with trigs := t.ntm.trigs } } ∧
        s.served t ini [Reg.NTM_STATUS] []) ∧
      (∃ t, exec (.trigStop ini k) s = .next t ∧ t.trig k = { s.trig k with armed := false } ∧
        (∀ j, j ≠ k.val → t.trig j = s.trig j) ∧ t = { s.accessed t with ntm := { s.ntm with trigs := t.ntm.trigs } } ∧
        s.served t ini [] [])) ∧
    (∀ (k : Fin 8) (x : Trig), s.trig k = x → x.armed = true →
      ∃ t, exec (.triggerEdge k) s = .next t ∧ (t.trig k).produced = x.produced + 1 ∧ (t.trig k).next = x.next + 1 ∧
        (t.trig k).armed = (x.periodic && (x.count == 0 || decide (x.produced + 1 < x.count))) ∧
        (s.fld (Reg.NTM_TRIGt_CTRL k) 4 3 = 3 ∨ s.ntm.state = .locked →
          t.out = Out.edge k ((x.start : Int) + x.next * x.period - (BitVec.ofNat 24 (s.fld (Reg.NTM_TRIGt_ADJ k) 23 0)).toInt)
            :: s.out ∧ s.cntsKept t []) ∧
        (s.fld (Reg.NTM_TRIGt_CTRL k) 4 3 = 1 → s.ntm.state ≠ .locked → t.out = s.out ∧
          t.cnt Reg.NTM_CNT_TRIG_SKIP = s.cnt Reg.NTM_CNT_TRIG_SKIP + 1) ∧
        (∀ j, j ≠ k.val → t.trig j = s.trig j) ∧
        t = { (s.later t) with ntm := { (s.later t).ntm with trigs := t.ntm.trigs }, out := t.out } ∧
        s.regsKept t [Reg.NTM_STATUS] ∧ s.cntsKept t [Reg.NTM_CNT_TRIG_SKIP]) ∧
    (∀ (c : Fin 4) (r : Bool) (q : Nat) (x : Cap), s.cap c = x → q ≤ s.now → s.rbit (Reg.NTM_CAPc_CTRL c) 0 = true →
      s.rbit (Reg.NTM_CAPc_CTRL c) (if r then 1 else 2) = true → s.pwr.mode = .active → s.pwr.phase ≠ .entering →
      s.pwr.held = none →
      ∃ t, exec (.captureEdge c r q) s = .next t ∧
        (∀ p, x.lastEdge = some p → q < p + 2048 → t.cap c = x ∧
          t.cnt (Reg.NTM_CAPc_CNT_CLOSE c) = s.cnt (Reg.NTM_CAPc_CNT_CLOSE c) + 1) ∧
        (x.lastEdge = none ∨ (∃ p, x.lastEdge = some p ∧ p + 2048 ≤ q) →
          (x.store.length < 64 → t.cap c = { x with
              store := x.store ++ [⟨((q : Int) - (BitVec.ofNat 24 (s.fld (Reg.NTM_CAPc_ADJ c) 23 0)).toInt).toNat, r,
                x.stepPending⟩]
              stepPending := false, lastEdge := some q } ∧ t.rbit Reg.NTM_STATUS 12 = true) ∧
          (64 ≤ x.store.length → t.cap c = { x with lastEdge := some q } ∧ t.rbit Reg.NTM_STATUS 13 = true ∧
            t.cnt (Reg.NTM_CAPc_CNT_OVF c) = s.cnt (Reg.NTM_CAPc_CNT_OVF c) + 1)) ∧
        (∀ j, j ≠ c.val → t.cap j = s.cap j) ∧
        t = { (s.later t) with ntm := { (s.later t).ntm with caps := t.ntm.caps } } ∧ s.regsKept t [Reg.NTM_STATUS] ∧ s.cntsKept t [Reg.NTM_CAPc_CNT_CLOSE c, Reg.NTM_CAPc_CNT_OVF c]) ∧
    (∀ (ini : Nat) (c : Fin 4), s.mayAccess ini 5 →
      ∃ t, exec (.capturePop ini c) s = .next t ∧
        (∀ e r, (s.cap c).store = e :: r → t.cap c = { s.cap c with store := r, hold := e, holdValid := true }) ∧
        ((s.cap c).store = [] → t.cap c = { s.cap c with holdValid := false }) ∧
        (∀ j, j ≠ c.val → t.cap j = s.cap j) ∧ t = { s.accessed t with ntm := { s.ntm with caps := t.ntm.caps } } ∧
        s.served t ini [] [])

end
end

