-- ==== Sys2Proof/Laws/State.lean ====
section
/-! SUPPORT. Beside State: one lemma per field per update. -/

namespace Sys2Proof.Machine

variable (s : State)


/-! ### `setReg` -/

@[simp] theorem State.setReg_pending (a : Nat) (v : Word) : (s.setReg a v).pending = s.pending := rfl
@[simp] theorem State.setReg_ticks (a : Nat) (v : Word) : (s.setReg a v).ticks = s.ticks := rfl
@[simp] theorem State.setReg_fresh (a : Nat) (v : Word) : (s.setReg a v).fresh = s.fresh := rfl
@[simp] theorem State.setReg_regs (a : Nat) (v : Word) : (s.setReg a v).regs = Tab.set (resetWord a) s.regs a v := rfl
@[simp] theorem State.setReg_wide (a : Nat) (v : Word) : (s.setReg a v).wide = s.wide := rfl
@[simp] theorem State.setReg_evt (a : Nat) (v : Word) : (s.setReg a v).evt = s.evt := rfl
@[simp] theorem State.setReg_out (a : Nat) (v : Word) : (s.setReg a v).out = s.out := rfl
@[simp] theorem State.setReg_spi (a : Nat) (v : Word) : (s.setReg a v).spi = s.spi := rfl
@[simp] theorem State.setReg_guards (a : Nat) (v : Word) : (s.setReg a v).guards = s.guards := rfl
@[simp] theorem State.setReg_clk (a : Nat) (v : Word) : (s.setReg a v).clk = s.clk := rfl
@[simp] theorem State.setReg_flt (a : Nat) (v : Word) : (s.setReg a v).flt = s.flt := rfl
@[simp] theorem State.setReg_boot (a : Nat) (v : Word) : (s.setReg a v).boot = s.boot := rfl
@[simp] theorem State.setReg_sems (a : Nat) (v : Word) : (s.setReg a v).sems = s.sems := rfl
@[simp] theorem State.setReg_pwr (a : Nat) (v : Word) : (s.setReg a v).pwr = s.pwr := rfl
@[simp] theorem State.setReg_pads (a : Nat) (v : Word) : (s.setReg a v).pads = s.pads := rfl
@[simp] theorem State.setReg_ntm (a : Nat) (v : Word) : (s.setReg a v).ntm = s.ntm := rfl
@[simp] theorem State.setReg_hrd (a : Nat) (v : Word) : (s.setReg a v).hrd = s.hrd := rfl
@[simp] theorem State.setReg_arb (a : Nat) (v : Word) : (s.setReg a v).arb = s.arb := rfl
@[simp] theorem State.setReg_pods (a : Nat) (v : Word) : (s.setReg a v).pods = s.pods := rfl
@[simp] theorem State.setReg_dsf (a : Nat) (v : Word) : (s.setReg a v).dsf = s.dsf := rfl
@[simp] theorem State.setReg_act (a : Nat) (v : Word) : (s.setReg a v).act = s.act := rfl
@[simp] theorem State.setReg_lsc (a : Nat) (v : Word) : (s.setReg a v).lsc = s.lsc := rfl
@[simp] theorem State.setReg_usq (a : Nat) (v : Word) : (s.setReg a v).usq = s.usq := rfl
@[simp] theorem State.setReg_ubt (a : Nat) (v : Word) : (s.setReg a v).ubt = s.ubt := rfl
@[simp] theorem State.setReg_twn (a : Nat) (v : Word) : (s.setReg a v).twn = s.twn := rfl
@[simp] theorem State.setReg_arrivals (a : Nat) (v : Word) : (s.setReg a v).arrivals = s.arrivals := rfl
@[simp] theorem State.setReg_ports (a : Nat) (v : Word) : (s.setReg a v).ports = s.ports := rfl
@[simp] theorem State.setReg_cls (a : Nat) (v : Word) : (s.setReg a v).cls = s.cls := rfl
@[simp] theorem State.setReg_hsk (a : Nat) (v : Word) : (s.setReg a v).hsk = s.hsk := rfl
@[simp] theorem State.setReg_shell (a : Nat) (v : Word) : (s.setReg a v).shell = s.shell := rfl

/-! ### `raise` -/

@[simp] theorem State.raise_pending (a i : Nat) : (s.raise a i).pending = s.pending := rfl
@[simp] theorem State.raise_ticks (a i : Nat) : (s.raise a i).ticks = s.ticks := rfl
@[simp] theorem State.raise_fresh (a i : Nat) : (s.raise a i).fresh = s.fresh := rfl
@[simp] theorem State.raise_regs (a i : Nat) : (s.raise a i).regs = s.regs := rfl
@[simp] theorem State.raise_wide (a i : Nat) : (s.raise a i).wide = s.wide := rfl
@[simp] theorem State.raise_evt (a i : Nat) : (s.raise a i).evt = Tab.modify 0 s.evt a (fun w => putBit w i true) := rfl
@[simp] theorem State.raise_out (a i : Nat) : (s.raise a i).out = s.out := rfl
@[simp] theorem State.raise_spi (a i : Nat) : (s.raise a i).spi = s.spi := rfl
@[simp] theorem State.raise_guards (a i : Nat) : (s.raise a i).guards = s.guards := rfl
@[simp] theorem State.raise_clk (a i : Nat) : (s.raise a i).clk = s.clk := rfl
@[simp] theorem State.raise_flt (a i : Nat) : (s.raise a i).flt = s.flt := rfl
@[simp] theorem State.raise_boot (a i : Nat) : (s.raise a i).boot = s.boot := rfl
@[simp] theorem State.raise_sems (a i : Nat) : (s.raise a i).sems = s.sems := rfl
@[simp] theorem State.raise_pwr (a i : Nat) : (s.raise a i).pwr = s.pwr := rfl
@[simp] theorem State.raise_pads (a i : Nat) : (s.raise a i).pads = s.pads := rfl
@[simp] theorem State.raise_ntm (a i : Nat) : (s.raise a i).ntm = s.ntm := rfl
@[simp] theorem State.raise_hrd (a i : Nat) : (s.raise a i).hrd = s.hrd := rfl
@[simp] theorem State.raise_arb (a i : Nat) : (s.raise a i).arb = s.arb := rfl
@[simp] theorem State.raise_pods (a i : Nat) : (s.raise a i).pods = s.pods := rfl
@[simp] theorem State.raise_dsf (a i : Nat) : (s.raise a i).dsf = s.dsf := rfl
@[simp] theorem State.raise_act (a i : Nat) : (s.raise a i).act = s.act := rfl
@[simp] theorem State.raise_lsc (a i : Nat) : (s.raise a i).lsc = s.lsc := rfl
@[simp] theorem State.raise_usq (a i : Nat) : (s.raise a i).usq = s.usq := rfl
@[simp] theorem State.raise_ubt (a i : Nat) : (s.raise a i).ubt = s.ubt := rfl
@[simp] theorem State.raise_twn (a i : Nat) : (s.raise a i).twn = s.twn := rfl
@[simp] theorem State.raise_arrivals (a i : Nat) : (s.raise a i).arrivals = s.arrivals := rfl
@[simp] theorem State.raise_ports (a i : Nat) : (s.raise a i).ports = s.ports := rfl
@[simp] theorem State.raise_cls (a i : Nat) : (s.raise a i).cls = s.cls := rfl
@[simp] theorem State.raise_hsk (a i : Nat) : (s.raise a i).hsk = s.hsk := rfl
@[simp] theorem State.raise_shell (a i : Nat) : (s.raise a i).shell = s.shell := rfl

/-! ### `send` -/

@[simp] theorem State.send_pending (o : Out) : (s.send o).pending = s.pending := rfl
@[simp] theorem State.send_ticks (o : Out) : (s.send o).ticks = s.ticks := rfl
@[simp] theorem State.send_fresh (o : Out) : (s.send o).fresh = s.fresh := rfl
@[simp] theorem State.send_regs (o : Out) : (s.send o).regs = s.regs := rfl
@[simp] theorem State.send_wide (o : Out) : (s.send o).wide = s.wide := rfl
@[simp] theorem State.send_evt (o : Out) : (s.send o).evt = s.evt := rfl
@[simp] theorem State.send_out (o : Out) : (s.send o).out = o :: s.out := rfl
@[simp] theorem State.send_spi (o : Out) : (s.send o).spi = s.spi := rfl
@[simp] theorem State.send_guards (o : Out) : (s.send o).guards = s.guards := rfl
@[simp] theorem State.send_clk (o : Out) : (s.send o).clk = s.clk := rfl
@[simp] theorem State.send_flt (o : Out) : (s.send o).flt = s.flt := rfl
@[simp] theorem State.send_boot (o : Out) : (s.send o).boot = s.boot := rfl
@[simp] theorem State.send_sems (o : Out) : (s.send o).sems = s.sems := rfl
@[simp] theorem State.send_pwr (o : Out) : (s.send o).pwr = s.pwr := rfl
@[simp] theorem State.send_pads (o : Out) : (s.send o).pads = s.pads := rfl
@[simp] theorem State.send_ntm (o : Out) : (s.send o).ntm = s.ntm := rfl
@[simp] theorem State.send_hrd (o : Out) : (s.send o).hrd = s.hrd := rfl
@[simp] theorem State.send_arb (o : Out) : (s.send o).arb = s.arb := rfl
@[simp] theorem State.send_pods (o : Out) : (s.send o).pods = s.pods := rfl
@[simp] theorem State.send_dsf (o : Out) : (s.send o).dsf = s.dsf := rfl
@[simp] theorem State.send_act (o : Out) : (s.send o).act = s.act := rfl
@[simp] theorem State.send_lsc (o : Out) : (s.send o).lsc = s.lsc := rfl
@[simp] theorem State.send_usq (o : Out) : (s.send o).usq = s.usq := rfl
@[simp] theorem State.send_ubt (o : Out) : (s.send o).ubt = s.ubt := rfl
@[simp] theorem State.send_twn (o : Out) : (s.send o).twn = s.twn := rfl
@[simp] theorem State.send_arrivals (o : Out) : (s.send o).arrivals = s.arrivals := rfl
@[simp] theorem State.send_ports (o : Out) : (s.send o).ports = s.ports := rfl
@[simp] theorem State.send_cls (o : Out) : (s.send o).cls = s.cls := rfl
@[simp] theorem State.send_hsk (o : Out) : (s.send o).hsk = s.hsk := rfl
@[simp] theorem State.send_shell (o : Out) : (s.send o).shell = s.shell := rfl

/-! ### `offer` -/

@[simp] theorem State.offer_pending (m : FaultMsg) : (s.offer m).pending = s.pending := rfl
@[simp] theorem State.offer_ticks (m : FaultMsg) : (s.offer m).ticks = s.ticks := rfl
@[simp] theorem State.offer_fresh (m : FaultMsg) : (s.offer m).fresh = s.fresh := rfl
@[simp] theorem State.offer_regs (m : FaultMsg) : (s.offer m).regs = s.regs := rfl
@[simp] theorem State.offer_wide (m : FaultMsg) : (s.offer m).wide = s.wide := rfl
@[simp] theorem State.offer_evt (m : FaultMsg) : (s.offer m).evt = s.evt := rfl
@[simp] theorem State.offer_out (m : FaultMsg) : (s.offer m).out = s.out := rfl
@[simp] theorem State.offer_spi (m : FaultMsg) : (s.offer m).spi = s.spi := rfl
@[simp] theorem State.offer_guards (m : FaultMsg) : (s.offer m).guards = s.guards := rfl
@[simp] theorem State.offer_clk (m : FaultMsg) : (s.offer m).clk = s.clk := rfl
@[simp] theorem State.offer_flt (m : FaultMsg) : (s.offer m).flt = { s.flt with offered := offerMsg s.flt.offered m } := rfl
@[simp] theorem State.offer_boot (m : FaultMsg) : (s.offer m).boot = s.boot := rfl
@[simp] theorem State.offer_sems (m : FaultMsg) : (s.offer m).sems = s.sems := rfl
@[simp] theorem State.offer_pwr (m : FaultMsg) : (s.offer m).pwr = s.pwr := rfl
@[simp] theorem State.offer_pads (m : FaultMsg) : (s.offer m).pads = s.pads := rfl
@[simp] theorem State.offer_ntm (m : FaultMsg) : (s.offer m).ntm = s.ntm := rfl
@[simp] theorem State.offer_hrd (m : FaultMsg) : (s.offer m).hrd = s.hrd := rfl
@[simp] theorem State.offer_arb (m : FaultMsg) : (s.offer m).arb = s.arb := rfl
@[simp] theorem State.offer_pods (m : FaultMsg) : (s.offer m).pods = s.pods := rfl
@[simp] theorem State.offer_dsf (m : FaultMsg) : (s.offer m).dsf = s.dsf := rfl
@[simp] theorem State.offer_act (m : FaultMsg) : (s.offer m).act = s.act := rfl
@[simp] theorem State.offer_lsc (m : FaultMsg) : (s.offer m).lsc = s.lsc := rfl
@[simp] theorem State.offer_usq (m : FaultMsg) : (s.offer m).usq = s.usq := rfl
@[simp] theorem State.offer_ubt (m : FaultMsg) : (s.offer m).ubt = s.ubt := rfl
@[simp] theorem State.offer_twn (m : FaultMsg) : (s.offer m).twn = s.twn := rfl
@[simp] theorem State.offer_arrivals (m : FaultMsg) : (s.offer m).arrivals = s.arrivals := rfl
@[simp] theorem State.offer_ports (m : FaultMsg) : (s.offer m).ports = s.ports := rfl
@[simp] theorem State.offer_cls (m : FaultMsg) : (s.offer m).cls = s.cls := rfl
@[simp] theorem State.offer_hsk (m : FaultMsg) : (s.offer m).hsk = s.hsk := rfl
@[simp] theorem State.offer_shell (m : FaultMsg) : (s.offer m).shell = s.shell := rfl

/-! ### `modPod` -/

@[simp] theorem State.modPod_pending (n : Nat) (f : Pod → Pod) : (s.modPod n f).pending = s.pending := rfl
@[simp] theorem State.modPod_ticks (n : Nat) (f : Pod → Pod) : (s.modPod n f).ticks = s.ticks := rfl
@[simp] theorem State.modPod_fresh (n : Nat) (f : Pod → Pod) : (s.modPod n f).fresh = s.fresh := rfl
@[simp] theorem State.modPod_regs (n : Nat) (f : Pod → Pod) : (s.modPod n f).regs = s.regs := rfl
@[simp] theorem State.modPod_wide (n : Nat) (f : Pod → Pod) : (s.modPod n f).wide = s.wide := rfl
@[simp] theorem State.modPod_evt (n : Nat) (f : Pod → Pod) : (s.modPod n f).evt = s.evt := rfl
@[simp] theorem State.modPod_out (n : Nat) (f : Pod → Pod) : (s.modPod n f).out = s.out := rfl
@[simp] theorem State.modPod_spi (n : Nat) (f : Pod → Pod) : (s.modPod n f).spi = s.spi := rfl
@[simp] theorem State.modPod_guards (n : Nat) (f : Pod → Pod) : (s.modPod n f).guards = s.guards := rfl
@[simp] theorem State.modPod_clk (n : Nat) (f : Pod → Pod) : (s.modPod n f).clk = s.clk := rfl
@[simp] theorem State.modPod_flt (n : Nat) (f : Pod → Pod) : (s.modPod n f).flt = s.flt := rfl
@[simp] theorem State.modPod_boot (n : Nat) (f : Pod → Pod) : (s.modPod n f).boot = s.boot := rfl
@[simp] theorem State.modPod_sems (n : Nat) (f : Pod → Pod) : (s.modPod n f).sems = s.sems := rfl
@[simp] theorem State.modPod_pwr (n : Nat) (f : Pod → Pod) : (s.modPod n f).pwr = s.pwr := rfl
@[simp] theorem State.modPod_pads (n : Nat) (f : Pod → Pod) : (s.modPod n f).pads = s.pads := rfl
@[simp] theorem State.modPod_ntm (n : Nat) (f : Pod → Pod) : (s.modPod n f).ntm = s.ntm := rfl
@[simp] theorem State.modPod_hrd (n : Nat) (f : Pod → Pod) : (s.modPod n f).hrd = s.hrd := rfl
@[simp] theorem State.modPod_arb (n : Nat) (f : Pod → Pod) : (s.modPod n f).arb = s.arb := rfl
@[simp] theorem State.modPod_pods (n : Nat) (f : Pod → Pod) : (s.modPod n f).pods = Tab.modify Pod.reset s.pods n f := rfl
@[simp] theorem State.modPod_dsf (n : Nat) (f : Pod → Pod) : (s.modPod n f).dsf = s.dsf := rfl
@[simp] theorem State.modPod_act (n : Nat) (f : Pod → Pod) : (s.modPod n f).act = s.act := rfl
@[simp] theorem State.modPod_lsc (n : Nat) (f : Pod → Pod) : (s.modPod n f).lsc = s.lsc := rfl
@[simp] theorem State.modPod_usq (n : Nat) (f : Pod → Pod) : (s.modPod n f).usq = s.usq := rfl
@[simp] theorem State.modPod_ubt (n : Nat) (f : Pod → Pod) : (s.modPod n f).ubt = s.ubt := rfl
@[simp] theorem State.modPod_twn (n : Nat) (f : Pod → Pod) : (s.modPod n f).twn = s.twn := rfl
@[simp] theorem State.modPod_arrivals (n : Nat) (f : Pod → Pod) : (s.modPod n f).arrivals = s.arrivals := rfl
@[simp] theorem State.modPod_ports (n : Nat) (f : Pod → Pod) : (s.modPod n f).ports = s.ports := rfl
@[simp] theorem State.modPod_cls (n : Nat) (f : Pod → Pod) : (s.modPod n f).cls = s.cls := rfl
@[simp] theorem State.modPod_hsk (n : Nat) (f : Pod → Pod) : (s.modPod n f).hsk = s.hsk := rfl
@[simp] theorem State.modPod_shell (n : Nat) (f : Pod → Pod) : (s.modPod n f).shell = s.shell := rfl

/-! ### `modChan` -/

@[simp] theorem State.modChan_pending (n : Nat) (f : DsfCh → DsfCh) : (s.modChan n f).pending = s.pending := rfl
@[simp] theorem State.modChan_ticks (n : Nat) (f : DsfCh → DsfCh) : (s.modChan n f).ticks = s.ticks := rfl
@[simp] theorem State.modChan_fresh (n : Nat) (f : DsfCh → DsfCh) : (s.modChan n f).fresh = s.fresh := rfl
@[simp] theorem State.modChan_regs (n : Nat) (f : DsfCh → DsfCh) : (s.modChan n f).regs = s.regs := rfl
@[simp] theorem State.modChan_wide (n : Nat) (f : DsfCh → DsfCh) : (s.modChan n f).wide = s.wide := rfl
@[simp] theorem State.modChan_evt (n : Nat) (f : DsfCh → DsfCh) : (s.modChan n f).evt = s.evt := rfl
@[simp] theorem State.modChan_out (n : Nat) (f : DsfCh → DsfCh) : (s.modChan n f).out = s.out := rfl
@[simp] theorem State.modChan_spi (n : Nat) (f : DsfCh → DsfCh) : (s.modChan n f).spi = s.spi := rfl
@[simp] theorem State.modChan_guards (n : Nat) (f : DsfCh → DsfCh) : (s.modChan n f).guards = s.guards := rfl
@[simp] theorem State.modChan_clk (n : Nat) (f : DsfCh → DsfCh) : (s.modChan n f).clk = s.clk := rfl
@[simp] theorem State.modChan_flt (n : Nat) (f : DsfCh → DsfCh) : (s.modChan n f).flt = s.flt := rfl
@[simp] theorem State.modChan_boot (n : Nat) (f : DsfCh → DsfCh) : (s.modChan n f).boot = s.boot := rfl
@[simp] theorem State.modChan_sems (n : Nat) (f : DsfCh → DsfCh) : (s.modChan n f).sems = s.sems := rfl
@[simp] theorem State.modChan_pwr (n : Nat) (f : DsfCh → DsfCh) : (s.modChan n f).pwr = s.pwr := rfl
@[simp] theorem State.modChan_pads (n : Nat) (f : DsfCh → DsfCh) : (s.modChan n f).pads = s.pads := rfl
@[simp] theorem State.modChan_ntm (n : Nat) (f : DsfCh → DsfCh) : (s.modChan n f).ntm = s.ntm := rfl
@[simp] theorem State.modChan_hrd (n : Nat) (f : DsfCh → DsfCh) : (s.modChan n f).hrd = s.hrd := rfl
@[simp] theorem State.modChan_arb (n : Nat) (f : DsfCh → DsfCh) : (s.modChan n f).arb = s.arb := rfl
@[simp] theorem State.modChan_pods (n : Nat) (f : DsfCh → DsfCh) : (s.modChan n f).pods = s.pods := rfl
@[simp] theorem State.modChan_dsf (n : Nat) (f : DsfCh → DsfCh) : (s.modChan n f).dsf = { s.dsf with chans := Tab.modify DsfCh.reset s.dsf.chans n f } := rfl
@[simp] theorem State.modChan_act (n : Nat) (f : DsfCh → DsfCh) : (s.modChan n f).act = s.act := rfl
@[simp] theorem State.modChan_lsc (n : Nat) (f : DsfCh → DsfCh) : (s.modChan n f).lsc = s.lsc := rfl
@[simp] theorem State.modChan_usq (n : Nat) (f : DsfCh → DsfCh) : (s.modChan n f).usq = s.usq := rfl
@[simp] theorem State.modChan_ubt (n : Nat) (f : DsfCh → DsfCh) : (s.modChan n f).ubt = s.ubt := rfl
@[simp] theorem State.modChan_twn (n : Nat) (f : DsfCh → DsfCh) : (s.modChan n f).twn = s.twn := rfl
@[simp] theorem State.modChan_arrivals (n : Nat) (f : DsfCh → DsfCh) : (s.modChan n f).arrivals = s.arrivals := rfl
@[simp] theorem State.modChan_ports (n : Nat) (f : DsfCh → DsfCh) : (s.modChan n f).ports = s.ports := rfl
@[simp] theorem State.modChan_cls (n : Nat) (f : DsfCh → DsfCh) : (s.modChan n f).cls = s.cls := rfl
@[simp] theorem State.modChan_hsk (n : Nat) (f : DsfCh → DsfCh) : (s.modChan n f).hsk = s.hsk := rfl
@[simp] theorem State.modChan_shell (n : Nat) (f : DsfCh → DsfCh) : (s.modChan n f).shell = s.shell := rfl

/-! ### `setDlink` -/

@[simp] theorem State.setDlink_pending (i : Nat) (l : DsfLink) : (s.setDlink i l).pending = s.pending := rfl
@[simp] theorem State.setDlink_ticks (i : Nat) (l : DsfLink) : (s.setDlink i l).ticks = s.ticks := rfl
@[simp] theorem State.setDlink_fresh (i : Nat) (l : DsfLink) : (s.setDlink i l).fresh = s.fresh := rfl
@[simp] theorem State.setDlink_regs (i : Nat) (l : DsfLink) : (s.setDlink i l).regs = s.regs := rfl
@[simp] theorem State.setDlink_wide (i : Nat) (l : DsfLink) : (s.setDlink i l).wide = s.wide := rfl
@[simp] theorem State.setDlink_evt (i : Nat) (l : DsfLink) : (s.setDlink i l).evt = s.evt := rfl
@[simp] theorem State.setDlink_out (i : Nat) (l : DsfLink) : (s.setDlink i l).out = s.out := rfl
@[simp] theorem State.setDlink_spi (i : Nat) (l : DsfLink) : (s.setDlink i l).spi = s.spi := rfl
@[simp] theorem State.setDlink_guards (i : Nat) (l : DsfLink) : (s.setDlink i l).guards = s.guards := rfl
@[simp] theorem State.setDlink_clk (i : Nat) (l : DsfLink) : (s.setDlink i l).clk = s.clk := rfl
@[simp] theorem State.setDlink_flt (i : Nat) (l : DsfLink) : (s.setDlink i l).flt = s.flt := rfl
@[simp] theorem State.setDlink_boot (i : Nat) (l : DsfLink) : (s.setDlink i l).boot = s.boot := rfl
@[simp] theorem State.setDlink_sems (i : Nat) (l : DsfLink) : (s.setDlink i l).sems = s.sems := rfl
@[simp] theorem State.setDlink_pwr (i : Nat) (l : DsfLink) : (s.setDlink i l).pwr = s.pwr := rfl
@[simp] theorem State.setDlink_pads (i : Nat) (l : DsfLink) : (s.setDlink i l).pads = s.pads := rfl
@[simp] theorem State.setDlink_ntm (i : Nat) (l : DsfLink) : (s.setDlink i l).ntm = s.ntm := rfl
@[simp] theorem State.setDlink_hrd (i : Nat) (l : DsfLink) : (s.setDlink i l).hrd = s.hrd := rfl
@[simp] theorem State.setDlink_arb (i : Nat) (l : DsfLink) : (s.setDlink i l).arb = s.arb := rfl
@[simp] theorem State.setDlink_pods (i : Nat) (l : DsfLink) : (s.setDlink i l).pods = s.pods := rfl
@[simp] theorem State.setDlink_dsf (i : Nat) (l : DsfLink) : (s.setDlink i l).dsf = { s.dsf with links := Tab.set DsfLink.reset s.dsf.links i l } := rfl
@[simp] theorem State.setDlink_act (i : Nat) (l : DsfLink) : (s.setDlink i l).act = s.act := rfl
@[simp] theorem State.setDlink_lsc (i : Nat) (l : DsfLink) : (s.setDlink i l).lsc = s.lsc := rfl
@[simp] theorem State.setDlink_usq (i : Nat) (l : DsfLink) : (s.setDlink i l).usq = s.usq := rfl
@[simp] theorem State.setDlink_ubt (i : Nat) (l : DsfLink) : (s.setDlink i l).ubt = s.ubt := rfl
@[simp] theorem State.setDlink_twn (i : Nat) (l : DsfLink) : (s.setDlink i l).twn = s.twn := rfl
@[simp] theorem State.setDlink_arrivals (i : Nat) (l : DsfLink) : (s.setDlink i l).arrivals = s.arrivals := rfl
@[simp] theorem State.setDlink_ports (i : Nat) (l : DsfLink) : (s.setDlink i l).ports = s.ports := rfl
@[simp] theorem State.setDlink_cls (i : Nat) (l : DsfLink) : (s.setDlink i l).cls = s.cls := rfl
@[simp] theorem State.setDlink_hsk (i : Nat) (l : DsfLink) : (s.setDlink i l).hsk = s.hsk := rfl
@[simp] theorem State.setDlink_shell (i : Nat) (l : DsfLink) : (s.setDlink i l).shell = s.shell := rfl

/-! ### `modCrossing` -/

@[simp] theorem State.modCrossing_pending (x : Nat) (f : Crossing → Crossing) : (s.modCrossing x f).pending = s.pending := rfl
@[simp] theorem State.modCrossing_ticks (x : Nat) (f : Crossing → Crossing) : (s.modCrossing x f).ticks = s.ticks := rfl
@[simp] theorem State.modCrossing_fresh (x : Nat) (f : Crossing → Crossing) : (s.modCrossing x f).fresh = s.fresh := rfl
@[simp] theorem State.modCrossing_regs (x : Nat) (f : Crossing → Crossing) : (s.modCrossing x f).regs = s.regs := rfl
@[simp] theorem State.modCrossing_wide (x : Nat) (f : Crossing → Crossing) : (s.modCrossing x f).wide = s.wide := rfl
@[simp] theorem State.modCrossing_evt (x : Nat) (f : Crossing → Crossing) : (s.modCrossing x f).evt = s.evt := rfl
@[simp] theorem State.modCrossing_out (x : Nat) (f : Crossing → Crossing) : (s.modCrossing x f).out = s.out := rfl
@[simp] theorem State.modCrossing_spi (x : Nat) (f : Crossing → Crossing) : (s.modCrossing x f).spi = s.spi := rfl
@[simp] theorem State.modCrossing_guards (x : Nat) (f : Crossing → Crossing) : (s.modCrossing x f).guards = s.guards := rfl
@[simp] theorem State.modCrossing_clk (x : Nat) (f : Crossing → Crossing) : (s.modCrossing x f).clk = { s.clk with crossings := Tab.modify Crossing.reset s.clk.crossings x f } := rfl
@[simp] theorem State.modCrossing_flt (x : Nat) (f : Crossing → Crossing) : (s.modCrossing x f).flt = s.flt := rfl
@[simp] theorem State.modCrossing_boot (x : Nat) (f : Crossing → Crossing) : (s.modCrossing x f).boot = s.boot := rfl
@[simp] theorem State.modCrossing_sems (x : Nat) (f : Crossing → Crossing) : (s.modCrossing x f).sems = s.sems := rfl
@[simp] theorem State.modCrossing_pwr (x : Nat) (f : Crossing → Crossing) : (s.modCrossing x f).pwr = s.pwr := rfl
@[simp] theorem State.modCrossing_pads (x : Nat) (f : Crossing → Crossing) : (s.modCrossing x f).pads = s.pads := rfl
@[simp] theorem State.modCrossing_ntm (x : Nat) (f : Crossing → Crossing) : (s.modCrossing x f).ntm = s.ntm := rfl
@[simp] theorem State.modCrossing_hrd (x : Nat) (f : Crossing → Crossing) : (s.modCrossing x f).hrd = s.hrd := rfl
@[simp] theorem State.modCrossing_arb (x : Nat) (f : Crossing → Crossing) : (s.modCrossing x f).arb = s.arb := rfl
@[simp] theorem State.modCrossing_pods (x : Nat) (f : Crossing → Crossing) : (s.modCrossing x f).pods = s.pods := rfl
@[simp] theorem State.modCrossing_dsf (x : Nat) (f : Crossing → Crossing) : (s.modCrossing x f).dsf = s.dsf := rfl
@[simp] theorem State.modCrossing_act (x : Nat) (f : Crossing → Crossing) : (s.modCrossing x f).act = s.act := rfl
@[simp] theorem State.modCrossing_lsc (x : Nat) (f : Crossing → Crossing) : (s.modCrossing x f).lsc = s.lsc := rfl
@[simp] theorem State.modCrossing_usq (x : Nat) (f : Crossing → Crossing) : (s.modCrossing x f).usq = s.usq := rfl
@[simp] theorem State.modCrossing_ubt (x : Nat) (f : Crossing → Crossing) : (s.modCrossing x f).ubt = s.ubt := rfl
@[simp] theorem State.modCrossing_twn (x : Nat) (f : Crossing → Crossing) : (s.modCrossing x f).twn = s.twn := rfl
@[simp] theorem State.modCrossing_arrivals (x : Nat) (f : Crossing → Crossing) : (s.modCrossing x f).arrivals = s.arrivals := rfl
@[simp] theorem State.modCrossing_ports (x : Nat) (f : Crossing → Crossing) : (s.modCrossing x f).ports = s.ports := rfl
@[simp] theorem State.modCrossing_cls (x : Nat) (f : Crossing → Crossing) : (s.modCrossing x f).cls = s.cls := rfl
@[simp] theorem State.modCrossing_hsk (x : Nat) (f : Crossing → Crossing) : (s.modCrossing x f).hsk = s.hsk := rfl
@[simp] theorem State.modCrossing_shell (x : Nat) (f : Crossing → Crossing) : (s.modCrossing x f).shell = s.shell := rfl

/-! ### `setMcu` -/

@[simp] theorem State.setMcu_pending (i : Nat) (m : Mcu) : (s.setMcu i m).pending = s.pending := rfl
@[simp] theorem State.setMcu_ticks (i : Nat) (m : Mcu) : (s.setMcu i m).ticks = s.ticks := rfl
@[simp] theorem State.setMcu_fresh (i : Nat) (m : Mcu) : (s.setMcu i m).fresh = s.fresh := rfl
@[simp] theorem State.setMcu_regs (i : Nat) (m : Mcu) : (s.setMcu i m).regs = s.regs := rfl
@[simp] theorem State.setMcu_wide (i : Nat) (m : Mcu) : (s.setMcu i m).wide = s.wide := rfl
@[simp] theorem State.setMcu_evt (i : Nat) (m : Mcu) : (s.setMcu i m).evt = s.evt := rfl
@[simp] theorem State.setMcu_out (i : Nat) (m : Mcu) : (s.setMcu i m).out = s.out := rfl
@[simp] theorem State.setMcu_spi (i : Nat) (m : Mcu) : (s.setMcu i m).spi = s.spi := rfl
@[simp] theorem State.setMcu_guards (i : Nat) (m : Mcu) : (s.setMcu i m).guards = s.guards := rfl
@[simp] theorem State.setMcu_clk (i : Nat) (m : Mcu) : (s.setMcu i m).clk = s.clk := rfl
@[simp] theorem State.setMcu_flt (i : Nat) (m : Mcu) : (s.setMcu i m).flt = s.flt := rfl
@[simp] theorem State.setMcu_boot (i : Nat) (m : Mcu) : (s.setMcu i m).boot = { s.boot with mcus := Tab.set Mcu.reset s.boot.mcus i m } := rfl
@[simp] theorem State.setMcu_sems (i : Nat) (m : Mcu) : (s.setMcu i m).sems = s.sems := rfl
@[simp] theorem State.setMcu_pwr (i : Nat) (m : Mcu) : (s.setMcu i m).pwr = s.pwr := rfl
@[simp] theorem State.setMcu_pads (i : Nat) (m : Mcu) : (s.setMcu i m).pads = s.pads := rfl
@[simp] theorem State.setMcu_ntm (i : Nat) (m : Mcu) : (s.setMcu i m).ntm = s.ntm := rfl
@[simp] theorem State.setMcu_hrd (i : Nat) (m : Mcu) : (s.setMcu i m).hrd = s.hrd := rfl
@[simp] theorem State.setMcu_arb (i : Nat) (m : Mcu) : (s.setMcu i m).arb = s.arb := rfl
@[simp] theorem State.setMcu_pods (i : Nat) (m : Mcu) : (s.setMcu i m).pods = s.pods := rfl
@[simp] theorem State.setMcu_dsf (i : Nat) (m : Mcu) : (s.setMcu i m).dsf = s.dsf := rfl
@[simp] theorem State.setMcu_act (i : Nat) (m : Mcu) : (s.setMcu i m).act = s.act := rfl
@[simp] theorem State.setMcu_lsc (i : Nat) (m : Mcu) : (s.setMcu i m).lsc = s.lsc := rfl
@[simp] theorem State.setMcu_usq (i : Nat) (m : Mcu) : (s.setMcu i m).usq = s.usq := rfl
@[simp] theorem State.setMcu_ubt (i : Nat) (m : Mcu) : (s.setMcu i m).ubt = s.ubt := rfl
@[simp] theorem State.setMcu_twn (i : Nat) (m : Mcu) : (s.setMcu i m).twn = s.twn := rfl
@[simp] theorem State.setMcu_arrivals (i : Nat) (m : Mcu) : (s.setMcu i m).arrivals = s.arrivals := rfl
@[simp] theorem State.setMcu_ports (i : Nat) (m : Mcu) : (s.setMcu i m).ports = s.ports := rfl
@[simp] theorem State.setMcu_cls (i : Nat) (m : Mcu) : (s.setMcu i m).cls = s.cls := rfl
@[simp] theorem State.setMcu_hsk (i : Nat) (m : Mcu) : (s.setMcu i m).hsk = s.hsk := rfl
@[simp] theorem State.setMcu_shell (i : Nat) (m : Mcu) : (s.setMcu i m).shell = s.shell := rfl

/-! ### `setSem` -/

@[simp] theorem State.setSem_pending (k : Nat) (x : Sem) : (s.setSem k x).pending = s.pending := rfl
@[simp] theorem State.setSem_ticks (k : Nat) (x : Sem) : (s.setSem k x).ticks = s.ticks := rfl
@[simp] theorem State.setSem_fresh (k : Nat) (x : Sem) : (s.setSem k x).fresh = s.fresh := rfl
@[simp] theorem State.setSem_regs (k : Nat) (x : Sem) : (s.setSem k x).regs = s.regs := rfl
@[simp] theorem State.setSem_wide (k : Nat) (x : Sem) : (s.setSem k x).wide = s.wide := rfl
@[simp] theorem State.setSem_evt (k : Nat) (x : Sem) : (s.setSem k x).evt = s.evt := rfl
@[simp] theorem State.setSem_out (k : Nat) (x : Sem) : (s.setSem k x).out = s.out := rfl
@[simp] theorem State.setSem_spi (k : Nat) (x : Sem) : (s.setSem k x).spi = s.spi := rfl
@[simp] theorem State.setSem_guards (k : Nat) (x : Sem) : (s.setSem k x).guards = s.guards := rfl
@[simp] theorem State.setSem_clk (k : Nat) (x : Sem) : (s.setSem k x).clk = s.clk := rfl
@[simp] theorem State.setSem_flt (k : Nat) (x : Sem) : (s.setSem k x).flt = s.flt := rfl
@[simp] theorem State.setSem_boot (k : Nat) (x : Sem) : (s.setSem k x).boot = s.boot := rfl
@[simp] theorem State.setSem_sems (k : Nat) (x : Sem) : (s.setSem k x).sems = Tab.set Sem.free s.sems k x := rfl
@[simp] theorem State.setSem_pwr (k : Nat) (x : Sem) : (s.setSem k x).pwr = s.pwr := rfl
@[simp] theorem State.setSem_pads (k : Nat) (x : Sem) : (s.setSem k x).pads = s.pads := rfl
@[simp] theorem State.setSem_ntm (k : Nat) (x : Sem) : (s.setSem k x).ntm = s.ntm := rfl
@[simp] theorem State.setSem_hrd (k : Nat) (x : Sem) : (s.setSem k x).hrd = s.hrd := rfl
@[simp] theorem State.setSem_arb (k : Nat) (x : Sem) : (s.setSem k x).arb = s.arb := rfl
@[simp] theorem State.setSem_pods (k : Nat) (x : Sem) : (s.setSem k x).pods = s.pods := rfl
@[simp] theorem State.setSem_dsf (k : Nat) (x : Sem) : (s.setSem k x).dsf = s.dsf := rfl
@[simp] theorem State.setSem_act (k : Nat) (x : Sem) : (s.setSem k x).act = s.act := rfl
@[simp] theorem State.setSem_lsc (k : Nat) (x : Sem) : (s.setSem k x).lsc = s.lsc := rfl
@[simp] theorem State.setSem_usq (k : Nat) (x : Sem) : (s.setSem k x).usq = s.usq := rfl
@[simp] theorem State.setSem_ubt (k : Nat) (x : Sem) : (s.setSem k x).ubt = s.ubt := rfl
@[simp] theorem State.setSem_twn (k : Nat) (x : Sem) : (s.setSem k x).twn = s.twn := rfl
@[simp] theorem State.setSem_arrivals (k : Nat) (x : Sem) : (s.setSem k x).arrivals = s.arrivals := rfl
@[simp] theorem State.setSem_ports (k : Nat) (x : Sem) : (s.setSem k x).ports = s.ports := rfl
@[simp] theorem State.setSem_cls (k : Nat) (x : Sem) : (s.setSem k x).cls = s.cls := rfl
@[simp] theorem State.setSem_hsk (k : Nat) (x : Sem) : (s.setSem k x).hsk = s.hsk := rfl
@[simp] theorem State.setSem_shell (k : Nat) (x : Sem) : (s.setSem k x).shell = s.shell := rfl

/-! ### `setRule` -/

@[simp] theorem State.setRule_pending (k : Nat) (r : FltRule) : (s.setRule k r).pending = s.pending := rfl
@[simp] theorem State.setRule_ticks (k : Nat) (r : FltRule) : (s.setRule k r).ticks = s.ticks := rfl
@[simp] theorem State.setRule_fresh (k : Nat) (r : FltRule) : (s.setRule k r).fresh = s.fresh := rfl
@[simp] theorem State.setRule_regs (k : Nat) (r : FltRule) : (s.setRule k r).regs = s.regs := rfl
@[simp] theorem State.setRule_wide (k : Nat) (r : FltRule) : (s.setRule k r).wide = s.wide := rfl
@[simp] theorem State.setRule_evt (k : Nat) (r : FltRule) : (s.setRule k r).evt = s.evt := rfl
@[simp] theorem State.setRule_out (k : Nat) (r : FltRule) : (s.setRule k r).out = s.out := rfl
@[simp] theorem State.setRule_spi (k : Nat) (r : FltRule) : (s.setRule k r).spi = s.spi := rfl
@[simp] theorem State.setRule_guards (k : Nat) (r : FltRule) : (s.setRule k r).guards = s.guards := rfl
@[simp] theorem State.setRule_clk (k : Nat) (r : FltRule) : (s.setRule k r).clk = s.clk := rfl
@[simp] theorem State.setRule_flt (k : Nat) (r : FltRule) : (s.setRule k r).flt = { s.flt with rules := Tab.set FltRule.off s.flt.rules k r } := rfl
@[simp] theorem State.setRule_boot (k : Nat) (r : FltRule) : (s.setRule k r).boot = s.boot := rfl
@[simp] theorem State.setRule_sems (k : Nat) (r : FltRule) : (s.setRule k r).sems = s.sems := rfl
@[simp] theorem State.setRule_pwr (k : Nat) (r : FltRule) : (s.setRule k r).pwr = s.pwr := rfl
@[simp] theorem State.setRule_pads (k : Nat) (r : FltRule) : (s.setRule k r).pads = s.pads := rfl
@[simp] theorem State.setRule_ntm (k : Nat) (r : FltRule) : (s.setRule k r).ntm = s.ntm := rfl
@[simp] theorem State.setRule_hrd (k : Nat) (r : FltRule) : (s.setRule k r).hrd = s.hrd := rfl
@[simp] theorem State.setRule_arb (k : Nat) (r : FltRule) : (s.setRule k r).arb = s.arb := rfl
@[simp] theorem State.setRule_pods (k : Nat) (r : FltRule) : (s.setRule k r).pods = s.pods := rfl
@[simp] theorem State.setRule_dsf (k : Nat) (r : FltRule) : (s.setRule k r).dsf = s.dsf := rfl
@[simp] theorem State.setRule_act (k : Nat) (r : FltRule) : (s.setRule k r).act = s.act := rfl
@[simp] theorem State.setRule_lsc (k : Nat) (r : FltRule) : (s.setRule k r).lsc = s.lsc := rfl
@[simp] theorem State.setRule_usq (k : Nat) (r : FltRule) : (s.setRule k r).usq = s.usq := rfl
@[simp] theorem State.setRule_ubt (k : Nat) (r : FltRule) : (s.setRule k r).ubt = s.ubt := rfl
@[simp] theorem State.setRule_twn (k : Nat) (r : FltRule) : (s.setRule k r).twn = s.twn := rfl
@[simp] theorem State.setRule_arrivals (k : Nat) (r : FltRule) : (s.setRule k r).arrivals = s.arrivals := rfl
@[simp] theorem State.setRule_ports (k : Nat) (r : FltRule) : (s.setRule k r).ports = s.ports := rfl
@[simp] theorem State.setRule_cls (k : Nat) (r : FltRule) : (s.setRule k r).cls = s.cls := rfl
@[simp] theorem State.setRule_hsk (k : Nat) (r : FltRule) : (s.setRule k r).hsk = s.hsk := rfl
@[simp] theorem State.setRule_shell (k : Nat) (r : FltRule) : (s.setRule k r).shell = s.shell := rfl

/-! ### `setTrig` -/

@[simp] theorem State.setTrig_pending (t : Nat) (x : Trig) : (s.setTrig t x).pending = s.pending := rfl
@[simp] theorem State.setTrig_ticks (t : Nat) (x : Trig) : (s.setTrig t x).ticks = s.ticks := rfl
@[simp] theorem State.setTrig_fresh (t : Nat) (x : Trig) : (s.setTrig t x).fresh = s.fresh := rfl
@[simp] theorem State.setTrig_regs (t : Nat) (x : Trig) : (s.setTrig t x).regs = s.regs := rfl
@[simp] theorem State.setTrig_wide (t : Nat) (x : Trig) : (s.setTrig t x).wide = s.wide := rfl
@[simp] theorem State.setTrig_evt (t : Nat) (x : Trig) : (s.setTrig t x).evt = s.evt := rfl
@[simp] theorem State.setTrig_out (t : Nat) (x : Trig) : (s.setTrig t x).out = s.out := rfl
@[simp] theorem State.setTrig_spi (t : Nat) (x : Trig) : (s.setTrig t x).spi = s.spi := rfl
@[simp] theorem State.setTrig_guards (t : Nat) (x : Trig) : (s.setTrig t x).guards = s.guards := rfl
@[simp] theorem State.setTrig_clk (t : Nat) (x : Trig) : (s.setTrig t x).clk = s.clk := rfl
@[simp] theorem State.setTrig_flt (t : Nat) (x : Trig) : (s.setTrig t x).flt = s.flt := rfl
@[simp] theorem State.setTrig_boot (t : Nat) (x : Trig) : (s.setTrig t x).boot = s.boot := rfl
@[simp] theorem State.setTrig_sems (t : Nat) (x : Trig) : (s.setTrig t x).sems = s.sems := rfl
@[simp] theorem State.setTrig_pwr (t : Nat) (x : Trig) : (s.setTrig t x).pwr = s.pwr := rfl
@[simp] theorem State.setTrig_pads (t : Nat) (x : Trig) : (s.setTrig t x).pads = s.pads := rfl
@[simp] theorem State.setTrig_ntm (t : Nat) (x : Trig) : (s.setTrig t x).ntm = { s.ntm with trigs := Tab.set Trig.reset s.ntm.trigs t x } := rfl
@[simp] theorem State.setTrig_hrd (t : Nat) (x : Trig) : (s.setTrig t x).hrd = s.hrd := rfl
@[simp] theorem State.setTrig_arb (t : Nat) (x : Trig) : (s.setTrig t x).arb = s.arb := rfl
@[simp] theorem State.setTrig_pods (t : Nat) (x : Trig) : (s.setTrig t x).pods = s.pods := rfl
@[simp] theorem State.setTrig_dsf (t : Nat) (x : Trig) : (s.setTrig t x).dsf = s.dsf := rfl
@[simp] theorem State.setTrig_act (t : Nat) (x : Trig) : (s.setTrig t x).act = s.act := rfl
@[simp] theorem State.setTrig_lsc (t : Nat) (x : Trig) : (s.setTrig t x).lsc = s.lsc := rfl
@[simp] theorem State.setTrig_usq (t : Nat) (x : Trig) : (s.setTrig t x).usq = s.usq := rfl
@[simp] theorem State.setTrig_ubt (t : Nat) (x : Trig) : (s.setTrig t x).ubt = s.ubt := rfl
@[simp] theorem State.setTrig_twn (t : Nat) (x : Trig) : (s.setTrig t x).twn = s.twn := rfl
@[simp] theorem State.setTrig_arrivals (t : Nat) (x : Trig) : (s.setTrig t x).arrivals = s.arrivals := rfl
@[simp] theorem State.setTrig_ports (t : Nat) (x : Trig) : (s.setTrig t x).ports = s.ports := rfl
@[simp] theorem State.setTrig_cls (t : Nat) (x : Trig) : (s.setTrig t x).cls = s.cls := rfl
@[simp] theorem State.setTrig_hsk (t : Nat) (x : Trig) : (s.setTrig t x).hsk = s.hsk := rfl
@[simp] theorem State.setTrig_shell (t : Nat) (x : Trig) : (s.setTrig t x).shell = s.shell := rfl

/-! ### `setCap` -/

@[simp] theorem State.setCap_pending (c : Nat) (x : Cap) : (s.setCap c x).pending = s.pending := rfl
@[simp] theorem State.setCap_ticks (c : Nat) (x : Cap) : (s.setCap c x).ticks = s.ticks := rfl
@[simp] theorem State.setCap_fresh (c : Nat) (x : Cap) : (s.setCap c x).fresh = s.fresh := rfl
@[simp] theorem State.setCap_regs (c : Nat) (x : Cap) : (s.setCap c x).regs = s.regs := rfl
@[simp] theorem State.setCap_wide (c : Nat) (x : Cap) : (s.setCap c x).wide = s.wide := rfl
@[simp] theorem State.setCap_evt (c : Nat) (x : Cap) : (s.setCap c x).evt = s.evt := rfl
@[simp] theorem State.setCap_out (c : Nat) (x : Cap) : (s.setCap c x).out = s.out := rfl
@[simp] theorem State.setCap_spi (c : Nat) (x : Cap) : (s.setCap c x).spi = s.spi := rfl
@[simp] theorem State.setCap_guards (c : Nat) (x : Cap) : (s.setCap c x).guards = s.guards := rfl
@[simp] theorem State.setCap_clk (c : Nat) (x : Cap) : (s.setCap c x).clk = s.clk := rfl
@[simp] theorem State.setCap_flt (c : Nat) (x : Cap) : (s.setCap c x).flt = s.flt := rfl
@[simp] theorem State.setCap_boot (c : Nat) (x : Cap) : (s.setCap c x).boot = s.boot := rfl
@[simp] theorem State.setCap_sems (c : Nat) (x : Cap) : (s.setCap c x).sems = s.sems := rfl
@[simp] theorem State.setCap_pwr (c : Nat) (x : Cap) : (s.setCap c x).pwr = s.pwr := rfl
@[simp] theorem State.setCap_pads (c : Nat) (x : Cap) : (s.setCap c x).pads = s.pads := rfl
@[simp] theorem State.setCap_ntm (c : Nat) (x : Cap) : (s.setCap c x).ntm = { s.ntm with caps := Tab.set Cap.reset s.ntm.caps c x } := rfl
@[simp] theorem State.setCap_hrd (c : Nat) (x : Cap) : (s.setCap c x).hrd = s.hrd := rfl
@[simp] theorem State.setCap_arb (c : Nat) (x : Cap) : (s.setCap c x).arb = s.arb := rfl
@[simp] theorem State.setCap_pods (c : Nat) (x : Cap) : (s.setCap c x).pods = s.pods := rfl
@[simp] theorem State.setCap_dsf (c : Nat) (x : Cap) : (s.setCap c x).dsf = s.dsf := rfl
@[simp] theorem State.setCap_act (c : Nat) (x : Cap) : (s.setCap c x).act = s.act := rfl
@[simp] theorem State.setCap_lsc (c : Nat) (x : Cap) : (s.setCap c x).lsc = s.lsc := rfl
@[simp] theorem State.setCap_usq (c : Nat) (x : Cap) : (s.setCap c x).usq = s.usq := rfl
@[simp] theorem State.setCap_ubt (c : Nat) (x : Cap) : (s.setCap c x).ubt = s.ubt := rfl
@[simp] theorem State.setCap_twn (c : Nat) (x : Cap) : (s.setCap c x).twn = s.twn := rfl
@[simp] theorem State.setCap_arrivals (c : Nat) (x : Cap) : (s.setCap c x).arrivals = s.arrivals := rfl
@[simp] theorem State.setCap_ports (c : Nat) (x : Cap) : (s.setCap c x).ports = s.ports := rfl
@[simp] theorem State.setCap_cls (c : Nat) (x : Cap) : (s.setCap c x).cls = s.cls := rfl
@[simp] theorem State.setCap_hsk (c : Nat) (x : Cap) : (s.setCap c x).hsk = s.hsk := rfl
@[simp] theorem State.setCap_shell (c : Nat) (x : Cap) : (s.setCap c x).shell = s.shell := rfl

/-! ### `setTcSlot` -/

@[simp] theorem State.setTcSlot_pending (i : Nat) (x : Slot) : (s.setTcSlot i x).pending = s.pending := rfl
@[simp] theorem State.setTcSlot_ticks (i : Nat) (x : Slot) : (s.setTcSlot i x).ticks = s.ticks := rfl
@[simp] theorem State.setTcSlot_fresh (i : Nat) (x : Slot) : (s.setTcSlot i x).fresh = s.fresh := rfl
@[simp] theorem State.setTcSlot_regs (i : Nat) (x : Slot) : (s.setTcSlot i x).regs = s.regs := rfl
@[simp] theorem State.setTcSlot_wide (i : Nat) (x : Slot) : (s.setTcSlot i x).wide = s.wide := rfl
@[simp] theorem State.setTcSlot_evt (i : Nat) (x : Slot) : (s.setTcSlot i x).evt = s.evt := rfl
@[simp] theorem State.setTcSlot_out (i : Nat) (x : Slot) : (s.setTcSlot i x).out = s.out := rfl
@[simp] theorem State.setTcSlot_spi (i : Nat) (x : Slot) : (s.setTcSlot i x).spi = s.spi := rfl
@[simp] theorem State.setTcSlot_guards (i : Nat) (x : Slot) : (s.setTcSlot i x).guards = s.guards := rfl
@[simp] theorem State.setTcSlot_clk (i : Nat) (x : Slot) : (s.setTcSlot i x).clk = s.clk := rfl
@[simp] theorem State.setTcSlot_flt (i : Nat) (x : Slot) : (s.setTcSlot i x).flt = s.flt := rfl
@[simp] theorem State.setTcSlot_boot (i : Nat) (x : Slot) : (s.setTcSlot i x).boot = s.boot := rfl
@[simp] theorem State.setTcSlot_sems (i : Nat) (x : Slot) : (s.setTcSlot i x).sems = s.sems := rfl
@[simp] theorem State.setTcSlot_pwr (i : Nat) (x : Slot) : (s.setTcSlot i x).pwr = s.pwr := rfl
@[simp] theorem State.setTcSlot_pads (i : Nat) (x : Slot) : (s.setTcSlot i x).pads = s.pads := rfl
@[simp] theorem State.setTcSlot_ntm (i : Nat) (x : Slot) : (s.setTcSlot i x).ntm = { s.ntm with slots := Tab.set Slot.reset s.ntm.slots i x } := rfl
@[simp] theorem State.setTcSlot_hrd (i : Nat) (x : Slot) : (s.setTcSlot i x).hrd = s.hrd := rfl
@[simp] theorem State.setTcSlot_arb (i : Nat) (x : Slot) : (s.setTcSlot i x).arb = s.arb := rfl
@[simp] theorem State.setTcSlot_pods (i : Nat) (x : Slot) : (s.setTcSlot i x).pods = s.pods := rfl
@[simp] theorem State.setTcSlot_dsf (i : Nat) (x : Slot) : (s.setTcSlot i x).dsf = s.dsf := rfl
@[simp] theorem State.setTcSlot_act (i : Nat) (x : Slot) : (s.setTcSlot i x).act = s.act := rfl
@[simp] theorem State.setTcSlot_lsc (i : Nat) (x : Slot) : (s.setTcSlot i x).lsc = s.lsc := rfl
@[simp] theorem State.setTcSlot_usq (i : Nat) (x : Slot) : (s.setTcSlot i x).usq = s.usq := rfl
@[simp] theorem State.setTcSlot_ubt (i : Nat) (x : Slot) : (s.setTcSlot i x).ubt = s.ubt := rfl
@[simp] theorem State.setTcSlot_twn (i : Nat) (x : Slot) : (s.setTcSlot i x).twn = s.twn := rfl
@[simp] theorem State.setTcSlot_arrivals (i : Nat) (x : Slot) : (s.setTcSlot i x).arrivals = s.arrivals := rfl
@[simp] theorem State.setTcSlot_ports (i : Nat) (x : Slot) : (s.setTcSlot i x).ports = s.ports := rfl
@[simp] theorem State.setTcSlot_cls (i : Nat) (x : Slot) : (s.setTcSlot i x).cls = s.cls := rfl
@[simp] theorem State.setTcSlot_hsk (i : Nat) (x : Slot) : (s.setTcSlot i x).hsk = s.hsk := rfl
@[simp] theorem State.setTcSlot_shell (i : Nat) (x : Slot) : (s.setTcSlot i x).shell = s.shell := rfl

/-! ### `setPc` -/

@[simp] theorem State.setPc_pending (x : Nat) (p : PseudoCh) : (s.setPc x p).pending = s.pending := rfl
@[simp] theorem State.setPc_ticks (x : Nat) (p : PseudoCh) : (s.setPc x p).ticks = s.ticks := rfl
@[simp] theorem State.setPc_fresh (x : Nat) (p : PseudoCh) : (s.setPc x p).fresh = s.fresh := rfl
@[simp] theorem State.setPc_regs (x : Nat) (p : PseudoCh) : (s.setPc x p).regs = s.regs := rfl
@[simp] theorem State.setPc_wide (x : Nat) (p : PseudoCh) : (s.setPc x p).wide = s.wide := rfl
@[simp] theorem State.setPc_evt (x : Nat) (p : PseudoCh) : (s.setPc x p).evt = s.evt := rfl
@[simp] theorem State.setPc_out (x : Nat) (p : PseudoCh) : (s.setPc x p).out = s.out := rfl
@[simp] theorem State.setPc_spi (x : Nat) (p : PseudoCh) : (s.setPc x p).spi = s.spi := rfl
@[simp] theorem State.setPc_guards (x : Nat) (p : PseudoCh) : (s.setPc x p).guards = s.guards := rfl
@[simp] theorem State.setPc_clk (x : Nat) (p : PseudoCh) : (s.setPc x p).clk = s.clk := rfl
@[simp] theorem State.setPc_flt (x : Nat) (p : PseudoCh) : (s.setPc x p).flt = s.flt := rfl
@[simp] theorem State.setPc_boot (x : Nat) (p : PseudoCh) : (s.setPc x p).boot = s.boot := rfl
@[simp] theorem State.setPc_sems (x : Nat) (p : PseudoCh) : (s.setPc x p).sems = s.sems := rfl
@[simp] theorem State.setPc_pwr (x : Nat) (p : PseudoCh) : (s.setPc x p).pwr = s.pwr := rfl
@[simp] theorem State.setPc_pads (x : Nat) (p : PseudoCh) : (s.setPc x p).pads = s.pads := rfl
@[simp] theorem State.setPc_ntm (x : Nat) (p : PseudoCh) : (s.setPc x p).ntm = s.ntm := rfl
@[simp] theorem State.setPc_hrd (x : Nat) (p : PseudoCh) : (s.setPc x p).hrd = { s.hrd with pcs := Tab.set PseudoCh.reset s.hrd.pcs x p } := rfl
@[simp] theorem State.setPc_arb (x : Nat) (p : PseudoCh) : (s.setPc x p).arb = s.arb := rfl
@[simp] theorem State.setPc_pods (x : Nat) (p : PseudoCh) : (s.setPc x p).pods = s.pods := rfl
@[simp] theorem State.setPc_dsf (x : Nat) (p : PseudoCh) : (s.setPc x p).dsf = s.dsf := rfl
@[simp] theorem State.setPc_act (x : Nat) (p : PseudoCh) : (s.setPc x p).act = s.act := rfl
@[simp] theorem State.setPc_lsc (x : Nat) (p : PseudoCh) : (s.setPc x p).lsc = s.lsc := rfl
@[simp] theorem State.setPc_usq (x : Nat) (p : PseudoCh) : (s.setPc x p).usq = s.usq := rfl
@[simp] theorem State.setPc_ubt (x : Nat) (p : PseudoCh) : (s.setPc x p).ubt = s.ubt := rfl
@[simp] theorem State.setPc_twn (x : Nat) (p : PseudoCh) : (s.setPc x p).twn = s.twn := rfl
@[simp] theorem State.setPc_arrivals (x : Nat) (p : PseudoCh) : (s.setPc x p).arrivals = s.arrivals := rfl
@[simp] theorem State.setPc_ports (x : Nat) (p : PseudoCh) : (s.setPc x p).ports = s.ports := rfl
@[simp] theorem State.setPc_cls (x : Nat) (p : PseudoCh) : (s.setPc x p).cls = s.cls := rfl
@[simp] theorem State.setPc_hsk (x : Nat) (p : PseudoCh) : (s.setPc x p).hsk = s.hsk := rfl
@[simp] theorem State.setPc_shell (x : Nat) (p : PseudoCh) : (s.setPc x p).shell = s.shell := rfl

/-! ### `modNtm` -/

@[simp] theorem State.modNtm_pending (f : Ntm → Ntm) : (s.modNtm f).pending = s.pending := rfl
@[simp] theorem State.modNtm_ticks (f : Ntm → Ntm) : (s.modNtm f).ticks = s.ticks := rfl
@[simp] theorem State.modNtm_fresh (f : Ntm → Ntm) : (s.modNtm f).fresh = s.fresh := rfl
@[simp] theorem State.modNtm_regs (f : Ntm → Ntm) : (s.modNtm f).regs = s.regs := rfl
@[simp] theorem State.modNtm_wide (f : Ntm → Ntm) : (s.modNtm f).wide = s.wide := rfl
@[simp] theorem State.modNtm_evt (f : Ntm → Ntm) : (s.modNtm f).evt = s.evt := rfl
@[simp] theorem State.modNtm_out (f : Ntm → Ntm) : (s.modNtm f).out = s.out := rfl
@[simp] theorem State.modNtm_spi (f : Ntm → Ntm) : (s.modNtm f).spi = s.spi := rfl
@[simp] theorem State.modNtm_guards (f : Ntm → Ntm) : (s.modNtm f).guards = s.guards := rfl
@[simp] theorem State.modNtm_clk (f : Ntm → Ntm) : (s.modNtm f).clk = s.clk := rfl
@[simp] theorem State.modNtm_flt (f : Ntm → Ntm) : (s.modNtm f).flt = s.flt := rfl
@[simp] theorem State.modNtm_boot (f : Ntm → Ntm) : (s.modNtm f).boot = s.boot := rfl
@[simp] theorem State.modNtm_sems (f : Ntm → Ntm) : (s.modNtm f).sems = s.sems := rfl
@[simp] theorem State.modNtm_pwr (f : Ntm → Ntm) : (s.modNtm f).pwr = s.pwr := rfl
@[simp] theorem State.modNtm_pads (f : Ntm → Ntm) : (s.modNtm f).pads = s.pads := rfl
@[simp] theorem State.modNtm_ntm (f : Ntm → Ntm) : (s.modNtm f).ntm = f s.ntm := rfl
@[simp] theorem State.modNtm_hrd (f : Ntm → Ntm) : (s.modNtm f).hrd = s.hrd := rfl
@[simp] theorem State.modNtm_arb (f : Ntm → Ntm) : (s.modNtm f).arb = s.arb := rfl
@[simp] theorem State.modNtm_pods (f : Ntm → Ntm) : (s.modNtm f).pods = s.pods := rfl
@[simp] theorem State.modNtm_dsf (f : Ntm → Ntm) : (s.modNtm f).dsf = s.dsf := rfl
@[simp] theorem State.modNtm_act (f : Ntm → Ntm) : (s.modNtm f).act = s.act := rfl
@[simp] theorem State.modNtm_lsc (f : Ntm → Ntm) : (s.modNtm f).lsc = s.lsc := rfl
@[simp] theorem State.modNtm_usq (f : Ntm → Ntm) : (s.modNtm f).usq = s.usq := rfl
@[simp] theorem State.modNtm_ubt (f : Ntm → Ntm) : (s.modNtm f).ubt = s.ubt := rfl
@[simp] theorem State.modNtm_twn (f : Ntm → Ntm) : (s.modNtm f).twn = s.twn := rfl
@[simp] theorem State.modNtm_arrivals (f : Ntm → Ntm) : (s.modNtm f).arrivals = s.arrivals := rfl
@[simp] theorem State.modNtm_ports (f : Ntm → Ntm) : (s.modNtm f).ports = s.ports := rfl
@[simp] theorem State.modNtm_cls (f : Ntm → Ntm) : (s.modNtm f).cls = s.cls := rfl
@[simp] theorem State.modNtm_hsk (f : Ntm → Ntm) : (s.modNtm f).hsk = s.hsk := rfl
@[simp] theorem State.modNtm_shell (f : Ntm → Ntm) : (s.modNtm f).shell = s.shell := rfl

/-! ### `modClk` -/

@[simp] theorem State.modClk_pending (f : Clk → Clk) : (s.modClk f).pending = s.pending := rfl
@[simp] theorem State.modClk_ticks (f : Clk → Clk) : (s.modClk f).ticks = s.ticks := rfl
@[simp] theorem State.modClk_fresh (f : Clk → Clk) : (s.modClk f).fresh = s.fresh := rfl
@[simp] theorem State.modClk_regs (f : Clk → Clk) : (s.modClk f).regs = s.regs := rfl
@[simp] theorem State.modClk_wide (f : Clk → Clk) : (s.modClk f).wide = s.wide := rfl
@[simp] theorem State.modClk_evt (f : Clk → Clk) : (s.modClk f).evt = s.evt := rfl
@[simp] theorem State.modClk_out (f : Clk → Clk) : (s.modClk f).out = s.out := rfl
@[simp] theorem State.modClk_spi (f : Clk → Clk) : (s.modClk f).spi = s.spi := rfl
@[simp] theorem State.modClk_guards (f : Clk → Clk) : (s.modClk f).guards = s.guards := rfl
@[simp] theorem State.modClk_clk (f : Clk → Clk) : (s.modClk f).clk = f s.clk := rfl
@[simp] theorem State.modClk_flt (f : Clk → Clk) : (s.modClk f).flt = s.flt := rfl
@[simp] theorem State.modClk_boot (f : Clk → Clk) : (s.modClk f).boot = s.boot := rfl
@[simp] theorem State.modClk_sems (f : Clk → Clk) : (s.modClk f).sems = s.sems := rfl
@[simp] theorem State.modClk_pwr (f : Clk → Clk) : (s.modClk f).pwr = s.pwr := rfl
@[simp] theorem State.modClk_pads (f : Clk → Clk) : (s.modClk f).pads = s.pads := rfl
@[simp] theorem State.modClk_ntm (f : Clk → Clk) : (s.modClk f).ntm = s.ntm := rfl
@[simp] theorem State.modClk_hrd (f : Clk → Clk) : (s.modClk f).hrd = s.hrd := rfl
@[simp] theorem State.modClk_arb (f : Clk → Clk) : (s.modClk f).arb = s.arb := rfl
@[simp] theorem State.modClk_pods (f : Clk → Clk) : (s.modClk f).pods = s.pods := rfl
@[simp] theorem State.modClk_dsf (f : Clk → Clk) : (s.modClk f).dsf = s.dsf := rfl
@[simp] theorem State.modClk_act (f : Clk → Clk) : (s.modClk f).act = s.act := rfl
@[simp] theorem State.modClk_lsc (f : Clk → Clk) : (s.modClk f).lsc = s.lsc := rfl
@[simp] theorem State.modClk_usq (f : Clk → Clk) : (s.modClk f).usq = s.usq := rfl
@[simp] theorem State.modClk_ubt (f : Clk → Clk) : (s.modClk f).ubt = s.ubt := rfl
@[simp] theorem State.modClk_twn (f : Clk → Clk) : (s.modClk f).twn = s.twn := rfl
@[simp] theorem State.modClk_arrivals (f : Clk → Clk) : (s.modClk f).arrivals = s.arrivals := rfl
@[simp] theorem State.modClk_ports (f : Clk → Clk) : (s.modClk f).ports = s.ports := rfl
@[simp] theorem State.modClk_cls (f : Clk → Clk) : (s.modClk f).cls = s.cls := rfl
@[simp] theorem State.modClk_hsk (f : Clk → Clk) : (s.modClk f).hsk = s.hsk := rfl
@[simp] theorem State.modClk_shell (f : Clk → Clk) : (s.modClk f).shell = s.shell := rfl

/-! ### `modFlt` -/

@[simp] theorem State.modFlt_pending (f : Flt → Flt) : (s.modFlt f).pending = s.pending := rfl
@[simp] theorem State.modFlt_ticks (f : Flt → Flt) : (s.modFlt f).ticks = s.ticks := rfl
@[simp] theorem State.modFlt_fresh (f : Flt → Flt) : (s.modFlt f).fresh = s.fresh := rfl
@[simp] theorem State.modFlt_regs (f : Flt → Flt) : (s.modFlt f).regs = s.regs := rfl
@[simp] theorem State.modFlt_wide (f : Flt → Flt) : (s.modFlt f).wide = s.wide := rfl
@[simp] theorem State.modFlt_evt (f : Flt → Flt) : (s.modFlt f).evt = s.evt := rfl
@[simp] theorem State.modFlt_out (f : Flt → Flt) : (s.modFlt f).out = s.out := rfl
@[simp] theorem State.modFlt_spi (f : Flt → Flt) : (s.modFlt f).spi = s.spi := rfl
@[simp] theorem State.modFlt_guards (f : Flt → Flt) : (s.modFlt f).guards = s.guards := rfl
@[simp] theorem State.modFlt_clk (f : Flt → Flt) : (s.modFlt f).clk = s.clk := rfl
@[simp] theorem State.modFlt_flt (f : Flt → Flt) : (s.modFlt f).flt = f s.flt := rfl
@[simp] theorem State.modFlt_boot (f : Flt → Flt) : (s.modFlt f).boot = s.boot := rfl
@[simp] theorem State.modFlt_sems (f : Flt → Flt) : (s.modFlt f).sems = s.sems := rfl
@[simp] theorem State.modFlt_pwr (f : Flt → Flt) : (s.modFlt f).pwr = s.pwr := rfl
@[simp] theorem State.modFlt_pads (f : Flt → Flt) : (s.modFlt f).pads = s.pads := rfl
@[simp] theorem State.modFlt_ntm (f : Flt → Flt) : (s.modFlt f).ntm = s.ntm := rfl
@[simp] theorem State.modFlt_hrd (f : Flt → Flt) : (s.modFlt f).hrd = s.hrd := rfl
@[simp] theorem State.modFlt_arb (f : Flt → Flt) : (s.modFlt f).arb = s.arb := rfl
@[simp] theorem State.modFlt_pods (f : Flt → Flt) : (s.modFlt f).pods = s.pods := rfl
@[simp] theorem State.modFlt_dsf (f : Flt → Flt) : (s.modFlt f).dsf = s.dsf := rfl
@[simp] theorem State.modFlt_act (f : Flt → Flt) : (s.modFlt f).act = s.act := rfl
@[simp] theorem State.modFlt_lsc (f : Flt → Flt) : (s.modFlt f).lsc = s.lsc := rfl
@[simp] theorem State.modFlt_usq (f : Flt → Flt) : (s.modFlt f).usq = s.usq := rfl
@[simp] theorem State.modFlt_ubt (f : Flt → Flt) : (s.modFlt f).ubt = s.ubt := rfl
@[simp] theorem State.modFlt_twn (f : Flt → Flt) : (s.modFlt f).twn = s.twn := rfl
@[simp] theorem State.modFlt_arrivals (f : Flt → Flt) : (s.modFlt f).arrivals = s.arrivals := rfl
@[simp] theorem State.modFlt_ports (f : Flt → Flt) : (s.modFlt f).ports = s.ports := rfl
@[simp] theorem State.modFlt_cls (f : Flt → Flt) : (s.modFlt f).cls = s.cls := rfl
@[simp] theorem State.modFlt_hsk (f : Flt → Flt) : (s.modFlt f).hsk = s.hsk := rfl
@[simp] theorem State.modFlt_shell (f : Flt → Flt) : (s.modFlt f).shell = s.shell := rfl

/-! ### `modBoot` -/

@[simp] theorem State.modBoot_pending (f : Boot → Boot) : (s.modBoot f).pending = s.pending := rfl
@[simp] theorem State.modBoot_ticks (f : Boot → Boot) : (s.modBoot f).ticks = s.ticks := rfl
@[simp] theorem State.modBoot_fresh (f : Boot → Boot) : (s.modBoot f).fresh = s.fresh := rfl
@[simp] theorem State.modBoot_regs (f : Boot → Boot) : (s.modBoot f).regs = s.regs := rfl
@[simp] theorem State.modBoot_wide (f : Boot → Boot) : (s.modBoot f).wide = s.wide := rfl
@[simp] theorem State.modBoot_evt (f : Boot → Boot) : (s.modBoot f).evt = s.evt := rfl
@[simp] theorem State.modBoot_out (f : Boot → Boot) : (s.modBoot f).out = s.out := rfl
@[simp] theorem State.modBoot_spi (f : Boot → Boot) : (s.modBoot f).spi = s.spi := rfl
@[simp] theorem State.modBoot_guards (f : Boot → Boot) : (s.modBoot f).guards = s.guards := rfl
@[simp] theorem State.modBoot_clk (f : Boot → Boot) : (s.modBoot f).clk = s.clk := rfl
@[simp] theorem State.modBoot_flt (f : Boot → Boot) : (s.modBoot f).flt = s.flt := rfl
@[simp] theorem State.modBoot_boot (f : Boot → Boot) : (s.modBoot f).boot = f s.boot := rfl
@[simp] theorem State.modBoot_sems (f : Boot → Boot) : (s.modBoot f).sems = s.sems := rfl
@[simp] theorem State.modBoot_pwr (f : Boot → Boot) : (s.modBoot f).pwr = s.pwr := rfl
@[simp] theorem State.modBoot_pads (f : Boot → Boot) : (s.modBoot f).pads = s.pads := rfl
@[simp] theorem State.modBoot_ntm (f : Boot → Boot) : (s.modBoot f).ntm = s.ntm := rfl
@[simp] theorem State.modBoot_hrd (f : Boot → Boot) : (s.modBoot f).hrd = s.hrd := rfl
@[simp] theorem State.modBoot_arb (f : Boot → Boot) : (s.modBoot f).arb = s.arb := rfl
@[simp] theorem State.modBoot_pods (f : Boot → Boot) : (s.modBoot f).pods = s.pods := rfl
@[simp] theorem State.modBoot_dsf (f : Boot → Boot) : (s.modBoot f).dsf = s.dsf := rfl
@[simp] theorem State.modBoot_act (f : Boot → Boot) : (s.modBoot f).act = s.act := rfl
@[simp] theorem State.modBoot_lsc (f : Boot → Boot) : (s.modBoot f).lsc = s.lsc := rfl
@[simp] theorem State.modBoot_usq (f : Boot → Boot) : (s.modBoot f).usq = s.usq := rfl
@[simp] theorem State.modBoot_ubt (f : Boot → Boot) : (s.modBoot f).ubt = s.ubt := rfl
@[simp] theorem State.modBoot_twn (f : Boot → Boot) : (s.modBoot f).twn = s.twn := rfl
@[simp] theorem State.modBoot_arrivals (f : Boot → Boot) : (s.modBoot f).arrivals = s.arrivals := rfl
@[simp] theorem State.modBoot_ports (f : Boot → Boot) : (s.modBoot f).ports = s.ports := rfl
@[simp] theorem State.modBoot_cls (f : Boot → Boot) : (s.modBoot f).cls = s.cls := rfl
@[simp] theorem State.modBoot_hsk (f : Boot → Boot) : (s.modBoot f).hsk = s.hsk := rfl
@[simp] theorem State.modBoot_shell (f : Boot → Boot) : (s.modBoot f).shell = s.shell := rfl

/-! ### `modPwr` -/

@[simp] theorem State.modPwr_pending (f : Pwr → Pwr) : (s.modPwr f).pending = s.pending := rfl
@[simp] theorem State.modPwr_ticks (f : Pwr → Pwr) : (s.modPwr f).ticks = s.ticks := rfl
@[simp] theorem State.modPwr_fresh (f : Pwr → Pwr) : (s.modPwr f).fresh = s.fresh := rfl
@[simp] theorem State.modPwr_regs (f : Pwr → Pwr) : (s.modPwr f).regs = s.regs := rfl
@[simp] theorem State.modPwr_wide (f : Pwr → Pwr) : (s.modPwr f).wide = s.wide := rfl
@[simp] theorem State.modPwr_evt (f : Pwr → Pwr) : (s.modPwr f).evt = s.evt := rfl
@[simp] theorem State.modPwr_out (f : Pwr → Pwr) : (s.modPwr f).out = s.out := rfl
@[simp] theorem State.modPwr_spi (f : Pwr → Pwr) : (s.modPwr f).spi = s.spi := rfl
@[simp] theorem State.modPwr_guards (f : Pwr → Pwr) : (s.modPwr f).guards = s.guards := rfl
@[simp] theorem State.modPwr_clk (f : Pwr → Pwr) : (s.modPwr f).clk = s.clk := rfl
@[simp] theorem State.modPwr_flt (f : Pwr → Pwr) : (s.modPwr f).flt = s.flt := rfl
@[simp] theorem State.modPwr_boot (f : Pwr → Pwr) : (s.modPwr f).boot = s.boot := rfl
@[simp] theorem State.modPwr_sems (f : Pwr → Pwr) : (s.modPwr f).sems = s.sems := rfl
@[simp] theorem State.modPwr_pwr (f : Pwr → Pwr) : (s.modPwr f).pwr = f s.pwr := rfl
@[simp] theorem State.modPwr_pads (f : Pwr → Pwr) : (s.modPwr f).pads = s.pads := rfl
@[simp] theorem State.modPwr_ntm (f : Pwr → Pwr) : (s.modPwr f).ntm = s.ntm := rfl
@[simp] theorem State.modPwr_hrd (f : Pwr → Pwr) : (s.modPwr f).hrd = s.hrd := rfl
@[simp] theorem State.modPwr_arb (f : Pwr → Pwr) : (s.modPwr f).arb = s.arb := rfl
@[simp] theorem State.modPwr_pods (f : Pwr → Pwr) : (s.modPwr f).pods = s.pods := rfl
@[simp] theorem State.modPwr_dsf (f : Pwr → Pwr) : (s.modPwr f).dsf = s.dsf := rfl
@[simp] theorem State.modPwr_act (f : Pwr → Pwr) : (s.modPwr f).act = s.act := rfl
@[simp] theorem State.modPwr_lsc (f : Pwr → Pwr) : (s.modPwr f).lsc = s.lsc := rfl
@[simp] theorem State.modPwr_usq (f : Pwr → Pwr) : (s.modPwr f).usq = s.usq := rfl
@[simp] theorem State.modPwr_ubt (f : Pwr → Pwr) : (s.modPwr f).ubt = s.ubt := rfl
@[simp] theorem State.modPwr_twn (f : Pwr → Pwr) : (s.modPwr f).twn = s.twn := rfl
@[simp] theorem State.modPwr_arrivals (f : Pwr → Pwr) : (s.modPwr f).arrivals = s.arrivals := rfl
@[simp] theorem State.modPwr_ports (f : Pwr → Pwr) : (s.modPwr f).ports = s.ports := rfl
@[simp] theorem State.modPwr_cls (f : Pwr → Pwr) : (s.modPwr f).cls = s.cls := rfl
@[simp] theorem State.modPwr_hsk (f : Pwr → Pwr) : (s.modPwr f).hsk = s.hsk := rfl
@[simp] theorem State.modPwr_shell (f : Pwr → Pwr) : (s.modPwr f).shell = s.shell := rfl

/-! ### `modPads` -/

@[simp] theorem State.modPads_pending (f : Pads → Pads) : (s.modPads f).pending = s.pending := rfl
@[simp] theorem State.modPads_ticks (f : Pads → Pads) : (s.modPads f).ticks = s.ticks := rfl
@[simp] theorem State.modPads_fresh (f : Pads → Pads) : (s.modPads f).fresh = s.fresh := rfl
@[simp] theorem State.modPads_regs (f : Pads → Pads) : (s.modPads f).regs = s.regs := rfl
@[simp] theorem State.modPads_wide (f : Pads → Pads) : (s.modPads f).wide = s.wide := rfl
@[simp] theorem State.modPads_evt (f : Pads → Pads) : (s.modPads f).evt = s.evt := rfl
@[simp] theorem State.modPads_out (f : Pads → Pads) : (s.modPads f).out = s.out := rfl
@[simp] theorem State.modPads_spi (f : Pads → Pads) : (s.modPads f).spi = s.spi := rfl
@[simp] theorem State.modPads_guards (f : Pads → Pads) : (s.modPads f).guards = s.guards := rfl
@[simp] theorem State.modPads_clk (f : Pads → Pads) : (s.modPads f).clk = s.clk := rfl
@[simp] theorem State.modPads_flt (f : Pads → Pads) : (s.modPads f).flt = s.flt := rfl
@[simp] theorem State.modPads_boot (f : Pads → Pads) : (s.modPads f).boot = s.boot := rfl
@[simp] theorem State.modPads_sems (f : Pads → Pads) : (s.modPads f).sems = s.sems := rfl
@[simp] theorem State.modPads_pwr (f : Pads → Pads) : (s.modPads f).pwr = s.pwr := rfl
@[simp] theorem State.modPads_pads (f : Pads → Pads) : (s.modPads f).pads = f s.pads := rfl
@[simp] theorem State.modPads_ntm (f : Pads → Pads) : (s.modPads f).ntm = s.ntm := rfl
@[simp] theorem State.modPads_hrd (f : Pads → Pads) : (s.modPads f).hrd = s.hrd := rfl
@[simp] theorem State.modPads_arb (f : Pads → Pads) : (s.modPads f).arb = s.arb := rfl
@[simp] theorem State.modPads_pods (f : Pads → Pads) : (s.modPads f).pods = s.pods := rfl
@[simp] theorem State.modPads_dsf (f : Pads → Pads) : (s.modPads f).dsf = s.dsf := rfl
@[simp] theorem State.modPads_act (f : Pads → Pads) : (s.modPads f).act = s.act := rfl
@[simp] theorem State.modPads_lsc (f : Pads → Pads) : (s.modPads f).lsc = s.lsc := rfl
@[simp] theorem State.modPads_usq (f : Pads → Pads) : (s.modPads f).usq = s.usq := rfl
@[simp] theorem State.modPads_ubt (f : Pads → Pads) : (s.modPads f).ubt = s.ubt := rfl
@[simp] theorem State.modPads_twn (f : Pads → Pads) : (s.modPads f).twn = s.twn := rfl
@[simp] theorem State.modPads_arrivals (f : Pads → Pads) : (s.modPads f).arrivals = s.arrivals := rfl
@[simp] theorem State.modPads_ports (f : Pads → Pads) : (s.modPads f).ports = s.ports := rfl
@[simp] theorem State.modPads_cls (f : Pads → Pads) : (s.modPads f).cls = s.cls := rfl
@[simp] theorem State.modPads_hsk (f : Pads → Pads) : (s.modPads f).hsk = s.hsk := rfl
@[simp] theorem State.modPads_shell (f : Pads → Pads) : (s.modPads f).shell = s.shell := rfl

/-! ### `modHrd` -/

@[simp] theorem State.modHrd_pending (f : Hrd → Hrd) : (s.modHrd f).pending = s.pending := rfl
@[simp] theorem State.modHrd_ticks (f : Hrd → Hrd) : (s.modHrd f).ticks = s.ticks := rfl
@[simp] theorem State.modHrd_fresh (f : Hrd → Hrd) : (s.modHrd f).fresh = s.fresh := rfl
@[simp] theorem State.modHrd_regs (f : Hrd → Hrd) : (s.modHrd f).regs = s.regs := rfl
@[simp] theorem State.modHrd_wide (f : Hrd → Hrd) : (s.modHrd f).wide = s.wide := rfl
@[simp] theorem State.modHrd_evt (f : Hrd → Hrd) : (s.modHrd f).evt = s.evt := rfl
@[simp] theorem State.modHrd_out (f : Hrd → Hrd) : (s.modHrd f).out = s.out := rfl
@[simp] theorem State.modHrd_spi (f : Hrd → Hrd) : (s.modHrd f).spi = s.spi := rfl
@[simp] theorem State.modHrd_guards (f : Hrd → Hrd) : (s.modHrd f).guards = s.guards := rfl
@[simp] theorem State.modHrd_clk (f : Hrd → Hrd) : (s.modHrd f).clk = s.clk := rfl
@[simp] theorem State.modHrd_flt (f : Hrd → Hrd) : (s.modHrd f).flt = s.flt := rfl
@[simp] theorem State.modHrd_boot (f : Hrd → Hrd) : (s.modHrd f).boot = s.boot := rfl
@[simp] theorem State.modHrd_sems (f : Hrd → Hrd) : (s.modHrd f).sems = s.sems := rfl
@[simp] theorem State.modHrd_pwr (f : Hrd → Hrd) : (s.modHrd f).pwr = s.pwr := rfl
@[simp] theorem State.modHrd_pads (f : Hrd → Hrd) : (s.modHrd f).pads = s.pads := rfl
@[simp] theorem State.modHrd_ntm (f : Hrd → Hrd) : (s.modHrd f).ntm = s.ntm := rfl
@[simp] theorem State.modHrd_hrd (f : Hrd → Hrd) : (s.modHrd f).hrd = f s.hrd := rfl
@[simp] theorem State.modHrd_arb (f : Hrd → Hrd) : (s.modHrd f).arb = s.arb := rfl
@[simp] theorem State.modHrd_pods (f : Hrd → Hrd) : (s.modHrd f).pods = s.pods := rfl
@[simp] theorem State.modHrd_dsf (f : Hrd → Hrd) : (s.modHrd f).dsf = s.dsf := rfl
@[simp] theorem State.modHrd_act (f : Hrd → Hrd) : (s.modHrd f).act = s.act := rfl
@[simp] theorem State.modHrd_lsc (f : Hrd → Hrd) : (s.modHrd f).lsc = s.lsc := rfl
@[simp] theorem State.modHrd_usq (f : Hrd → Hrd) : (s.modHrd f).usq = s.usq := rfl
@[simp] theorem State.modHrd_ubt (f : Hrd → Hrd) : (s.modHrd f).ubt = s.ubt := rfl
@[simp] theorem State.modHrd_twn (f : Hrd → Hrd) : (s.modHrd f).twn = s.twn := rfl
@[simp] theorem State.modHrd_arrivals (f : Hrd → Hrd) : (s.modHrd f).arrivals = s.arrivals := rfl
@[simp] theorem State.modHrd_ports (f : Hrd → Hrd) : (s.modHrd f).ports = s.ports := rfl
@[simp] theorem State.modHrd_cls (f : Hrd → Hrd) : (s.modHrd f).cls = s.cls := rfl
@[simp] theorem State.modHrd_hsk (f : Hrd → Hrd) : (s.modHrd f).hsk = s.hsk := rfl
@[simp] theorem State.modHrd_shell (f : Hrd → Hrd) : (s.modHrd f).shell = s.shell := rfl

/-! ### `modDsf` -/

@[simp] theorem State.modDsf_pending (f : Dsf → Dsf) : (s.modDsf f).pending = s.pending := rfl
@[simp] theorem State.modDsf_ticks (f : Dsf → Dsf) : (s.modDsf f).ticks = s.ticks := rfl
@[simp] theorem State.modDsf_fresh (f : Dsf → Dsf) : (s.modDsf f).fresh = s.fresh := rfl
@[simp] theorem State.modDsf_regs (f : Dsf → Dsf) : (s.modDsf f).regs = s.regs := rfl
@[simp] theorem State.modDsf_wide (f : Dsf → Dsf) : (s.modDsf f).wide = s.wide := rfl
@[simp] theorem State.modDsf_evt (f : Dsf → Dsf) : (s.modDsf f).evt = s.evt := rfl
@[simp] theorem State.modDsf_out (f : Dsf → Dsf) : (s.modDsf f).out = s.out := rfl
@[simp] theorem State.modDsf_spi (f : Dsf → Dsf) : (s.modDsf f).spi = s.spi := rfl
@[simp] theorem State.modDsf_guards (f : Dsf → Dsf) : (s.modDsf f).guards = s.guards := rfl
@[simp] theorem State.modDsf_clk (f : Dsf → Dsf) : (s.modDsf f).clk = s.clk := rfl
@[simp] theorem State.modDsf_flt (f : Dsf → Dsf) : (s.modDsf f).flt = s.flt := rfl
@[simp] theorem State.modDsf_boot (f : Dsf → Dsf) : (s.modDsf f).boot = s.boot := rfl
@[simp] theorem State.modDsf_sems (f : Dsf → Dsf) : (s.modDsf f).sems = s.sems := rfl
@[simp] theorem State.modDsf_pwr (f : Dsf → Dsf) : (s.modDsf f).pwr = s.pwr := rfl
@[simp] theorem State.modDsf_pads (f : Dsf → Dsf) : (s.modDsf f).pads = s.pads := rfl
@[simp] theorem State.modDsf_ntm (f : Dsf → Dsf) : (s.modDsf f).ntm = s.ntm := rfl
@[simp] theorem State.modDsf_hrd (f : Dsf → Dsf) : (s.modDsf f).hrd = s.hrd := rfl
@[simp] theorem State.modDsf_arb (f : Dsf → Dsf) : (s.modDsf f).arb = s.arb := rfl
@[simp] theorem State.modDsf_pods (f : Dsf → Dsf) : (s.modDsf f).pods = s.pods := rfl
@[simp] theorem State.modDsf_dsf (f : Dsf → Dsf) : (s.modDsf f).dsf = f s.dsf := rfl
@[simp] theorem State.modDsf_act (f : Dsf → Dsf) : (s.modDsf f).act = s.act := rfl
@[simp] theorem State.modDsf_lsc (f : Dsf → Dsf) : (s.modDsf f).lsc = s.lsc := rfl
@[simp] theorem State.modDsf_usq (f : Dsf → Dsf) : (s.modDsf f).usq = s.usq := rfl
@[simp] theorem State.modDsf_ubt (f : Dsf → Dsf) : (s.modDsf f).ubt = s.ubt := rfl
@[simp] theorem State.modDsf_twn (f : Dsf → Dsf) : (s.modDsf f).twn = s.twn := rfl
@[simp] theorem State.modDsf_arrivals (f : Dsf → Dsf) : (s.modDsf f).arrivals = s.arrivals := rfl
@[simp] theorem State.modDsf_ports (f : Dsf → Dsf) : (s.modDsf f).ports = s.ports := rfl
@[simp] theorem State.modDsf_cls (f : Dsf → Dsf) : (s.modDsf f).cls = s.cls := rfl
@[simp] theorem State.modDsf_hsk (f : Dsf → Dsf) : (s.modDsf f).hsk = s.hsk := rfl
@[simp] theorem State.modDsf_shell (f : Dsf → Dsf) : (s.modDsf f).shell = s.shell := rfl

/-! ### `modAct` -/

@[simp] theorem State.modAct_pending (f : Act → Act) : (s.modAct f).pending = s.pending := rfl
@[simp] theorem State.modAct_ticks (f : Act → Act) : (s.modAct f).ticks = s.ticks := rfl
@[simp] theorem State.modAct_fresh (f : Act → Act) : (s.modAct f).fresh = s.fresh := rfl
@[simp] theorem State.modAct_regs (f : Act → Act) : (s.modAct f).regs = s.regs := rfl
@[simp] theorem State.modAct_wide (f : Act → Act) : (s.modAct f).wide = s.wide := rfl
@[simp] theorem State.modAct_evt (f : Act → Act) : (s.modAct f).evt = s.evt := rfl
@[simp] theorem State.modAct_out (f : Act → Act) : (s.modAct f).out = s.out := rfl
@[simp] theorem State.modAct_spi (f : Act → Act) : (s.modAct f).spi = s.spi := rfl
@[simp] theorem State.modAct_guards (f : Act → Act) : (s.modAct f).guards = s.guards := rfl
@[simp] theorem State.modAct_clk (f : Act → Act) : (s.modAct f).clk = s.clk := rfl
@[simp] theorem State.modAct_flt (f : Act → Act) : (s.modAct f).flt = s.flt := rfl
@[simp] theorem State.modAct_boot (f : Act → Act) : (s.modAct f).boot = s.boot := rfl
@[simp] theorem State.modAct_sems (f : Act → Act) : (s.modAct f).sems = s.sems := rfl
@[simp] theorem State.modAct_pwr (f : Act → Act) : (s.modAct f).pwr = s.pwr := rfl
@[simp] theorem State.modAct_pads (f : Act → Act) : (s.modAct f).pads = s.pads := rfl
@[simp] theorem State.modAct_ntm (f : Act → Act) : (s.modAct f).ntm = s.ntm := rfl
@[simp] theorem State.modAct_hrd (f : Act → Act) : (s.modAct f).hrd = s.hrd := rfl
@[simp] theorem State.modAct_arb (f : Act → Act) : (s.modAct f).arb = s.arb := rfl
@[simp] theorem State.modAct_pods (f : Act → Act) : (s.modAct f).pods = s.pods := rfl
@[simp] theorem State.modAct_dsf (f : Act → Act) : (s.modAct f).dsf = s.dsf := rfl
@[simp] theorem State.modAct_act (f : Act → Act) : (s.modAct f).act = f s.act := rfl
@[simp] theorem State.modAct_lsc (f : Act → Act) : (s.modAct f).lsc = s.lsc := rfl
@[simp] theorem State.modAct_usq (f : Act → Act) : (s.modAct f).usq = s.usq := rfl
@[simp] theorem State.modAct_ubt (f : Act → Act) : (s.modAct f).ubt = s.ubt := rfl
@[simp] theorem State.modAct_twn (f : Act → Act) : (s.modAct f).twn = s.twn := rfl
@[simp] theorem State.modAct_arrivals (f : Act → Act) : (s.modAct f).arrivals = s.arrivals := rfl
@[simp] theorem State.modAct_ports (f : Act → Act) : (s.modAct f).ports = s.ports := rfl
@[simp] theorem State.modAct_cls (f : Act → Act) : (s.modAct f).cls = s.cls := rfl
@[simp] theorem State.modAct_hsk (f : Act → Act) : (s.modAct f).hsk = s.hsk := rfl
@[simp] theorem State.modAct_shell (f : Act → Act) : (s.modAct f).shell = s.shell := rfl

/-! ### `modLsc` -/

@[simp] theorem State.modLsc_pending (f : Lsc → Lsc) : (s.modLsc f).pending = s.pending := rfl
@[simp] theorem State.modLsc_ticks (f : Lsc → Lsc) : (s.modLsc f).ticks = s.ticks := rfl
@[simp] theorem State.modLsc_fresh (f : Lsc → Lsc) : (s.modLsc f).fresh = s.fresh := rfl
@[simp] theorem State.modLsc_regs (f : Lsc → Lsc) : (s.modLsc f).regs = s.regs := rfl
@[simp] theorem State.modLsc_wide (f : Lsc → Lsc) : (s.modLsc f).wide = s.wide := rfl
@[simp] theorem State.modLsc_evt (f : Lsc → Lsc) : (s.modLsc f).evt = s.evt := rfl
@[simp] theorem State.modLsc_out (f : Lsc → Lsc) : (s.modLsc f).out = s.out := rfl
@[simp] theorem State.modLsc_spi (f : Lsc → Lsc) : (s.modLsc f).spi = s.spi := rfl
@[simp] theorem State.modLsc_guards (f : Lsc → Lsc) : (s.modLsc f).guards = s.guards := rfl
@[simp] theorem State.modLsc_clk (f : Lsc → Lsc) : (s.modLsc f).clk = s.clk := rfl
@[simp] theorem State.modLsc_flt (f : Lsc → Lsc) : (s.modLsc f).flt = s.flt := rfl
@[simp] theorem State.modLsc_boot (f : Lsc → Lsc) : (s.modLsc f).boot = s.boot := rfl
@[simp] theorem State.modLsc_sems (f : Lsc → Lsc) : (s.modLsc f).sems = s.sems := rfl
@[simp] theorem State.modLsc_pwr (f : Lsc → Lsc) : (s.modLsc f).pwr = s.pwr := rfl
@[simp] theorem State.modLsc_pads (f : Lsc → Lsc) : (s.modLsc f).pads = s.pads := rfl
@[simp] theorem State.modLsc_ntm (f : Lsc → Lsc) : (s.modLsc f).ntm = s.ntm := rfl
@[simp] theorem State.modLsc_hrd (f : Lsc → Lsc) : (s.modLsc f).hrd = s.hrd := rfl
@[simp] theorem State.modLsc_arb (f : Lsc → Lsc) : (s.modLsc f).arb = s.arb := rfl
@[simp] theorem State.modLsc_pods (f : Lsc → Lsc) : (s.modLsc f).pods = s.pods := rfl
@[simp] theorem State.modLsc_dsf (f : Lsc → Lsc) : (s.modLsc f).dsf = s.dsf := rfl
@[simp] theorem State.modLsc_act (f : Lsc → Lsc) : (s.modLsc f).act = s.act := rfl
@[simp] theorem State.modLsc_lsc (f : Lsc → Lsc) : (s.modLsc f).lsc = f s.lsc := rfl
@[simp] theorem State.modLsc_usq (f : Lsc → Lsc) : (s.modLsc f).usq = s.usq := rfl
@[simp] theorem State.modLsc_ubt (f : Lsc → Lsc) : (s.modLsc f).ubt = s.ubt := rfl
@[simp] theorem State.modLsc_twn (f : Lsc → Lsc) : (s.modLsc f).twn = s.twn := rfl
@[simp] theorem State.modLsc_arrivals (f : Lsc → Lsc) : (s.modLsc f).arrivals = s.arrivals := rfl
@[simp] theorem State.modLsc_ports (f : Lsc → Lsc) : (s.modLsc f).ports = s.ports := rfl
@[simp] theorem State.modLsc_cls (f : Lsc → Lsc) : (s.modLsc f).cls = s.cls := rfl
@[simp] theorem State.modLsc_hsk (f : Lsc → Lsc) : (s.modLsc f).hsk = s.hsk := rfl
@[simp] theorem State.modLsc_shell (f : Lsc → Lsc) : (s.modLsc f).shell = s.shell := rfl

/-! ### `modUsq` -/

@[simp] theorem State.modUsq_pending (f : Usq → Usq) : (s.modUsq f).pending = s.pending := rfl
@[simp] theorem State.modUsq_ticks (f : Usq → Usq) : (s.modUsq f).ticks = s.ticks := rfl
@[simp] theorem State.modUsq_fresh (f : Usq → Usq) : (s.modUsq f).fresh = s.fresh := rfl
@[simp] theorem State.modUsq_regs (f : Usq → Usq) : (s.modUsq f).regs = s.regs := rfl
@[simp] theorem State.modUsq_wide (f : Usq → Usq) : (s.modUsq f).wide = s.wide := rfl
@[simp] theorem State.modUsq_evt (f : Usq → Usq) : (s.modUsq f).evt = s.evt := rfl
@[simp] theorem State.modUsq_out (f : Usq → Usq) : (s.modUsq f).out = s.out := rfl
@[simp] theorem State.modUsq_spi (f : Usq → Usq) : (s.modUsq f).spi = s.spi := rfl
@[simp] theorem State.modUsq_guards (f : Usq → Usq) : (s.modUsq f).guards = s.guards := rfl
@[simp] theorem State.modUsq_clk (f : Usq → Usq) : (s.modUsq f).clk = s.clk := rfl
@[simp] theorem State.modUsq_flt (f : Usq → Usq) : (s.modUsq f).flt = s.flt := rfl
@[simp] theorem State.modUsq_boot (f : Usq → Usq) : (s.modUsq f).boot = s.boot := rfl
@[simp] theorem State.modUsq_sems (f : Usq → Usq) : (s.modUsq f).sems = s.sems := rfl
@[simp] theorem State.modUsq_pwr (f : Usq → Usq) : (s.modUsq f).pwr = s.pwr := rfl
@[simp] theorem State.modUsq_pads (f : Usq → Usq) : (s.modUsq f).pads = s.pads := rfl
@[simp] theorem State.modUsq_ntm (f : Usq → Usq) : (s.modUsq f).ntm = s.ntm := rfl
@[simp] theorem State.modUsq_hrd (f : Usq → Usq) : (s.modUsq f).hrd = s.hrd := rfl
@[simp] theorem State.modUsq_arb (f : Usq → Usq) : (s.modUsq f).arb = s.arb := rfl
@[simp] theorem State.modUsq_pods (f : Usq → Usq) : (s.modUsq f).pods = s.pods := rfl
@[simp] theorem State.modUsq_dsf (f : Usq → Usq) : (s.modUsq f).dsf = s.dsf := rfl
@[simp] theorem State.modUsq_act (f : Usq → Usq) : (s.modUsq f).act = s.act := rfl
@[simp] theorem State.modUsq_lsc (f : Usq → Usq) : (s.modUsq f).lsc = s.lsc := rfl
@[simp] theorem State.modUsq_usq (f : Usq → Usq) : (s.modUsq f).usq = f s.usq := rfl
@[simp] theorem State.modUsq_ubt (f : Usq → Usq) : (s.modUsq f).ubt = s.ubt := rfl
@[simp] theorem State.modUsq_twn (f : Usq → Usq) : (s.modUsq f).twn = s.twn := rfl
@[simp] theorem State.modUsq_arrivals (f : Usq → Usq) : (s.modUsq f).arrivals = s.arrivals := rfl
@[simp] theorem State.modUsq_ports (f : Usq → Usq) : (s.modUsq f).ports = s.ports := rfl
@[simp] theorem State.modUsq_cls (f : Usq → Usq) : (s.modUsq f).cls = s.cls := rfl
@[simp] theorem State.modUsq_hsk (f : Usq → Usq) : (s.modUsq f).hsk = s.hsk := rfl
@[simp] theorem State.modUsq_shell (f : Usq → Usq) : (s.modUsq f).shell = s.shell := rfl

/-! ### `modCls` -/

@[simp] theorem State.modCls_pending (f : Cls → Cls) : (s.modCls f).pending = s.pending := rfl
@[simp] theorem State.modCls_ticks (f : Cls → Cls) : (s.modCls f).ticks = s.ticks := rfl
@[simp] theorem State.modCls_fresh (f : Cls → Cls) : (s.modCls f).fresh = s.fresh := rfl
@[simp] theorem State.modCls_regs (f : Cls → Cls) : (s.modCls f).regs = s.regs := rfl
@[simp] theorem State.modCls_wide (f : Cls → Cls) : (s.modCls f).wide = s.wide := rfl
@[simp] theorem State.modCls_evt (f : Cls → Cls) : (s.modCls f).evt = s.evt := rfl
@[simp] theorem State.modCls_out (f : Cls → Cls) : (s.modCls f).out = s.out := rfl
@[simp] theorem State.modCls_spi (f : Cls → Cls) : (s.modCls f).spi = s.spi := rfl
@[simp] theorem State.modCls_guards (f : Cls → Cls) : (s.modCls f).guards = s.guards := rfl
@[simp] theorem State.modCls_clk (f : Cls → Cls) : (s.modCls f).clk = s.clk := rfl
@[simp] theorem State.modCls_flt (f : Cls → Cls) : (s.modCls f).flt = s.flt := rfl
@[simp] theorem State.modCls_boot (f : Cls → Cls) : (s.modCls f).boot = s.boot := rfl
@[simp] theorem State.modCls_sems (f : Cls → Cls) : (s.modCls f).sems = s.sems := rfl
@[simp] theorem State.modCls_pwr (f : Cls → Cls) : (s.modCls f).pwr = s.pwr := rfl
@[simp] theorem State.modCls_pads (f : Cls → Cls) : (s.modCls f).pads = s.pads := rfl
@[simp] theorem State.modCls_ntm (f : Cls → Cls) : (s.modCls f).ntm = s.ntm := rfl
@[simp] theorem State.modCls_hrd (f : Cls → Cls) : (s.modCls f).hrd = s.hrd := rfl
@[simp] theorem State.modCls_arb (f : Cls → Cls) : (s.modCls f).arb = s.arb := rfl
@[simp] theorem State.modCls_pods (f : Cls → Cls) : (s.modCls f).pods = s.pods := rfl
@[simp] theorem State.modCls_dsf (f : Cls → Cls) : (s.modCls f).dsf = s.dsf := rfl
@[simp] theorem State.modCls_act (f : Cls → Cls) : (s.modCls f).act = s.act := rfl
@[simp] theorem State.modCls_lsc (f : Cls → Cls) : (s.modCls f).lsc = s.lsc := rfl
@[simp] theorem State.modCls_usq (f : Cls → Cls) : (s.modCls f).usq = s.usq := rfl
@[simp] theorem State.modCls_ubt (f : Cls → Cls) : (s.modCls f).ubt = s.ubt := rfl
@[simp] theorem State.modCls_twn (f : Cls → Cls) : (s.modCls f).twn = s.twn := rfl
@[simp] theorem State.modCls_arrivals (f : Cls → Cls) : (s.modCls f).arrivals = s.arrivals := rfl
@[simp] theorem State.modCls_ports (f : Cls → Cls) : (s.modCls f).ports = s.ports := rfl
@[simp] theorem State.modCls_cls (f : Cls → Cls) : (s.modCls f).cls = f s.cls := rfl
@[simp] theorem State.modCls_hsk (f : Cls → Cls) : (s.modCls f).hsk = s.hsk := rfl
@[simp] theorem State.modCls_shell (f : Cls → Cls) : (s.modCls f).shell = s.shell := rfl

/-! ### `modTwn` -/

@[simp] theorem State.modTwn_pending (f : Twn → Twn) : (s.modTwn f).pending = s.pending := rfl
@[simp] theorem State.modTwn_ticks (f : Twn → Twn) : (s.modTwn f).ticks = s.ticks := rfl
@[simp] theorem State.modTwn_fresh (f : Twn → Twn) : (s.modTwn f).fresh = s.fresh := rfl
@[simp] theorem State.modTwn_regs (f : Twn → Twn) : (s.modTwn f).regs = s.regs := rfl
@[simp] theorem State.modTwn_wide (f : Twn → Twn) : (s.modTwn f).wide = s.wide := rfl
@[simp] theorem State.modTwn_evt (f : Twn → Twn) : (s.modTwn f).evt = s.evt := rfl
@[simp] theorem State.modTwn_out (f : Twn → Twn) : (s.modTwn f).out = s.out := rfl
@[simp] theorem State.modTwn_spi (f : Twn → Twn) : (s.modTwn f).spi = s.spi := rfl
@[simp] theorem State.modTwn_guards (f : Twn → Twn) : (s.modTwn f).guards = s.guards := rfl
@[simp] theorem State.modTwn_clk (f : Twn → Twn) : (s.modTwn f).clk = s.clk := rfl
@[simp] theorem State.modTwn_flt (f : Twn → Twn) : (s.modTwn f).flt = s.flt := rfl
@[simp] theorem State.modTwn_boot (f : Twn → Twn) : (s.modTwn f).boot = s.boot := rfl
@[simp] theorem State.modTwn_sems (f : Twn → Twn) : (s.modTwn f).sems = s.sems := rfl
@[simp] theorem State.modTwn_pwr (f : Twn → Twn) : (s.modTwn f).pwr = s.pwr := rfl
@[simp] theorem State.modTwn_pads (f : Twn → Twn) : (s.modTwn f).pads = s.pads := rfl
@[simp] theorem State.modTwn_ntm (f : Twn → Twn) : (s.modTwn f).ntm = s.ntm := rfl
@[simp] theorem State.modTwn_hrd (f : Twn → Twn) : (s.modTwn f).hrd = s.hrd := rfl
@[simp] theorem State.modTwn_arb (f : Twn → Twn) : (s.modTwn f).arb = s.arb := rfl
@[simp] theorem State.modTwn_pods (f : Twn → Twn) : (s.modTwn f).pods = s.pods := rfl
@[simp] theorem State.modTwn_dsf (f : Twn → Twn) : (s.modTwn f).dsf = s.dsf := rfl
@[simp] theorem State.modTwn_act (f : Twn → Twn) : (s.modTwn f).act = s.act := rfl
@[simp] theorem State.modTwn_lsc (f : Twn → Twn) : (s.modTwn f).lsc = s.lsc := rfl
@[simp] theorem State.modTwn_usq (f : Twn → Twn) : (s.modTwn f).usq = s.usq := rfl
@[simp] theorem State.modTwn_ubt (f : Twn → Twn) : (s.modTwn f).ubt = s.ubt := rfl
@[simp] theorem State.modTwn_twn (f : Twn → Twn) : (s.modTwn f).twn = f s.twn := rfl
@[simp] theorem State.modTwn_arrivals (f : Twn → Twn) : (s.modTwn f).arrivals = s.arrivals := rfl
@[simp] theorem State.modTwn_ports (f : Twn → Twn) : (s.modTwn f).ports = s.ports := rfl
@[simp] theorem State.modTwn_cls (f : Twn → Twn) : (s.modTwn f).cls = s.cls := rfl
@[simp] theorem State.modTwn_hsk (f : Twn → Twn) : (s.modTwn f).hsk = s.hsk := rfl
@[simp] theorem State.modTwn_shell (f : Twn → Twn) : (s.modTwn f).shell = s.shell := rfl

/-! ### `modHsk` -/

@[simp] theorem State.modHsk_pending (f : Hsk → Hsk) : (s.modHsk f).pending = s.pending := rfl
@[simp] theorem State.modHsk_ticks (f : Hsk → Hsk) : (s.modHsk f).ticks = s.ticks := rfl
@[simp] theorem State.modHsk_fresh (f : Hsk → Hsk) : (s.modHsk f).fresh = s.fresh := rfl
@[simp] theorem State.modHsk_regs (f : Hsk → Hsk) : (s.modHsk f).regs = s.regs := rfl
@[simp] theorem State.modHsk_wide (f : Hsk → Hsk) : (s.modHsk f).wide = s.wide := rfl
@[simp] theorem State.modHsk_evt (f : Hsk → Hsk) : (s.modHsk f).evt = s.evt := rfl
@[simp] theorem State.modHsk_out (f : Hsk → Hsk) : (s.modHsk f).out = s.out := rfl
@[simp] theorem State.modHsk_spi (f : Hsk → Hsk) : (s.modHsk f).spi = s.spi := rfl
@[simp] theorem State.modHsk_guards (f : Hsk → Hsk) : (s.modHsk f).guards = s.guards := rfl
@[simp] theorem State.modHsk_clk (f : Hsk → Hsk) : (s.modHsk f).clk = s.clk := rfl
@[simp] theorem State.modHsk_flt (f : Hsk → Hsk) : (s.modHsk f).flt = s.flt := rfl
@[simp] theorem State.modHsk_boot (f : Hsk → Hsk) : (s.modHsk f).boot = s.boot := rfl
@[simp] theorem State.modHsk_sems (f : Hsk → Hsk) : (s.modHsk f).sems = s.sems := rfl
@[simp] theorem State.modHsk_pwr (f : Hsk → Hsk) : (s.modHsk f).pwr = s.pwr := rfl
@[simp] theorem State.modHsk_pads (f : Hsk → Hsk) : (s.modHsk f).pads = s.pads := rfl
@[simp] theorem State.modHsk_ntm (f : Hsk → Hsk) : (s.modHsk f).ntm = s.ntm := rfl
@[simp] theorem State.modHsk_hrd (f : Hsk → Hsk) : (s.modHsk f).hrd = s.hrd := rfl
@[simp] theorem State.modHsk_arb (f : Hsk → Hsk) : (s.modHsk f).arb = s.arb := rfl
@[simp] theorem State.modHsk_pods (f : Hsk → Hsk) : (s.modHsk f).pods = s.pods := rfl
@[simp] theorem State.modHsk_dsf (f : Hsk → Hsk) : (s.modHsk f).dsf = s.dsf := rfl
@[simp] theorem State.modHsk_act (f : Hsk → Hsk) : (s.modHsk f).act = s.act := rfl
@[simp] theorem State.modHsk_lsc (f : Hsk → Hsk) : (s.modHsk f).lsc = s.lsc := rfl
@[simp] theorem State.modHsk_usq (f : Hsk → Hsk) : (s.modHsk f).usq = s.usq := rfl
@[simp] theorem State.modHsk_ubt (f : Hsk → Hsk) : (s.modHsk f).ubt = s.ubt := rfl
@[simp] theorem State.modHsk_twn (f : Hsk → Hsk) : (s.modHsk f).twn = s.twn := rfl
@[simp] theorem State.modHsk_arrivals (f : Hsk → Hsk) : (s.modHsk f).arrivals = s.arrivals := rfl
@[simp] theorem State.modHsk_ports (f : Hsk → Hsk) : (s.modHsk f).ports = s.ports := rfl
@[simp] theorem State.modHsk_cls (f : Hsk → Hsk) : (s.modHsk f).cls = s.cls := rfl
@[simp] theorem State.modHsk_hsk (f : Hsk → Hsk) : (s.modHsk f).hsk = f s.hsk := rfl
@[simp] theorem State.modHsk_shell (f : Hsk → Hsk) : (s.modHsk f).shell = s.shell := rfl

/-! ### `modShell` -/

@[simp] theorem State.modShell_pending (f : Shell → Shell) : (s.modShell f).pending = s.pending := rfl
@[simp] theorem State.modShell_ticks (f : Shell → Shell) : (s.modShell f).ticks = s.ticks := rfl
@[simp] theorem State.modShell_fresh (f : Shell → Shell) : (s.modShell f).fresh = s.fresh := rfl
@[simp] theorem State.modShell_regs (f : Shell → Shell) : (s.modShell f).regs = s.regs := rfl
@[simp] theorem State.modShell_wide (f : Shell → Shell) : (s.modShell f).wide = s.wide := rfl
@[simp] theorem State.modShell_evt (f : Shell → Shell) : (s.modShell f).evt = s.evt := rfl
@[simp] theorem State.modShell_out (f : Shell → Shell) : (s.modShell f).out = s.out := rfl
@[simp] theorem State.modShell_spi (f : Shell → Shell) : (s.modShell f).spi = s.spi := rfl
@[simp] theorem State.modShell_guards (f : Shell → Shell) : (s.modShell f).guards = s.guards := rfl
@[simp] theorem State.modShell_clk (f : Shell → Shell) : (s.modShell f).clk = s.clk := rfl
@[simp] theorem State.modShell_flt (f : Shell → Shell) : (s.modShell f).flt = s.flt := rfl
@[simp] theorem State.modShell_boot (f : Shell → Shell) : (s.modShell f).boot = s.boot := rfl
@[simp] theorem State.modShell_sems (f : Shell → Shell) : (s.modShell f).sems = s.sems := rfl
@[simp] theorem State.modShell_pwr (f : Shell → Shell) : (s.modShell f).pwr = s.pwr := rfl
@[simp] theorem State.modShell_pads (f : Shell → Shell) : (s.modShell f).pads = s.pads := rfl
@[simp] theorem State.modShell_ntm (f : Shell → Shell) : (s.modShell f).ntm = s.ntm := rfl
@[simp] theorem State.modShell_hrd (f : Shell → Shell) : (s.modShell f).hrd = s.hrd := rfl
@[simp] theorem State.modShell_arb (f : Shell → Shell) : (s.modShell f).arb = s.arb := rfl
@[simp] theorem State.modShell_pods (f : Shell → Shell) : (s.modShell f).pods = s.pods := rfl
@[simp] theorem State.modShell_dsf (f : Shell → Shell) : (s.modShell f).dsf = s.dsf := rfl
@[simp] theorem State.modShell_act (f : Shell → Shell) : (s.modShell f).act = s.act := rfl
@[simp] theorem State.modShell_lsc (f : Shell → Shell) : (s.modShell f).lsc = s.lsc := rfl
@[simp] theorem State.modShell_usq (f : Shell → Shell) : (s.modShell f).usq = s.usq := rfl
@[simp] theorem State.modShell_ubt (f : Shell → Shell) : (s.modShell f).ubt = s.ubt := rfl
@[simp] theorem State.modShell_twn (f : Shell → Shell) : (s.modShell f).twn = s.twn := rfl
@[simp] theorem State.modShell_arrivals (f : Shell → Shell) : (s.modShell f).arrivals = s.arrivals := rfl
@[simp] theorem State.modShell_ports (f : Shell → Shell) : (s.modShell f).ports = s.ports := rfl
@[simp] theorem State.modShell_cls (f : Shell → Shell) : (s.modShell f).cls = s.cls := rfl
@[simp] theorem State.modShell_hsk (f : Shell → Shell) : (s.modShell f).hsk = s.hsk := rfl
@[simp] theorem State.modShell_shell (f : Shell → Shell) : (s.modShell f).shell = f s.shell := rfl

/-! ### `modLease` -/

@[simp] theorem State.modLease_pending (f : TwnLease → TwnLease) : (s.modLease f).pending = s.pending := rfl
@[simp] theorem State.modLease_ticks (f : TwnLease → TwnLease) : (s.modLease f).ticks = s.ticks := rfl
@[simp] theorem State.modLease_fresh (f : TwnLease → TwnLease) : (s.modLease f).fresh = s.fresh := rfl
@[simp] theorem State.modLease_regs (f : TwnLease → TwnLease) : (s.modLease f).regs = s.regs := rfl
@[simp] theorem State.modLease_wide (f : TwnLease → TwnLease) : (s.modLease f).wide = s.wide := rfl
@[simp] theorem State.modLease_evt (f : TwnLease → TwnLease) : (s.modLease f).evt = s.evt := rfl
@[simp] theorem State.modLease_out (f : TwnLease → TwnLease) : (s.modLease f).out = s.out := rfl
@[simp] theorem State.modLease_spi (f : TwnLease → TwnLease) : (s.modLease f).spi = s.spi := rfl
@[simp] theorem State.modLease_guards (f : TwnLease → TwnLease) : (s.modLease f).guards = s.guards := rfl
@[simp] theorem State.modLease_clk (f : TwnLease → TwnLease) : (s.modLease f).clk = s.clk := rfl
@[simp] theorem State.modLease_flt (f : TwnLease → TwnLease) : (s.modLease f).flt = s.flt := rfl
@[simp] theorem State.modLease_boot (f : TwnLease → TwnLease) : (s.modLease f).boot = s.boot := rfl
@[simp] theorem State.modLease_sems (f : TwnLease → TwnLease) : (s.modLease f).sems = s.sems := rfl
@[simp] theorem State.modLease_pwr (f : TwnLease → TwnLease) : (s.modLease f).pwr = s.pwr := rfl
@[simp] theorem State.modLease_pads (f : TwnLease → TwnLease) : (s.modLease f).pads = s.pads := rfl
@[simp] theorem State.modLease_ntm (f : TwnLease → TwnLease) : (s.modLease f).ntm = s.ntm := rfl
@[simp] theorem State.modLease_hrd (f : TwnLease → TwnLease) : (s.modLease f).hrd = s.hrd := rfl
@[simp] theorem State.modLease_arb (f : TwnLease → TwnLease) : (s.modLease f).arb = s.arb := rfl
@[simp] theorem State.modLease_pods (f : TwnLease → TwnLease) : (s.modLease f).pods = s.pods := rfl
@[simp] theorem State.modLease_dsf (f : TwnLease → TwnLease) : (s.modLease f).dsf = s.dsf := rfl
@[simp] theorem State.modLease_act (f : TwnLease → TwnLease) : (s.modLease f).act = s.act := rfl
@[simp] theorem State.modLease_lsc (f : TwnLease → TwnLease) : (s.modLease f).lsc = s.lsc := rfl
@[simp] theorem State.modLease_usq (f : TwnLease → TwnLease) : (s.modLease f).usq = s.usq := rfl
@[simp] theorem State.modLease_ubt (f : TwnLease → TwnLease) : (s.modLease f).ubt = s.ubt := rfl
@[simp] theorem State.modLease_twn (f : TwnLease → TwnLease) : (s.modLease f).twn = { s.twn with lease := f s.twn.lease } := rfl
@[simp] theorem State.modLease_arrivals (f : TwnLease → TwnLease) : (s.modLease f).arrivals = s.arrivals := rfl
@[simp] theorem State.modLease_ports (f : TwnLease → TwnLease) : (s.modLease f).ports = s.ports := rfl
@[simp] theorem State.modLease_cls (f : TwnLease → TwnLease) : (s.modLease f).cls = s.cls := rfl
@[simp] theorem State.modLease_hsk (f : TwnLease → TwnLease) : (s.modLease f).hsk = s.hsk := rfl
@[simp] theorem State.modLease_shell (f : TwnLease → TwnLease) : (s.modLease f).shell = s.shell := rfl

/-! ### `modPeer` -/

@[simp] theorem State.modPeer_pending (f : TwnPeer → TwnPeer) : (s.modPeer f).pending = s.pending := rfl
@[simp] theorem State.modPeer_ticks (f : TwnPeer → TwnPeer) : (s.modPeer f).ticks = s.ticks := rfl
@[simp] theorem State.modPeer_fresh (f : TwnPeer → TwnPeer) : (s.modPeer f).fresh = s.fresh := rfl
@[simp] theorem State.modPeer_regs (f : TwnPeer → TwnPeer) : (s.modPeer f).regs = s.regs := rfl
@[simp] theorem State.modPeer_wide (f : TwnPeer → TwnPeer) : (s.modPeer f).wide = s.wide := rfl
@[simp] theorem State.modPeer_evt (f : TwnPeer → TwnPeer) : (s.modPeer f).evt = s.evt := rfl
@[simp] theorem State.modPeer_out (f : TwnPeer → TwnPeer) : (s.modPeer f).out = s.out := rfl
@[simp] theorem State.modPeer_spi (f : TwnPeer → TwnPeer) : (s.modPeer f).spi = s.spi := rfl
@[simp] theorem State.modPeer_guards (f : TwnPeer → TwnPeer) : (s.modPeer f).guards = s.guards := rfl
@[simp] theorem State.modPeer_clk (f : TwnPeer → TwnPeer) : (s.modPeer f).clk = s.clk := rfl
@[simp] theorem State.modPeer_flt (f : TwnPeer → TwnPeer) : (s.modPeer f).flt = s.flt := rfl
@[simp] theorem State.modPeer_boot (f : TwnPeer → TwnPeer) : (s.modPeer f).boot = s.boot := rfl
@[simp] theorem State.modPeer_sems (f : TwnPeer → TwnPeer) : (s.modPeer f).sems = s.sems := rfl
@[simp] theorem State.modPeer_pwr (f : TwnPeer → TwnPeer) : (s.modPeer f).pwr = s.pwr := rfl
@[simp] theorem State.modPeer_pads (f : TwnPeer → TwnPeer) : (s.modPeer f).pads = s.pads := rfl
@[simp] theorem State.modPeer_ntm (f : TwnPeer → TwnPeer) : (s.modPeer f).ntm = s.ntm := rfl
@[simp] theorem State.modPeer_hrd (f : TwnPeer → TwnPeer) : (s.modPeer f).hrd = s.hrd := rfl
@[simp] theorem State.modPeer_arb (f : TwnPeer → TwnPeer) : (s.modPeer f).arb = s.arb := rfl
@[simp] theorem State.modPeer_pods (f : TwnPeer → TwnPeer) : (s.modPeer f).pods = s.pods := rfl
@[simp] theorem State.modPeer_dsf (f : TwnPeer → TwnPeer) : (s.modPeer f).dsf = s.dsf := rfl
@[simp] theorem State.modPeer_act (f : TwnPeer → TwnPeer) : (s.modPeer f).act = s.act := rfl
@[simp] theorem State.modPeer_lsc (f : TwnPeer → TwnPeer) : (s.modPeer f).lsc = s.lsc := rfl
@[simp] theorem State.modPeer_usq (f : TwnPeer → TwnPeer) : (s.modPeer f).usq = s.usq := rfl
@[simp] theorem State.modPeer_ubt (f : TwnPeer → TwnPeer) : (s.modPeer f).ubt = s.ubt := rfl
@[simp] theorem State.modPeer_twn (f : TwnPeer → TwnPeer) : (s.modPeer f).twn = { s.twn with peer := f s.twn.peer } := rfl
@[simp] theorem State.modPeer_arrivals (f : TwnPeer → TwnPeer) : (s.modPeer f).arrivals = s.arrivals := rfl
@[simp] theorem State.modPeer_ports (f : TwnPeer → TwnPeer) : (s.modPeer f).ports = s.ports := rfl
@[simp] theorem State.modPeer_cls (f : TwnPeer → TwnPeer) : (s.modPeer f).cls = s.cls := rfl
@[simp] theorem State.modPeer_hsk (f : TwnPeer → TwnPeer) : (s.modPeer f).hsk = s.hsk := rfl
@[simp] theorem State.modPeer_shell (f : TwnPeer → TwnPeer) : (s.modPeer f).shell = s.shell := rfl

/-! ### `modMir` -/

@[simp] theorem State.modMir_pending (f : TwnMirror → TwnMirror) : (s.modMir f).pending = s.pending := rfl
@[simp] theorem State.modMir_ticks (f : TwnMirror → TwnMirror) : (s.modMir f).ticks = s.ticks := rfl
@[simp] theorem State.modMir_fresh (f : TwnMirror → TwnMirror) : (s.modMir f).fresh = s.fresh := rfl
@[simp] theorem State.modMir_regs (f : TwnMirror → TwnMirror) : (s.modMir f).regs = s.regs := rfl
@[simp] theorem State.modMir_wide (f : TwnMirror → TwnMirror) : (s.modMir f).wide = s.wide := rfl
@[simp] theorem State.modMir_evt (f : TwnMirror → TwnMirror) : (s.modMir f).evt = s.evt := rfl
@[simp] theorem State.modMir_out (f : TwnMirror → TwnMirror) : (s.modMir f).out = s.out := rfl
@[simp] theorem State.modMir_spi (f : TwnMirror → TwnMirror) : (s.modMir f).spi = s.spi := rfl
@[simp] theorem State.modMir_guards (f : TwnMirror → TwnMirror) : (s.modMir f).guards = s.guards := rfl
@[simp] theorem State.modMir_clk (f : TwnMirror → TwnMirror) : (s.modMir f).clk = s.clk := rfl
@[simp] theorem State.modMir_flt (f : TwnMirror → TwnMirror) : (s.modMir f).flt = s.flt := rfl
@[simp] theorem State.modMir_boot (f : TwnMirror → TwnMirror) : (s.modMir f).boot = s.boot := rfl
@[simp] theorem State.modMir_sems (f : TwnMirror → TwnMirror) : (s.modMir f).sems = s.sems := rfl
@[simp] theorem State.modMir_pwr (f : TwnMirror → TwnMirror) : (s.modMir f).pwr = s.pwr := rfl
@[simp] theorem State.modMir_pads (f : TwnMirror → TwnMirror) : (s.modMir f).pads = s.pads := rfl
@[simp] theorem State.modMir_ntm (f : TwnMirror → TwnMirror) : (s.modMir f).ntm = s.ntm := rfl
@[simp] theorem State.modMir_hrd (f : TwnMirror → TwnMirror) : (s.modMir f).hrd = s.hrd := rfl
@[simp] theorem State.modMir_arb (f : TwnMirror → TwnMirror) : (s.modMir f).arb = s.arb := rfl
@[simp] theorem State.modMir_pods (f : TwnMirror → TwnMirror) : (s.modMir f).pods = s.pods := rfl
@[simp] theorem State.modMir_dsf (f : TwnMirror → TwnMirror) : (s.modMir f).dsf = s.dsf := rfl
@[simp] theorem State.modMir_act (f : TwnMirror → TwnMirror) : (s.modMir f).act = s.act := rfl
@[simp] theorem State.modMir_lsc (f : TwnMirror → TwnMirror) : (s.modMir f).lsc = s.lsc := rfl
@[simp] theorem State.modMir_usq (f : TwnMirror → TwnMirror) : (s.modMir f).usq = s.usq := rfl
@[simp] theorem State.modMir_ubt (f : TwnMirror → TwnMirror) : (s.modMir f).ubt = s.ubt := rfl
@[simp] theorem State.modMir_twn (f : TwnMirror → TwnMirror) : (s.modMir f).twn = { s.twn with mir := f s.twn.mir } := rfl
@[simp] theorem State.modMir_arrivals (f : TwnMirror → TwnMirror) : (s.modMir f).arrivals = s.arrivals := rfl
@[simp] theorem State.modMir_ports (f : TwnMirror → TwnMirror) : (s.modMir f).ports = s.ports := rfl
@[simp] theorem State.modMir_cls (f : TwnMirror → TwnMirror) : (s.modMir f).cls = s.cls := rfl
@[simp] theorem State.modMir_hsk (f : TwnMirror → TwnMirror) : (s.modMir f).hsk = s.hsk := rfl
@[simp] theorem State.modMir_shell (f : TwnMirror → TwnMirror) : (s.modMir f).shell = s.shell := rfl

/-! ### `modLinkT` -/

@[simp] theorem State.modLinkT_pending (f : TwnLink → TwnLink) : (s.modLinkT f).pending = s.pending := rfl
@[simp] theorem State.modLinkT_ticks (f : TwnLink → TwnLink) : (s.modLinkT f).ticks = s.ticks := rfl
@[simp] theorem State.modLinkT_fresh (f : TwnLink → TwnLink) : (s.modLinkT f).fresh = s.fresh := rfl
@[simp] theorem State.modLinkT_regs (f : TwnLink → TwnLink) : (s.modLinkT f).regs = s.regs := rfl
@[simp] theorem State.modLinkT_wide (f : TwnLink → TwnLink) : (s.modLinkT f).wide = s.wide := rfl
@[simp] theorem State.modLinkT_evt (f : TwnLink → TwnLink) : (s.modLinkT f).evt = s.evt := rfl
@[simp] theorem State.modLinkT_out (f : TwnLink → TwnLink) : (s.modLinkT f).out = s.out := rfl
@[simp] theorem State.modLinkT_spi (f : TwnLink → TwnLink) : (s.modLinkT f).spi = s.spi := rfl
@[simp] theorem State.modLinkT_guards (f : TwnLink → TwnLink) : (s.modLinkT f).guards = s.guards := rfl
@[simp] theorem State.modLinkT_clk (f : TwnLink → TwnLink) : (s.modLinkT f).clk = s.clk := rfl
@[simp] theorem State.modLinkT_flt (f : TwnLink → TwnLink) : (s.modLinkT f).flt = s.flt := rfl
@[simp] theorem State.modLinkT_boot (f : TwnLink → TwnLink) : (s.modLinkT f).boot = s.boot := rfl
@[simp] theorem State.modLinkT_sems (f : TwnLink → TwnLink) : (s.modLinkT f).sems = s.sems := rfl
@[simp] theorem State.modLinkT_pwr (f : TwnLink → TwnLink) : (s.modLinkT f).pwr = s.pwr := rfl
@[simp] theorem State.modLinkT_pads (f : TwnLink → TwnLink) : (s.modLinkT f).pads = s.pads := rfl
@[simp] theorem State.modLinkT_ntm (f : TwnLink → TwnLink) : (s.modLinkT f).ntm = s.ntm := rfl
@[simp] theorem State.modLinkT_hrd (f : TwnLink → TwnLink) : (s.modLinkT f).hrd = s.hrd := rfl
@[simp] theorem State.modLinkT_arb (f : TwnLink → TwnLink) : (s.modLinkT f).arb = s.arb := rfl
@[simp] theorem State.modLinkT_pods (f : TwnLink → TwnLink) : (s.modLinkT f).pods = s.pods := rfl
@[simp] theorem State.modLinkT_dsf (f : TwnLink → TwnLink) : (s.modLinkT f).dsf = s.dsf := rfl
@[simp] theorem State.modLinkT_act (f : TwnLink → TwnLink) : (s.modLinkT f).act = s.act := rfl
@[simp] theorem State.modLinkT_lsc (f : TwnLink → TwnLink) : (s.modLinkT f).lsc = s.lsc := rfl
@[simp] theorem State.modLinkT_usq (f : TwnLink → TwnLink) : (s.modLinkT f).usq = s.usq := rfl
@[simp] theorem State.modLinkT_ubt (f : TwnLink → TwnLink) : (s.modLinkT f).ubt = s.ubt := rfl
@[simp] theorem State.modLinkT_twn (f : TwnLink → TwnLink) : (s.modLinkT f).twn = { s.twn with link := f s.twn.link } := rfl
@[simp] theorem State.modLinkT_arrivals (f : TwnLink → TwnLink) : (s.modLinkT f).arrivals = s.arrivals := rfl
@[simp] theorem State.modLinkT_ports (f : TwnLink → TwnLink) : (s.modLinkT f).ports = s.ports := rfl
@[simp] theorem State.modLinkT_cls (f : TwnLink → TwnLink) : (s.modLinkT f).cls = s.cls := rfl
@[simp] theorem State.modLinkT_hsk (f : TwnLink → TwnLink) : (s.modLinkT f).hsk = s.hsk := rfl
@[simp] theorem State.modLinkT_shell (f : TwnLink → TwnLink) : (s.modLinkT f).shell = s.shell := rfl

/-! ### `modTest` -/

@[simp] theorem State.modTest_pending (f : TwnTest → TwnTest) : (s.modTest f).pending = s.pending := rfl
@[simp] theorem State.modTest_ticks (f : TwnTest → TwnTest) : (s.modTest f).ticks = s.ticks := rfl
@[simp] theorem State.modTest_fresh (f : TwnTest → TwnTest) : (s.modTest f).fresh = s.fresh := rfl
@[simp] theorem State.modTest_regs (f : TwnTest → TwnTest) : (s.modTest f).regs = s.regs := rfl
@[simp] theorem State.modTest_wide (f : TwnTest → TwnTest) : (s.modTest f).wide = s.wide := rfl
@[simp] theorem State.modTest_evt (f : TwnTest → TwnTest) : (s.modTest f).evt = s.evt := rfl
@[simp] theorem State.modTest_out (f : TwnTest → TwnTest) : (s.modTest f).out = s.out := rfl
@[simp] theorem State.modTest_spi (f : TwnTest → TwnTest) : (s.modTest f).spi = s.spi := rfl
@[simp] theorem State.modTest_guards (f : TwnTest → TwnTest) : (s.modTest f).guards = s.guards := rfl
@[simp] theorem State.modTest_clk (f : TwnTest → TwnTest) : (s.modTest f).clk = s.clk := rfl
@[simp] theorem State.modTest_flt (f : TwnTest → TwnTest) : (s.modTest f).flt = s.flt := rfl
@[simp] theorem State.modTest_boot (f : TwnTest → TwnTest) : (s.modTest f).boot = s.boot := rfl
@[simp] theorem State.modTest_sems (f : TwnTest → TwnTest) : (s.modTest f).sems = s.sems := rfl
@[simp] theorem State.modTest_pwr (f : TwnTest → TwnTest) : (s.modTest f).pwr = s.pwr := rfl
@[simp] theorem State.modTest_pads (f : TwnTest → TwnTest) : (s.modTest f).pads = s.pads := rfl
@[simp] theorem State.modTest_ntm (f : TwnTest → TwnTest) : (s.modTest f).ntm = s.ntm := rfl
@[simp] theorem State.modTest_hrd (f : TwnTest → TwnTest) : (s.modTest f).hrd = s.hrd := rfl
@[simp] theorem State.modTest_arb (f : TwnTest → TwnTest) : (s.modTest f).arb = s.arb := rfl
@[simp] theorem State.modTest_pods (f : TwnTest → TwnTest) : (s.modTest f).pods = s.pods := rfl
@[simp] theorem State.modTest_dsf (f : TwnTest → TwnTest) : (s.modTest f).dsf = s.dsf := rfl
@[simp] theorem State.modTest_act (f : TwnTest → TwnTest) : (s.modTest f).act = s.act := rfl
@[simp] theorem State.modTest_lsc (f : TwnTest → TwnTest) : (s.modTest f).lsc = s.lsc := rfl
@[simp] theorem State.modTest_usq (f : TwnTest → TwnTest) : (s.modTest f).usq = s.usq := rfl
@[simp] theorem State.modTest_ubt (f : TwnTest → TwnTest) : (s.modTest f).ubt = s.ubt := rfl
@[simp] theorem State.modTest_twn (f : TwnTest → TwnTest) : (s.modTest f).twn = { s.twn with test := f s.twn.test } := rfl
@[simp] theorem State.modTest_arrivals (f : TwnTest → TwnTest) : (s.modTest f).arrivals = s.arrivals := rfl
@[simp] theorem State.modTest_ports (f : TwnTest → TwnTest) : (s.modTest f).ports = s.ports := rfl
@[simp] theorem State.modTest_cls (f : TwnTest → TwnTest) : (s.modTest f).cls = s.cls := rfl
@[simp] theorem State.modTest_hsk (f : TwnTest → TwnTest) : (s.modTest f).hsk = s.hsk := rfl
@[simp] theorem State.modTest_shell (f : TwnTest → TwnTest) : (s.modTest f).shell = s.shell := rfl

/-! ### `modQueue` -/

@[simp] theorem State.modQueue_pending (q : Nat) (f : Queue → Queue) : (s.modQueue q f).pending = s.pending := rfl
@[simp] theorem State.modQueue_ticks (q : Nat) (f : Queue → Queue) : (s.modQueue q f).ticks = s.ticks := rfl
@[simp] theorem State.modQueue_fresh (q : Nat) (f : Queue → Queue) : (s.modQueue q f).fresh = s.fresh := rfl
@[simp] theorem State.modQueue_regs (q : Nat) (f : Queue → Queue) : (s.modQueue q f).regs = s.regs := rfl
@[simp] theorem State.modQueue_wide (q : Nat) (f : Queue → Queue) : (s.modQueue q f).wide = s.wide := rfl
@[simp] theorem State.modQueue_evt (q : Nat) (f : Queue → Queue) : (s.modQueue q f).evt = s.evt := rfl
@[simp] theorem State.modQueue_out (q : Nat) (f : Queue → Queue) : (s.modQueue q f).out = s.out := rfl
@[simp] theorem State.modQueue_spi (q : Nat) (f : Queue → Queue) : (s.modQueue q f).spi = s.spi := rfl
@[simp] theorem State.modQueue_guards (q : Nat) (f : Queue → Queue) : (s.modQueue q f).guards = s.guards := rfl
@[simp] theorem State.modQueue_clk (q : Nat) (f : Queue → Queue) : (s.modQueue q f).clk = s.clk := rfl
@[simp] theorem State.modQueue_flt (q : Nat) (f : Queue → Queue) : (s.modQueue q f).flt = s.flt := rfl
@[simp] theorem State.modQueue_boot (q : Nat) (f : Queue → Queue) : (s.modQueue q f).boot = s.boot := rfl
@[simp] theorem State.modQueue_sems (q : Nat) (f : Queue → Queue) : (s.modQueue q f).sems = s.sems := rfl
@[simp] theorem State.modQueue_pwr (q : Nat) (f : Queue → Queue) : (s.modQueue q f).pwr = s.pwr := rfl
@[simp] theorem State.modQueue_pads (q : Nat) (f : Queue → Queue) : (s.modQueue q f).pads = s.pads := rfl
@[simp] theorem State.modQueue_ntm (q : Nat) (f : Queue → Queue) : (s.modQueue q f).ntm = s.ntm := rfl
@[simp] theorem State.modQueue_hrd (q : Nat) (f : Queue → Queue) : (s.modQueue q f).hrd = s.hrd := rfl
@[simp] theorem State.modQueue_arb (q : Nat) (f : Queue → Queue) : (s.modQueue q f).arb = s.arb := rfl
@[simp] theorem State.modQueue_pods (q : Nat) (f : Queue → Queue) : (s.modQueue q f).pods = s.pods := rfl
@[simp] theorem State.modQueue_dsf (q : Nat) (f : Queue → Queue) : (s.modQueue q f).dsf = s.dsf := rfl
@[simp] theorem State.modQueue_act (q : Nat) (f : Queue → Queue) : (s.modQueue q f).act = s.act := rfl
@[simp] theorem State.modQueue_lsc (q : Nat) (f : Queue → Queue) : (s.modQueue q f).lsc = s.lsc := rfl
@[simp] theorem State.modQueue_usq (q : Nat) (f : Queue → Queue) : (s.modQueue q f).usq = { s.usq with queues := Tab.modify Queue.reset s.usq.queues q f } := rfl
@[simp] theorem State.modQueue_ubt (q : Nat) (f : Queue → Queue) : (s.modQueue q f).ubt = s.ubt := rfl
@[simp] theorem State.modQueue_twn (q : Nat) (f : Queue → Queue) : (s.modQueue q f).twn = s.twn := rfl
@[simp] theorem State.modQueue_arrivals (q : Nat) (f : Queue → Queue) : (s.modQueue q f).arrivals = s.arrivals := rfl
@[simp] theorem State.modQueue_ports (q : Nat) (f : Queue → Queue) : (s.modQueue q f).ports = s.ports := rfl
@[simp] theorem State.modQueue_cls (q : Nat) (f : Queue → Queue) : (s.modQueue q f).cls = s.cls := rfl
@[simp] theorem State.modQueue_hsk (q : Nat) (f : Queue → Queue) : (s.modQueue q f).hsk = s.hsk := rfl
@[simp] theorem State.modQueue_shell (q : Nat) (f : Queue → Queue) : (s.modQueue q f).shell = s.shell := rfl

/-! ### `modUlink` -/

@[simp] theorem State.modUlink_pending (i : Nat) (f : ULink → ULink) : (s.modUlink i f).pending = s.pending := rfl
@[simp] theorem State.modUlink_ticks (i : Nat) (f : ULink → ULink) : (s.modUlink i f).ticks = s.ticks := rfl
@[simp] theorem State.modUlink_fresh (i : Nat) (f : ULink → ULink) : (s.modUlink i f).fresh = s.fresh := rfl
@[simp] theorem State.modUlink_regs (i : Nat) (f : ULink → ULink) : (s.modUlink i f).regs = s.regs := rfl
@[simp] theorem State.modUlink_wide (i : Nat) (f : ULink → ULink) : (s.modUlink i f).wide = s.wide := rfl
@[simp] theorem State.modUlink_evt (i : Nat) (f : ULink → ULink) : (s.modUlink i f).evt = s.evt := rfl
@[simp] theorem State.modUlink_out (i : Nat) (f : ULink → ULink) : (s.modUlink i f).out = s.out := rfl
@[simp] theorem State.modUlink_spi (i : Nat) (f : ULink → ULink) : (s.modUlink i f).spi = s.spi := rfl
@[simp] theorem State.modUlink_guards (i : Nat) (f : ULink → ULink) : (s.modUlink i f).guards = s.guards := rfl
@[simp] theorem State.modUlink_clk (i : Nat) (f : ULink → ULink) : (s.modUlink i f).clk = s.clk := rfl
@[simp] theorem State.modUlink_flt (i : Nat) (f : ULink → ULink) : (s.modUlink i f).flt = s.flt := rfl
@[simp] theorem State.modUlink_boot (i : Nat) (f : ULink → ULink) : (s.modUlink i f).boot = s.boot := rfl
@[simp] theorem State.modUlink_sems (i : Nat) (f : ULink → ULink) : (s.modUlink i f).sems = s.sems := rfl
@[simp] theorem State.modUlink_pwr (i : Nat) (f : ULink → ULink) : (s.modUlink i f).pwr = s.pwr := rfl
@[simp] theorem State.modUlink_pads (i : Nat) (f : ULink → ULink) : (s.modUlink i f).pads = s.pads := rfl
@[simp] theorem State.modUlink_ntm (i : Nat) (f : ULink → ULink) : (s.modUlink i f).ntm = s.ntm := rfl
@[simp] theorem State.modUlink_hrd (i : Nat) (f : ULink → ULink) : (s.modUlink i f).hrd = s.hrd := rfl
@[simp] theorem State.modUlink_arb (i : Nat) (f : ULink → ULink) : (s.modUlink i f).arb = s.arb := rfl
@[simp] theorem State.modUlink_pods (i : Nat) (f : ULink → ULink) : (s.modUlink i f).pods = s.pods := rfl
@[simp] theorem State.modUlink_dsf (i : Nat) (f : ULink → ULink) : (s.modUlink i f).dsf = s.dsf := rfl
@[simp] theorem State.modUlink_act (i : Nat) (f : ULink → ULink) : (s.modUlink i f).act = s.act := rfl
@[simp] theorem State.modUlink_lsc (i : Nat) (f : ULink → ULink) : (s.modUlink i f).lsc = s.lsc := rfl
@[simp] theorem State.modUlink_usq (i : Nat) (f : ULink → ULink) : (s.modUlink i f).usq = { s.usq with links := Tab.modify ULink.reset s.usq.links i f } := rfl
@[simp] theorem State.modUlink_ubt (i : Nat) (f : ULink → ULink) : (s.modUlink i f).ubt = s.ubt := rfl
@[simp] theorem State.modUlink_twn (i : Nat) (f : ULink → ULink) : (s.modUlink i f).twn = s.twn := rfl
@[simp] theorem State.modUlink_arrivals (i : Nat) (f : ULink → ULink) : (s.modUlink i f).arrivals = s.arrivals := rfl
@[simp] theorem State.modUlink_ports (i : Nat) (f : ULink → ULink) : (s.modUlink i f).ports = s.ports := rfl
@[simp] theorem State.modUlink_cls (i : Nat) (f : ULink → ULink) : (s.modUlink i f).cls = s.cls := rfl
@[simp] theorem State.modUlink_hsk (i : Nat) (f : ULink → ULink) : (s.modUlink i f).hsk = s.hsk := rfl
@[simp] theorem State.modUlink_shell (i : Nat) (f : ULink → ULink) : (s.modUlink i f).shell = s.shell := rfl

/-! ### `modAlloc` -/

@[simp] theorem State.modAlloc_pending (a : Nat) (f : Alloc → Alloc) : (s.modAlloc a f).pending = s.pending := rfl
@[simp] theorem State.modAlloc_ticks (a : Nat) (f : Alloc → Alloc) : (s.modAlloc a f).ticks = s.ticks := rfl
@[simp] theorem State.modAlloc_fresh (a : Nat) (f : Alloc → Alloc) : (s.modAlloc a f).fresh = s.fresh := rfl
@[simp] theorem State.modAlloc_regs (a : Nat) (f : Alloc → Alloc) : (s.modAlloc a f).regs = s.regs := rfl
@[simp] theorem State.modAlloc_wide (a : Nat) (f : Alloc → Alloc) : (s.modAlloc a f).wide = s.wide := rfl
@[simp] theorem State.modAlloc_evt (a : Nat) (f : Alloc → Alloc) : (s.modAlloc a f).evt = s.evt := rfl
@[simp] theorem State.modAlloc_out (a : Nat) (f : Alloc → Alloc) : (s.modAlloc a f).out = s.out := rfl
@[simp] theorem State.modAlloc_spi (a : Nat) (f : Alloc → Alloc) : (s.modAlloc a f).spi = s.spi := rfl
@[simp] theorem State.modAlloc_guards (a : Nat) (f : Alloc → Alloc) : (s.modAlloc a f).guards = s.guards := rfl
@[simp] theorem State.modAlloc_clk (a : Nat) (f : Alloc → Alloc) : (s.modAlloc a f).clk = s.clk := rfl
@[simp] theorem State.modAlloc_flt (a : Nat) (f : Alloc → Alloc) : (s.modAlloc a f).flt = s.flt := rfl
@[simp] theorem State.modAlloc_boot (a : Nat) (f : Alloc → Alloc) : (s.modAlloc a f).boot = s.boot := rfl
@[simp] theorem State.modAlloc_sems (a : Nat) (f : Alloc → Alloc) : (s.modAlloc a f).sems = s.sems := rfl
@[simp] theorem State.modAlloc_pwr (a : Nat) (f : Alloc → Alloc) : (s.modAlloc a f).pwr = s.pwr := rfl
@[simp] theorem State.modAlloc_pads (a : Nat) (f : Alloc → Alloc) : (s.modAlloc a f).pads = s.pads := rfl
@[simp] theorem State.modAlloc_ntm (a : Nat) (f : Alloc → Alloc) : (s.modAlloc a f).ntm = s.ntm := rfl
@[simp] theorem State.modAlloc_hrd (a : Nat) (f : Alloc → Alloc) : (s.modAlloc a f).hrd = s.hrd := rfl
@[simp] theorem State.modAlloc_arb (a : Nat) (f : Alloc → Alloc) : (s.modAlloc a f).arb = s.arb := rfl
@[simp] theorem State.modAlloc_pods (a : Nat) (f : Alloc → Alloc) : (s.modAlloc a f).pods = s.pods := rfl
@[simp] theorem State.modAlloc_dsf (a : Nat) (f : Alloc → Alloc) : (s.modAlloc a f).dsf = s.dsf := rfl
@[simp] theorem State.modAlloc_act (a : Nat) (f : Alloc → Alloc) : (s.modAlloc a f).act = s.act := rfl
@[simp] theorem State.modAlloc_lsc (a : Nat) (f : Alloc → Alloc) : (s.modAlloc a f).lsc = s.lsc := rfl
@[simp] theorem State.modAlloc_usq (a : Nat) (f : Alloc → Alloc) : (s.modAlloc a f).usq = { s.usq with allocs := Tab.modify Alloc.reset s.usq.allocs a f } := rfl
@[simp] theorem State.modAlloc_ubt (a : Nat) (f : Alloc → Alloc) : (s.modAlloc a f).ubt = s.ubt := rfl
@[simp] theorem State.modAlloc_twn (a : Nat) (f : Alloc → Alloc) : (s.modAlloc a f).twn = s.twn := rfl
@[simp] theorem State.modAlloc_arrivals (a : Nat) (f : Alloc → Alloc) : (s.modAlloc a f).arrivals = s.arrivals := rfl
@[simp] theorem State.modAlloc_ports (a : Nat) (f : Alloc → Alloc) : (s.modAlloc a f).ports = s.ports := rfl
@[simp] theorem State.modAlloc_cls (a : Nat) (f : Alloc → Alloc) : (s.modAlloc a f).cls = s.cls := rfl
@[simp] theorem State.modAlloc_hsk (a : Nat) (f : Alloc → Alloc) : (s.modAlloc a f).hsk = s.hsk := rfl
@[simp] theorem State.modAlloc_shell (a : Nat) (f : Alloc → Alloc) : (s.modAlloc a f).shell = s.shell := rfl

/-! ### `modUbt` -/

@[simp] theorem State.modUbt_pending (n : Nat) (f : UbtCh → UbtCh) : (s.modUbt n f).pending = s.pending := rfl
@[simp] theorem State.modUbt_ticks (n : Nat) (f : UbtCh → UbtCh) : (s.modUbt n f).ticks = s.ticks := rfl
@[simp] theorem State.modUbt_fresh (n : Nat) (f : UbtCh → UbtCh) : (s.modUbt n f).fresh = s.fresh := rfl
@[simp] theorem State.modUbt_regs (n : Nat) (f : UbtCh → UbtCh) : (s.modUbt n f).regs = s.regs := rfl
@[simp] theorem State.modUbt_wide (n : Nat) (f : UbtCh → UbtCh) : (s.modUbt n f).wide = s.wide := rfl
@[simp] theorem State.modUbt_evt (n : Nat) (f : UbtCh → UbtCh) : (s.modUbt n f).evt = s.evt := rfl
@[simp] theorem State.modUbt_out (n : Nat) (f : UbtCh → UbtCh) : (s.modUbt n f).out = s.out := rfl
@[simp] theorem State.modUbt_spi (n : Nat) (f : UbtCh → UbtCh) : (s.modUbt n f).spi = s.spi := rfl
@[simp] theorem State.modUbt_guards (n : Nat) (f : UbtCh → UbtCh) : (s.modUbt n f).guards = s.guards := rfl
@[simp] theorem State.modUbt_clk (n : Nat) (f : UbtCh → UbtCh) : (s.modUbt n f).clk = s.clk := rfl
@[simp] theorem State.modUbt_flt (n : Nat) (f : UbtCh → UbtCh) : (s.modUbt n f).flt = s.flt := rfl
@[simp] theorem State.modUbt_boot (n : Nat) (f : UbtCh → UbtCh) : (s.modUbt n f).boot = s.boot := rfl
@[simp] theorem State.modUbt_sems (n : Nat) (f : UbtCh → UbtCh) : (s.modUbt n f).sems = s.sems := rfl
@[simp] theorem State.modUbt_pwr (n : Nat) (f : UbtCh → UbtCh) : (s.modUbt n f).pwr = s.pwr := rfl
@[simp] theorem State.modUbt_pads (n : Nat) (f : UbtCh → UbtCh) : (s.modUbt n f).pads = s.pads := rfl
@[simp] theorem State.modUbt_ntm (n : Nat) (f : UbtCh → UbtCh) : (s.modUbt n f).ntm = s.ntm := rfl
@[simp] theorem State.modUbt_hrd (n : Nat) (f : UbtCh → UbtCh) : (s.modUbt n f).hrd = s.hrd := rfl
@[simp] theorem State.modUbt_arb (n : Nat) (f : UbtCh → UbtCh) : (s.modUbt n f).arb = s.arb := rfl
@[simp] theorem State.modUbt_pods (n : Nat) (f : UbtCh → UbtCh) : (s.modUbt n f).pods = s.pods := rfl
@[simp] theorem State.modUbt_dsf (n : Nat) (f : UbtCh → UbtCh) : (s.modUbt n f).dsf = s.dsf := rfl
@[simp] theorem State.modUbt_act (n : Nat) (f : UbtCh → UbtCh) : (s.modUbt n f).act = s.act := rfl
@[simp] theorem State.modUbt_lsc (n : Nat) (f : UbtCh → UbtCh) : (s.modUbt n f).lsc = s.lsc := rfl
@[simp] theorem State.modUbt_usq (n : Nat) (f : UbtCh → UbtCh) : (s.modUbt n f).usq = s.usq := rfl
@[simp] theorem State.modUbt_ubt (n : Nat) (f : UbtCh → UbtCh) : (s.modUbt n f).ubt = Tab.modify UbtCh.reset s.ubt n f := rfl
@[simp] theorem State.modUbt_twn (n : Nat) (f : UbtCh → UbtCh) : (s.modUbt n f).twn = s.twn := rfl
@[simp] theorem State.modUbt_arrivals (n : Nat) (f : UbtCh → UbtCh) : (s.modUbt n f).arrivals = s.arrivals := rfl
@[simp] theorem State.modUbt_ports (n : Nat) (f : UbtCh → UbtCh) : (s.modUbt n f).ports = s.ports := rfl
@[simp] theorem State.modUbt_cls (n : Nat) (f : UbtCh → UbtCh) : (s.modUbt n f).cls = s.cls := rfl
@[simp] theorem State.modUbt_hsk (n : Nat) (f : UbtCh → UbtCh) : (s.modUbt n f).hsk = s.hsk := rfl
@[simp] theorem State.modUbt_shell (n : Nat) (f : UbtCh → UbtCh) : (s.modUbt n f).shell = s.shell := rfl

/-! ### `setKeys` -/

@[simp] theorem State.setKeys_pending (k : Nat) (x : LinkKeys) : (s.setKeys k x).pending = s.pending := rfl
@[simp] theorem State.setKeys_ticks (k : Nat) (x : LinkKeys) : (s.setKeys k x).ticks = s.ticks := rfl
@[simp] theorem State.setKeys_fresh (k : Nat) (x : LinkKeys) : (s.setKeys k x).fresh = s.fresh := rfl
@[simp] theorem State.setKeys_regs (k : Nat) (x : LinkKeys) : (s.setKeys k x).regs = s.regs := rfl
@[simp] theorem State.setKeys_wide (k : Nat) (x : LinkKeys) : (s.setKeys k x).wide = s.wide := rfl
@[simp] theorem State.setKeys_evt (k : Nat) (x : LinkKeys) : (s.setKeys k x).evt = s.evt := rfl
@[simp] theorem State.setKeys_out (k : Nat) (x : LinkKeys) : (s.setKeys k x).out = s.out := rfl
@[simp] theorem State.setKeys_spi (k : Nat) (x : LinkKeys) : (s.setKeys k x).spi = s.spi := rfl
@[simp] theorem State.setKeys_guards (k : Nat) (x : LinkKeys) : (s.setKeys k x).guards = s.guards := rfl
@[simp] theorem State.setKeys_clk (k : Nat) (x : LinkKeys) : (s.setKeys k x).clk = s.clk := rfl
@[simp] theorem State.setKeys_flt (k : Nat) (x : LinkKeys) : (s.setKeys k x).flt = s.flt := rfl
@[simp] theorem State.setKeys_boot (k : Nat) (x : LinkKeys) : (s.setKeys k x).boot = s.boot := rfl
@[simp] theorem State.setKeys_sems (k : Nat) (x : LinkKeys) : (s.setKeys k x).sems = s.sems := rfl
@[simp] theorem State.setKeys_pwr (k : Nat) (x : LinkKeys) : (s.setKeys k x).pwr = s.pwr := rfl
@[simp] theorem State.setKeys_pads (k : Nat) (x : LinkKeys) : (s.setKeys k x).pads = s.pads := rfl
@[simp] theorem State.setKeys_ntm (k : Nat) (x : LinkKeys) : (s.setKeys k x).ntm = s.ntm := rfl
@[simp] theorem State.setKeys_hrd (k : Nat) (x : LinkKeys) : (s.setKeys k x).hrd = s.hrd := rfl
@[simp] theorem State.setKeys_arb (k : Nat) (x : LinkKeys) : (s.setKeys k x).arb = s.arb := rfl
@[simp] theorem State.setKeys_pods (k : Nat) (x : LinkKeys) : (s.setKeys k x).pods = s.pods := rfl
@[simp] theorem State.setKeys_dsf (k : Nat) (x : LinkKeys) : (s.setKeys k x).dsf = s.dsf := rfl
@[simp] theorem State.setKeys_act (k : Nat) (x : LinkKeys) : (s.setKeys k x).act = s.act := rfl
@[simp] theorem State.setKeys_lsc (k : Nat) (x : LinkKeys) : (s.setKeys k x).lsc = { s.lsc with keys := Tab.set LinkKeys.reset s.lsc.keys k x } := rfl
@[simp] theorem State.setKeys_usq (k : Nat) (x : LinkKeys) : (s.setKeys k x).usq = s.usq := rfl
@[simp] theorem State.setKeys_ubt (k : Nat) (x : LinkKeys) : (s.setKeys k x).ubt = s.ubt := rfl
@[simp] theorem State.setKeys_twn (k : Nat) (x : LinkKeys) : (s.setKeys k x).twn = s.twn := rfl
@[simp] theorem State.setKeys_arrivals (k : Nat) (x : LinkKeys) : (s.setKeys k x).arrivals = s.arrivals := rfl
@[simp] theorem State.setKeys_ports (k : Nat) (x : LinkKeys) : (s.setKeys k x).ports = s.ports := rfl
@[simp] theorem State.setKeys_cls (k : Nat) (x : LinkKeys) : (s.setKeys k x).cls = s.cls := rfl
@[simp] theorem State.setKeys_hsk (k : Nat) (x : LinkKeys) : (s.setKeys k x).hsk = s.hsk := rfl
@[simp] theorem State.setKeys_shell (k : Nat) (x : LinkKeys) : (s.setKeys k x).shell = s.shell := rfl

/-! ### `modPort` -/

@[simp] theorem State.modPort_pending (p : Nat) (f : HostPort → HostPort) : (s.modPort p f).pending = s.pending := rfl
@[simp] theorem State.modPort_ticks (p : Nat) (f : HostPort → HostPort) : (s.modPort p f).ticks = s.ticks := rfl
@[simp] theorem State.modPort_fresh (p : Nat) (f : HostPort → HostPort) : (s.modPort p f).fresh = s.fresh := rfl
@[simp] theorem State.modPort_regs (p : Nat) (f : HostPort → HostPort) : (s.modPort p f).regs = s.regs := rfl
@[simp] theorem State.modPort_wide (p : Nat) (f : HostPort → HostPort) : (s.modPort p f).wide = s.wide := rfl
@[simp] theorem State.modPort_evt (p : Nat) (f : HostPort → HostPort) : (s.modPort p f).evt = s.evt := rfl
@[simp] theorem State.modPort_out (p : Nat) (f : HostPort → HostPort) : (s.modPort p f).out = s.out := rfl
@[simp] theorem State.modPort_spi (p : Nat) (f : HostPort → HostPort) : (s.modPort p f).spi = s.spi := rfl
@[simp] theorem State.modPort_guards (p : Nat) (f : HostPort → HostPort) : (s.modPort p f).guards = s.guards := rfl
@[simp] theorem State.modPort_clk (p : Nat) (f : HostPort → HostPort) : (s.modPort p f).clk = s.clk := rfl
@[simp] theorem State.modPort_flt (p : Nat) (f : HostPort → HostPort) : (s.modPort p f).flt = s.flt := rfl
@[simp] theorem State.modPort_boot (p : Nat) (f : HostPort → HostPort) : (s.modPort p f).boot = s.boot := rfl
@[simp] theorem State.modPort_sems (p : Nat) (f : HostPort → HostPort) : (s.modPort p f).sems = s.sems := rfl
@[simp] theorem State.modPort_pwr (p : Nat) (f : HostPort → HostPort) : (s.modPort p f).pwr = s.pwr := rfl
@[simp] theorem State.modPort_pads (p : Nat) (f : HostPort → HostPort) : (s.modPort p f).pads = s.pads := rfl
@[simp] theorem State.modPort_ntm (p : Nat) (f : HostPort → HostPort) : (s.modPort p f).ntm = s.ntm := rfl
@[simp] theorem State.modPort_hrd (p : Nat) (f : HostPort → HostPort) : (s.modPort p f).hrd = s.hrd := rfl
@[simp] theorem State.modPort_arb (p : Nat) (f : HostPort → HostPort) : (s.modPort p f).arb = s.arb := rfl
@[simp] theorem State.modPort_pods (p : Nat) (f : HostPort → HostPort) : (s.modPort p f).pods = s.pods := rfl
@[simp] theorem State.modPort_dsf (p : Nat) (f : HostPort → HostPort) : (s.modPort p f).dsf = s.dsf := rfl
@[simp] theorem State.modPort_act (p : Nat) (f : HostPort → HostPort) : (s.modPort p f).act = s.act := rfl
@[simp] theorem State.modPort_lsc (p : Nat) (f : HostPort → HostPort) : (s.modPort p f).lsc = s.lsc := rfl
@[simp] theorem State.modPort_usq (p : Nat) (f : HostPort → HostPort) : (s.modPort p f).usq = s.usq := rfl
@[simp] theorem State.modPort_ubt (p : Nat) (f : HostPort → HostPort) : (s.modPort p f).ubt = s.ubt := rfl
@[simp] theorem State.modPort_twn (p : Nat) (f : HostPort → HostPort) : (s.modPort p f).twn = s.twn := rfl
@[simp] theorem State.modPort_arrivals (p : Nat) (f : HostPort → HostPort) : (s.modPort p f).arrivals = s.arrivals := rfl
@[simp] theorem State.modPort_ports (p : Nat) (f : HostPort → HostPort) : (s.modPort p f).ports = Tab.modify HostPort.reset s.ports p f := rfl
@[simp] theorem State.modPort_cls (p : Nat) (f : HostPort → HostPort) : (s.modPort p f).cls = s.cls := rfl
@[simp] theorem State.modPort_hsk (p : Nat) (f : HostPort → HostPort) : (s.modPort p f).hsk = s.hsk := rfl
@[simp] theorem State.modPort_shell (p : Nat) (f : HostPort → HostPort) : (s.modPort p f).shell = s.shell := rfl

/-! ### `modActCh` -/

@[simp] theorem State.modActCh_pending (n : Nat) (f : ActCh → ActCh) : (s.modActCh n f).pending = s.pending := rfl
@[simp] theorem State.modActCh_ticks (n : Nat) (f : ActCh → ActCh) : (s.modActCh n f).ticks = s.ticks := rfl
@[simp] theorem State.modActCh_fresh (n : Nat) (f : ActCh → ActCh) : (s.modActCh n f).fresh = s.fresh := rfl
@[simp] theorem State.modActCh_regs (n : Nat) (f : ActCh → ActCh) : (s.modActCh n f).regs = s.regs := rfl
@[simp] theorem State.modActCh_wide (n : Nat) (f : ActCh → ActCh) : (s.modActCh n f).wide = s.wide := rfl
@[simp] theorem State.modActCh_evt (n : Nat) (f : ActCh → ActCh) : (s.modActCh n f).evt = s.evt := rfl
@[simp] theorem State.modActCh_out (n : Nat) (f : ActCh → ActCh) : (s.modActCh n f).out = s.out := rfl
@[simp] theorem State.modActCh_spi (n : Nat) (f : ActCh → ActCh) : (s.modActCh n f).spi = s.spi := rfl
@[simp] theorem State.modActCh_guards (n : Nat) (f : ActCh → ActCh) : (s.modActCh n f).guards = s.guards := rfl
@[simp] theorem State.modActCh_clk (n : Nat) (f : ActCh → ActCh) : (s.modActCh n f).clk = s.clk := rfl
@[simp] theorem State.modActCh_flt (n : Nat) (f : ActCh → ActCh) : (s.modActCh n f).flt = s.flt := rfl
@[simp] theorem State.modActCh_boot (n : Nat) (f : ActCh → ActCh) : (s.modActCh n f).boot = s.boot := rfl
@[simp] theorem State.modActCh_sems (n : Nat) (f : ActCh → ActCh) : (s.modActCh n f).sems = s.sems := rfl
@[simp] theorem State.modActCh_pwr (n : Nat) (f : ActCh → ActCh) : (s.modActCh n f).pwr = s.pwr := rfl
@[simp] theorem State.modActCh_pads (n : Nat) (f : ActCh → ActCh) : (s.modActCh n f).pads = s.pads := rfl
@[simp] theorem State.modActCh_ntm (n : Nat) (f : ActCh → ActCh) : (s.modActCh n f).ntm = s.ntm := rfl
@[simp] theorem State.modActCh_hrd (n : Nat) (f : ActCh → ActCh) : (s.modActCh n f).hrd = s.hrd := rfl
@[simp] theorem State.modActCh_arb (n : Nat) (f : ActCh → ActCh) : (s.modActCh n f).arb = s.arb := rfl
@[simp] theorem State.modActCh_pods (n : Nat) (f : ActCh → ActCh) : (s.modActCh n f).pods = s.pods := rfl
@[simp] theorem State.modActCh_dsf (n : Nat) (f : ActCh → ActCh) : (s.modActCh n f).dsf = s.dsf := rfl
@[simp] theorem State.modActCh_act (n : Nat) (f : ActCh → ActCh) : (s.modActCh n f).act = { s.act with chans := Tab.modify ActCh.reset s.act.chans n f } := rfl
@[simp] theorem State.modActCh_lsc (n : Nat) (f : ActCh → ActCh) : (s.modActCh n f).lsc = s.lsc := rfl
@[simp] theorem State.modActCh_usq (n : Nat) (f : ActCh → ActCh) : (s.modActCh n f).usq = s.usq := rfl
@[simp] theorem State.modActCh_ubt (n : Nat) (f : ActCh → ActCh) : (s.modActCh n f).ubt = s.ubt := rfl
@[simp] theorem State.modActCh_twn (n : Nat) (f : ActCh → ActCh) : (s.modActCh n f).twn = s.twn := rfl
@[simp] theorem State.modActCh_arrivals (n : Nat) (f : ActCh → ActCh) : (s.modActCh n f).arrivals = s.arrivals := rfl
@[simp] theorem State.modActCh_ports (n : Nat) (f : ActCh → ActCh) : (s.modActCh n f).ports = s.ports := rfl
@[simp] theorem State.modActCh_cls (n : Nat) (f : ActCh → ActCh) : (s.modActCh n f).cls = s.cls := rfl
@[simp] theorem State.modActCh_hsk (n : Nat) (f : ActCh → ActCh) : (s.modActCh n f).hsk = s.hsk := rfl
@[simp] theorem State.modActCh_shell (n : Nat) (f : ActCh → ActCh) : (s.modActCh n f).shell = s.shell := rfl

/-! ### `modMcu` -/

@[simp] theorem State.modMcu_pending (n : Nat) (f : Mcu → Mcu) : (s.modMcu n f).pending = s.pending := rfl
@[simp] theorem State.modMcu_ticks (n : Nat) (f : Mcu → Mcu) : (s.modMcu n f).ticks = s.ticks := rfl
@[simp] theorem State.modMcu_fresh (n : Nat) (f : Mcu → Mcu) : (s.modMcu n f).fresh = s.fresh := rfl
@[simp] theorem State.modMcu_regs (n : Nat) (f : Mcu → Mcu) : (s.modMcu n f).regs = s.regs := rfl
@[simp] theorem State.modMcu_wide (n : Nat) (f : Mcu → Mcu) : (s.modMcu n f).wide = s.wide := rfl
@[simp] theorem State.modMcu_evt (n : Nat) (f : Mcu → Mcu) : (s.modMcu n f).evt = s.evt := rfl
@[simp] theorem State.modMcu_out (n : Nat) (f : Mcu → Mcu) : (s.modMcu n f).out = s.out := rfl
@[simp] theorem State.modMcu_spi (n : Nat) (f : Mcu → Mcu) : (s.modMcu n f).spi = s.spi := rfl
@[simp] theorem State.modMcu_guards (n : Nat) (f : Mcu → Mcu) : (s.modMcu n f).guards = s.guards := rfl
@[simp] theorem State.modMcu_clk (n : Nat) (f : Mcu → Mcu) : (s.modMcu n f).clk = s.clk := rfl
@[simp] theorem State.modMcu_flt (n : Nat) (f : Mcu → Mcu) : (s.modMcu n f).flt = s.flt := rfl
@[simp] theorem State.modMcu_boot (n : Nat) (f : Mcu → Mcu) : (s.modMcu n f).boot = { s.boot with mcus := Tab.modify Mcu.reset s.boot.mcus n f } := rfl
@[simp] theorem State.modMcu_sems (n : Nat) (f : Mcu → Mcu) : (s.modMcu n f).sems = s.sems := rfl
@[simp] theorem State.modMcu_pwr (n : Nat) (f : Mcu → Mcu) : (s.modMcu n f).pwr = s.pwr := rfl
@[simp] theorem State.modMcu_pads (n : Nat) (f : Mcu → Mcu) : (s.modMcu n f).pads = s.pads := rfl
@[simp] theorem State.modMcu_ntm (n : Nat) (f : Mcu → Mcu) : (s.modMcu n f).ntm = s.ntm := rfl
@[simp] theorem State.modMcu_hrd (n : Nat) (f : Mcu → Mcu) : (s.modMcu n f).hrd = s.hrd := rfl
@[simp] theorem State.modMcu_arb (n : Nat) (f : Mcu → Mcu) : (s.modMcu n f).arb = s.arb := rfl
@[simp] theorem State.modMcu_pods (n : Nat) (f : Mcu → Mcu) : (s.modMcu n f).pods = s.pods := rfl
@[simp] theorem State.modMcu_dsf (n : Nat) (f : Mcu → Mcu) : (s.modMcu n f).dsf = s.dsf := rfl
@[simp] theorem State.modMcu_act (n : Nat) (f : Mcu → Mcu) : (s.modMcu n f).act = s.act := rfl
@[simp] theorem State.modMcu_lsc (n : Nat) (f : Mcu → Mcu) : (s.modMcu n f).lsc = s.lsc := rfl
@[simp] theorem State.modMcu_usq (n : Nat) (f : Mcu → Mcu) : (s.modMcu n f).usq = s.usq := rfl
@[simp] theorem State.modMcu_ubt (n : Nat) (f : Mcu → Mcu) : (s.modMcu n f).ubt = s.ubt := rfl
@[simp] theorem State.modMcu_twn (n : Nat) (f : Mcu → Mcu) : (s.modMcu n f).twn = s.twn := rfl
@[simp] theorem State.modMcu_arrivals (n : Nat) (f : Mcu → Mcu) : (s.modMcu n f).arrivals = s.arrivals := rfl
@[simp] theorem State.modMcu_ports (n : Nat) (f : Mcu → Mcu) : (s.modMcu n f).ports = s.ports := rfl
@[simp] theorem State.modMcu_cls (n : Nat) (f : Mcu → Mcu) : (s.modMcu n f).cls = s.cls := rfl
@[simp] theorem State.modMcu_hsk (n : Nat) (f : Mcu → Mcu) : (s.modMcu n f).hsk = s.hsk := rfl
@[simp] theorem State.modMcu_shell (n : Nat) (f : Mcu → Mcu) : (s.modMcu n f).shell = s.shell := rfl

/-! ### `passTicks` -/

@[simp] theorem State.passTicks_pending (k : Nat) : (s.passTicks k).pending = s.pending := rfl
@[simp] theorem State.passTicks_ticks (k : Nat) : (s.passTicks k).ticks = s.ticks + k := rfl
@[simp] theorem State.passTicks_fresh (k : Nat) : (s.passTicks k).fresh = s.fresh := rfl
@[simp] theorem State.passTicks_regs (k : Nat) : (s.passTicks k).regs = s.regs := rfl
@[simp] theorem State.passTicks_wide (k : Nat) : (s.passTicks k).wide = s.wide := rfl
@[simp] theorem State.passTicks_evt (k : Nat) : (s.passTicks k).evt = s.evt := rfl
@[simp] theorem State.passTicks_out (k : Nat) : (s.passTicks k).out = s.out := rfl
@[simp] theorem State.passTicks_spi (k : Nat) : (s.passTicks k).spi = s.spi := rfl
@[simp] theorem State.passTicks_guards (k : Nat) : (s.passTicks k).guards = s.guards := rfl
@[simp] theorem State.passTicks_clk (k : Nat) : (s.passTicks k).clk = s.clk := rfl
@[simp] theorem State.passTicks_flt (k : Nat) : (s.passTicks k).flt = s.flt := rfl
@[simp] theorem State.passTicks_boot (k : Nat) : (s.passTicks k).boot = s.boot := rfl
@[simp] theorem State.passTicks_sems (k : Nat) : (s.passTicks k).sems = s.sems := rfl
@[simp] theorem State.passTicks_pwr (k : Nat) : (s.passTicks k).pwr = s.pwr := rfl
@[simp] theorem State.passTicks_pads (k : Nat) : (s.passTicks k).pads = s.pads := rfl
@[simp] theorem State.passTicks_hrd (k : Nat) : (s.passTicks k).hrd = s.hrd := rfl
@[simp] theorem State.passTicks_arb (k : Nat) : (s.passTicks k).arb = s.arb := rfl
@[simp] theorem State.passTicks_pods (k : Nat) : (s.passTicks k).pods = s.pods := rfl
@[simp] theorem State.passTicks_dsf (k : Nat) : (s.passTicks k).dsf = s.dsf := rfl
@[simp] theorem State.passTicks_act (k : Nat) : (s.passTicks k).act = s.act := rfl
@[simp] theorem State.passTicks_lsc (k : Nat) : (s.passTicks k).lsc = s.lsc := rfl
@[simp] theorem State.passTicks_usq (k : Nat) : (s.passTicks k).usq = s.usq := rfl
@[simp] theorem State.passTicks_ubt (k : Nat) : (s.passTicks k).ubt = s.ubt := rfl
@[simp] theorem State.passTicks_arrivals (k : Nat) : (s.passTicks k).arrivals = s.arrivals := rfl
@[simp] theorem State.passTicks_ports (k : Nat) : (s.passTicks k).ports = s.ports := rfl
@[simp] theorem State.passTicks_cls (k : Nat) : (s.passTicks k).cls = s.cls := rfl
@[simp] theorem State.passTicks_hsk (k : Nat) : (s.passTicks k).hsk = s.hsk := rfl
@[simp] theorem State.passTicks_shell (k : Nat) : (s.passTicks k).shell = s.shell := rfl

end Sys2Proof.Machine
end

