-- ==== Sys2Proof/Laws/Tab.lean ====
section
/-! SUPPORT. The laws of the sparse tables: a read after a write, and that every operation keeps the canonical form. -/

namespace Sys2Proof.Tab

variable {α : Type}

/-! ## A read after a write -/

@[simp] theorem find?_insert_self (t : Tab α) (k : Nat) (v : α) : find? (insert t k v) k = some v := by
  induction t with
  | nil => simp [insert, find?]
  | cons e r ih =>
    obtain ⟨j, w⟩ := e
    simp only [insert]
    split
    · simp [find?]
    · split
      · simp [find?]
      · rename_i h1 h2
        simp [find?, Ne.symm h2, ih]

theorem find?_insert_ne (t : Tab α) {k l : Nat} (v : α) (h : l ≠ k) : find? (insert t k v) l = find? t l := by
  induction t with
  | nil => simp [insert, find?, Ne.symm h]
  | cons e r ih =>
    obtain ⟨j, w⟩ := e
    simp only [insert]
    split
    · simp [find?, Ne.symm h]
    · split
      · rename_i h1 h2
        subst h2
        simp [find?, Ne.symm h]
      · simp [find?, ih]

theorem find?_erase_ne (t : Tab α) {k l : Nat} (h : l ≠ k) : find? (erase t k) l = find? t l := by
  induction t with
  | nil => rfl
  | cons e r ih =>
    obtain ⟨j, w⟩ := e
    simp only [erase]
    split
    · rename_i hj
      subst hj
      simp [find?, Ne.symm h, ih]
    · simp [find?, ih]

@[simp] theorem find?_erase_self (t : Tab α) (k : Nat) : find? (erase t k) k = none := by
  induction t with
  | nil => rfl
  | cons e r ih =>
    obtain ⟨j, w⟩ := e
    simp only [erase]
    split
    · exact ih
    · rename_i hj
      simp [find?, hj, ih]

@[simp] theorem get_set_self [DecidableEq α] (d : α) (t : Tab α) (k : Nat) (v : α) : get d (set d t k v) k = v := by
  simp only [set]
  split
  · rename_i hv
    simp [get, hv]
  · simp [get]

theorem get_set_ne [DecidableEq α] (d d' : α) (t : Tab α) {k l : Nat} (v : α) (h : l ≠ k) :
    get d' (set d t k v) l = get d' t l := by
  simp only [set, get]
  split
  · rw [find?_erase_ne t h]
  · rw [find?_insert_ne t v h]

@[simp] theorem get_modify_self [DecidableEq α] (d : α) (t : Tab α) (k : Nat) (f : α → α) :
    get d (modify d t k f) k = f (get d t k) := get_set_self d t k _

theorem get_modify_ne [DecidableEq α] (d d' : α) (t : Tab α) {k l : Nat} (f : α → α) (h : l ≠ k) :
    get d' (modify d t k f) l = get d' t l := get_set_ne d d' t _ h

/-! ## The canonical form -/

theorem rising_le {lo lo' : Nat} {t : Tab α} (hl : lo' ≤ lo) (h : rising lo t = true) : rising lo' t = true := by
  cases t with
  | nil => rfl
  | cons e r =>
    simp only [rising, Bool.and_eq_true, decide_eq_true_eq] at h ⊢
    exact ⟨by omega, h.2⟩

theorem rising_insert {lo k : Nat} {t : Tab α} (hk : lo ≤ k) (h : rising lo t = true) (v : α) :
    rising lo (insert t k v) = true := by
  induction t generalizing lo with
  | nil => simp [insert, rising, hk]
  | cons e r ih =>
    obtain ⟨j, w⟩ := e
    simp only [rising, Bool.and_eq_true, decide_eq_true_eq] at h
    simp only [insert]
    split
    · rename_i h1
      simp only [rising, Bool.and_eq_true, decide_eq_true_eq]
      exact ⟨hk, by omega, h.2⟩
    · split
      · rename_i h1 h2
        subst h2
        simp [rising, h.1, h.2]
      · rename_i h1 h2
        simp only [rising, Bool.and_eq_true, decide_eq_true_eq]
        exact ⟨h.1, ih (by omega) h.2⟩

theorem rising_erase {lo : Nat} {t : Tab α} (h : rising lo t = true) (k : Nat) : rising lo (erase t k) = true := by
  induction t generalizing lo with
  | nil => rfl
  | cons e r ih =>
    obtain ⟨j, w⟩ := e
    simp only [rising, Bool.and_eq_true, decide_eq_true_eq] at h
    simp only [erase]
    split
    · exact rising_le (by omega) (ih h.2)
    · simp only [rising, Bool.and_eq_true, decide_eq_true_eq]
      exact ⟨h.1, ih h.2⟩

theorem mem_erase {t : Tab α} {k : Nat} {e : Nat × α} (h : e ∈ erase t k) : e ∈ t := by
  induction t with
  | nil => exact h
  | cons x r ih =>
    simp only [erase] at h
    split at h
    · exact List.mem_cons_of_mem _ (ih h)
    · rcases List.mem_cons.1 h with h | h
      · exact h ▸ List.mem_cons_self
      · exact List.mem_cons_of_mem _ (ih h)

theorem mem_insert {t : Tab α} {k : Nat} {v : α} {e : Nat × α} (h : e ∈ insert t k v) : e = (k, v) ∨ e ∈ t := by
  induction t with
  | nil => simpa [insert] using h
  | cons x r ih =>
    simp only [insert] at h
    split at h
    · exact List.mem_cons.1 h
    · split at h
      · rcases List.mem_cons.1 h with h | h
        · exact .inl h
        · exact .inr (List.mem_cons_of_mem _ h)
      · rcases List.mem_cons.1 h with h | h
        · exact .inr (h ▸ List.mem_cons_self)
        · exact (ih h).imp id (List.mem_cons_of_mem _)

/-- Writing keeps the canonical form: the default of the key written is not listed. -/
theorem wf_set [DecidableEq α] {d : Nat → α} {t : Tab α} (h : wf d t = true) (k : Nat) (v : α) :
    wf d (set (d k) t k v) = true := by
  simp only [wf, Bool.and_eq_true, List.all_eq_true, decide_eq_true_eq] at h ⊢
  simp only [set]
  split
  · exact ⟨rising_erase h.1 k, fun e he => h.2 e (mem_erase he)⟩
  · rename_i hv
    refine ⟨rising_insert (Nat.zero_le k) h.1 v, fun e he => ?_⟩
    rcases mem_insert he with rfl | he
    · exact hv
    · exact h.2 e he

theorem wf_modify [DecidableEq α] {d : Nat → α} {t : Tab α} (h : wf d t = true) (k : Nat) (f : α → α) :
    wf d (modify (d k) t k f) = true := wf_set h k _

theorem wf_erase [DecidableEq α] {d : Nat → α} {t : Tab α} (h : wf d t = true) (k : Nat) : wf d (erase t k) = true := by
  simp only [wf, Bool.and_eq_true, List.all_eq_true] at h ⊢
  exact ⟨rising_erase h.1 k, fun e he => h.2 e (mem_erase he)⟩

theorem wf_nil [DecidableEq α] (d : Nat → α) : wf d [] = true := rfl

end Sys2Proof.Tab
end

