-- ==== Sys2Proof/Laws/Ops.lean ====
section
/-! SUPPORT. What the shared operations do: register words, status registers, counters, time and the end of a command. -/

namespace Sys2Proof.Machine

open Host (Outcome)

variable (s : State)

/-! ## Folds over the state -/

/-- What every step of a fold keeps, the fold keeps. -/
theorem foldl_keeps {α β : Type} (g : State → β) (f : State → α → State) (h : ∀ t x, g (f t x) = g t) (l : List α) :
    g (l.foldl f s) = g s := by
  induction l generalizing s with
  | nil => rfl
  | cons x r ih => rw [List.foldl_cons, ih, h]

/-! ## Register words -/

@[simp] theorem State.reg_setReg_self (a : Nat) (v : Word) : (s.setReg a v).reg a = v :=
  Tab.get_set_self (resetWord a) s.regs a v

theorem State.reg_setReg_ne {a b : Nat} (v : Word) (h : b ≠ a) : (s.setReg a v).reg b = s.reg b :=
  Tab.get_set_ne (resetWord a) (resetWord b) s.regs v h

/-- A write of a register keeps the canonical form of the register store. -/
theorem State.regs_wf_setReg (h : Tab.wf resetWord s.regs = true) (a : Nat) (v : Word) :
    Tab.wf resetWord (s.setReg a v).regs = true := Tab.wf_set h a v

/-! ## The end of a command -/

@[simp] theorem State.commit_pending : s.commit.pending = s.pending :=
  foldl_keeps { s with evt := [] } (fun t => t.pending) State.takeEvents (fun t e => State.setReg_pending t e.1 _) s.evt

@[simp] theorem State.commit_ticks : s.commit.ticks = s.ticks :=
  foldl_keeps { s with evt := [] } (fun t => t.ticks) State.takeEvents (fun t e => State.setReg_ticks t e.1 _) s.evt

@[simp] theorem State.commit_fresh : s.commit.fresh = s.fresh :=
  foldl_keeps { s with evt := [] } (fun t => t.fresh) State.takeEvents (fun t e => State.setReg_fresh t e.1 _) s.evt

@[simp] theorem State.commit_wide : s.commit.wide = s.wide :=
  foldl_keeps { s with evt := [] } (fun t => t.wide) State.takeEvents (fun t e => State.setReg_wide t e.1 _) s.evt

@[simp] theorem State.commit_out : s.commit.out = s.out :=
  foldl_keeps { s with evt := [] } (fun t => t.out) State.takeEvents (fun t e => State.setReg_out t e.1 _) s.evt

@[simp] theorem State.commit_spi : s.commit.spi = s.spi :=
  foldl_keeps { s with evt := [] } (fun t => t.spi) State.takeEvents (fun t e => State.setReg_spi t e.1 _) s.evt

@[simp] theorem State.commit_guards : s.commit.guards = s.guards :=
  foldl_keeps { s with evt := [] } (fun t => t.guards) State.takeEvents (fun t e => State.setReg_guards t e.1 _) s.evt

@[simp] theorem State.commit_clk : s.commit.clk = s.clk :=
  foldl_keeps { s with evt := [] } (fun t => t.clk) State.takeEvents (fun t e => State.setReg_clk t e.1 _) s.evt

@[simp] theorem State.commit_flt : s.commit.flt = s.flt :=
  foldl_keeps { s with evt := [] } (fun t => t.flt) State.takeEvents (fun t e => State.setReg_flt t e.1 _) s.evt

@[simp] theorem State.commit_boot : s.commit.boot = s.boot :=
  foldl_keeps { s with evt := [] } (fun t => t.boot) State.takeEvents (fun t e => State.setReg_boot t e.1 _) s.evt

@[simp] theorem State.commit_sems : s.commit.sems = s.sems :=
  foldl_keeps { s with evt := [] } (fun t => t.sems) State.takeEvents (fun t e => State.setReg_sems t e.1 _) s.evt

@[simp] theorem State.commit_pwr : s.commit.pwr = s.pwr :=
  foldl_keeps { s with evt := [] } (fun t => t.pwr) State.takeEvents (fun t e => State.setReg_pwr t e.1 _) s.evt

@[simp] theorem State.commit_pads : s.commit.pads = s.pads :=
  foldl_keeps { s with evt := [] } (fun t => t.pads) State.takeEvents (fun t e => State.setReg_pads t e.1 _) s.evt

@[simp] theorem State.commit_ntm : s.commit.ntm = s.ntm :=
  foldl_keeps { s with evt := [] } (fun t => t.ntm) State.takeEvents (fun t e => State.setReg_ntm t e.1 _) s.evt

@[simp] theorem State.commit_hrd : s.commit.hrd = s.hrd :=
  foldl_keeps { s with evt := [] } (fun t => t.hrd) State.takeEvents (fun t e => State.setReg_hrd t e.1 _) s.evt

@[simp] theorem State.commit_arb : s.commit.arb = s.arb :=
  foldl_keeps { s with evt := [] } (fun t => t.arb) State.takeEvents (fun t e => State.setReg_arb t e.1 _) s.evt

@[simp] theorem State.commit_pods : s.commit.pods = s.pods :=
  foldl_keeps { s with evt := [] } (fun t => t.pods) State.takeEvents (fun t e => State.setReg_pods t e.1 _) s.evt

@[simp] theorem State.commit_dsf : s.commit.dsf = s.dsf :=
  foldl_keeps { s with evt := [] } (fun t => t.dsf) State.takeEvents (fun t e => State.setReg_dsf t e.1 _) s.evt

@[simp] theorem State.commit_act : s.commit.act = s.act :=
  foldl_keeps { s with evt := [] } (fun t => t.act) State.takeEvents (fun t e => State.setReg_act t e.1 _) s.evt

@[simp] theorem State.commit_lsc : s.commit.lsc = s.lsc :=
  foldl_keeps { s with evt := [] } (fun t => t.lsc) State.takeEvents (fun t e => State.setReg_lsc t e.1 _) s.evt

@[simp] theorem State.commit_usq : s.commit.usq = s.usq :=
  foldl_keeps { s with evt := [] } (fun t => t.usq) State.takeEvents (fun t e => State.setReg_usq t e.1 _) s.evt

@[simp] theorem State.commit_ubt : s.commit.ubt = s.ubt :=
  foldl_keeps { s with evt := [] } (fun t => t.ubt) State.takeEvents (fun t e => State.setReg_ubt t e.1 _) s.evt

@[simp] theorem State.commit_twn : s.commit.twn = s.twn :=
  foldl_keeps { s with evt := [] } (fun t => t.twn) State.takeEvents (fun t e => State.setReg_twn t e.1 _) s.evt

@[simp] theorem State.commit_arrivals : s.commit.arrivals = s.arrivals :=
  foldl_keeps { s with evt := [] } (fun t => t.arrivals) State.takeEvents (fun t e => State.setReg_arrivals t e.1 _) s.evt

@[simp] theorem State.commit_ports : s.commit.ports = s.ports :=
  foldl_keeps { s with evt := [] } (fun t => t.ports) State.takeEvents (fun t e => State.setReg_ports t e.1 _) s.evt

@[simp] theorem State.commit_cls : s.commit.cls = s.cls :=
  foldl_keeps { s with evt := [] } (fun t => t.cls) State.takeEvents (fun t e => State.setReg_cls t e.1 _) s.evt

@[simp] theorem State.commit_hsk : s.commit.hsk = s.hsk :=
  foldl_keeps { s with evt := [] } (fun t => t.hsk) State.takeEvents (fun t e => State.setReg_hsk t e.1 _) s.evt

@[simp] theorem State.commit_shell : s.commit.shell = s.shell :=
  foldl_keeps { s with evt := [] } (fun t => t.shell) State.takeEvents (fun t e => State.setReg_shell t e.1 _) s.evt

/-- Between commands no event of a status register is left. -/
@[simp] theorem State.commit_evt : s.commit.evt = [] :=
  foldl_keeps { s with evt := [] } (fun t => t.evt) State.takeEvents (fun t e => State.setReg_evt t e.1 _) s.evt

/-- A register with no event keeps its word. -/
theorem State.commit_reg_of_no_event {a : Nat} (h : ∀ e ∈ s.evt, e.1 ≠ a) : s.commit.reg a = s.reg a := by
  have key : ∀ (l : Tab Word) (t : State), (∀ e ∈ l, e.1 ≠ a) →
      (l.foldl State.takeEvents t).reg a = t.reg a := by
    intro l
    induction l with
    | nil => intro t _; rfl
    | cons e r ih =>
      intro t hl
      rw [List.foldl_cons, ih _ (fun x hx => hl x (List.mem_cons_of_mem _ hx))]
      exact State.reg_setReg_ne t _ (Ne.symm (hl e List.mem_cons_self))
  exact key s.evt { s with evt := [] } h

/-- The register store keeps its canonical form. -/
theorem State.regs_wf_commit (h : Tab.wf resetWord s.regs = true) : Tab.wf resetWord s.commit.regs = true := by
  have key : ∀ (l : Tab Word) (t : State), Tab.wf resetWord t.regs = true →
      Tab.wf resetWord (l.foldl State.takeEvents t).regs = true := by
    intro l
    induction l with
    | nil => intro t ht; exact ht
    | cons e r ih => intro t ht; exact ih _ (State.regs_wf_setReg t ht _ _)
  exact key s.evt { s with evt := [] } h

/-- A command that has run answers its state with the events taken. -/
theorem done_eq : done s = .next s.commit := rfl

/-- What a command that has run answers. -/
theorem next_of_done {t : State} (h : done s = .next t) : t = s.commit := by
  cases h; rfl

/-- A meaning that ends in `done` leaves no event. -/
theorem evt_of_done {t : State} (h : done s = .next t) : t.evt = [] := by
  rw [next_of_done s h]; exact s.commit_evt

/-! ## Time -/

theorem State.passTicks_now (k : Nat) : (s.passTicks k).now = wrapTime (s.now + (tickAdvance s.ntm.frac s.ntm.rate k).1) := rfl

/-- The fraction of a pip stays below one pip. -/
theorem tickAdvance_frac_lt (frac : Nat) (rate : Int) (k : Nat) : (tickAdvance frac rate k).2 < 2 ^ 32 := by
  simp only [tickAdvance]
  omega

/-- At the nominal rate a tick is 200 pips. -/
theorem tickAdvance_zero (frac k : Nat) (h : frac < 2 ^ 32) : tickAdvance frac 0 k = (200 * k, frac) := by
  simp only [tickAdvance, Int.mul_zero, Int.add_zero, Prod.mk.injEq]
  omega

end Sys2Proof.Machine
end

