-- ==== Sys2Proof/Laws/Events.lean ====
section
/-! SUPPORT. What each operation does to a register word, to a 48-bit counter and to the status events of the command that
runs; and what the end of the command then leaves in every register. -/

namespace Sys2Proof.Machine

open Host (Outcome)

variable (s : State)

/-- The flags a status register is to take when the command ends. -/
def State.ev (s : State) (a : Nat) : Word := Tab.get 0 s.evt a

/-! ## The raising operations -/

@[simp] theorem State.ev_raise (a i b : Nat) : (s.raise a i).ev b = if b = a then putBit (s.ev a) i true else s.ev b := by
  split
  · next h => subst h; exact Tab.get_modify_self 0 s.evt b (fun w => putBit w i true)
  · next h => exact Tab.get_modify_ne 0 0 s.evt (fun w => putBit w i true) h

theorem State.ev_of_settled (h : s.evt = []) (a : Nat) : s.ev a = 0 := by rw [State.ev, h]; rfl

/-- The store of events has its canonical form. -/
theorem State.evt_wf_raise (h : Tab.wf (fun _ => (0 : Word)) s.evt = true) (a i : Nat) :
    Tab.wf (fun _ => (0 : Word)) (s.raise a i).evt = true := Tab.wf_modify h a (fun w => putBit w i true)

theorem Tab.mem_of_find? {α : Type} {t : Tab α} {k : Nat} {v : α} (h : Tab.find? t k = some v) : (k, v) ∈ t := by
  induction t with
  | nil => cases h
  | cons e r ih =>
    obtain ⟨j, w⟩ := e
    simp only [Tab.find?] at h
    split at h
    · next hj => cases h; subst hj; exact List.mem_cons_self
    · exact List.mem_cons_of_mem _ (ih h)

theorem Tab.find?_none_of_rising {α : Type} {t : Tab α} {lo k : Nat} (h : Tab.rising lo t = true) (hk : k < lo) :
    Tab.find? t k = none := by
  induction t generalizing lo with
  | nil => rfl
  | cons e r ih =>
    obtain ⟨j, w⟩ := e
    simp only [Tab.rising, Bool.and_eq_true, decide_eq_true_eq] at h
    simp only [Tab.find?]
    rw [if_neg (by omega)]
    exact ih h.2 (by omega)

/-- What every register holds when the command has ended: a status register with events takes them (R658), every other
register keeps its word. -/
theorem State.reg_commit (h : Tab.wf (fun _ => (0 : Word)) s.evt = true) (a : Nat) :
    s.commit.reg a = if s.ev a = 0 then s.reg a else sqcEvent (s.reg a) (s.ev a) := by
  have hr : Tab.rising 0 s.evt = true := by
    simp only [Tab.wf, Bool.and_eq_true] at h; exact h.1
  have hz : ∀ e ∈ s.evt, e.2 ≠ 0 := by
    simp only [Tab.wf, Bool.and_eq_true, List.all_eq_true, decide_eq_true_eq] at h; exact h.2
  have key : ∀ (l : Tab Word) (lo : Nat) (t : State), Tab.rising lo l = true → (∀ e ∈ l, e.2 ≠ 0) →
      (l.foldl State.takeEvents t).reg a = if Tab.get 0 l a = 0 then t.reg a else sqcEvent (t.reg a) (Tab.get 0 l a) := by
    intro l
    induction l with
    | nil => intro lo t _ _; rfl
    | cons e r ih =>
      intro lo t hl hz
      obtain ⟨j, w⟩ := e
      simp only [Tab.rising, Bool.and_eq_true, decide_eq_true_eq] at hl
      rw [List.foldl_cons, ih (j + 1) _ hl.2 (fun x hx => hz x (List.mem_cons_of_mem _ hx))]
      by_cases hja : j = a
      · subst hja
        have h0 : Tab.get 0 r j = 0 := by simp [Tab.get, Tab.find?_none_of_rising hl.2 (Nat.lt_succ_self j)]
        have h1 : Tab.get 0 ((j, w) :: r) j = w := by simp [Tab.get, Tab.find?]
        have hw : w ≠ 0 := hz (j, w) List.mem_cons_self
        rw [h0, h1, if_pos rfl, if_neg hw]
        exact State.reg_setReg_self t j _
      · have h1 : Tab.get 0 ((j, w) :: r) a = Tab.get 0 r a := by simp [Tab.get, Tab.find?, hja]
        have h2 : (t.takeEvents (j, w)).reg a = t.reg a := State.reg_setReg_ne t _ (Ne.symm hja)
        rw [h1, h2]
  exact key s.evt 0 { s with evt := [] } hr hz

@[simp] theorem State.commit_cnt (a : Nat) : s.commit.cnt a = s.cnt a := by simp [State.cnt]

theorem State.evt_wf_of_settled (h : s.evt = []) : Tab.wf (fun _ => (0 : Word)) s.evt = true := by rw [h]; rfl

/-! ## A count -/

theorem State.count_eq (a n : Nat) : ∃ c : Bool, s.count a n =
    ({ s with wide := Tab.set 0 s.wide a (s.cnt a + BitVec.ofNat 48 n) }).raiseIf c (halfFlag a).1 (halfFlag a).2 :=
  ⟨_, by unfold State.count State.raiseIf; rfl⟩

@[simp] theorem State.cnt_count_self (a n : Nat) : (s.count a n).cnt a = s.cnt a + BitVec.ofNat 48 n := by
  unfold State.count
  dsimp only
  split <;> exact Tab.get_set_self 0 s.wide a _

theorem State.cnt_count_ne {a b : Nat} (n : Nat) (h : b ≠ a) : (s.count a n).cnt b = s.cnt b := by
  unfold State.count
  dsimp only
  split <;> exact Tab.get_set_ne 0 0 s.wide _ h

/-- CNT_HALF: the flag of the counter's block is raised where bit 47 becomes 1. -/
theorem State.ev_count (a n b : Nat) : (s.count a n).ev b =
    if (!(s.cnt a).getLsbD 47 && (s.cnt a + BitVec.ofNat 48 n).getLsbD 47) = true ∧ b = (halfFlag a).1
    then putBit (s.ev b) (halfFlag a).2 true else s.ev b := by
  unfold State.count
  dsimp only
  by_cases h : (!(s.cnt a).getLsbD 47 && (s.cnt a + BitVec.ofNat 48 n).getLsbD 47) = true
  · rw [if_pos h, State.ev_raise]
    by_cases hb : b = (halfFlag a).1
    · rw [if_pos hb, if_pos ⟨h, hb⟩, hb]; rfl
    · rw [if_neg hb, if_neg (fun x => hb x.2)]; rfl
  · rw [if_neg h, if_neg (fun x => h x.1)]; rfl

theorem State.evt_wf_count (h : Tab.wf (fun _ => (0 : Word)) s.evt = true) (a n : Nat) :
    Tab.wf (fun _ => (0 : Word)) (s.count a n).evt = true := by
  unfold State.count
  dsimp only
  split
  · exact Tab.wf_modify h (halfFlag a).1 (fun w => putBit w (halfFlag a).2 true)
  · exact h


/-! ### `setReg` -/

@[simp] theorem State.cnt_setReg (a : Nat) (v : Word) (x_ : Nat) : (s.setReg a v).cnt x_ = s.cnt x_ := rfl
@[simp] theorem State.ev_setReg (a : Nat) (v : Word) (x_ : Nat) : (s.setReg a v).ev x_ = s.ev x_ := rfl

/-! ### `raise` -/

@[simp] theorem State.reg_raise (a i : Nat) (x_ : Nat) : (s.raise a i).reg x_ = s.reg x_ := rfl
@[simp] theorem State.cnt_raise (a i : Nat) (x_ : Nat) : (s.raise a i).cnt x_ = s.cnt x_ := rfl

/-! ### `send` -/

@[simp] theorem State.reg_send (o : Out) (x_ : Nat) : (s.send o).reg x_ = s.reg x_ := rfl
@[simp] theorem State.cnt_send (o : Out) (x_ : Nat) : (s.send o).cnt x_ = s.cnt x_ := rfl
@[simp] theorem State.ev_send (o : Out) (x_ : Nat) : (s.send o).ev x_ = s.ev x_ := rfl

/-! ### `offer` -/

@[simp] theorem State.reg_offer (m : FaultMsg) (x_ : Nat) : (s.offer m).reg x_ = s.reg x_ := rfl
@[simp] theorem State.cnt_offer (m : FaultMsg) (x_ : Nat) : (s.offer m).cnt x_ = s.cnt x_ := rfl
@[simp] theorem State.ev_offer (m : FaultMsg) (x_ : Nat) : (s.offer m).ev x_ = s.ev x_ := rfl

/-! ### `modPod` -/

@[simp] theorem State.reg_modPod (n : Nat) (f : Pod → Pod) (x_ : Nat) : (s.modPod n f).reg x_ = s.reg x_ := rfl
@[simp] theorem State.cnt_modPod (n : Nat) (f : Pod → Pod) (x_ : Nat) : (s.modPod n f).cnt x_ = s.cnt x_ := rfl
@[simp] theorem State.ev_modPod (n : Nat) (f : Pod → Pod) (x_ : Nat) : (s.modPod n f).ev x_ = s.ev x_ := rfl

/-! ### `modChan` -/

@[simp] theorem State.reg_modChan (n : Nat) (f : DsfCh → DsfCh) (x_ : Nat) : (s.modChan n f).reg x_ = s.reg x_ := rfl
@[simp] theorem State.cnt_modChan (n : Nat) (f : DsfCh → DsfCh) (x_ : Nat) : (s.modChan n f).cnt x_ = s.cnt x_ := rfl
@[simp] theorem State.ev_modChan (n : Nat) (f : DsfCh → DsfCh) (x_ : Nat) : (s.modChan n f).ev x_ = s.ev x_ := rfl

/-! ### `setDlink` -/

@[simp] theorem State.reg_setDlink (i : Nat) (l : DsfLink) (x_ : Nat) : (s.setDlink i l).reg x_ = s.reg x_ := rfl
@[simp] theorem State.cnt_setDlink (i : Nat) (l : DsfLink) (x_ : Nat) : (s.setDlink i l).cnt x_ = s.cnt x_ := rfl
@[simp] theorem State.ev_setDlink (i : Nat) (l : DsfLink) (x_ : Nat) : (s.setDlink i l).ev x_ = s.ev x_ := rfl

/-! ### `modCrossing` -/

@[simp] theorem State.reg_modCrossing (x : Nat) (f : Crossing → Crossing) (x_ : Nat) : (s.modCrossing x f).reg x_ = s.reg x_ := rfl
@[simp] theorem State.cnt_modCrossing (x : Nat) (f : Crossing → Crossing) (x_ : Nat) : (s.modCrossing x f).cnt x_ = s.cnt x_ := rfl
@[simp] theorem State.ev_modCrossing (x : Nat) (f : Crossing → Crossing) (x_ : Nat) : (s.modCrossing x f).ev x_ = s.ev x_ := rfl

/-! ### `setMcu` -/

@[simp] theorem State.reg_setMcu (i : Nat) (m : Mcu) (x_ : Nat) : (s.setMcu i m).reg x_ = s.reg x_ := rfl
@[simp] theorem State.cnt_setMcu (i : Nat) (m : Mcu) (x_ : Nat) : (s.setMcu i m).cnt x_ = s.cnt x_ := rfl
@[simp] theorem State.ev_setMcu (i : Nat) (m : Mcu) (x_ : Nat) : (s.setMcu i m).ev x_ = s.ev x_ := rfl

/-! ### `setSem` -/

@[simp] theorem State.reg_setSem (k : Nat) (x : Sem) (x_ : Nat) : (s.setSem k x).reg x_ = s.reg x_ := rfl
@[simp] theorem State.cnt_setSem (k : Nat) (x : Sem) (x_ : Nat) : (s.setSem k x).cnt x_ = s.cnt x_ := rfl
@[simp] theorem State.ev_setSem (k : Nat) (x : Sem) (x_ : Nat) : (s.setSem k x).ev x_ = s.ev x_ := rfl

/-! ### `setRule` -/

@[simp] theorem State.reg_setRule (k : Nat) (r : FltRule) (x_ : Nat) : (s.setRule k r).reg x_ = s.reg x_ := rfl
@[simp] theorem State.cnt_setRule (k : Nat) (r : FltRule) (x_ : Nat) : (s.setRule k r).cnt x_ = s.cnt x_ := rfl
@[simp] theorem State.ev_setRule (k : Nat) (r : FltRule) (x_ : Nat) : (s.setRule k r).ev x_ = s.ev x_ := rfl

/-! ### `setTrig` -/

@[simp] theorem State.reg_setTrig (t : Nat) (x : Trig) (x_ : Nat) : (s.setTrig t x).reg x_ = s.reg x_ := rfl
@[simp] theorem State.cnt_setTrig (t : Nat) (x : Trig) (x_ : Nat) : (s.setTrig t x).cnt x_ = s.cnt x_ := rfl
@[simp] theorem State.ev_setTrig (t : Nat) (x : Trig) (x_ : Nat) : (s.setTrig t x).ev x_ = s.ev x_ := rfl

/-! ### `setCap` -/

@[simp] theorem State.reg_setCap (c : Nat) (x : Cap) (x_ : Nat) : (s.setCap c x).reg x_ = s.reg x_ := rfl
@[simp] theorem State.cnt_setCap (c : Nat) (x : Cap) (x_ : Nat) : (s.setCap c x).cnt x_ = s.cnt x_ := rfl
@[simp] theorem State.ev_setCap (c : Nat) (x : Cap) (x_ : Nat) : (s.setCap c x).ev x_ = s.ev x_ := rfl

/-! ### `setTcSlot` -/

@[simp] theorem State.reg_setTcSlot (i : Nat) (x : Slot) (x_ : Nat) : (s.setTcSlot i x).reg x_ = s.reg x_ := rfl
@[simp] theorem State.cnt_setTcSlot (i : Nat) (x : Slot) (x_ : Nat) : (s.setTcSlot i x).cnt x_ = s.cnt x_ := rfl
@[simp] theorem State.ev_setTcSlot (i : Nat) (x : Slot) (x_ : Nat) : (s.setTcSlot i x).ev x_ = s.ev x_ := rfl

/-! ### `setPc` -/

@[simp] theorem State.reg_setPc (x : Nat) (p : PseudoCh) (x_ : Nat) : (s.setPc x p).reg x_ = s.reg x_ := rfl
@[simp] theorem State.cnt_setPc (x : Nat) (p : PseudoCh) (x_ : Nat) : (s.setPc x p).cnt x_ = s.cnt x_ := rfl
@[simp] theorem State.ev_setPc (x : Nat) (p : PseudoCh) (x_ : Nat) : (s.setPc x p).ev x_ = s.ev x_ := rfl

/-! ### `modNtm` -/

@[simp] theorem State.reg_modNtm (f : Ntm → Ntm) (x_ : Nat) : (s.modNtm f).reg x_ = s.reg x_ := rfl
@[simp] theorem State.cnt_modNtm (f : Ntm → Ntm) (x_ : Nat) : (s.modNtm f).cnt x_ = s.cnt x_ := rfl
@[simp] theorem State.ev_modNtm (f : Ntm → Ntm) (x_ : Nat) : (s.modNtm f).ev x_ = s.ev x_ := rfl

/-! ### `modClk` -/

@[simp] theorem State.reg_modClk (f : Clk → Clk) (x_ : Nat) : (s.modClk f).reg x_ = s.reg x_ := rfl
@[simp] theorem State.cnt_modClk (f : Clk → Clk) (x_ : Nat) : (s.modClk f).cnt x_ = s.cnt x_ := rfl
@[simp] theorem State.ev_modClk (f : Clk → Clk) (x_ : Nat) : (s.modClk f).ev x_ = s.ev x_ := rfl

/-! ### `modFlt` -/

@[simp] theorem State.reg_modFlt (f : Flt → Flt) (x_ : Nat) : (s.modFlt f).reg x_ = s.reg x_ := rfl
@[simp] theorem State.cnt_modFlt (f : Flt → Flt) (x_ : Nat) : (s.modFlt f).cnt x_ = s.cnt x_ := rfl
@[simp] theorem State.ev_modFlt (f : Flt → Flt) (x_ : Nat) : (s.modFlt f).ev x_ = s.ev x_ := rfl

/-! ### `modBoot` -/

@[simp] theorem State.reg_modBoot (f : Boot → Boot) (x_ : Nat) : (s.modBoot f).reg x_ = s.reg x_ := rfl
@[simp] theorem State.cnt_modBoot (f : Boot → Boot) (x_ : Nat) : (s.modBoot f).cnt x_ = s.cnt x_ := rfl
@[simp] theorem State.ev_modBoot (f : Boot → Boot) (x_ : Nat) : (s.modBoot f).ev x_ = s.ev x_ := rfl

/-! ### `modPwr` -/

@[simp] theorem State.reg_modPwr (f : Pwr → Pwr) (x_ : Nat) : (s.modPwr f).reg x_ = s.reg x_ := rfl
@[simp] theorem State.cnt_modPwr (f : Pwr → Pwr) (x_ : Nat) : (s.modPwr f).cnt x_ = s.cnt x_ := rfl
@[simp] theorem State.ev_modPwr (f : Pwr → Pwr) (x_ : Nat) : (s.modPwr f).ev x_ = s.ev x_ := rfl

/-! ### `modPads` -/

@[simp] theorem State.reg_modPads (f : Pads → Pads) (x_ : Nat) : (s.modPads f).reg x_ = s.reg x_ := rfl
@[simp] theorem State.cnt_modPads (f : Pads → Pads) (x_ : Nat) : (s.modPads f).cnt x_ = s.cnt x_ := rfl
@[simp] theorem State.ev_modPads (f : Pads → Pads) (x_ : Nat) : (s.modPads f).ev x_ = s.ev x_ := rfl

/-! ### `modHrd` -/

@[simp] theorem State.reg_modHrd (f : Hrd → Hrd) (x_ : Nat) : (s.modHrd f).reg x_ = s.reg x_ := rfl
@[simp] theorem State.cnt_modHrd (f : Hrd → Hrd) (x_ : Nat) : (s.modHrd f).cnt x_ = s.cnt x_ := rfl
@[simp] theorem State.ev_modHrd (f : Hrd → Hrd) (x_ : Nat) : (s.modHrd f).ev x_ = s.ev x_ := rfl

/-! ### `modDsf` -/

@[simp] theorem State.reg_modDsf (f : Dsf → Dsf) (x_ : Nat) : (s.modDsf f).reg x_ = s.reg x_ := rfl
@[simp] theorem State.cnt_modDsf (f : Dsf → Dsf) (x_ : Nat) : (s.modDsf f).cnt x_ = s.cnt x_ := rfl
@[simp] theorem State.ev_modDsf (f : Dsf → Dsf) (x_ : Nat) : (s.modDsf f).ev x_ = s.ev x_ := rfl

/-! ### `modAct` -/

@[simp] theorem State.reg_modAct (f : Act → Act) (x_ : Nat) : (s.modAct f).reg x_ = s.reg x_ := rfl
@[simp] theorem State.cnt_modAct (f : Act → Act) (x_ : Nat) : (s.modAct f).cnt x_ = s.cnt x_ := rfl
@[simp] theorem State.ev_modAct (f : Act → Act) (x_ : Nat) : (s.modAct f).ev x_ = s.ev x_ := rfl

/-! ### `modLsc` -/

@[simp] theorem State.reg_modLsc (f : Lsc → Lsc) (x_ : Nat) : (s.modLsc f).reg x_ = s.reg x_ := rfl
@[simp] theorem State.cnt_modLsc (f : Lsc → Lsc) (x_ : Nat) : (s.modLsc f).cnt x_ = s.cnt x_ := rfl
@[simp] theorem State.ev_modLsc (f : Lsc → Lsc) (x_ : Nat) : (s.modLsc f).ev x_ = s.ev x_ := rfl

/-! ### `modUsq` -/

@[simp] theorem State.reg_modUsq (f : Usq → Usq) (x_ : Nat) : (s.modUsq f).reg x_ = s.reg x_ := rfl
@[simp] theorem State.cnt_modUsq (f : Usq → Usq) (x_ : Nat) : (s.modUsq f).cnt x_ = s.cnt x_ := rfl
@[simp] theorem State.ev_modUsq (f : Usq → Usq) (x_ : Nat) : (s.modUsq f).ev x_ = s.ev x_ := rfl

/-! ### `modCls` -/

@[simp] theorem State.reg_modCls (f : Cls → Cls) (x_ : Nat) : (s.modCls f).reg x_ = s.reg x_ := rfl
@[simp] theorem State.cnt_modCls (f : Cls → Cls) (x_ : Nat) : (s.modCls f).cnt x_ = s.cnt x_ := rfl
@[simp] theorem State.ev_modCls (f : Cls → Cls) (x_ : Nat) : (s.modCls f).ev x_ = s.ev x_ := rfl

/-! ### `modTwn` -/

@[simp] theorem State.reg_modTwn (f : Twn → Twn) (x_ : Nat) : (s.modTwn f).reg x_ = s.reg x_ := rfl
@[simp] theorem State.cnt_modTwn (f : Twn → Twn) (x_ : Nat) : (s.modTwn f).cnt x_ = s.cnt x_ := rfl
@[simp] theorem State.ev_modTwn (f : Twn → Twn) (x_ : Nat) : (s.modTwn f).ev x_ = s.ev x_ := rfl

/-! ### `modHsk` -/

@[simp] theorem State.reg_modHsk (f : Hsk → Hsk) (x_ : Nat) : (s.modHsk f).reg x_ = s.reg x_ := rfl
@[simp] theorem State.cnt_modHsk (f : Hsk → Hsk) (x_ : Nat) : (s.modHsk f).cnt x_ = s.cnt x_ := rfl
@[simp] theorem State.ev_modHsk (f : Hsk → Hsk) (x_ : Nat) : (s.modHsk f).ev x_ = s.ev x_ := rfl

/-! ### `modShell` -/

@[simp] theorem State.reg_modShell (f : Shell → Shell) (x_ : Nat) : (s.modShell f).reg x_ = s.reg x_ := rfl
@[simp] theorem State.cnt_modShell (f : Shell → Shell) (x_ : Nat) : (s.modShell f).cnt x_ = s.cnt x_ := rfl
@[simp] theorem State.ev_modShell (f : Shell → Shell) (x_ : Nat) : (s.modShell f).ev x_ = s.ev x_ := rfl

/-! ### `modLease` -/

@[simp] theorem State.reg_modLease (f : TwnLease → TwnLease) (x_ : Nat) : (s.modLease f).reg x_ = s.reg x_ := rfl
@[simp] theorem State.cnt_modLease (f : TwnLease → TwnLease) (x_ : Nat) : (s.modLease f).cnt x_ = s.cnt x_ := rfl
@[simp] theorem State.ev_modLease (f : TwnLease → TwnLease) (x_ : Nat) : (s.modLease f).ev x_ = s.ev x_ := rfl

/-! ### `modPeer` -/

@[simp] theorem State.reg_modPeer (f : TwnPeer → TwnPeer) (x_ : Nat) : (s.modPeer f).reg x_ = s.reg x_ := rfl
@[simp] theorem State.cnt_modPeer (f : TwnPeer → TwnPeer) (x_ : Nat) : (s.modPeer f).cnt x_ = s.cnt x_ := rfl
@[simp] theorem State.ev_modPeer (f : TwnPeer → TwnPeer) (x_ : Nat) : (s.modPeer f).ev x_ = s.ev x_ := rfl

/-! ### `modMir` -/

@[simp] theorem State.reg_modMir (f : TwnMirror → TwnMirror) (x_ : Nat) : (s.modMir f).reg x_ = s.reg x_ := rfl
@[simp] theorem State.cnt_modMir (f : TwnMirror → TwnMirror) (x_ : Nat) : (s.modMir f).cnt x_ = s.cnt x_ := rfl
@[simp] theorem State.ev_modMir (f : TwnMirror → TwnMirror) (x_ : Nat) : (s.modMir f).ev x_ = s.ev x_ := rfl

/-! ### `modLinkT` -/

@[simp] theorem State.reg_modLinkT (f : TwnLink → TwnLink) (x_ : Nat) : (s.modLinkT f).reg x_ = s.reg x_ := rfl
@[simp] theorem State.cnt_modLinkT (f : TwnLink → TwnLink) (x_ : Nat) : (s.modLinkT f).cnt x_ = s.cnt x_ := rfl
@[simp] theorem State.ev_modLinkT (f : TwnLink → TwnLink) (x_ : Nat) : (s.modLinkT f).ev x_ = s.ev x_ := rfl

/-! ### `modTest` -/

@[simp] theorem State.reg_modTest (f : TwnTest → TwnTest) (x_ : Nat) : (s.modTest f).reg x_ = s.reg x_ := rfl
@[simp] theorem State.cnt_modTest (f : TwnTest → TwnTest) (x_ : Nat) : (s.modTest f).cnt x_ = s.cnt x_ := rfl
@[simp] theorem State.ev_modTest (f : TwnTest → TwnTest) (x_ : Nat) : (s.modTest f).ev x_ = s.ev x_ := rfl

/-! ### `modQueue` -/

@[simp] theorem State.reg_modQueue (q : Nat) (f : Queue → Queue) (x_ : Nat) : (s.modQueue q f).reg x_ = s.reg x_ := rfl
@[simp] theorem State.cnt_modQueue (q : Nat) (f : Queue → Queue) (x_ : Nat) : (s.modQueue q f).cnt x_ = s.cnt x_ := rfl
@[simp] theorem State.ev_modQueue (q : Nat) (f : Queue → Queue) (x_ : Nat) : (s.modQueue q f).ev x_ = s.ev x_ := rfl

/-! ### `modUlink` -/

@[simp] theorem State.reg_modUlink (i : Nat) (f : ULink → ULink) (x_ : Nat) : (s.modUlink i f).reg x_ = s.reg x_ := rfl
@[simp] theorem State.cnt_modUlink (i : Nat) (f : ULink → ULink) (x_ : Nat) : (s.modUlink i f).cnt x_ = s.cnt x_ := rfl
@[simp] theorem State.ev_modUlink (i : Nat) (f : ULink → ULink) (x_ : Nat) : (s.modUlink i f).ev x_ = s.ev x_ := rfl

/-! ### `modAlloc` -/

@[simp] theorem State.reg_modAlloc (a : Nat) (f : Alloc → Alloc) (x_ : Nat) : (s.modAlloc a f).reg x_ = s.reg x_ := rfl
@[simp] theorem State.cnt_modAlloc (a : Nat) (f : Alloc → Alloc) (x_ : Nat) : (s.modAlloc a f).cnt x_ = s.cnt x_ := rfl
@[simp] theorem State.ev_modAlloc (a : Nat) (f : Alloc → Alloc) (x_ : Nat) : (s.modAlloc a f).ev x_ = s.ev x_ := rfl

/-! ### `modUbt` -/

@[simp] theorem State.reg_modUbt (n : Nat) (f : UbtCh → UbtCh) (x_ : Nat) : (s.modUbt n f).reg x_ = s.reg x_ := rfl
@[simp] theorem State.cnt_modUbt (n : Nat) (f : UbtCh → UbtCh) (x_ : Nat) : (s.modUbt n f).cnt x_ = s.cnt x_ := rfl
@[simp] theorem State.ev_modUbt (n : Nat) (f : UbtCh → UbtCh) (x_ : Nat) : (s.modUbt n f).ev x_ = s.ev x_ := rfl

/-! ### `setKeys` -/

@[simp] theorem State.reg_setKeys (k : Nat) (x : LinkKeys) (x_ : Nat) : (s.setKeys k x).reg x_ = s.reg x_ := rfl
@[simp] theorem State.cnt_setKeys (k : Nat) (x : LinkKeys) (x_ : Nat) : (s.setKeys k x).cnt x_ = s.cnt x_ := rfl
@[simp] theorem State.ev_setKeys (k : Nat) (x : LinkKeys) (x_ : Nat) : (s.setKeys k x).ev x_ = s.ev x_ := rfl

/-! ### `modPort` -/

@[simp] theorem State.reg_modPort (p : Nat) (f : HostPort → HostPort) (x_ : Nat) : (s.modPort p f).reg x_ = s.reg x_ := rfl
@[simp] theorem State.cnt_modPort (p : Nat) (f : HostPort → HostPort) (x_ : Nat) : (s.modPort p f).cnt x_ = s.cnt x_ := rfl
@[simp] theorem State.ev_modPort (p : Nat) (f : HostPort → HostPort) (x_ : Nat) : (s.modPort p f).ev x_ = s.ev x_ := rfl

/-! ### `modActCh` -/

@[simp] theorem State.reg_modActCh (n : Nat) (f : ActCh → ActCh) (x_ : Nat) : (s.modActCh n f).reg x_ = s.reg x_ := rfl
@[simp] theorem State.cnt_modActCh (n : Nat) (f : ActCh → ActCh) (x_ : Nat) : (s.modActCh n f).cnt x_ = s.cnt x_ := rfl
@[simp] theorem State.ev_modActCh (n : Nat) (f : ActCh → ActCh) (x_ : Nat) : (s.modActCh n f).ev x_ = s.ev x_ := rfl

/-! ### `modMcu` -/

@[simp] theorem State.reg_modMcu (n : Nat) (f : Mcu → Mcu) (x_ : Nat) : (s.modMcu n f).reg x_ = s.reg x_ := rfl
@[simp] theorem State.cnt_modMcu (n : Nat) (f : Mcu → Mcu) (x_ : Nat) : (s.modMcu n f).cnt x_ = s.cnt x_ := rfl
@[simp] theorem State.ev_modMcu (n : Nat) (f : Mcu → Mcu) (x_ : Nat) : (s.modMcu n f).ev x_ = s.ev x_ := rfl

/-! ### `passTicks` -/

@[simp] theorem State.reg_passTicks (k : Nat) (x_ : Nat) : (s.passTicks k).reg x_ = s.reg x_ := rfl
@[simp] theorem State.cnt_passTicks (k : Nat) (x_ : Nat) : (s.passTicks k).cnt x_ = s.cnt x_ := rfl
@[simp] theorem State.ev_passTicks (k : Nat) (x_ : Nat) : (s.passTicks k).ev x_ = s.ev x_ := rfl

/-! ### `count` -/

@[simp] theorem State.count_pending (a n : Nat) : (s.count a n).pending = s.pending := by
  unfold State.count; dsimp only; split <;> rfl
@[simp] theorem State.count_ticks (a n : Nat) : (s.count a n).ticks = s.ticks := by
  unfold State.count; dsimp only; split <;> rfl
@[simp] theorem State.count_fresh (a n : Nat) : (s.count a n).fresh = s.fresh := by
  unfold State.count; dsimp only; split <;> rfl
@[simp] theorem State.count_regs (a n : Nat) : (s.count a n).regs = s.regs := by
  unfold State.count; dsimp only; split <;> rfl
@[simp] theorem State.count_out (a n : Nat) : (s.count a n).out = s.out := by
  unfold State.count; dsimp only; split <;> rfl
@[simp] theorem State.count_spi (a n : Nat) : (s.count a n).spi = s.spi := by
  unfold State.count; dsimp only; split <;> rfl
@[simp] theorem State.count_guards (a n : Nat) : (s.count a n).guards = s.guards := by
  unfold State.count; dsimp only; split <;> rfl
@[simp] theorem State.count_clk (a n : Nat) : (s.count a n).clk = s.clk := by
  unfold State.count; dsimp only; split <;> rfl
@[simp] theorem State.count_flt (a n : Nat) : (s.count a n).flt = s.flt := by
  unfold State.count; dsimp only; split <;> rfl
@[simp] theorem State.count_boot (a n : Nat) : (s.count a n).boot = s.boot := by
  unfold State.count; dsimp only; split <;> rfl
@[simp] theorem State.count_sems (a n : Nat) : (s.count a n).sems = s.sems := by
  unfold State.count; dsimp only; split <;> rfl
@[simp] theorem State.count_pwr (a n : Nat) : (s.count a n).pwr = s.pwr := by
  unfold State.count; dsimp only; split <;> rfl
@[simp] theorem State.count_pads (a n : Nat) : (s.count a n).pads = s.pads := by
  unfold State.count; dsimp only; split <;> rfl
@[simp] theorem State.count_ntm (a n : Nat) : (s.count a n).ntm = s.ntm := by
  unfold State.count; dsimp only; split <;> rfl
@[simp] theorem State.count_hrd (a n : Nat) : (s.count a n).hrd = s.hrd := by
  unfold State.count; dsimp only; split <;> rfl
@[simp] theorem State.count_arb (a n : Nat) : (s.count a n).arb = s.arb := by
  unfold State.count; dsimp only; split <;> rfl
@[simp] theorem State.count_pods (a n : Nat) : (s.count a n).pods = s.pods := by
  unfold State.count; dsimp only; split <;> rfl
@[simp] theorem State.count_dsf (a n : Nat) : (s.count a n).dsf = s.dsf := by
  unfold State.count; dsimp only; split <;> rfl
@[simp] theorem State.count_act (a n : Nat) : (s.count a n).act = s.act := by
  unfold State.count; dsimp only; split <;> rfl
@[simp] theorem State.count_lsc (a n : Nat) : (s.count a n).lsc = s.lsc := by
  unfold State.count; dsimp only; split <;> rfl
@[simp] theorem State.count_usq (a n : Nat) : (s.count a n).usq = s.usq := by
  unfold State.count; dsimp only; split <;> rfl
@[simp] theorem State.count_ubt (a n : Nat) : (s.count a n).ubt = s.ubt := by
  unfold State.count; dsimp only; split <;> rfl
@[simp] theorem State.count_twn (a n : Nat) : (s.count a n).twn = s.twn := by
  unfold State.count; dsimp only; split <;> rfl
@[simp] theorem State.count_arrivals (a n : Nat) : (s.count a n).arrivals = s.arrivals := by
  unfold State.count; dsimp only; split <;> rfl
@[simp] theorem State.count_ports (a n : Nat) : (s.count a n).ports = s.ports := by
  unfold State.count; dsimp only; split <;> rfl
@[simp] theorem State.count_cls (a n : Nat) : (s.count a n).cls = s.cls := by
  unfold State.count; dsimp only; split <;> rfl
@[simp] theorem State.count_hsk (a n : Nat) : (s.count a n).hsk = s.hsk := by
  unfold State.count; dsimp only; split <;> rfl
@[simp] theorem State.count_shell (a n : Nat) : (s.count a n).shell = s.shell := by
  unfold State.count; dsimp only; split <;> rfl
@[simp] theorem State.reg_count (a n : Nat) (x_ : Nat) : (s.count a n).reg x_ = s.reg x_ := by
  simp [State.reg]

/-! ### `bump` -/

@[simp] theorem State.bump_pending (a : Nat) : (s.bump a).pending = s.pending := by
  simp [State.bump]
@[simp] theorem State.bump_ticks (a : Nat) : (s.bump a).ticks = s.ticks := by
  simp [State.bump]
@[simp] theorem State.bump_fresh (a : Nat) : (s.bump a).fresh = s.fresh := by
  simp [State.bump]
@[simp] theorem State.bump_regs (a : Nat) : (s.bump a).regs = s.regs := by
  simp [State.bump]
@[simp] theorem State.bump_out (a : Nat) : (s.bump a).out = s.out := by
  simp [State.bump]
@[simp] theorem State.bump_spi (a : Nat) : (s.bump a).spi = s.spi := by
  simp [State.bump]
@[simp] theorem State.bump_guards (a : Nat) : (s.bump a).guards = s.guards := by
  simp [State.bump]
@[simp] theorem State.bump_clk (a : Nat) : (s.bump a).clk = s.clk := by
  simp [State.bump]
@[simp] theorem State.bump_flt (a : Nat) : (s.bump a).flt = s.flt := by
  simp [State.bump]
@[simp] theorem State.bump_boot (a : Nat) : (s.bump a).boot = s.boot := by
  simp [State.bump]
@[simp] theorem State.bump_sems (a : Nat) : (s.bump a).sems = s.sems := by
  simp [State.bump]
@[simp] theorem State.bump_pwr (a : Nat) : (s.bump a).pwr = s.pwr := by
  simp [State.bump]
@[simp] theorem State.bump_pads (a : Nat) : (s.bump a).pads = s.pads := by
  simp [State.bump]
@[simp] theorem State.bump_ntm (a : Nat) : (s.bump a).ntm = s.ntm := by
  simp [State.bump]
@[simp] theorem State.bump_hrd (a : Nat) : (s.bump a).hrd = s.hrd := by
  simp [State.bump]
@[simp] theorem State.bump_arb (a : Nat) : (s.bump a).arb = s.arb := by
  simp [State.bump]
@[simp] theorem State.bump_pods (a : Nat) : (s.bump a).pods = s.pods := by
  simp [State.bump]
@[simp] theorem State.bump_dsf (a : Nat) : (s.bump a).dsf = s.dsf := by
  simp [State.bump]
@[simp] theorem State.bump_act (a : Nat) : (s.bump a).act = s.act := by
  simp [State.bump]
@[simp] theorem State.bump_lsc (a : Nat) : (s.bump a).lsc = s.lsc := by
  simp [State.bump]
@[simp] theorem State.bump_usq (a : Nat) : (s.bump a).usq = s.usq := by
  simp [State.bump]
@[simp] theorem State.bump_ubt (a : Nat) : (s.bump a).ubt = s.ubt := by
  simp [State.bump]
@[simp] theorem State.bump_twn (a : Nat) : (s.bump a).twn = s.twn := by
  simp [State.bump]
@[simp] theorem State.bump_arrivals (a : Nat) : (s.bump a).arrivals = s.arrivals := by
  simp [State.bump]
@[simp] theorem State.bump_ports (a : Nat) : (s.bump a).ports = s.ports := by
  simp [State.bump]
@[simp] theorem State.bump_cls (a : Nat) : (s.bump a).cls = s.cls := by
  simp [State.bump]
@[simp] theorem State.bump_hsk (a : Nat) : (s.bump a).hsk = s.hsk := by
  simp [State.bump]
@[simp] theorem State.bump_shell (a : Nat) : (s.bump a).shell = s.shell := by
  simp [State.bump]
@[simp] theorem State.reg_bump (a : Nat) (x_ : Nat) : (s.bump a).reg x_ = s.reg x_ := by
  simp [State.reg]

@[simp] theorem State.cnt_bump_self (a : Nat) : (s.bump a).cnt a = s.cnt a + 1 := State.cnt_count_self s a 1
theorem State.cnt_bump_ne {a b : Nat} (h : b ≠ a) : (s.bump a).cnt b = s.cnt b := State.cnt_count_ne s 1 h
theorem State.ev_bump (a b : Nat) : (s.bump a).ev b =
    if (!(s.cnt a).getLsbD 47 && (s.cnt a + 1).getLsbD 47) = true ∧ b = (halfFlag a).1
    then putBit (s.ev b) (halfFlag a).2 true else s.ev b := State.ev_count s a 1 b
theorem State.evt_wf_bump (h : Tab.wf (fun _ => (0 : Word)) s.evt = true) (a : Nat) :
    Tab.wf (fun _ => (0 : Word)) (s.bump a).evt = true := State.evt_wf_count s h a 1


/-! ### `raiseIf` -/

@[simp] theorem State.raiseIf_pending (c : Bool) (a i : Nat) : (s.raiseIf c a i).pending = s.pending := by
  unfold State.raiseIf; split <;> rfl
@[simp] theorem State.raiseIf_ticks (c : Bool) (a i : Nat) : (s.raiseIf c a i).ticks = s.ticks := by
  unfold State.raiseIf; split <;> rfl
@[simp] theorem State.raiseIf_fresh (c : Bool) (a i : Nat) : (s.raiseIf c a i).fresh = s.fresh := by
  unfold State.raiseIf; split <;> rfl
@[simp] theorem State.raiseIf_regs (c : Bool) (a i : Nat) : (s.raiseIf c a i).regs = s.regs := by
  unfold State.raiseIf; split <;> rfl
@[simp] theorem State.raiseIf_wide (c : Bool) (a i : Nat) : (s.raiseIf c a i).wide = s.wide := by
  unfold State.raiseIf; split <;> rfl
@[simp] theorem State.raiseIf_out (c : Bool) (a i : Nat) : (s.raiseIf c a i).out = s.out := by
  unfold State.raiseIf; split <;> rfl
@[simp] theorem State.raiseIf_spi (c : Bool) (a i : Nat) : (s.raiseIf c a i).spi = s.spi := by
  unfold State.raiseIf; split <;> rfl
@[simp] theorem State.raiseIf_guards (c : Bool) (a i : Nat) : (s.raiseIf c a i).guards = s.guards := by
  unfold State.raiseIf; split <;> rfl
@[simp] theorem State.raiseIf_clk (c : Bool) (a i : Nat) : (s.raiseIf c a i).clk = s.clk := by
  unfold State.raiseIf; split <;> rfl
@[simp] theorem State.raiseIf_flt (c : Bool) (a i : Nat) : (s.raiseIf c a i).flt = s.flt := by
  unfold State.raiseIf; split <;> rfl
@[simp] theorem State.raiseIf_boot (c : Bool) (a i : Nat) : (s.raiseIf c a i).boot = s.boot := by
  unfold State.raiseIf; split <;> rfl
@[simp] theorem State.raiseIf_sems (c : Bool) (a i : Nat) : (s.raiseIf c a i).sems = s.sems := by
  unfold State.raiseIf; split <;> rfl
@[simp] theorem State.raiseIf_pwr (c : Bool) (a i : Nat) : (s.raiseIf c a i).pwr = s.pwr := by
  unfold State.raiseIf; split <;> rfl
@[simp] theorem State.raiseIf_pads (c : Bool) (a i : Nat) : (s.raiseIf c a i).pads = s.pads := by
  unfold State.raiseIf; split <;> rfl
@[simp] theorem State.raiseIf_ntm (c : Bool) (a i : Nat) : (s.raiseIf c a i).ntm = s.ntm := by
  unfold State.raiseIf; split <;> rfl
@[simp] theorem State.raiseIf_hrd (c : Bool) (a i : Nat) : (s.raiseIf c a i).hrd = s.hrd := by
  unfold State.raiseIf; split <;> rfl
@[simp] theorem State.raiseIf_arb (c : Bool) (a i : Nat) : (s.raiseIf c a i).arb = s.arb := by
  unfold State.raiseIf; split <;> rfl
@[simp] theorem State.raiseIf_pods (c : Bool) (a i : Nat) : (s.raiseIf c a i).pods = s.pods := by
  unfold State.raiseIf; split <;> rfl
@[simp] theorem State.raiseIf_dsf (c : Bool) (a i : Nat) : (s.raiseIf c a i).dsf = s.dsf := by
  unfold State.raiseIf; split <;> rfl
@[simp] theorem State.raiseIf_act (c : Bool) (a i : Nat) : (s.raiseIf c a i).act = s.act := by
  unfold State.raiseIf; split <;> rfl
@[simp] theorem State.raiseIf_lsc (c : Bool) (a i : Nat) : (s.raiseIf c a i).lsc = s.lsc := by
  unfold State.raiseIf; split <;> rfl
@[simp] theorem State.raiseIf_usq (c : Bool) (a i : Nat) : (s.raiseIf c a i).usq = s.usq := by
  unfold State.raiseIf; split <;> rfl
@[simp] theorem State.raiseIf_ubt (c : Bool) (a i : Nat) : (s.raiseIf c a i).ubt = s.ubt := by
  unfold State.raiseIf; split <;> rfl
@[simp] theorem State.raiseIf_twn (c : Bool) (a i : Nat) : (s.raiseIf c a i).twn = s.twn := by
  unfold State.raiseIf; split <;> rfl
@[simp] theorem State.raiseIf_arrivals (c : Bool) (a i : Nat) : (s.raiseIf c a i).arrivals = s.arrivals := by
  unfold State.raiseIf; split <;> rfl
@[simp] theorem State.raiseIf_ports (c : Bool) (a i : Nat) : (s.raiseIf c a i).ports = s.ports := by
  unfold State.raiseIf; split <;> rfl
@[simp] theorem State.raiseIf_cls (c : Bool) (a i : Nat) : (s.raiseIf c a i).cls = s.cls := by
  unfold State.raiseIf; split <;> rfl
@[simp] theorem State.raiseIf_hsk (c : Bool) (a i : Nat) : (s.raiseIf c a i).hsk = s.hsk := by
  unfold State.raiseIf; split <;> rfl
@[simp] theorem State.raiseIf_shell (c : Bool) (a i : Nat) : (s.raiseIf c a i).shell = s.shell := by
  unfold State.raiseIf; split <;> rfl
@[simp] theorem State.reg_raiseIf (c : Bool) (a i : Nat) (x_ : Nat) : (s.raiseIf c a i).reg x_ = s.reg x_ := by
  simp [State.reg]
@[simp] theorem State.cnt_raiseIf (c : Bool) (a i : Nat) (x_ : Nat) : (s.raiseIf c a i).cnt x_ = s.cnt x_ := by
  simp [State.cnt]

@[simp] theorem State.ev_raiseIf (c : Bool) (a i b : Nat) :
    (s.raiseIf c a i).ev b = if c = true ∧ b = a then putBit (s.ev a) i true else s.ev b := by
  unfold State.raiseIf
  cases c <;> simp

theorem State.evt_wf_raiseIf (h : Tab.wf (fun _ => (0 : Word)) s.evt = true) (c : Bool) (a i : Nat) :
    Tab.wf (fun _ => (0 : Word)) (s.raiseIf c a i).evt = true := by
  unfold State.raiseIf
  split
  · exact State.evt_wf_raise s h a i
  · exact h


/-! ### `bumpIf` -/

@[simp] theorem State.bumpIf_pending (c : Bool) (a : Nat) : (s.bumpIf c a).pending = s.pending := by
  unfold State.bumpIf; split <;> simp
@[simp] theorem State.bumpIf_ticks (c : Bool) (a : Nat) : (s.bumpIf c a).ticks = s.ticks := by
  unfold State.bumpIf; split <;> simp
@[simp] theorem State.bumpIf_fresh (c : Bool) (a : Nat) : (s.bumpIf c a).fresh = s.fresh := by
  unfold State.bumpIf; split <;> simp
@[simp] theorem State.bumpIf_regs (c : Bool) (a : Nat) : (s.bumpIf c a).regs = s.regs := by
  unfold State.bumpIf; split <;> simp
@[simp] theorem State.bumpIf_out (c : Bool) (a : Nat) : (s.bumpIf c a).out = s.out := by
  unfold State.bumpIf; split <;> simp
@[simp] theorem State.bumpIf_spi (c : Bool) (a : Nat) : (s.bumpIf c a).spi = s.spi := by
  unfold State.bumpIf; split <;> simp
@[simp] theorem State.bumpIf_guards (c : Bool) (a : Nat) : (s.bumpIf c a).guards = s.guards := by
  unfold State.bumpIf; split <;> simp
@[simp] theorem State.bumpIf_clk (c : Bool) (a : Nat) : (s.bumpIf c a).clk = s.clk := by
  unfold State.bumpIf; split <;> simp
@[simp] theorem State.bumpIf_flt (c : Bool) (a : Nat) : (s.bumpIf c a).flt = s.flt := by
  unfold State.bumpIf; split <;> simp
@[simp] theorem State.bumpIf_boot (c : Bool) (a : Nat) : (s.bumpIf c a).boot = s.boot := by
  unfold State.bumpIf; split <;> simp
@[simp] theorem State.bumpIf_sems (c : Bool) (a : Nat) : (s.bumpIf c a).sems = s.sems := by
  unfold State.bumpIf; split <;> simp
@[simp] theorem State.bumpIf_pwr (c : Bool) (a : Nat) : (s.bumpIf c a).pwr = s.pwr := by
  unfold State.bumpIf; split <;> simp
@[simp] theorem State.bumpIf_pads (c : Bool) (a : Nat) : (s.bumpIf c a).pads = s.pads := by
  unfold State.bumpIf; split <;> simp
@[simp] theorem State.bumpIf_ntm (c : Bool) (a : Nat) : (s.bumpIf c a).ntm = s.ntm := by
  unfold State.bumpIf; split <;> simp
@[simp] theorem State.bumpIf_hrd (c : Bool) (a : Nat) : (s.bumpIf c a).hrd = s.hrd := by
  unfold State.bumpIf; split <;> simp
@[simp] theorem State.bumpIf_arb (c : Bool) (a : Nat) : (s.bumpIf c a).arb = s.arb := by
  unfold State.bumpIf; split <;> simp
@[simp] theorem State.bumpIf_pods (c : Bool) (a : Nat) : (s.bumpIf c a).pods = s.pods := by
  unfold State.bumpIf; split <;> simp
@[simp] theorem State.bumpIf_dsf (c : Bool) (a : Nat) : (s.bumpIf c a).dsf = s.dsf := by
  unfold State.bumpIf; split <;> simp
@[simp] theorem State.bumpIf_act (c : Bool) (a : Nat) : (s.bumpIf c a).act = s.act := by
  unfold State.bumpIf; split <;> simp
@[simp] theorem State.bumpIf_lsc (c : Bool) (a : Nat) : (s.bumpIf c a).lsc = s.lsc := by
  unfold State.bumpIf; split <;> simp
@[simp] theorem State.bumpIf_usq (c : Bool) (a : Nat) : (s.bumpIf c a).usq = s.usq := by
  unfold State.bumpIf; split <;> simp
@[simp] theorem State.bumpIf_ubt (c : Bool) (a : Nat) : (s.bumpIf c a).ubt = s.ubt := by
  unfold State.bumpIf; split <;> simp
@[simp] theorem State.bumpIf_twn (c : Bool) (a : Nat) : (s.bumpIf c a).twn = s.twn := by
  unfold State.bumpIf; split <;> simp
@[simp] theorem State.bumpIf_arrivals (c : Bool) (a : Nat) : (s.bumpIf c a).arrivals = s.arrivals := by
  unfold State.bumpIf; split <;> simp
@[simp] theorem State.bumpIf_ports (c : Bool) (a : Nat) : (s.bumpIf c a).ports = s.ports := by
  unfold State.bumpIf; split <;> simp
@[simp] theorem State.bumpIf_cls (c : Bool) (a : Nat) : (s.bumpIf c a).cls = s.cls := by
  unfold State.bumpIf; split <;> simp
@[simp] theorem State.bumpIf_hsk (c : Bool) (a : Nat) : (s.bumpIf c a).hsk = s.hsk := by
  unfold State.bumpIf; split <;> simp
@[simp] theorem State.bumpIf_shell (c : Bool) (a : Nat) : (s.bumpIf c a).shell = s.shell := by
  unfold State.bumpIf; split <;> simp
@[simp] theorem State.reg_bumpIf (c : Bool) (a : Nat) (x_ : Nat) : (s.bumpIf c a).reg x_ = s.reg x_ := by
  simp [State.reg]

theorem State.evt_wf_bumpIf (h : Tab.wf (fun _ => (0 : Word)) s.evt = true) (c : Bool) (a : Nat) :
    Tab.wf (fun _ => (0 : Word)) (s.bumpIf c a).evt = true := by
  unfold State.bumpIf
  split
  · exact State.evt_wf_bump s h a
  · exact h


/-! ### `setFld` -/

@[simp] theorem State.setFld_pending (a hi lo v : Nat) : (s.setFld a hi lo v).pending = s.pending := by
  simp [State.setFld]
@[simp] theorem State.setFld_ticks (a hi lo v : Nat) : (s.setFld a hi lo v).ticks = s.ticks := by
  simp [State.setFld]
@[simp] theorem State.setFld_fresh (a hi lo v : Nat) : (s.setFld a hi lo v).fresh = s.fresh := by
  simp [State.setFld]
@[simp] theorem State.setFld_wide (a hi lo v : Nat) : (s.setFld a hi lo v).wide = s.wide := by
  simp [State.setFld]
@[simp] theorem State.setFld_evt (a hi lo v : Nat) : (s.setFld a hi lo v).evt = s.evt := by
  simp [State.setFld]
@[simp] theorem State.setFld_out (a hi lo v : Nat) : (s.setFld a hi lo v).out = s.out := by
  simp [State.setFld]
@[simp] theorem State.setFld_spi (a hi lo v : Nat) : (s.setFld a hi lo v).spi = s.spi := by
  simp [State.setFld]
@[simp] theorem State.setFld_guards (a hi lo v : Nat) : (s.setFld a hi lo v).guards = s.guards := by
  simp [State.setFld]
@[simp] theorem State.setFld_clk (a hi lo v : Nat) : (s.setFld a hi lo v).clk = s.clk := by
  simp [State.setFld]
@[simp] theorem State.setFld_flt (a hi lo v : Nat) : (s.setFld a hi lo v).flt = s.flt := by
  simp [State.setFld]
@[simp] theorem State.setFld_boot (a hi lo v : Nat) : (s.setFld a hi lo v).boot = s.boot := by
  simp [State.setFld]
@[simp] theorem State.setFld_sems (a hi lo v : Nat) : (s.setFld a hi lo v).sems = s.sems := by
  simp [State.setFld]
@[simp] theorem State.setFld_pwr (a hi lo v : Nat) : (s.setFld a hi lo v).pwr = s.pwr := by
  simp [State.setFld]
@[simp] theorem State.setFld_pads (a hi lo v : Nat) : (s.setFld a hi lo v).pads = s.pads := by
  simp [State.setFld]
@[simp] theorem State.setFld_ntm (a hi lo v : Nat) : (s.setFld a hi lo v).ntm = s.ntm := by
  simp [State.setFld]
@[simp] theorem State.setFld_hrd (a hi lo v : Nat) : (s.setFld a hi lo v).hrd = s.hrd := by
  simp [State.setFld]
@[simp] theorem State.setFld_arb (a hi lo v : Nat) : (s.setFld a hi lo v).arb = s.arb := by
  simp [State.setFld]
@[simp] theorem State.setFld_pods (a hi lo v : Nat) : (s.setFld a hi lo v).pods = s.pods := by
  simp [State.setFld]
@[simp] theorem State.setFld_dsf (a hi lo v : Nat) : (s.setFld a hi lo v).dsf = s.dsf := by
  simp [State.setFld]
@[simp] theorem State.setFld_act (a hi lo v : Nat) : (s.setFld a hi lo v).act = s.act := by
  simp [State.setFld]
@[simp] theorem State.setFld_lsc (a hi lo v : Nat) : (s.setFld a hi lo v).lsc = s.lsc := by
  simp [State.setFld]
@[simp] theorem State.setFld_usq (a hi lo v : Nat) : (s.setFld a hi lo v).usq = s.usq := by
  simp [State.setFld]
@[simp] theorem State.setFld_ubt (a hi lo v : Nat) : (s.setFld a hi lo v).ubt = s.ubt := by
  simp [State.setFld]
@[simp] theorem State.setFld_twn (a hi lo v : Nat) : (s.setFld a hi lo v).twn = s.twn := by
  simp [State.setFld]
@[simp] theorem State.setFld_arrivals (a hi lo v : Nat) : (s.setFld a hi lo v).arrivals = s.arrivals := by
  simp [State.setFld]
@[simp] theorem State.setFld_ports (a hi lo v : Nat) : (s.setFld a hi lo v).ports = s.ports := by
  simp [State.setFld]
@[simp] theorem State.setFld_cls (a hi lo v : Nat) : (s.setFld a hi lo v).cls = s.cls := by
  simp [State.setFld]
@[simp] theorem State.setFld_hsk (a hi lo v : Nat) : (s.setFld a hi lo v).hsk = s.hsk := by
  simp [State.setFld]
@[simp] theorem State.setFld_shell (a hi lo v : Nat) : (s.setFld a hi lo v).shell = s.shell := by
  simp [State.setFld]
@[simp] theorem State.cnt_setFld (a hi lo v : Nat) (x_ : Nat) : (s.setFld a hi lo v).cnt x_ = s.cnt x_ := by
  simp [State.cnt]
@[simp] theorem State.ev_setFld (a hi lo v : Nat) (x_ : Nat) : (s.setFld a hi lo v).ev x_ = s.ev x_ := by
  simp [State.ev]

/-! ### `bump32` -/

@[simp] theorem State.bump32_pending (a n : Nat) : (s.bump32 a n).pending = s.pending := by
  simp [State.bump32]
@[simp] theorem State.bump32_ticks (a n : Nat) : (s.bump32 a n).ticks = s.ticks := by
  simp [State.bump32]
@[simp] theorem State.bump32_fresh (a n : Nat) : (s.bump32 a n).fresh = s.fresh := by
  simp [State.bump32]
@[simp] theorem State.bump32_wide (a n : Nat) : (s.bump32 a n).wide = s.wide := by
  simp [State.bump32]
@[simp] theorem State.bump32_evt (a n : Nat) : (s.bump32 a n).evt = s.evt := by
  simp [State.bump32]
@[simp] theorem State.bump32_out (a n : Nat) : (s.bump32 a n).out = s.out := by
  simp [State.bump32]
@[simp] theorem State.bump32_spi (a n : Nat) : (s.bump32 a n).spi = s.spi := by
  simp [State.bump32]
@[simp] theorem State.bump32_guards (a n : Nat) : (s.bump32 a n).guards = s.guards := by
  simp [State.bump32]
@[simp] theorem State.bump32_clk (a n : Nat) : (s.bump32 a n).clk = s.clk := by
  simp [State.bump32]
@[simp] theorem State.bump32_flt (a n : Nat) : (s.bump32 a n).flt = s.flt := by
  simp [State.bump32]
@[simp] theorem State.bump32_boot (a n : Nat) : (s.bump32 a n).boot = s.boot := by
  simp [State.bump32]
@[simp] theorem State.bump32_sems (a n : Nat) : (s.bump32 a n).sems = s.sems := by
  simp [State.bump32]
@[simp] theorem State.bump32_pwr (a n : Nat) : (s.bump32 a n).pwr = s.pwr := by
  simp [State.bump32]
@[simp] theorem State.bump32_pads (a n : Nat) : (s.bump32 a n).pads = s.pads := by
  simp [State.bump32]
@[simp] theorem State.bump32_ntm (a n : Nat) : (s.bump32 a n).ntm = s.ntm := by
  simp [State.bump32]
@[simp] theorem State.bump32_hrd (a n : Nat) : (s.bump32 a n).hrd = s.hrd := by
  simp [State.bump32]
@[simp] theorem State.bump32_arb (a n : Nat) : (s.bump32 a n).arb = s.arb := by
  simp [State.bump32]
@[simp] theorem State.bump32_pods (a n : Nat) : (s.bump32 a n).pods = s.pods := by
  simp [State.bump32]
@[simp] theorem State.bump32_dsf (a n : Nat) : (s.bump32 a n).dsf = s.dsf := by
  simp [State.bump32]
@[simp] theorem State.bump32_act (a n : Nat) : (s.bump32 a n).act = s.act := by
  simp [State.bump32]
@[simp] theorem State.bump32_lsc (a n : Nat) : (s.bump32 a n).lsc = s.lsc := by
  simp [State.bump32]
@[simp] theorem State.bump32_usq (a n : Nat) : (s.bump32 a n).usq = s.usq := by
  simp [State.bump32]
@[simp] theorem State.bump32_ubt (a n : Nat) : (s.bump32 a n).ubt = s.ubt := by
  simp [State.bump32]
@[simp] theorem State.bump32_twn (a n : Nat) : (s.bump32 a n).twn = s.twn := by
  simp [State.bump32]
@[simp] theorem State.bump32_arrivals (a n : Nat) : (s.bump32 a n).arrivals = s.arrivals := by
  simp [State.bump32]
@[simp] theorem State.bump32_ports (a n : Nat) : (s.bump32 a n).ports = s.ports := by
  simp [State.bump32]
@[simp] theorem State.bump32_cls (a n : Nat) : (s.bump32 a n).cls = s.cls := by
  simp [State.bump32]
@[simp] theorem State.bump32_hsk (a n : Nat) : (s.bump32 a n).hsk = s.hsk := by
  simp [State.bump32]
@[simp] theorem State.bump32_shell (a n : Nat) : (s.bump32 a n).shell = s.shell := by
  simp [State.bump32]
@[simp] theorem State.cnt_bump32 (a n : Nat) (x_ : Nat) : (s.bump32 a n).cnt x_ = s.cnt x_ := by
  simp [State.cnt]
@[simp] theorem State.ev_bump32 (a n : Nat) (x_ : Nat) : (s.bump32 a n).ev x_ = s.ev x_ := by
  simp [State.ev]

@[simp] theorem State.reg_setFld_self (a hi lo v : Nat) :
    (s.setFld a hi lo v).reg a = BitVec.ofNat 32 (setBits (s.reg a).toNat hi lo v) := State.reg_setReg_self s a _
theorem State.reg_setFld_ne {a b : Nat} (hi lo v : Nat) (h : b ≠ a) : (s.setFld a hi lo v).reg b = s.reg b :=
  State.reg_setReg_ne s _ h
@[simp] theorem State.reg_bump32_self (a n : Nat) : (s.bump32 a n).reg a = s.reg a + BitVec.ofNat 32 n :=
  State.reg_setReg_self s a _
theorem State.reg_bump32_ne {a b : Nat} (n : Nat) (h : b ≠ a) : (s.bump32 a n).reg b = s.reg b :=
  State.reg_setReg_ne s _ h


/-! ### `fault` -/

@[simp] theorem State.fault_pending (src : BitVec 18) (kind ctx flags : Nat) : (s.fault src kind ctx flags).pending = s.pending := by
  simp [State.fault]
@[simp] theorem State.fault_ticks (src : BitVec 18) (kind ctx flags : Nat) : (s.fault src kind ctx flags).ticks = s.ticks := by
  simp [State.fault]
@[simp] theorem State.fault_fresh (src : BitVec 18) (kind ctx flags : Nat) : (s.fault src kind ctx flags).fresh = s.fresh := by
  simp [State.fault]
@[simp] theorem State.fault_regs (src : BitVec 18) (kind ctx flags : Nat) : (s.fault src kind ctx flags).regs = s.regs := by
  simp [State.fault]
@[simp] theorem State.fault_wide (src : BitVec 18) (kind ctx flags : Nat) : (s.fault src kind ctx flags).wide = s.wide := by
  simp [State.fault]
@[simp] theorem State.fault_evt (src : BitVec 18) (kind ctx flags : Nat) : (s.fault src kind ctx flags).evt = s.evt := by
  simp [State.fault]
@[simp] theorem State.fault_out (src : BitVec 18) (kind ctx flags : Nat) : (s.fault src kind ctx flags).out = s.out := by
  simp [State.fault]
@[simp] theorem State.fault_spi (src : BitVec 18) (kind ctx flags : Nat) : (s.fault src kind ctx flags).spi = s.spi := by
  simp [State.fault]
@[simp] theorem State.fault_guards (src : BitVec 18) (kind ctx flags : Nat) : (s.fault src kind ctx flags).guards = s.guards := by
  simp [State.fault]
@[simp] theorem State.fault_clk (src : BitVec 18) (kind ctx flags : Nat) : (s.fault src kind ctx flags).clk = s.clk := by
  simp [State.fault]
@[simp] theorem State.fault_boot (src : BitVec 18) (kind ctx flags : Nat) : (s.fault src kind ctx flags).boot = s.boot := by
  simp [State.fault]
@[simp] theorem State.fault_sems (src : BitVec 18) (kind ctx flags : Nat) : (s.fault src kind ctx flags).sems = s.sems := by
  simp [State.fault]
@[simp] theorem State.fault_pwr (src : BitVec 18) (kind ctx flags : Nat) : (s.fault src kind ctx flags).pwr = s.pwr := by
  simp [State.fault]
@[simp] theorem State.fault_pads (src : BitVec 18) (kind ctx flags : Nat) : (s.fault src kind ctx flags).pads = s.pads := by
  simp [State.fault]
@[simp] theorem State.fault_ntm (src : BitVec 18) (kind ctx flags : Nat) : (s.fault src kind ctx flags).ntm = s.ntm := by
  simp [State.fault]
@[simp] theorem State.fault_hrd (src : BitVec 18) (kind ctx flags : Nat) : (s.fault src kind ctx flags).hrd = s.hrd := by
  simp [State.fault]
@[simp] theorem State.fault_arb (src : BitVec 18) (kind ctx flags : Nat) : (s.fault src kind ctx flags).arb = s.arb := by
  simp [State.fault]
@[simp] theorem State.fault_pods (src : BitVec 18) (kind ctx flags : Nat) : (s.fault src kind ctx flags).pods = s.pods := by
  simp [State.fault]
@[simp] theorem State.fault_dsf (src : BitVec 18) (kind ctx flags : Nat) : (s.fault src kind ctx flags).dsf = s.dsf := by
  simp [State.fault]
@[simp] theorem State.fault_act (src : BitVec 18) (kind ctx flags : Nat) : (s.fault src kind ctx flags).act = s.act := by
  simp [State.fault]
@[simp] theorem State.fault_lsc (src : BitVec 18) (kind ctx flags : Nat) : (s.fault src kind ctx flags).lsc = s.lsc := by
  simp [State.fault]
@[simp] theorem State.fault_usq (src : BitVec 18) (kind ctx flags : Nat) : (s.fault src kind ctx flags).usq = s.usq := by
  simp [State.fault]
@[simp] theorem State.fault_ubt (src : BitVec 18) (kind ctx flags : Nat) : (s.fault src kind ctx flags).ubt = s.ubt := by
  simp [State.fault]
@[simp] theorem State.fault_twn (src : BitVec 18) (kind ctx flags : Nat) : (s.fault src kind ctx flags).twn = s.twn := by
  simp [State.fault]
@[simp] theorem State.fault_arrivals (src : BitVec 18) (kind ctx flags : Nat) : (s.fault src kind ctx flags).arrivals = s.arrivals := by
  simp [State.fault]
@[simp] theorem State.fault_ports (src : BitVec 18) (kind ctx flags : Nat) : (s.fault src kind ctx flags).ports = s.ports := by
  simp [State.fault]
@[simp] theorem State.fault_cls (src : BitVec 18) (kind ctx flags : Nat) : (s.fault src kind ctx flags).cls = s.cls := by
  simp [State.fault]
@[simp] theorem State.fault_hsk (src : BitVec 18) (kind ctx flags : Nat) : (s.fault src kind ctx flags).hsk = s.hsk := by
  simp [State.fault]
@[simp] theorem State.fault_shell (src : BitVec 18) (kind ctx flags : Nat) : (s.fault src kind ctx flags).shell = s.shell := by
  simp [State.fault]
@[simp] theorem State.reg_fault (src : BitVec 18) (kind ctx flags : Nat) (x_ : Nat) : (s.fault src kind ctx flags).reg x_ = s.reg x_ := by
  simp [State.reg]
@[simp] theorem State.cnt_fault (src : BitVec 18) (kind ctx flags : Nat) (x_ : Nat) : (s.fault src kind ctx flags).cnt x_ = s.cnt x_ := by
  simp [State.cnt]
@[simp] theorem State.ev_fault (src : BitVec 18) (kind ctx flags : Nat) (x_ : Nat) : (s.fault src kind ctx flags).ev x_ = s.ev x_ := by
  simp [State.ev]

/-! ### `setArb` -/

@[simp] theorem State.setArb_pending (i : Nat) (x : ArbInst) : (s.setArb i x).pending = s.pending := by
  unfold State.setArb; split <;> rfl
@[simp] theorem State.setArb_ticks (i : Nat) (x : ArbInst) : (s.setArb i x).ticks = s.ticks := by
  unfold State.setArb; split <;> rfl
@[simp] theorem State.setArb_fresh (i : Nat) (x : ArbInst) : (s.setArb i x).fresh = s.fresh := by
  unfold State.setArb; split <;> rfl
@[simp] theorem State.setArb_regs (i : Nat) (x : ArbInst) : (s.setArb i x).regs = s.regs := by
  unfold State.setArb; split <;> rfl
@[simp] theorem State.setArb_wide (i : Nat) (x : ArbInst) : (s.setArb i x).wide = s.wide := by
  unfold State.setArb; split <;> rfl
@[simp] theorem State.setArb_evt (i : Nat) (x : ArbInst) : (s.setArb i x).evt = s.evt := by
  unfold State.setArb; split <;> rfl
@[simp] theorem State.setArb_out (i : Nat) (x : ArbInst) : (s.setArb i x).out = s.out := by
  unfold State.setArb; split <;> rfl
@[simp] theorem State.setArb_spi (i : Nat) (x : ArbInst) : (s.setArb i x).spi = s.spi := by
  unfold State.setArb; split <;> rfl
@[simp] theorem State.setArb_guards (i : Nat) (x : ArbInst) : (s.setArb i x).guards = s.guards := by
  unfold State.setArb; split <;> rfl
@[simp] theorem State.setArb_clk (i : Nat) (x : ArbInst) : (s.setArb i x).clk = s.clk := by
  unfold State.setArb; split <;> rfl
@[simp] theorem State.setArb_flt (i : Nat) (x : ArbInst) : (s.setArb i x).flt = s.flt := by
  unfold State.setArb; split <;> rfl
@[simp] theorem State.setArb_boot (i : Nat) (x : ArbInst) : (s.setArb i x).boot = s.boot := by
  unfold State.setArb; split <;> rfl
@[simp] theorem State.setArb_sems (i : Nat) (x : ArbInst) : (s.setArb i x).sems = s.sems := by
  unfold State.setArb; split <;> rfl
@[simp] theorem State.setArb_pwr (i : Nat) (x : ArbInst) : (s.setArb i x).pwr = s.pwr := by
  unfold State.setArb; split <;> rfl
@[simp] theorem State.setArb_pads (i : Nat) (x : ArbInst) : (s.setArb i x).pads = s.pads := by
  unfold State.setArb; split <;> rfl
@[simp] theorem State.setArb_ntm (i : Nat) (x : ArbInst) : (s.setArb i x).ntm = s.ntm := by
  unfold State.setArb; split <;> rfl
@[simp] theorem State.setArb_hrd (i : Nat) (x : ArbInst) : (s.setArb i x).hrd = s.hrd := by
  unfold State.setArb; split <;> rfl
@[simp] theorem State.setArb_pods (i : Nat) (x : ArbInst) : (s.setArb i x).pods = s.pods := by
  unfold State.setArb; split <;> rfl
@[simp] theorem State.setArb_dsf (i : Nat) (x : ArbInst) : (s.setArb i x).dsf = s.dsf := by
  unfold State.setArb; split <;> rfl
@[simp] theorem State.setArb_act (i : Nat) (x : ArbInst) : (s.setArb i x).act = s.act := by
  unfold State.setArb; split <;> rfl
@[simp] theorem State.setArb_lsc (i : Nat) (x : ArbInst) : (s.setArb i x).lsc = s.lsc := by
  unfold State.setArb; split <;> rfl
@[simp] theorem State.setArb_usq (i : Nat) (x : ArbInst) : (s.setArb i x).usq = s.usq := by
  unfold State.setArb; split <;> rfl
@[simp] theorem State.setArb_ubt (i : Nat) (x : ArbInst) : (s.setArb i x).ubt = s.ubt := by
  unfold State.setArb; split <;> rfl
@[simp] theorem State.setArb_twn (i : Nat) (x : ArbInst) : (s.setArb i x).twn = s.twn := by
  unfold State.setArb; split <;> rfl
@[simp] theorem State.setArb_arrivals (i : Nat) (x : ArbInst) : (s.setArb i x).arrivals = s.arrivals := by
  unfold State.setArb; split <;> rfl
@[simp] theorem State.setArb_ports (i : Nat) (x : ArbInst) : (s.setArb i x).ports = s.ports := by
  unfold State.setArb; split <;> rfl
@[simp] theorem State.setArb_cls (i : Nat) (x : ArbInst) : (s.setArb i x).cls = s.cls := by
  unfold State.setArb; split <;> rfl
@[simp] theorem State.setArb_hsk (i : Nat) (x : ArbInst) : (s.setArb i x).hsk = s.hsk := by
  unfold State.setArb; split <;> rfl
@[simp] theorem State.setArb_shell (i : Nat) (x : ArbInst) : (s.setArb i x).shell = s.shell := by
  unfold State.setArb; split <;> rfl
@[simp] theorem State.reg_setArb (i : Nat) (x : ArbInst) (x_ : Nat) : (s.setArb i x).reg x_ = s.reg x_ := by
  simp [State.reg]
@[simp] theorem State.cnt_setArb (i : Nat) (x : ArbInst) (x_ : Nat) : (s.setArb i x).cnt x_ = s.cnt x_ := by
  simp [State.cnt]
@[simp] theorem State.ev_setArb (i : Nat) (x : ArbInst) (x_ : Nat) : (s.setArb i x).ev x_ = s.ev x_ := by
  simp [State.ev]

/-! ### `passTo` -/

@[simp] theorem State.passTo_pending (k : Nat) : (s.passTo k).pending = s.pending := by
  simp [State.passTo]
@[simp] theorem State.passTo_fresh (k : Nat) : (s.passTo k).fresh = s.fresh := by
  simp [State.passTo]
@[simp] theorem State.passTo_regs (k : Nat) : (s.passTo k).regs = s.regs := by
  simp [State.passTo]
@[simp] theorem State.passTo_wide (k : Nat) : (s.passTo k).wide = s.wide := by
  simp [State.passTo]
@[simp] theorem State.passTo_evt (k : Nat) : (s.passTo k).evt = s.evt := by
  simp [State.passTo]
@[simp] theorem State.passTo_out (k : Nat) : (s.passTo k).out = s.out := by
  simp [State.passTo]
@[simp] theorem State.passTo_spi (k : Nat) : (s.passTo k).spi = s.spi := by
  simp [State.passTo]
@[simp] theorem State.passTo_guards (k : Nat) : (s.passTo k).guards = s.guards := by
  simp [State.passTo]
@[simp] theorem State.passTo_clk (k : Nat) : (s.passTo k).clk = s.clk := by
  simp [State.passTo]
@[simp] theorem State.passTo_flt (k : Nat) : (s.passTo k).flt = s.flt := by
  simp [State.passTo]
@[simp] theorem State.passTo_boot (k : Nat) : (s.passTo k).boot = s.boot := by
  simp [State.passTo]
@[simp] theorem State.passTo_sems (k : Nat) : (s.passTo k).sems = s.sems := by
  simp [State.passTo]
@[simp] theorem State.passTo_pwr (k : Nat) : (s.passTo k).pwr = s.pwr := by
  simp [State.passTo]
@[simp] theorem State.passTo_pads (k : Nat) : (s.passTo k).pads = s.pads := by
  simp [State.passTo]
@[simp] theorem State.passTo_hrd (k : Nat) : (s.passTo k).hrd = s.hrd := by
  simp [State.passTo]
@[simp] theorem State.passTo_arb (k : Nat) : (s.passTo k).arb = s.arb := by
  simp [State.passTo]
@[simp] theorem State.passTo_pods (k : Nat) : (s.passTo k).pods = s.pods := by
  simp [State.passTo]
@[simp] theorem State.passTo_dsf (k : Nat) : (s.passTo k).dsf = s.dsf := by
  simp [State.passTo]
@[simp] theorem State.passTo_act (k : Nat) : (s.passTo k).act = s.act := by
  simp [State.passTo]
@[simp] theorem State.passTo_lsc (k : Nat) : (s.passTo k).lsc = s.lsc := by
  simp [State.passTo]
@[simp] theorem State.passTo_usq (k : Nat) : (s.passTo k).usq = s.usq := by
  simp [State.passTo]
@[simp] theorem State.passTo_ubt (k : Nat) : (s.passTo k).ubt = s.ubt := by
  simp [State.passTo]
@[simp] theorem State.passTo_arrivals (k : Nat) : (s.passTo k).arrivals = s.arrivals := by
  simp [State.passTo]
@[simp] theorem State.passTo_ports (k : Nat) : (s.passTo k).ports = s.ports := by
  simp [State.passTo]
@[simp] theorem State.passTo_cls (k : Nat) : (s.passTo k).cls = s.cls := by
  simp [State.passTo]
@[simp] theorem State.passTo_hsk (k : Nat) : (s.passTo k).hsk = s.hsk := by
  simp [State.passTo]
@[simp] theorem State.passTo_shell (k : Nat) : (s.passTo k).shell = s.shell := by
  simp [State.passTo]
@[simp] theorem State.reg_passTo (k : Nat) (x_ : Nat) : (s.passTo k).reg x_ = s.reg x_ := by
  simp [State.reg]
@[simp] theorem State.cnt_passTo (k : Nat) (x_ : Nat) : (s.passTo k).cnt x_ = s.cnt x_ := by
  simp [State.cnt]
@[simp] theorem State.ev_passTo (k : Nat) (x_ : Nat) : (s.passTo k).ev x_ = s.ev x_ := by
  simp [State.ev]

/-! ### `passToTick` -/

@[simp] theorem State.passToTick_pending (k : Nat) : (s.passToTick k).pending = s.pending := by
  simp [State.passToTick]
@[simp] theorem State.passToTick_fresh (k : Nat) : (s.passToTick k).fresh = s.fresh := by
  simp [State.passToTick]
@[simp] theorem State.passToTick_regs (k : Nat) : (s.passToTick k).regs = s.regs := by
  simp [State.passToTick]
@[simp] theorem State.passToTick_wide (k : Nat) : (s.passToTick k).wide = s.wide := by
  simp [State.passToTick]
@[simp] theorem State.passToTick_evt (k : Nat) : (s.passToTick k).evt = s.evt := by
  simp [State.passToTick]
@[simp] theorem State.passToTick_out (k : Nat) : (s.passToTick k).out = s.out := by
  simp [State.passToTick]
@[simp] theorem State.passToTick_spi (k : Nat) : (s.passToTick k).spi = s.spi := by
  simp [State.passToTick]
@[simp] theorem State.passToTick_guards (k : Nat) : (s.passToTick k).guards = s.guards := by
  simp [State.passToTick]
@[simp] theorem State.passToTick_clk (k : Nat) : (s.passToTick k).clk = s.clk := by
  simp [State.passToTick]
@[simp] theorem State.passToTick_flt (k : Nat) : (s.passToTick k).flt = s.flt := by
  simp [State.passToTick]
@[simp] theorem State.passToTick_boot (k : Nat) : (s.passToTick k).boot = s.boot := by
  simp [State.passToTick]
@[simp] theorem State.passToTick_sems (k : Nat) : (s.passToTick k).sems = s.sems := by
  simp [State.passToTick]
@[simp] theorem State.passToTick_pwr (k : Nat) : (s.passToTick k).pwr = s.pwr := by
  simp [State.passToTick]
@[simp] theorem State.passToTick_pads (k : Nat) : (s.passToTick k).pads = s.pads := by
  simp [State.passToTick]
@[simp] theorem State.passToTick_hrd (k : Nat) : (s.passToTick k).hrd = s.hrd := by
  simp [State.passToTick]
@[simp] theorem State.passToTick_arb (k : Nat) : (s.passToTick k).arb = s.arb := by
  simp [State.passToTick]
@[simp] theorem State.passToTick_pods (k : Nat) : (s.passToTick k).pods = s.pods := by
  simp [State.passToTick]
@[simp] theorem State.passToTick_dsf (k : Nat) : (s.passToTick k).dsf = s.dsf := by
  simp [State.passToTick]
@[simp] theorem State.passToTick_act (k : Nat) : (s.passToTick k).act = s.act := by
  simp [State.passToTick]
@[simp] theorem State.passToTick_lsc (k : Nat) : (s.passToTick k).lsc = s.lsc := by
  simp [State.passToTick]
@[simp] theorem State.passToTick_usq (k : Nat) : (s.passToTick k).usq = s.usq := by
  simp [State.passToTick]
@[simp] theorem State.passToTick_ubt (k : Nat) : (s.passToTick k).ubt = s.ubt := by
  simp [State.passToTick]
@[simp] theorem State.passToTick_arrivals (k : Nat) : (s.passToTick k).arrivals = s.arrivals := by
  simp [State.passToTick]
@[simp] theorem State.passToTick_ports (k : Nat) : (s.passToTick k).ports = s.ports := by
  simp [State.passToTick]
@[simp] theorem State.passToTick_cls (k : Nat) : (s.passToTick k).cls = s.cls := by
  simp [State.passToTick]
@[simp] theorem State.passToTick_hsk (k : Nat) : (s.passToTick k).hsk = s.hsk := by
  simp [State.passToTick]
@[simp] theorem State.passToTick_shell (k : Nat) : (s.passToTick k).shell = s.shell := by
  simp [State.passToTick]
@[simp] theorem State.reg_passToTick (k : Nat) (x_ : Nat) : (s.passToTick k).reg x_ = s.reg x_ := by
  simp [State.reg]
@[simp] theorem State.cnt_passToTick (k : Nat) (x_ : Nat) : (s.passToTick k).cnt x_ = s.cnt x_ := by
  simp [State.cnt]
@[simp] theorem State.ev_passToTick (k : Nat) (x_ : Nat) : (s.passToTick k).ev x_ = s.ev x_ := by
  simp [State.ev]

end Sys2Proof.Machine
end

