-- ==== Sys2Proof/Laws/Access.lean ====
section
/-! SUPPORT. One register access: what the grant around it changes, and the access that is served at once. -/

namespace Sys2Proof.Machine

open Host (Outcome)

variable (s : State)

/-! ## Grants -/

/-! ### `remask` -/

@[simp] theorem State.remask_pending (i : Nat) : (s.remask i).pending = s.pending := by
  simp [State.remask]
@[simp] theorem State.remask_ticks (i : Nat) : (s.remask i).ticks = s.ticks := by
  simp [State.remask]
@[simp] theorem State.remask_fresh (i : Nat) : (s.remask i).fresh = s.fresh := by
  simp [State.remask]
@[simp] theorem State.remask_regs (i : Nat) : (s.remask i).regs = s.regs := by
  simp [State.remask]
@[simp] theorem State.remask_wide (i : Nat) : (s.remask i).wide = s.wide := by
  simp [State.remask]
@[simp] theorem State.remask_out (i : Nat) : (s.remask i).out = s.out := by
  simp [State.remask]
@[simp] theorem State.remask_spi (i : Nat) : (s.remask i).spi = s.spi := by
  simp [State.remask]
@[simp] theorem State.remask_guards (i : Nat) : (s.remask i).guards = s.guards := by
  simp [State.remask]
@[simp] theorem State.remask_clk (i : Nat) : (s.remask i).clk = s.clk := by
  simp [State.remask]
@[simp] theorem State.remask_flt (i : Nat) : (s.remask i).flt = s.flt := by
  simp [State.remask]
@[simp] theorem State.remask_boot (i : Nat) : (s.remask i).boot = s.boot := by
  simp [State.remask]
@[simp] theorem State.remask_sems (i : Nat) : (s.remask i).sems = s.sems := by
  simp [State.remask]
@[simp] theorem State.remask_pwr (i : Nat) : (s.remask i).pwr = s.pwr := by
  simp [State.remask]
@[simp] theorem State.remask_pads (i : Nat) : (s.remask i).pads = s.pads := by
  simp [State.remask]
@[simp] theorem State.remask_ntm (i : Nat) : (s.remask i).ntm = s.ntm := by
  simp [State.remask]
@[simp] theorem State.remask_hrd (i : Nat) : (s.remask i).hrd = s.hrd := by
  simp [State.remask]
@[simp] theorem State.remask_pods (i : Nat) : (s.remask i).pods = s.pods := by
  simp [State.remask]
@[simp] theorem State.remask_dsf (i : Nat) : (s.remask i).dsf = s.dsf := by
  simp [State.remask]
@[simp] theorem State.remask_act (i : Nat) : (s.remask i).act = s.act := by
  simp [State.remask]
@[simp] theorem State.remask_lsc (i : Nat) : (s.remask i).lsc = s.lsc := by
  simp [State.remask]
@[simp] theorem State.remask_usq (i : Nat) : (s.remask i).usq = s.usq := by
  simp [State.remask]
@[simp] theorem State.remask_ubt (i : Nat) : (s.remask i).ubt = s.ubt := by
  simp [State.remask]
@[simp] theorem State.remask_twn (i : Nat) : (s.remask i).twn = s.twn := by
  simp [State.remask]
@[simp] theorem State.remask_arrivals (i : Nat) : (s.remask i).arrivals = s.arrivals := by
  simp [State.remask]
@[simp] theorem State.remask_ports (i : Nat) : (s.remask i).ports = s.ports := by
  simp [State.remask]
@[simp] theorem State.remask_cls (i : Nat) : (s.remask i).cls = s.cls := by
  simp [State.remask]
@[simp] theorem State.remask_hsk (i : Nat) : (s.remask i).hsk = s.hsk := by
  simp [State.remask]
@[simp] theorem State.remask_shell (i : Nat) : (s.remask i).shell = s.shell := by
  simp [State.remask]
@[simp] theorem State.reg_remask (i : Nat) (x_ : Nat) : (s.remask i).reg x_ = s.reg x_ := by
  simp [State.reg]
@[simp] theorem State.cnt_remask (i : Nat) (x_ : Nat) : (s.remask i).cnt x_ = s.cnt x_ := by
  simp [State.cnt]

/-! ### `freezeCheck` -/

@[simp] theorem State.freezeCheck_pending (i : Nat) : (s.freezeCheck i).pending = s.pending := by
  unfold State.freezeCheck; dsimp only; split <;> simp
@[simp] theorem State.freezeCheck_ticks (i : Nat) : (s.freezeCheck i).ticks = s.ticks := by
  unfold State.freezeCheck; dsimp only; split <;> simp
@[simp] theorem State.freezeCheck_fresh (i : Nat) : (s.freezeCheck i).fresh = s.fresh := by
  unfold State.freezeCheck; dsimp only; split <;> simp
@[simp] theorem State.freezeCheck_regs (i : Nat) : (s.freezeCheck i).regs = s.regs := by
  unfold State.freezeCheck; dsimp only; split <;> simp
@[simp] theorem State.freezeCheck_wide (i : Nat) : (s.freezeCheck i).wide = s.wide := by
  unfold State.freezeCheck; dsimp only; split <;> simp
@[simp] theorem State.freezeCheck_out (i : Nat) : (s.freezeCheck i).out = s.out := by
  unfold State.freezeCheck; dsimp only; split <;> simp
@[simp] theorem State.freezeCheck_spi (i : Nat) : (s.freezeCheck i).spi = s.spi := by
  unfold State.freezeCheck; dsimp only; split <;> simp
@[simp] theorem State.freezeCheck_guards (i : Nat) : (s.freezeCheck i).guards = s.guards := by
  unfold State.freezeCheck; dsimp only; split <;> simp
@[simp] theorem State.freezeCheck_clk (i : Nat) : (s.freezeCheck i).clk = s.clk := by
  unfold State.freezeCheck; dsimp only; split <;> simp
@[simp] theorem State.freezeCheck_flt (i : Nat) : (s.freezeCheck i).flt = s.flt := by
  unfold State.freezeCheck; dsimp only; split <;> simp
@[simp] theorem State.freezeCheck_boot (i : Nat) : (s.freezeCheck i).boot = s.boot := by
  unfold State.freezeCheck; dsimp only; split <;> simp
@[simp] theorem State.freezeCheck_sems (i : Nat) : (s.freezeCheck i).sems = s.sems := by
  unfold State.freezeCheck; dsimp only; split <;> simp
@[simp] theorem State.freezeCheck_pwr (i : Nat) : (s.freezeCheck i).pwr = s.pwr := by
  unfold State.freezeCheck; dsimp only; split <;> simp
@[simp] theorem State.freezeCheck_pads (i : Nat) : (s.freezeCheck i).pads = s.pads := by
  unfold State.freezeCheck; dsimp only; split <;> simp
@[simp] theorem State.freezeCheck_ntm (i : Nat) : (s.freezeCheck i).ntm = s.ntm := by
  unfold State.freezeCheck; dsimp only; split <;> simp
@[simp] theorem State.freezeCheck_hrd (i : Nat) : (s.freezeCheck i).hrd = s.hrd := by
  unfold State.freezeCheck; dsimp only; split <;> simp
@[simp] theorem State.freezeCheck_pods (i : Nat) : (s.freezeCheck i).pods = s.pods := by
  unfold State.freezeCheck; dsimp only; split <;> simp
@[simp] theorem State.freezeCheck_dsf (i : Nat) : (s.freezeCheck i).dsf = s.dsf := by
  unfold State.freezeCheck; dsimp only; split <;> simp
@[simp] theorem State.freezeCheck_act (i : Nat) : (s.freezeCheck i).act = s.act := by
  unfold State.freezeCheck; dsimp only; split <;> simp
@[simp] theorem State.freezeCheck_lsc (i : Nat) : (s.freezeCheck i).lsc = s.lsc := by
  unfold State.freezeCheck; dsimp only; split <;> simp
@[simp] theorem State.freezeCheck_usq (i : Nat) : (s.freezeCheck i).usq = s.usq := by
  unfold State.freezeCheck; dsimp only; split <;> simp
@[simp] theorem State.freezeCheck_ubt (i : Nat) : (s.freezeCheck i).ubt = s.ubt := by
  unfold State.freezeCheck; dsimp only; split <;> simp
@[simp] theorem State.freezeCheck_twn (i : Nat) : (s.freezeCheck i).twn = s.twn := by
  unfold State.freezeCheck; dsimp only; split <;> simp
@[simp] theorem State.freezeCheck_arrivals (i : Nat) : (s.freezeCheck i).arrivals = s.arrivals := by
  unfold State.freezeCheck; dsimp only; split <;> simp
@[simp] theorem State.freezeCheck_ports (i : Nat) : (s.freezeCheck i).ports = s.ports := by
  unfold State.freezeCheck; dsimp only; split <;> simp
@[simp] theorem State.freezeCheck_cls (i : Nat) : (s.freezeCheck i).cls = s.cls := by
  unfold State.freezeCheck; dsimp only; split <;> simp
@[simp] theorem State.freezeCheck_hsk (i : Nat) : (s.freezeCheck i).hsk = s.hsk := by
  unfold State.freezeCheck; dsimp only; split <;> simp
@[simp] theorem State.freezeCheck_shell (i : Nat) : (s.freezeCheck i).shell = s.shell := by
  unfold State.freezeCheck; dsimp only; split <;> simp
@[simp] theorem State.reg_freezeCheck (i : Nat) (x_ : Nat) : (s.freezeCheck i).reg x_ = s.reg x_ := by
  simp [State.reg]
@[simp] theorem State.cnt_freezeCheck (i : Nat) (x_ : Nat) : (s.freezeCheck i).cnt x_ = s.cnt x_ := by
  simp [State.cnt]

/-! ### `endGrant` -/

@[simp] theorem State.endGrant_pending (i k : Nat) : (s.endGrant i k).pending = s.pending := by
  unfold State.endGrant; dsimp only; split <;> simp
@[simp] theorem State.endGrant_ticks (i k : Nat) : (s.endGrant i k).ticks = s.ticks := by
  unfold State.endGrant; dsimp only; split <;> simp
@[simp] theorem State.endGrant_fresh (i k : Nat) : (s.endGrant i k).fresh = s.fresh := by
  unfold State.endGrant; dsimp only; split <;> simp
@[simp] theorem State.endGrant_regs (i k : Nat) : (s.endGrant i k).regs = s.regs := by
  unfold State.endGrant; dsimp only; split <;> simp
@[simp] theorem State.endGrant_wide (i k : Nat) : (s.endGrant i k).wide = s.wide := by
  unfold State.endGrant; dsimp only; split <;> simp
@[simp] theorem State.endGrant_out (i k : Nat) : (s.endGrant i k).out = s.out := by
  unfold State.endGrant; dsimp only; split <;> simp
@[simp] theorem State.endGrant_spi (i k : Nat) : (s.endGrant i k).spi = s.spi := by
  unfold State.endGrant; dsimp only; split <;> simp
@[simp] theorem State.endGrant_guards (i k : Nat) : (s.endGrant i k).guards = s.guards := by
  unfold State.endGrant; dsimp only; split <;> simp
@[simp] theorem State.endGrant_clk (i k : Nat) : (s.endGrant i k).clk = s.clk := by
  unfold State.endGrant; dsimp only; split <;> simp
@[simp] theorem State.endGrant_flt (i k : Nat) : (s.endGrant i k).flt = s.flt := by
  unfold State.endGrant; dsimp only; split <;> simp
@[simp] theorem State.endGrant_boot (i k : Nat) : (s.endGrant i k).boot = s.boot := by
  unfold State.endGrant; dsimp only; split <;> simp
@[simp] theorem State.endGrant_sems (i k : Nat) : (s.endGrant i k).sems = s.sems := by
  unfold State.endGrant; dsimp only; split <;> simp
@[simp] theorem State.endGrant_pwr (i k : Nat) : (s.endGrant i k).pwr = s.pwr := by
  unfold State.endGrant; dsimp only; split <;> simp
@[simp] theorem State.endGrant_pads (i k : Nat) : (s.endGrant i k).pads = s.pads := by
  unfold State.endGrant; dsimp only; split <;> simp
@[simp] theorem State.endGrant_ntm (i k : Nat) : (s.endGrant i k).ntm = s.ntm := by
  unfold State.endGrant; dsimp only; split <;> simp
@[simp] theorem State.endGrant_hrd (i k : Nat) : (s.endGrant i k).hrd = s.hrd := by
  unfold State.endGrant; dsimp only; split <;> simp
@[simp] theorem State.endGrant_pods (i k : Nat) : (s.endGrant i k).pods = s.pods := by
  unfold State.endGrant; dsimp only; split <;> simp
@[simp] theorem State.endGrant_dsf (i k : Nat) : (s.endGrant i k).dsf = s.dsf := by
  unfold State.endGrant; dsimp only; split <;> simp
@[simp] theorem State.endGrant_act (i k : Nat) : (s.endGrant i k).act = s.act := by
  unfold State.endGrant; dsimp only; split <;> simp
@[simp] theorem State.endGrant_lsc (i k : Nat) : (s.endGrant i k).lsc = s.lsc := by
  unfold State.endGrant; dsimp only; split <;> simp
@[simp] theorem State.endGrant_usq (i k : Nat) : (s.endGrant i k).usq = s.usq := by
  unfold State.endGrant; dsimp only; split <;> simp
@[simp] theorem State.endGrant_ubt (i k : Nat) : (s.endGrant i k).ubt = s.ubt := by
  unfold State.endGrant; dsimp only; split <;> simp
@[simp] theorem State.endGrant_twn (i k : Nat) : (s.endGrant i k).twn = s.twn := by
  unfold State.endGrant; dsimp only; split <;> simp
@[simp] theorem State.endGrant_arrivals (i k : Nat) : (s.endGrant i k).arrivals = s.arrivals := by
  unfold State.endGrant; dsimp only; split <;> simp
@[simp] theorem State.endGrant_ports (i k : Nat) : (s.endGrant i k).ports = s.ports := by
  unfold State.endGrant; dsimp only; split <;> simp
@[simp] theorem State.endGrant_cls (i k : Nat) : (s.endGrant i k).cls = s.cls := by
  unfold State.endGrant; dsimp only; split <;> simp
@[simp] theorem State.endGrant_hsk (i k : Nat) : (s.endGrant i k).hsk = s.hsk := by
  unfold State.endGrant; dsimp only; split <;> simp
@[simp] theorem State.endGrant_shell (i k : Nat) : (s.endGrant i k).shell = s.shell := by
  unfold State.endGrant; dsimp only; split <;> simp
@[simp] theorem State.reg_endGrant (i k : Nat) (x_ : Nat) : (s.endGrant i k).reg x_ = s.reg x_ := by
  simp [State.reg]
@[simp] theorem State.cnt_endGrant (i k : Nat) (x_ : Nat) : (s.endGrant i k).cnt x_ = s.cnt x_ := by
  simp [State.cnt]

/-! ### `giveGrant` -/

@[simp] theorem State.giveGrant_pending (i k r : Nat) : (s.giveGrant i k r).pending = s.pending := by
  simp [State.giveGrant]
@[simp] theorem State.giveGrant_ticks (i k r : Nat) : (s.giveGrant i k r).ticks = s.ticks := by
  simp [State.giveGrant]
@[simp] theorem State.giveGrant_fresh (i k r : Nat) : (s.giveGrant i k r).fresh = s.fresh := by
  simp [State.giveGrant]
@[simp] theorem State.giveGrant_regs (i k r : Nat) : (s.giveGrant i k r).regs = s.regs := by
  simp [State.giveGrant]
@[simp] theorem State.giveGrant_out (i k r : Nat) : (s.giveGrant i k r).out = s.out := by
  simp [State.giveGrant]
@[simp] theorem State.giveGrant_spi (i k r : Nat) : (s.giveGrant i k r).spi = s.spi := by
  simp [State.giveGrant]
@[simp] theorem State.giveGrant_guards (i k r : Nat) : (s.giveGrant i k r).guards = s.guards := by
  simp [State.giveGrant]
@[simp] theorem State.giveGrant_clk (i k r : Nat) : (s.giveGrant i k r).clk = s.clk := by
  simp [State.giveGrant]
@[simp] theorem State.giveGrant_flt (i k r : Nat) : (s.giveGrant i k r).flt = s.flt := by
  simp [State.giveGrant]
@[simp] theorem State.giveGrant_boot (i k r : Nat) : (s.giveGrant i k r).boot = s.boot := by
  simp [State.giveGrant]
@[simp] theorem State.giveGrant_sems (i k r : Nat) : (s.giveGrant i k r).sems = s.sems := by
  simp [State.giveGrant]
@[simp] theorem State.giveGrant_pwr (i k r : Nat) : (s.giveGrant i k r).pwr = s.pwr := by
  simp [State.giveGrant]
@[simp] theorem State.giveGrant_pads (i k r : Nat) : (s.giveGrant i k r).pads = s.pads := by
  simp [State.giveGrant]
@[simp] theorem State.giveGrant_ntm (i k r : Nat) : (s.giveGrant i k r).ntm = s.ntm := by
  simp [State.giveGrant]
@[simp] theorem State.giveGrant_hrd (i k r : Nat) : (s.giveGrant i k r).hrd = s.hrd := by
  simp [State.giveGrant]
@[simp] theorem State.giveGrant_pods (i k r : Nat) : (s.giveGrant i k r).pods = s.pods := by
  simp [State.giveGrant]
@[simp] theorem State.giveGrant_dsf (i k r : Nat) : (s.giveGrant i k r).dsf = s.dsf := by
  simp [State.giveGrant]
@[simp] theorem State.giveGrant_act (i k r : Nat) : (s.giveGrant i k r).act = s.act := by
  simp [State.giveGrant]
@[simp] theorem State.giveGrant_lsc (i k r : Nat) : (s.giveGrant i k r).lsc = s.lsc := by
  simp [State.giveGrant]
@[simp] theorem State.giveGrant_usq (i k r : Nat) : (s.giveGrant i k r).usq = s.usq := by
  simp [State.giveGrant]
@[simp] theorem State.giveGrant_ubt (i k r : Nat) : (s.giveGrant i k r).ubt = s.ubt := by
  simp [State.giveGrant]
@[simp] theorem State.giveGrant_twn (i k r : Nat) : (s.giveGrant i k r).twn = s.twn := by
  simp [State.giveGrant]
@[simp] theorem State.giveGrant_arrivals (i k r : Nat) : (s.giveGrant i k r).arrivals = s.arrivals := by
  simp [State.giveGrant]
@[simp] theorem State.giveGrant_ports (i k r : Nat) : (s.giveGrant i k r).ports = s.ports := by
  simp [State.giveGrant]
@[simp] theorem State.giveGrant_cls (i k r : Nat) : (s.giveGrant i k r).cls = s.cls := by
  simp [State.giveGrant]
@[simp] theorem State.giveGrant_hsk (i k r : Nat) : (s.giveGrant i k r).hsk = s.hsk := by
  simp [State.giveGrant]
@[simp] theorem State.giveGrant_shell (i k r : Nat) : (s.giveGrant i k r).shell = s.shell := by
  simp [State.giveGrant]
@[simp] theorem State.reg_giveGrant (i k r : Nat) (x_ : Nat) : (s.giveGrant i k r).reg x_ = s.reg x_ := by
  simp [State.reg]

/-! ### `sendClass` -/

@[simp] theorem State.sendClass_pending (c ty : Nat) (b : List Byte) : (s.sendClass c ty b).pending = s.pending := by
  unfold State.sendClass; dsimp only; split <;> simp
@[simp] theorem State.sendClass_ticks (c ty : Nat) (b : List Byte) : (s.sendClass c ty b).ticks = s.ticks := by
  unfold State.sendClass; dsimp only; split <;> simp
@[simp] theorem State.sendClass_fresh (c ty : Nat) (b : List Byte) : (s.sendClass c ty b).fresh = s.fresh := by
  unfold State.sendClass; dsimp only; split <;> simp
@[simp] theorem State.sendClass_regs (c ty : Nat) (b : List Byte) : (s.sendClass c ty b).regs = s.regs := by
  unfold State.sendClass; dsimp only; split <;> simp
@[simp] theorem State.sendClass_wide (c ty : Nat) (b : List Byte) : (s.sendClass c ty b).wide = s.wide := by
  unfold State.sendClass; dsimp only; split <;> simp
@[simp] theorem State.sendClass_evt (c ty : Nat) (b : List Byte) : (s.sendClass c ty b).evt = s.evt := by
  unfold State.sendClass; dsimp only; split <;> simp
@[simp] theorem State.sendClass_spi (c ty : Nat) (b : List Byte) : (s.sendClass c ty b).spi = s.spi := by
  unfold State.sendClass; dsimp only; split <;> simp
@[simp] theorem State.sendClass_guards (c ty : Nat) (b : List Byte) : (s.sendClass c ty b).guards = s.guards := by
  unfold State.sendClass; dsimp only; split <;> simp
@[simp] theorem State.sendClass_clk (c ty : Nat) (b : List Byte) : (s.sendClass c ty b).clk = s.clk := by
  unfold State.sendClass; dsimp only; split <;> simp
@[simp] theorem State.sendClass_flt (c ty : Nat) (b : List Byte) : (s.sendClass c ty b).flt = s.flt := by
  unfold State.sendClass; dsimp only; split <;> simp
@[simp] theorem State.sendClass_boot (c ty : Nat) (b : List Byte) : (s.sendClass c ty b).boot = s.boot := by
  unfold State.sendClass; dsimp only; split <;> simp
@[simp] theorem State.sendClass_sems (c ty : Nat) (b : List Byte) : (s.sendClass c ty b).sems = s.sems := by
  unfold State.sendClass; dsimp only; split <;> simp
@[simp] theorem State.sendClass_pwr (c ty : Nat) (b : List Byte) : (s.sendClass c ty b).pwr = s.pwr := by
  unfold State.sendClass; dsimp only; split <;> simp
@[simp] theorem State.sendClass_pads (c ty : Nat) (b : List Byte) : (s.sendClass c ty b).pads = s.pads := by
  unfold State.sendClass; dsimp only; split <;> simp
@[simp] theorem State.sendClass_ntm (c ty : Nat) (b : List Byte) : (s.sendClass c ty b).ntm = s.ntm := by
  unfold State.sendClass; dsimp only; split <;> simp
@[simp] theorem State.sendClass_hrd (c ty : Nat) (b : List Byte) : (s.sendClass c ty b).hrd = s.hrd := by
  unfold State.sendClass; dsimp only; split <;> simp
@[simp] theorem State.sendClass_arb (c ty : Nat) (b : List Byte) : (s.sendClass c ty b).arb = s.arb := by
  unfold State.sendClass; dsimp only; split <;> simp
@[simp] theorem State.sendClass_pods (c ty : Nat) (b : List Byte) : (s.sendClass c ty b).pods = s.pods := by
  unfold State.sendClass; dsimp only; split <;> simp
@[simp] theorem State.sendClass_dsf (c ty : Nat) (b : List Byte) : (s.sendClass c ty b).dsf = s.dsf := by
  unfold State.sendClass; dsimp only; split <;> simp
@[simp] theorem State.sendClass_act (c ty : Nat) (b : List Byte) : (s.sendClass c ty b).act = s.act := by
  unfold State.sendClass; dsimp only; split <;> simp
@[simp] theorem State.sendClass_lsc (c ty : Nat) (b : List Byte) : (s.sendClass c ty b).lsc = s.lsc := by
  unfold State.sendClass; dsimp only; split <;> simp
@[simp] theorem State.sendClass_usq (c ty : Nat) (b : List Byte) : (s.sendClass c ty b).usq = s.usq := by
  unfold State.sendClass; dsimp only; split <;> simp
@[simp] theorem State.sendClass_ubt (c ty : Nat) (b : List Byte) : (s.sendClass c ty b).ubt = s.ubt := by
  unfold State.sendClass; dsimp only; split <;> simp
@[simp] theorem State.sendClass_arrivals (c ty : Nat) (b : List Byte) : (s.sendClass c ty b).arrivals = s.arrivals := by
  unfold State.sendClass; dsimp only; split <;> simp
@[simp] theorem State.sendClass_ports (c ty : Nat) (b : List Byte) : (s.sendClass c ty b).ports = s.ports := by
  unfold State.sendClass; dsimp only; split <;> simp
@[simp] theorem State.sendClass_cls (c ty : Nat) (b : List Byte) : (s.sendClass c ty b).cls = s.cls := by
  unfold State.sendClass; dsimp only; split <;> simp
@[simp] theorem State.sendClass_hsk (c ty : Nat) (b : List Byte) : (s.sendClass c ty b).hsk = s.hsk := by
  unfold State.sendClass; dsimp only; split <;> simp
@[simp] theorem State.sendClass_shell (c ty : Nat) (b : List Byte) : (s.sendClass c ty b).shell = s.shell := by
  unfold State.sendClass; dsimp only; split <;> simp
@[simp] theorem State.reg_sendClass (c ty : Nat) (b : List Byte) (x_ : Nat) : (s.sendClass c ty b).reg x_ = s.reg x_ := by
  simp [State.reg]
@[simp] theorem State.cnt_sendClass (c ty : Nat) (b : List Byte) (x_ : Nat) : (s.sendClass c ty b).cnt x_ = s.cnt x_ := by
  simp [State.cnt]
@[simp] theorem State.ev_sendClass (c ty : Nat) (b : List Byte) (x_ : Nat) : (s.sendClass c ty b).ev x_ = s.ev x_ := by
  simp [State.ev]

/-! ### `sendTwin` -/

@[simp] theorem State.sendTwin_pending (ty : Nat) (b : List Byte) : (s.sendTwin ty b).pending = s.pending := by
  simp [State.sendTwin]
@[simp] theorem State.sendTwin_ticks (ty : Nat) (b : List Byte) : (s.sendTwin ty b).ticks = s.ticks := by
  simp [State.sendTwin]
@[simp] theorem State.sendTwin_fresh (ty : Nat) (b : List Byte) : (s.sendTwin ty b).fresh = s.fresh := by
  simp [State.sendTwin]
@[simp] theorem State.sendTwin_regs (ty : Nat) (b : List Byte) : (s.sendTwin ty b).regs = s.regs := by
  simp [State.sendTwin]
@[simp] theorem State.sendTwin_wide (ty : Nat) (b : List Byte) : (s.sendTwin ty b).wide = s.wide := by
  simp [State.sendTwin]
@[simp] theorem State.sendTwin_evt (ty : Nat) (b : List Byte) : (s.sendTwin ty b).evt = s.evt := by
  simp [State.sendTwin]
@[simp] theorem State.sendTwin_spi (ty : Nat) (b : List Byte) : (s.sendTwin ty b).spi = s.spi := by
  simp [State.sendTwin]
@[simp] theorem State.sendTwin_guards (ty : Nat) (b : List Byte) : (s.sendTwin ty b).guards = s.guards := by
  simp [State.sendTwin]
@[simp] theorem State.sendTwin_clk (ty : Nat) (b : List Byte) : (s.sendTwin ty b).clk = s.clk := by
  simp [State.sendTwin]
@[simp] theorem State.sendTwin_flt (ty : Nat) (b : List Byte) : (s.sendTwin ty b).flt = s.flt := by
  simp [State.sendTwin]
@[simp] theorem State.sendTwin_boot (ty : Nat) (b : List Byte) : (s.sendTwin ty b).boot = s.boot := by
  simp [State.sendTwin]
@[simp] theorem State.sendTwin_sems (ty : Nat) (b : List Byte) : (s.sendTwin ty b).sems = s.sems := by
  simp [State.sendTwin]
@[simp] theorem State.sendTwin_pwr (ty : Nat) (b : List Byte) : (s.sendTwin ty b).pwr = s.pwr := by
  simp [State.sendTwin]
@[simp] theorem State.sendTwin_pads (ty : Nat) (b : List Byte) : (s.sendTwin ty b).pads = s.pads := by
  simp [State.sendTwin]
@[simp] theorem State.sendTwin_ntm (ty : Nat) (b : List Byte) : (s.sendTwin ty b).ntm = s.ntm := by
  simp [State.sendTwin]
@[simp] theorem State.sendTwin_hrd (ty : Nat) (b : List Byte) : (s.sendTwin ty b).hrd = s.hrd := by
  simp [State.sendTwin]
@[simp] theorem State.sendTwin_arb (ty : Nat) (b : List Byte) : (s.sendTwin ty b).arb = s.arb := by
  simp [State.sendTwin]
@[simp] theorem State.sendTwin_pods (ty : Nat) (b : List Byte) : (s.sendTwin ty b).pods = s.pods := by
  simp [State.sendTwin]
@[simp] theorem State.sendTwin_dsf (ty : Nat) (b : List Byte) : (s.sendTwin ty b).dsf = s.dsf := by
  simp [State.sendTwin]
@[simp] theorem State.sendTwin_act (ty : Nat) (b : List Byte) : (s.sendTwin ty b).act = s.act := by
  simp [State.sendTwin]
@[simp] theorem State.sendTwin_lsc (ty : Nat) (b : List Byte) : (s.sendTwin ty b).lsc = s.lsc := by
  simp [State.sendTwin]
@[simp] theorem State.sendTwin_usq (ty : Nat) (b : List Byte) : (s.sendTwin ty b).usq = s.usq := by
  simp [State.sendTwin]
@[simp] theorem State.sendTwin_ubt (ty : Nat) (b : List Byte) : (s.sendTwin ty b).ubt = s.ubt := by
  simp [State.sendTwin]
@[simp] theorem State.sendTwin_arrivals (ty : Nat) (b : List Byte) : (s.sendTwin ty b).arrivals = s.arrivals := by
  simp [State.sendTwin]
@[simp] theorem State.sendTwin_ports (ty : Nat) (b : List Byte) : (s.sendTwin ty b).ports = s.ports := by
  simp [State.sendTwin]
@[simp] theorem State.sendTwin_cls (ty : Nat) (b : List Byte) : (s.sendTwin ty b).cls = s.cls := by
  simp [State.sendTwin]
@[simp] theorem State.sendTwin_hsk (ty : Nat) (b : List Byte) : (s.sendTwin ty b).hsk = s.hsk := by
  simp [State.sendTwin]
@[simp] theorem State.sendTwin_shell (ty : Nat) (b : List Byte) : (s.sendTwin ty b).shell = s.shell := by
  simp [State.sendTwin]
@[simp] theorem State.reg_sendTwin (ty : Nat) (b : List Byte) (x_ : Nat) : (s.sendTwin ty b).reg x_ = s.reg x_ := by
  simp [State.reg]
@[simp] theorem State.cnt_sendTwin (ty : Nat) (b : List Byte) (x_ : Nat) : (s.sendTwin ty b).cnt x_ = s.cnt x_ := by
  simp [State.cnt]
@[simp] theorem State.ev_sendTwin (ty : Nat) (b : List Byte) (x_ : Nat) : (s.sendTwin ty b).ev x_ = s.ev x_ := by
  simp [State.ev]

/-! ### `mirrorWrite` -/

@[simp] theorem State.mirrorWrite_pending (t : State) (a : Nat) (v : Word) : (s.mirrorWrite t a v).pending = s.pending := by
  unfold State.mirrorWrite; dsimp only; (repeat' split) <;> simp
@[simp] theorem State.mirrorWrite_ticks (t : State) (a : Nat) (v : Word) : (s.mirrorWrite t a v).ticks = s.ticks := by
  unfold State.mirrorWrite; dsimp only; (repeat' split) <;> simp
@[simp] theorem State.mirrorWrite_fresh (t : State) (a : Nat) (v : Word) : (s.mirrorWrite t a v).fresh = s.fresh := by
  unfold State.mirrorWrite; dsimp only; (repeat' split) <;> simp
@[simp] theorem State.mirrorWrite_regs (t : State) (a : Nat) (v : Word) : (s.mirrorWrite t a v).regs = s.regs := by
  unfold State.mirrorWrite; dsimp only; (repeat' split) <;> simp
@[simp] theorem State.mirrorWrite_wide (t : State) (a : Nat) (v : Word) : (s.mirrorWrite t a v).wide = s.wide := by
  unfold State.mirrorWrite; dsimp only; (repeat' split) <;> simp
@[simp] theorem State.mirrorWrite_evt (t : State) (a : Nat) (v : Word) : (s.mirrorWrite t a v).evt = s.evt := by
  unfold State.mirrorWrite; dsimp only; (repeat' split) <;> simp
@[simp] theorem State.mirrorWrite_spi (t : State) (a : Nat) (v : Word) : (s.mirrorWrite t a v).spi = s.spi := by
  unfold State.mirrorWrite; dsimp only; (repeat' split) <;> simp
@[simp] theorem State.mirrorWrite_guards (t : State) (a : Nat) (v : Word) : (s.mirrorWrite t a v).guards = s.guards := by
  unfold State.mirrorWrite; dsimp only; (repeat' split) <;> simp
@[simp] theorem State.mirrorWrite_clk (t : State) (a : Nat) (v : Word) : (s.mirrorWrite t a v).clk = s.clk := by
  unfold State.mirrorWrite; dsimp only; (repeat' split) <;> simp
@[simp] theorem State.mirrorWrite_flt (t : State) (a : Nat) (v : Word) : (s.mirrorWrite t a v).flt = s.flt := by
  unfold State.mirrorWrite; dsimp only; (repeat' split) <;> simp
@[simp] theorem State.mirrorWrite_boot (t : State) (a : Nat) (v : Word) : (s.mirrorWrite t a v).boot = s.boot := by
  unfold State.mirrorWrite; dsimp only; (repeat' split) <;> simp
@[simp] theorem State.mirrorWrite_sems (t : State) (a : Nat) (v : Word) : (s.mirrorWrite t a v).sems = s.sems := by
  unfold State.mirrorWrite; dsimp only; (repeat' split) <;> simp
@[simp] theorem State.mirrorWrite_pwr (t : State) (a : Nat) (v : Word) : (s.mirrorWrite t a v).pwr = s.pwr := by
  unfold State.mirrorWrite; dsimp only; (repeat' split) <;> simp
@[simp] theorem State.mirrorWrite_pads (t : State) (a : Nat) (v : Word) : (s.mirrorWrite t a v).pads = s.pads := by
  unfold State.mirrorWrite; dsimp only; (repeat' split) <;> simp
@[simp] theorem State.mirrorWrite_ntm (t : State) (a : Nat) (v : Word) : (s.mirrorWrite t a v).ntm = s.ntm := by
  unfold State.mirrorWrite; dsimp only; (repeat' split) <;> simp
@[simp] theorem State.mirrorWrite_hrd (t : State) (a : Nat) (v : Word) : (s.mirrorWrite t a v).hrd = s.hrd := by
  unfold State.mirrorWrite; dsimp only; (repeat' split) <;> simp
@[simp] theorem State.mirrorWrite_arb (t : State) (a : Nat) (v : Word) : (s.mirrorWrite t a v).arb = s.arb := by
  unfold State.mirrorWrite; dsimp only; (repeat' split) <;> simp
@[simp] theorem State.mirrorWrite_pods (t : State) (a : Nat) (v : Word) : (s.mirrorWrite t a v).pods = s.pods := by
  unfold State.mirrorWrite; dsimp only; (repeat' split) <;> simp
@[simp] theorem State.mirrorWrite_dsf (t : State) (a : Nat) (v : Word) : (s.mirrorWrite t a v).dsf = s.dsf := by
  unfold State.mirrorWrite; dsimp only; (repeat' split) <;> simp
@[simp] theorem State.mirrorWrite_act (t : State) (a : Nat) (v : Word) : (s.mirrorWrite t a v).act = s.act := by
  unfold State.mirrorWrite; dsimp only; (repeat' split) <;> simp
@[simp] theorem State.mirrorWrite_lsc (t : State) (a : Nat) (v : Word) : (s.mirrorWrite t a v).lsc = s.lsc := by
  unfold State.mirrorWrite; dsimp only; (repeat' split) <;> simp
@[simp] theorem State.mirrorWrite_usq (t : State) (a : Nat) (v : Word) : (s.mirrorWrite t a v).usq = s.usq := by
  unfold State.mirrorWrite; dsimp only; (repeat' split) <;> simp
@[simp] theorem State.mirrorWrite_ubt (t : State) (a : Nat) (v : Word) : (s.mirrorWrite t a v).ubt = s.ubt := by
  unfold State.mirrorWrite; dsimp only; (repeat' split) <;> simp
@[simp] theorem State.mirrorWrite_arrivals (t : State) (a : Nat) (v : Word) : (s.mirrorWrite t a v).arrivals = s.arrivals := by
  unfold State.mirrorWrite; dsimp only; (repeat' split) <;> simp
@[simp] theorem State.mirrorWrite_ports (t : State) (a : Nat) (v : Word) : (s.mirrorWrite t a v).ports = s.ports := by
  unfold State.mirrorWrite; dsimp only; (repeat' split) <;> simp
@[simp] theorem State.mirrorWrite_cls (t : State) (a : Nat) (v : Word) : (s.mirrorWrite t a v).cls = s.cls := by
  unfold State.mirrorWrite; dsimp only; (repeat' split) <;> simp
@[simp] theorem State.mirrorWrite_hsk (t : State) (a : Nat) (v : Word) : (s.mirrorWrite t a v).hsk = s.hsk := by
  unfold State.mirrorWrite; dsimp only; (repeat' split) <;> simp
@[simp] theorem State.mirrorWrite_shell (t : State) (a : Nat) (v : Word) : (s.mirrorWrite t a v).shell = s.shell := by
  unfold State.mirrorWrite; dsimp only; (repeat' split) <;> simp
@[simp] theorem State.reg_mirrorWrite (t : State) (a : Nat) (v : Word) (x_ : Nat) : (s.mirrorWrite t a v).reg x_ = s.reg x_ := by
  simp [State.reg]
@[simp] theorem State.cnt_mirrorWrite (t : State) (a : Nat) (v : Word) (x_ : Nat) : (s.mirrorWrite t a v).cnt x_ = s.cnt x_ := by
  simp [State.cnt]
@[simp] theorem State.ev_mirrorWrite (t : State) (a : Nat) (v : Word) (x_ : Nat) : (s.mirrorWrite t a v).ev x_ = s.ev x_ := by
  simp [State.ev]

/-! ### `resyncStart` -/

@[simp] theorem State.resyncStart_pending (x f : Nat) : (s.resyncStart x f).pending = s.pending := by
  simp [State.resyncStart]
@[simp] theorem State.resyncStart_ticks (x f : Nat) : (s.resyncStart x f).ticks = s.ticks := by
  simp [State.resyncStart]
@[simp] theorem State.resyncStart_fresh (x f : Nat) : (s.resyncStart x f).fresh = s.fresh := by
  simp [State.resyncStart]
@[simp] theorem State.resyncStart_regs (x f : Nat) : (s.resyncStart x f).regs = s.regs := by
  simp [State.resyncStart]
@[simp] theorem State.resyncStart_out (x f : Nat) : (s.resyncStart x f).out = s.out := by
  simp [State.resyncStart]
@[simp] theorem State.resyncStart_spi (x f : Nat) : (s.resyncStart x f).spi = s.spi := by
  simp [State.resyncStart]
@[simp] theorem State.resyncStart_guards (x f : Nat) : (s.resyncStart x f).guards = s.guards := by
  simp [State.resyncStart]
@[simp] theorem State.resyncStart_flt (x f : Nat) : (s.resyncStart x f).flt = s.flt := by
  simp [State.resyncStart]
@[simp] theorem State.resyncStart_boot (x f : Nat) : (s.resyncStart x f).boot = s.boot := by
  simp [State.resyncStart]
@[simp] theorem State.resyncStart_sems (x f : Nat) : (s.resyncStart x f).sems = s.sems := by
  simp [State.resyncStart]
@[simp] theorem State.resyncStart_pwr (x f : Nat) : (s.resyncStart x f).pwr = s.pwr := by
  simp [State.resyncStart]
@[simp] theorem State.resyncStart_pads (x f : Nat) : (s.resyncStart x f).pads = s.pads := by
  simp [State.resyncStart]
@[simp] theorem State.resyncStart_ntm (x f : Nat) : (s.resyncStart x f).ntm = s.ntm := by
  simp [State.resyncStart]
@[simp] theorem State.resyncStart_hrd (x f : Nat) : (s.resyncStart x f).hrd = s.hrd := by
  simp [State.resyncStart]
@[simp] theorem State.resyncStart_arb (x f : Nat) : (s.resyncStart x f).arb = s.arb := by
  simp [State.resyncStart]
@[simp] theorem State.resyncStart_pods (x f : Nat) : (s.resyncStart x f).pods = s.pods := by
  simp [State.resyncStart]
@[simp] theorem State.resyncStart_dsf (x f : Nat) : (s.resyncStart x f).dsf = s.dsf := by
  simp [State.resyncStart]
@[simp] theorem State.resyncStart_act (x f : Nat) : (s.resyncStart x f).act = s.act := by
  simp [State.resyncStart]
@[simp] theorem State.resyncStart_lsc (x f : Nat) : (s.resyncStart x f).lsc = s.lsc := by
  simp [State.resyncStart]
@[simp] theorem State.resyncStart_usq (x f : Nat) : (s.resyncStart x f).usq = s.usq := by
  simp [State.resyncStart]
@[simp] theorem State.resyncStart_ubt (x f : Nat) : (s.resyncStart x f).ubt = s.ubt := by
  simp [State.resyncStart]
@[simp] theorem State.resyncStart_twn (x f : Nat) : (s.resyncStart x f).twn = s.twn := by
  simp [State.resyncStart]
@[simp] theorem State.resyncStart_arrivals (x f : Nat) : (s.resyncStart x f).arrivals = s.arrivals := by
  simp [State.resyncStart]
@[simp] theorem State.resyncStart_ports (x f : Nat) : (s.resyncStart x f).ports = s.ports := by
  simp [State.resyncStart]
@[simp] theorem State.resyncStart_cls (x f : Nat) : (s.resyncStart x f).cls = s.cls := by
  simp [State.resyncStart]
@[simp] theorem State.resyncStart_hsk (x f : Nat) : (s.resyncStart x f).hsk = s.hsk := by
  simp [State.resyncStart]
@[simp] theorem State.resyncStart_shell (x f : Nat) : (s.resyncStart x f).shell = s.shell := by
  simp [State.resyncStart]
@[simp] theorem State.reg_resyncStart (x f : Nat) (x_ : Nat) : (s.resyncStart x f).reg x_ = s.reg x_ := by
  simp [State.reg]

/-! ### `setSource` -/

@[simp] theorem State.setSource_pending (src : RootSource) : (s.setSource src).pending = s.pending := by
  unfold State.setSource State.drawWord; dsimp only; (repeat' split) <;> simp
@[simp] theorem State.setSource_ticks (src : RootSource) : (s.setSource src).ticks = s.ticks := by
  unfold State.setSource State.drawWord; dsimp only; (repeat' split) <;> simp
@[simp] theorem State.setSource_regs (src : RootSource) : (s.setSource src).regs = s.regs := by
  unfold State.setSource State.drawWord; dsimp only; (repeat' split) <;> simp
@[simp] theorem State.setSource_out (src : RootSource) : (s.setSource src).out = s.out := by
  unfold State.setSource State.drawWord; dsimp only; (repeat' split) <;> simp
@[simp] theorem State.setSource_spi (src : RootSource) : (s.setSource src).spi = s.spi := by
  unfold State.setSource State.drawWord; dsimp only; (repeat' split) <;> simp
@[simp] theorem State.setSource_guards (src : RootSource) : (s.setSource src).guards = s.guards := by
  unfold State.setSource State.drawWord; dsimp only; (repeat' split) <;> simp
@[simp] theorem State.setSource_flt (src : RootSource) : (s.setSource src).flt = s.flt := by
  unfold State.setSource State.drawWord; dsimp only; (repeat' split) <;> simp
@[simp] theorem State.setSource_boot (src : RootSource) : (s.setSource src).boot = s.boot := by
  unfold State.setSource State.drawWord; dsimp only; (repeat' split) <;> simp
@[simp] theorem State.setSource_sems (src : RootSource) : (s.setSource src).sems = s.sems := by
  unfold State.setSource State.drawWord; dsimp only; (repeat' split) <;> simp
@[simp] theorem State.setSource_pwr (src : RootSource) : (s.setSource src).pwr = s.pwr := by
  unfold State.setSource State.drawWord; dsimp only; (repeat' split) <;> simp
@[simp] theorem State.setSource_pads (src : RootSource) : (s.setSource src).pads = s.pads := by
  unfold State.setSource State.drawWord; dsimp only; (repeat' split) <;> simp
@[simp] theorem State.setSource_ntm (src : RootSource) : (s.setSource src).ntm = s.ntm := by
  unfold State.setSource State.drawWord; dsimp only; (repeat' split) <;> simp
@[simp] theorem State.setSource_hrd (src : RootSource) : (s.setSource src).hrd = s.hrd := by
  unfold State.setSource State.drawWord; dsimp only; (repeat' split) <;> simp
@[simp] theorem State.setSource_arb (src : RootSource) : (s.setSource src).arb = s.arb := by
  unfold State.setSource State.drawWord; dsimp only; (repeat' split) <;> simp
@[simp] theorem State.setSource_pods (src : RootSource) : (s.setSource src).pods = s.pods := by
  unfold State.setSource State.drawWord; dsimp only; (repeat' split) <;> simp
@[simp] theorem State.setSource_dsf (src : RootSource) : (s.setSource src).dsf = s.dsf := by
  unfold State.setSource State.drawWord; dsimp only; (repeat' split) <;> simp
@[simp] theorem State.setSource_act (src : RootSource) : (s.setSource src).act = s.act := by
  unfold State.setSource State.drawWord; dsimp only; (repeat' split) <;> simp
@[simp] theorem State.setSource_lsc (src : RootSource) : (s.setSource src).lsc = s.lsc := by
  unfold State.setSource State.drawWord; dsimp only; (repeat' split) <;> simp
@[simp] theorem State.setSource_usq (src : RootSource) : (s.setSource src).usq = s.usq := by
  unfold State.setSource State.drawWord; dsimp only; (repeat' split) <;> simp
@[simp] theorem State.setSource_ubt (src : RootSource) : (s.setSource src).ubt = s.ubt := by
  unfold State.setSource State.drawWord; dsimp only; (repeat' split) <;> simp
@[simp] theorem State.setSource_twn (src : RootSource) : (s.setSource src).twn = s.twn := by
  unfold State.setSource State.drawWord; dsimp only; (repeat' split) <;> simp
@[simp] theorem State.setSource_arrivals (src : RootSource) : (s.setSource src).arrivals = s.arrivals := by
  unfold State.setSource State.drawWord; dsimp only; (repeat' split) <;> simp
@[simp] theorem State.setSource_ports (src : RootSource) : (s.setSource src).ports = s.ports := by
  unfold State.setSource State.drawWord; dsimp only; (repeat' split) <;> simp
@[simp] theorem State.setSource_cls (src : RootSource) : (s.setSource src).cls = s.cls := by
  unfold State.setSource State.drawWord; dsimp only; (repeat' split) <;> simp
@[simp] theorem State.setSource_hsk (src : RootSource) : (s.setSource src).hsk = s.hsk := by
  unfold State.setSource State.drawWord; dsimp only; (repeat' split) <;> simp
@[simp] theorem State.setSource_shell (src : RootSource) : (s.setSource src).shell = s.shell := by
  unfold State.setSource State.drawWord; dsimp only; (repeat' split) <;> simp
@[simp] theorem State.reg_setSource (src : RootSource) (x_ : Nat) : (s.setSource src).reg x_ = s.reg x_ := by
  simp [State.reg]

/-! ### `reroot` -/

@[simp] theorem State.reroot_pending  : (s.reroot ).pending = s.pending := by
  simp [State.reroot]
@[simp] theorem State.reroot_ticks  : (s.reroot ).ticks = s.ticks := by
  simp [State.reroot]
@[simp] theorem State.reroot_regs  : (s.reroot ).regs = s.regs := by
  simp [State.reroot]
@[simp] theorem State.reroot_out  : (s.reroot ).out = s.out := by
  simp [State.reroot]
@[simp] theorem State.reroot_spi  : (s.reroot ).spi = s.spi := by
  simp [State.reroot]
@[simp] theorem State.reroot_guards  : (s.reroot ).guards = s.guards := by
  simp [State.reroot]
@[simp] theorem State.reroot_flt  : (s.reroot ).flt = s.flt := by
  simp [State.reroot]
@[simp] theorem State.reroot_boot  : (s.reroot ).boot = s.boot := by
  simp [State.reroot]
@[simp] theorem State.reroot_sems  : (s.reroot ).sems = s.sems := by
  simp [State.reroot]
@[simp] theorem State.reroot_pwr  : (s.reroot ).pwr = s.pwr := by
  simp [State.reroot]
@[simp] theorem State.reroot_pads  : (s.reroot ).pads = s.pads := by
  simp [State.reroot]
@[simp] theorem State.reroot_ntm  : (s.reroot ).ntm = s.ntm := by
  simp [State.reroot]
@[simp] theorem State.reroot_hrd  : (s.reroot ).hrd = s.hrd := by
  simp [State.reroot]
@[simp] theorem State.reroot_arb  : (s.reroot ).arb = s.arb := by
  simp [State.reroot]
@[simp] theorem State.reroot_pods  : (s.reroot ).pods = s.pods := by
  simp [State.reroot]
@[simp] theorem State.reroot_dsf  : (s.reroot ).dsf = s.dsf := by
  simp [State.reroot]
@[simp] theorem State.reroot_act  : (s.reroot ).act = s.act := by
  simp [State.reroot]
@[simp] theorem State.reroot_lsc  : (s.reroot ).lsc = s.lsc := by
  simp [State.reroot]
@[simp] theorem State.reroot_usq  : (s.reroot ).usq = s.usq := by
  simp [State.reroot]
@[simp] theorem State.reroot_ubt  : (s.reroot ).ubt = s.ubt := by
  simp [State.reroot]
@[simp] theorem State.reroot_twn  : (s.reroot ).twn = s.twn := by
  simp [State.reroot]
@[simp] theorem State.reroot_arrivals  : (s.reroot ).arrivals = s.arrivals := by
  simp [State.reroot]
@[simp] theorem State.reroot_ports  : (s.reroot ).ports = s.ports := by
  simp [State.reroot]
@[simp] theorem State.reroot_cls  : (s.reroot ).cls = s.cls := by
  simp [State.reroot]
@[simp] theorem State.reroot_hsk  : (s.reroot ).hsk = s.hsk := by
  simp [State.reroot]
@[simp] theorem State.reroot_shell  : (s.reroot ).shell = s.shell := by
  simp [State.reroot]
@[simp] theorem State.reg_reroot  (x_ : Nat) : (s.reroot ).reg x_ = s.reg x_ := by
  simp [State.reg]

theorem State.ev_remask_ne (i : Nat) {b : Nat} (h : b ≠ Reg.ARB_STATUS) : (s.remask i).ev b = s.ev b := by
  simp [State.remask, State.ev_raiseIf, h]

theorem State.ev_freezeCheck_ne (i : Nat) {b : Nat} (h : b ≠ Reg.ARB_STATUS) : (s.freezeCheck i).ev b = s.ev b := by
  unfold State.freezeCheck
  dsimp only
  split <;> simp [h]

theorem State.ev_endGrant_ne (i k : Nat) {b : Nat} (h : b ≠ Reg.ARB_STATUS) : (s.endGrant i k).ev b = s.ev b := by
  unfold State.endGrant
  dsimp only
  rw [State.ev_freezeCheck_ne _ _ h]
  split <;> simp [State.ev]

theorem halfFlag_grant {r : Nat} (h : r < 14) : (halfFlag (Reg.ARB_Ii_CNT_GRANTr 0 r)).1 = Reg.ARB_STATUS := by
  have key : ∀ r < 14, (halfFlag (Reg.ARB_Ii_CNT_GRANTr 0 r)).1 = Reg.ARB_STATUS := by decide
  exact key r h

theorem State.ev_giveGrant_ne {r b : Nat} (hr : r < 14) (h : b ≠ Reg.ARB_STATUS) :
    (s.giveGrant 0 0 r).ev b = s.ev b := by
  unfold State.giveGrant
  dsimp only
  rw [State.ev_remask_ne _ 0 h, State.ev_bump, halfFlag_grant hr, if_neg (fun x => h x.2)]
  simp

theorem State.cnt_giveGrant_ne (r : Nat) {a : Nat} (h : a ≠ Reg.ARB_Ii_CNT_GRANTr 0 r) :
    (s.giveGrant 0 0 r).cnt a = s.cnt a := by
  unfold State.giveGrant
  dsimp only
  rw [State.cnt_remask, State.cnt_bump_ne _ h]
  simp

theorem State.evt_wf_giveGrant (h : Tab.wf (fun _ => (0 : Word)) s.evt = true) (i k r : Nat) :
    Tab.wf (fun _ => (0 : Word)) (s.giveGrant i k r).evt = true := by
  unfold State.giveGrant
  dsimp only
  unfold State.remask
  dsimp only
  apply State.evt_wf_raiseIf
  rw [State.setArb_evt]
  apply State.evt_wf_bump
  rw [State.setArb_evt]
  exact h

theorem State.evt_wf_freezeCheck (h : Tab.wf (fun _ => (0 : Word)) s.evt = true) (i : Nat) :
    Tab.wf (fun _ => (0 : Word)) (s.freezeCheck i).evt = true := by
  unfold State.freezeCheck
  dsimp only
  split
  · apply State.evt_wf_raise
    rw [State.setArb_evt]
    exact h
  · exact h

theorem State.evt_wf_endGrant (h : Tab.wf (fun _ => (0 : Word)) s.evt = true) (i k : Nat) :
    Tab.wf (fun _ => (0 : Word)) (s.endGrant i k).evt = true := by
  unfold State.endGrant
  apply State.evt_wf_freezeCheck
  split <;> (first | (rw [State.setArb_evt]; exact h) | (show Tab.wf _ (State.setArb _ _ _).evt = true; rw [State.setArb_evt]; exact h))

/-! ## The access that is served at once -/

theorem isUnlock_eq {a b : Nat} (h : blockOf a = some b) : isUnlock a = (a == Reg.BLK_UNLOCK b) := by
  simp [isUnlock, h]

/-- What the access of `mayAccess` is: its grant, the write, and the end of the grant. -/
theorem State.accessWrite_served {ini b a : Nat} (v : Word) (h : s.mayAccess ini b) (hb : blockOf a = some b)
    (ha : wordAddr a = a) (h14 : b ≠ 14) (hu : a ≠ Reg.BLK_UNLOCK b) :
    s.accessWrite ini a v = some ((((s.giveGrant 0 0 ini).writeReg ini a v).1.endGrant 0 0),
      ((s.giveGrant 0 0 ini).writeReg ini a v).2) := by
  obtain ⟨_, hf, hh, hx, hm, _, _⟩ := h
  have hp : privatePath ini a = false := by simp [privatePath, hb, h14]
  have h1 : s.settleExtension = s := by simp [State.settleExtension, hx]
  have h2 : s.releaseFabric ini = s := by simp [State.releaseFabric, State.arbInst, hh]
  have h3 : s.awaitWindow ini = s := by simp [State.awaitWindow, hm]
  have h4 : s.fabricOpen ini = some (s.giveGrant 0 0 ini) := by
    simp [State.fabricOpen, hf, h1, h2, h3, State.arbInst, hh]
  have h5 : isUnlock a = false := by simp [isUnlock, hb, hu]
  simp [State.accessWrite, ha, hp, h4, State.fabricClose, h5]

/-- A request that is served at once. -/
theorem State.request_served {ini b a : Nat} (v : Word) (h : s.mayAccess ini b) (hb : blockOf a = some b)
    (ha : wordAddr a = a) (h14 : b ≠ 14) (hu : a ≠ Reg.BLK_UNLOCK b) :
    s.request ini a v = ((s.giveGrant 0 0 ini).writeReg ini a v).1.endGrant 0 0 := by
  have hw := s.accessWrite_served v h hb ha h14 hu
  unfold State.request
  by_cases h0 : ini = 0
  · subst h0
    obtain ⟨hr, hq, _⟩ := h.2.2.2.2.2.2 rfl
    have hspi : ({ s with spi := { s.spi with queue := [] } } : State) = s := by rw [← hq]
    have hpop : ({ s with spi := { s.spi with queue := [(a, v)] } } : State).spiPop = s := hspi
    have happ : ({ s with spi := { s.spi with queue := [(a, v)] } } : State).spiApply =
        some (((s.giveGrant 0 0 0).writeReg 0 a v).1.endGrant 0 0) := by
      simp only [State.spiApply]
      rw [hpop, hw]
      rfl
    simp only [if_true, State.spiPost, List.foldl_cons, List.foldl_nil, hr, Bool.not_true, hq, List.length_nil,
      List.nil_append, List.length_singleton]
    simp [State.spiDrain, happ]
  · simp [h0, hw]

theorem State.ask_served {ini b a : Nat} (v : Word) (h : s.mayAccess ini b) (hb : blockOf a = some b)
    (ha : wordAddr a = a) (h14 : b ≠ 14) (hu : a ≠ Reg.BLK_UNLOCK b) :
    s.ask ini a v = done (((s.giveGrant 0 0 ini).writeReg ini a v).1.endGrant 0 0) := by
  have h1 : ¬ 14 ≤ ini := by have := h.1; omega
  simp [State.ask, h1, s.request_served v h hb ha h14 hu]

/-! ## The write of one register, once its access is granted -/

/-- The conditions of `mayAccess` that stand before the register are those of the granted state. -/
theorem State.writeReg_mapped {ini b a : Nat} (v : Word) (h : s.mayAccess ini b) (hb : blockOf a = some b)
    (hc : commonOffset b a = none) (hba : a ≠ Reg.BOOT_CMD) :
    ((s.giveGrant 0 0 ini).writeReg ini a v).1 = ((s.giveGrant 0 0 ini).writeMapped b ini a v).1 := by
  obtain ⟨_, _, _, _, _, ho, h0⟩ := h
  have ho' : (s.giveGrant 0 0 ini).blockOff b = false := by simpa [State.blockOff] using ho
  have hh : ¬ (ini = 0 ∧ (s.giveGrant 0 0 ini).hostBarred b = true) := by
    rintro ⟨hi, hx⟩
    have := (h0 hi).2.2
    simp [State.hostBarred] at hx this
    simp_all
  have hlet : (a == Reg.BOOT_CMD && (s.giveGrant 0 0 ini).guardFor 1 ini && decide (ini < 10)) = false := by simp [hba]
  simp only [State.writeReg, State.writeCore, hb, hc, if_neg hh, ho', hlet]
  simp

theorem State.writeReg_rw {ini b a : Nat} (v : Word) (h : s.mayAccess ini b)
    (hb : blockOf a = some b) (hc : commonOffset b a = none) (hba : a ≠ Reg.BOOT_CMD)
    (hacc : (regRow a).map (fun r => r.1.access) = some .rw) (hm : isMirrored b a = true → s.mirrorBars = false) :
    ((s.giveGrant 0 0 ini).writeReg ini a v).1 =
      if isMirrored b a then ((s.giveGrant 0 0 ini).writeRw b a v).mirrorWrite (s.giveGrant 0 0 ini) a v
      else (s.giveGrant 0 0 ini).writeRw b a v := by
  have hi : ini ≠ mirrorIni := by have := h.1; simp only [mirrorIni]; omega
  have hg : (s.giveGrant 0 0 ini).mirrorBars = s.mirrorBars := by
    simp [State.mirrorBars, State.standby, State.twinOn, State.rbit]
  rw [s.writeReg_mapped v h hb hc hba]
  obtain ⟨⟨r, i⟩, hr, hacc⟩ := Option.map_eq_some_iff.1 hacc
  dsimp only at hacc
  simp only [State.writeMapped, hr, hacc, hg]
  by_cases hx : isMirrored b a = true
  · simp [hx, hi, hm hx]
  · simp [hx]

theorem State.writeReg_w1p {ini b a : Nat} (v : Word) (h : s.mayAccess ini b)
    (hb : blockOf a = some b) (hc : commonOffset b a = none) (hba : a ≠ Reg.BOOT_CMD)
    (hacc : (regRow a).map (fun r => r.1.access) = some .w1p) (hm : isMirrored b a = true → s.mirrorBars = false) :
    ((s.giveGrant 0 0 ini).writeReg ini a v).1 =
      if isMirrored b a then ((s.giveGrant 0 0 ini).writeW1p b a v).mirrorWrite (s.giveGrant 0 0 ini) a v
      else (s.giveGrant 0 0 ini).writeW1p b a v := by
  have hi : ini ≠ mirrorIni := by have := h.1; simp only [mirrorIni]; omega
  have hg : (s.giveGrant 0 0 ini).mirrorBars = s.mirrorBars := by
    simp [State.mirrorBars, State.standby, State.twinOn, State.rbit]
  rw [s.writeReg_mapped v h hb hc hba]
  obtain ⟨⟨r, i⟩, hr, hacc⟩ := Option.map_eq_some_iff.1 hacc
  dsimp only at hacc
  simp only [State.writeMapped, hr, hacc, hg]
  by_cases hx : isMirrored b a = true
  · simp [hx, hi, hm hx]
  · simp [hx]

theorem State.writeReg_sqc {ini b a : Nat} (v : Word) (h : s.mayAccess ini b)
    (hb : blockOf a = some b) (hc : commonOffset b a = none) (hba : a ≠ Reg.BOOT_CMD)
    (hacc : (regRow a).map (fun r => r.1.access) = some .sqc) :
    ((s.giveGrant 0 0 ini).writeReg ini a v).1 = (s.giveGrant 0 0 ini).writeSqc b a v := by
  rw [s.writeReg_mapped v h hb hc hba]
  obtain ⟨⟨r, i⟩, hr, hacc⟩ := Option.map_eq_some_iff.1 hacc
  dsimp only at hacc
  simp only [State.writeMapped, hr, hacc]

/-- A guarded write that its guard lets through: the guard disarms (R663). -/
theorem State.writeReg_kg {ini b a : Nat} (v : Word) (h : s.mayAccess ini b)
    (hb : blockOf a = some b) (hc : commonOffset b a = none) (hba : a ≠ Reg.BOOT_CMD)
    (hacc : (regRow a).map (fun r => r.1.access) = some .kg) (hg : s.armedFor b ini) (hm : (decide (10 ≤ ini) && mcuBarred a) = false) :
    ((s.giveGrant 0 0 ini).writeReg ini a v).1 = ((s.giveGrant 0 0 ini).disarmGuard b).writeKg a v := by
  have hgg : (s.giveGrant 0 0 ini).guardFor b ini = true := by
    have : (s.giveGrant 0 0 ini).guardFor b ini = s.guardFor b ini := by simp [State.guardFor, State.guardOf]
    rw [this]; exact hg
  have h10 : ((s.giveGrant 0 0 ini).boot.sprout && ini == 10 && mcuBarred a) = false := by
    by_cases h1 : ini = 10
    · subst h1; simp at hm; simp [hm]
    · simp [h1]
  rw [s.writeReg_mapped v h hb hc hba]
  obtain ⟨⟨r, i⟩, hr, hacc⟩ := Option.map_eq_some_iff.1 hacc
  dsimp only at hacc
  simp only [State.writeMapped, hr, hacc, State.guardedWrite, h10, hgg, hm]
  simp

/-- A guarded write without its guard armed does nothing but count (R665). -/
theorem State.writeReg_kg_refused {ini b a : Nat} (v : Word) (h : s.mayAccess ini b)
    (hb : blockOf a = some b) (hc : commonOffset b a = none)
    (hacc : (regRow a).map (fun r => r.1.access) = some .kg) (hg : s.guardFor b ini = false) (hsp : s.boot.sprout = false) :
    ((s.giveGrant 0 0 ini).writeReg ini a v).1 = (s.giveGrant 0 0 ini).guardRefused b := by
  have hgg : (s.giveGrant 0 0 ini).guardFor b ini = false := by
    have : (s.giveGrant 0 0 ini).guardFor b ini = s.guardFor b ini := by simp [State.guardFor, State.guardOf]
    rw [this]; exact hg
  obtain ⟨_, _, _, _, _, ho, h0⟩ := h
  have ho' : (s.giveGrant 0 0 ini).blockOff b = false := by simpa [State.blockOff] using ho
  have hh : ¬ (ini = 0 ∧ (s.giveGrant 0 0 ini).hostBarred b = true) := by
    rintro ⟨hi, hx⟩
    have := (h0 hi).2.2
    simp [State.hostBarred] at hx this
    simp_all
  have hlet : (a == Reg.BOOT_CMD && (s.giveGrant 0 0 ini).guardFor 1 ini && decide (ini < 10)) = false := by
    by_cases h1 : a = Reg.BOOT_CMD
    · have hb1 : b = 1 := by rw [h1] at hb; exact (Option.some.inj hb).symm
      subst hb1; simp [hgg]
    · simp [h1]
  obtain ⟨⟨r, i⟩, hr, hacc⟩ := Option.map_eq_some_iff.1 hacc
  dsimp only at hacc
  simp only [State.writeReg, State.writeCore, hb, hc, if_neg hh, ho', hlet, State.writeMapped, hr, hacc,
    State.guardedWrite, hgg, State.giveGrant_boot, hsp]
  simp

/-! ## The commands that are a register write -/

/-- A register of a chapter's own map, at a whole word's address, in a block that the fabric serves. -/
def MappedReg (a b : Nat) (acc : Access) : Prop :=
  (blockOf a = some b ∧ wordAddr a = a ∧ b ≠ 14 ∧ a ≠ Reg.BLK_UNLOCK b) ∧
    commonOffset b a = none ∧ a ≠ Reg.BOOT_CMD ∧ (regRow a).map (fun r => r.1.access) = some acc

theorem State.ask_rw {ini b a : Nat} (v : Word) (h : s.mayAccess ini b) (r : MappedReg a b .rw)
    (hm : isMirrored b a = true → s.mirrorBars = false) :
    s.ask ini a v = done ((if isMirrored b a then
        ((s.giveGrant 0 0 ini).writeRw b a v).mirrorWrite (s.giveGrant 0 0 ini) a v
      else (s.giveGrant 0 0 ini).writeRw b a v).endGrant 0 0) := by
  rw [s.ask_served v h r.1.1 r.1.2.1 r.1.2.2.1 r.1.2.2.2, s.writeReg_rw v h r.1.1 r.2.1 r.2.2.1 r.2.2.2 hm]

theorem State.ask_w1p {ini b a : Nat} (v : Word) (h : s.mayAccess ini b) (r : MappedReg a b .w1p)
    (hm : isMirrored b a = true → s.mirrorBars = false) :
    s.ask ini a v = done ((if isMirrored b a then
        ((s.giveGrant 0 0 ini).writeW1p b a v).mirrorWrite (s.giveGrant 0 0 ini) a v
      else (s.giveGrant 0 0 ini).writeW1p b a v).endGrant 0 0) := by
  rw [s.ask_served v h r.1.1 r.1.2.1 r.1.2.2.1 r.1.2.2.2, s.writeReg_w1p v h r.1.1 r.2.1 r.2.2.1 r.2.2.2 hm]

theorem State.ask_sqc {ini b a : Nat} (v : Word) (h : s.mayAccess ini b) (r : MappedReg a b .sqc) :
    s.ask ini a v = done (((s.giveGrant 0 0 ini).writeSqc b a v).endGrant 0 0) := by
  rw [s.ask_served v h r.1.1 r.1.2.1 r.1.2.2.1 r.1.2.2.2, s.writeReg_sqc v h r.1.1 r.2.1 r.2.2.1 r.2.2.2]

theorem State.ask_kg {ini b a : Nat} (v : Word) (h : s.mayAccess ini b) (r : MappedReg a b .kg) (hg : s.armedFor b ini)
    (hm : (decide (10 ≤ ini) && mcuBarred a) = false) :
    s.ask ini a v = done ((((s.giveGrant 0 0 ini).disarmGuard b).writeKg a v).endGrant 0 0) := by
  rw [s.ask_served v h r.1.1 r.1.2.1 r.1.2.2.1 r.1.2.2.2, s.writeReg_kg v h r.1.1 r.2.1 r.2.2.1 r.2.2.2 hg hm]

/-! ## Two states with the same fields -/

theorem State.eq_of_fields {s t : State} (h1 : t.pending = s.pending) (h2 : t.ticks = s.ticks) (h3 : t.fresh = s.fresh)
    (h4 : t.regs = s.regs) (h5 : t.wide = s.wide) (h6 : t.evt = s.evt) (h7 : t.out = s.out) (h8 : t.spi = s.spi)
    (h9 : t.guards = s.guards) (h10 : t.clk = s.clk) (h11 : t.flt = s.flt) (h12 : t.boot = s.boot)
    (h13 : t.sems = s.sems) (h14 : t.pwr = s.pwr) (h15 : t.pads = s.pads) (h16 : t.ntm = s.ntm) (h17 : t.hrd = s.hrd)
    (h18 : t.arb = s.arb) (h19 : t.pods = s.pods) (h20 : t.dsf = s.dsf) (h21 : t.act = s.act) (h22 : t.lsc = s.lsc)
    (h23 : t.usq = s.usq) (h24 : t.ubt = s.ubt) (h25 : t.twn = s.twn) (h26 : t.arrivals = s.arrivals)
    (h27 : t.ports = s.ports) (h28 : t.cls = s.cls) (h29 : t.hsk = s.hsk) (h30 : t.shell = s.shell) : t = s := by
  cases s
  cases t
  simp_all

/-! ## What the end of a command leaves -/

theorem sqcEvent_seq (w f : Word) : bitsOf (sqcEvent w f).toNat 31 24 = (bitsOf w.toNat 31 24 + 1) % 256 := by
  simp only [sqcEvent, bitsOf, BitVec.toNat_ofNat]
  omega

theorem sqcEvent_flag (w f : Word) {i : Nat} (h : i < 24) :
    (sqcEvent w f).getLsbD i = (w.getLsbD i || f.getLsbD i) := by
  have hb : ((w ||| f).toNat % 2 ^ 24) < 2 ^ 24 := Nat.mod_lt _ (by decide)
  rw [sqcEvent, BitVec.getLsbD_ofNat, show ∀ c : Nat, c * 2 ^ 24 = 2 ^ 24 * c from fun c => Nat.mul_comm c _,
    Nat.testBit_two_pow_mul_add _ hb, if_pos h, Nat.testBit_mod_two_pow, BitVec.testBit_toNat, BitVec.getLsbD_or]
  simp [h, show i < 32 by omega]

/-- A status register with events takes them. -/
theorem State.took_commit {s u : State} {a : Nat} {flags : List Nat}
    (hw : Tab.wf (fun _ => (0 : Word)) u.evt = true) (hr : u.reg a = s.reg a) (h0 : u.ev a ≠ 0)
    (hf : ∀ i < 24, (u.ev a).getLsbD i = flags.contains i) : s.took u.commit a flags := by
  unfold State.took State.fld State.rbit
  rw [u.reg_commit hw, if_neg h0, hr]
  exact ⟨sqcEvent_seq _ _, fun i hi => by rw [sqcEvent_flag _ _ hi, hf i hi]⟩

/-- Registers that take no event and are not written keep their word. -/
theorem State.regsKept_commit {s u : State} {but : List Nat} (hw : Tab.wf (fun _ => (0 : Word)) u.evt = true)
    (h : ∀ a, a ∉ but → u.ev a = 0 ∧ u.reg a = s.reg a) : s.regsKept u.commit but := by
  intro a ha
  rw [u.reg_commit hw, if_pos (h a ha).1, (h a ha).2]

/-- A register that takes no event keeps its word at the end of the command. -/
theorem State.reg_commit_of_ev {u : State} (hw : Tab.wf (fun _ => (0 : Word)) u.evt = true) {a : Nat} (h : u.ev a = 0) :
    u.commit.reg a = u.reg a := by rw [u.reg_commit hw, if_pos h]

/-- A flag raised stands when the command has ended. -/
theorem State.rbit_commit {u : State} (hw : Tab.wf (fun _ => (0 : Word)) u.evt = true) {a i : Nat} (hi : i < 24)
    (h : (u.ev a).getLsbD i = true) : u.commit.rbit a i = true := by
  unfold State.rbit
  have h0 : u.ev a ≠ 0 := by intro hz; rw [hz] at h; simp at h
  rw [u.reg_commit hw, if_neg h0, sqcEvent_flag _ _ hi, h, Bool.or_true]

theorem State.cntsKept_commit {s u : State} {but : List Nat} (h : ∀ a, a ∉ but → u.cnt a = s.cnt a) :
    s.cntsKept u.commit but := by
  intro a ha
  rw [u.commit_cnt, h a ha]

theorem putBit_getLsbD {w : Nat} (v : BitVec w) (i j : Nat) (b : Bool) (hj : j < w) :
    (putBit v i b).getLsbD j = if j = i then b else v.getLsbD j := by
  have e : (BitVec.ofNat w (2 ^ i)).getLsbD j = decide (j = i) := by
    rw [BitVec.getLsbD_ofNat, Nat.testBit_two_pow]
    simp [hj, eq_comm]
  unfold putBit
  by_cases h : j = i
  · subst h
    cases b
    · rw [if_neg (by decide), BitVec.getLsbD_and, BitVec.getLsbD_not, e]; simp
    · rw [if_pos rfl, BitVec.getLsbD_or, e]; simp
  · cases b
    · rw [if_neg (by decide), BitVec.getLsbD_and, BitVec.getLsbD_not, e]; simp [h, hj]
    · rw [if_pos rfl, BitVec.getLsbD_or, e]; simp [h]

theorem putBit_ne_zero {w : Nat} (v : BitVec w) {i : Nat} (hi : i < w) : putBit v i true ≠ 0 := by
  intro h
  have h1 := congrArg (fun x => x.getLsbD i) h
  simp only [putBit_getLsbD v i i true hi, if_pos] at h1
  simp at h1

/-- A state without events ends its command as it is. -/
theorem done_settled (s : State) (h : s.settled) : done s = .next s := by
  rw [done, State.commit, h]
  simp only [List.foldl_nil]
  congr 1
  apply State.eq_of_fields <;> first | rfl | exact h.symm

end Sys2Proof.Machine
end

