-- ==== Sys2Proof/Laws/Counters.lean ====
section
/-! SUPPORT. The CNT_HALF flag of every 48-bit counter: the status register of its block, and the bit. -/

namespace Sys2Proof.Machine

/-- Adding 1 makes bit 47 become 1 exactly at 0x7FFFFFFFFFFF. -/
theorem half_iff (w : Wide) : (!w.getLsbD 47 && (w + 1).getLsbD 47) = true ↔ w = 0x7FFFFFFFFFFF := by
  rw [← BitVec.msb_eq_getLsbD_last (x := w), ← BitVec.msb_eq_getLsbD_last (x := w + 1)]
  simp only [BitVec.msb_eq_decide, Bool.and_eq_true, Bool.not_eq_true', decide_eq_false_iff_not, decide_eq_true_eq]
  constructor
  · intro h
    apply BitVec.eq_of_toNat_eq
    have h1 : w.toNat < 2 ^ 48 := w.isLt
    have h2 : (w + 1).toNat = (w.toNat + 1) % 2 ^ 48 := by simp [BitVec.toNat_add]
    rw [h2] at h
    show w.toNat = 0x7FFFFFFFFFFF
    omega
  · intro h; subst h; decide

/-- An event counted, by what the counter held. -/
theorem State.ev_bump_at (s : State) (a b : Nat) : (s.bump a).ev b =
    if s.cnt a = 0x7FFFFFFFFFFF ∧ b = (halfFlag a).1 then putBit (s.ev b) (halfFlag a).2 true else s.ev b := by
  rw [State.ev_bump]
  by_cases h : s.cnt a = 0x7FFFFFFFFFFF
  · rw [(half_iff _).2 h]; simp [h]
  · have h2 : ¬ (!(s.cnt a).getLsbD 47 && (s.cnt a + 1).getLsbD 47) = true := fun x => h ((half_iff _).1 x)
    rw [if_neg (fun x => h2 x.1), if_neg (fun x => h x.1)]

/-- Another register's events are not touched by a count. -/
theorem State.ev_bump_ne (s : State) {a b : Nat} (h : b ≠ (halfFlag a).1) : (s.bump a).ev b = s.ev b := by
  rw [State.ev_bump_at, if_neg (fun x => h x.2)]

theorem State.ev_count_ne (s : State) {a b : Nat} (n : Nat) (h : b ≠ (halfFlag a).1) : (s.count a n).ev b = s.ev b := by
  rw [State.ev_count, if_neg (fun x => h x.2)]

theorem half_POD_CNT_BLOCKS {n : Nat} (h : n < 4) : halfFlag (Reg.POD_CNT_BLOCKS n) = (Reg.POD_RX_STATUS n, 13) := by
  have key : ∀ n < 4, halfFlag (Reg.POD_CNT_BLOCKS n) = (Reg.POD_RX_STATUS n, 13) := by decide
  exact key n h
theorem half_POD_CNT_BLK_LOST {n : Nat} (h : n < 4) : halfFlag (Reg.POD_CNT_BLK_LOST n) = (Reg.POD_RX_STATUS n, 13) := by
  have key : ∀ n < 4, halfFlag (Reg.POD_CNT_BLK_LOST n) = (Reg.POD_RX_STATUS n, 13) := by decide
  exact key n h
theorem half_POD_CNT_ABANDON {n : Nat} (h : n < 4) : halfFlag (Reg.POD_CNT_ABANDON n) = (Reg.POD_RX_STATUS n, 13) := by
  have key : ∀ n < 4, halfFlag (Reg.POD_CNT_ABANDON n) = (Reg.POD_RX_STATUS n, 13) := by decide
  exact key n h
theorem half_POD_CNT_CW {n : Nat} (h : n < 4) : halfFlag (Reg.POD_CNT_CW n) = (Reg.POD_RX_STATUS n, 13) := by
  have key : ∀ n < 4, halfFlag (Reg.POD_CNT_CW n) = (Reg.POD_RX_STATUS n, 13) := by decide
  exact key n h
theorem half_POD_CNT_CW_CLEAN {n : Nat} (h : n < 4) : halfFlag (Reg.POD_CNT_CW_CLEAN n) = (Reg.POD_RX_STATUS n, 13) := by
  have key : ∀ n < 4, halfFlag (Reg.POD_CNT_CW_CLEAN n) = (Reg.POD_RX_STATUS n, 13) := by decide
  exact key n h
theorem half_POD_CNT_CW_CORR {n : Nat} (h : n < 4) : halfFlag (Reg.POD_CNT_CW_CORR n) = (Reg.POD_RX_STATUS n, 13) := by
  have key : ∀ n < 4, halfFlag (Reg.POD_CNT_CW_CORR n) = (Reg.POD_RX_STATUS n, 13) := by decide
  exact key n h
theorem half_POD_CNT_CW_UNCOR {n : Nat} (h : n < 4) : halfFlag (Reg.POD_CNT_CW_UNCOR n) = (Reg.POD_RX_STATUS n, 13) := by
  have key : ∀ n < 4, halfFlag (Reg.POD_CNT_CW_UNCOR n) = (Reg.POD_RX_STATUS n, 13) := by decide
  exact key n h
theorem half_POD_CNT_CW_ABAND {n : Nat} (h : n < 4) : halfFlag (Reg.POD_CNT_CW_ABAND n) = (Reg.POD_RX_STATUS n, 13) := by
  have key : ∀ n < 4, halfFlag (Reg.POD_CNT_CW_ABAND n) = (Reg.POD_RX_STATUS n, 13) := by decide
  exact key n h
theorem half_POD_CNT_CORR_BITS {n : Nat} (h : n < 4) : halfFlag (Reg.POD_CNT_CORR_BITS n) = (Reg.POD_RX_STATUS n, 13) := by
  have key : ∀ n < 4, halfFlag (Reg.POD_CNT_CORR_BITS n) = (Reg.POD_RX_STATUS n, 13) := by decide
  exact key n h
theorem half_POD_CNT_ITERS {n : Nat} (h : n < 4) : halfFlag (Reg.POD_CNT_ITERS n) = (Reg.POD_RX_STATUS n, 13) := by
  have key : ∀ n < 4, halfFlag (Reg.POD_CNT_ITERS n) = (Reg.POD_RX_STATUS n, 13) := by decide
  exact key n h
theorem half_POD_CNT_PROF_DISC {n : Nat} (h : n < 4) : halfFlag (Reg.POD_CNT_PROF_DISC n) = (Reg.POD_RX_STATUS n, 13) := by
  have key : ∀ n < 4, halfFlag (Reg.POD_CNT_PROF_DISC n) = (Reg.POD_RX_STATUS n, 13) := by decide
  exact key n h
theorem half_POD_CNT_BLK_TX0 {n : Nat} (h : n < 4) : halfFlag (Reg.POD_CNT_BLK_TX0 n) = (Reg.POD_RX_STATUS n, 13) := by
  have key : ∀ n < 4, halfFlag (Reg.POD_CNT_BLK_TX0 n) = (Reg.POD_RX_STATUS n, 13) := by decide
  exact key n h
theorem half_POD_CNT_BLK_TX1 {n : Nat} (h : n < 4) : halfFlag (Reg.POD_CNT_BLK_TX1 n) = (Reg.POD_RX_STATUS n, 13) := by
  have key : ∀ n < 4, halfFlag (Reg.POD_CNT_BLK_TX1 n) = (Reg.POD_RX_STATUS n, 13) := by decide
  exact key n h
theorem half_POD_CNT_UNC_TX0 {n : Nat} (h : n < 4) : halfFlag (Reg.POD_CNT_UNC_TX0 n) = (Reg.POD_RX_STATUS n, 13) := by
  have key : ∀ n < 4, halfFlag (Reg.POD_CNT_UNC_TX0 n) = (Reg.POD_RX_STATUS n, 13) := by decide
  exact key n h
theorem half_POD_CNT_UNC_TX1 {n : Nat} (h : n < 4) : halfFlag (Reg.POD_CNT_UNC_TX1 n) = (Reg.POD_RX_STATUS n, 13) := by
  have key : ∀ n < 4, halfFlag (Reg.POD_CNT_UNC_TX1 n) = (Reg.POD_RX_STATUS n, 13) := by decide
  exact key n h
theorem half_POD_CNT_ABN_TX0 {n : Nat} (h : n < 4) : halfFlag (Reg.POD_CNT_ABN_TX0 n) = (Reg.POD_RX_STATUS n, 13) := by
  have key : ∀ n < 4, halfFlag (Reg.POD_CNT_ABN_TX0 n) = (Reg.POD_RX_STATUS n, 13) := by decide
  exact key n h
theorem half_POD_CNT_ABN_TX1 {n : Nat} (h : n < 4) : halfFlag (Reg.POD_CNT_ABN_TX1 n) = (Reg.POD_RX_STATUS n, 13) := by
  have key : ∀ n < 4, halfFlag (Reg.POD_CNT_ABN_TX1 n) = (Reg.POD_RX_STATUS n, 13) := by decide
  exact key n h
theorem half_POD_CNT_LIMIT_CUT {n : Nat} (h : n < 4) : halfFlag (Reg.POD_CNT_LIMIT_CUT n) = (Reg.POD_RX_STATUS n, 13) := by
  have key : ∀ n < 4, halfFlag (Reg.POD_CNT_LIMIT_CUT n) = (Reg.POD_RX_STATUS n, 13) := by decide
  exact key n h
theorem half_DSF_CHn_CNT_SYNC_MISS {n : Nat} (h : n < 4) : halfFlag (Reg.DSF_CHn_CNT_SYNC_MISS n) = (Reg.DSF_CHn_EVENT n, 19) := by
  have key : ∀ n < 4, halfFlag (Reg.DSF_CHn_CNT_SYNC_MISS n) = (Reg.DSF_CHn_EVENT n, 19) := by decide
  exact key n h
theorem half_DSF_CHn_CNT_FALSE_CAND {n : Nat} (h : n < 4) : halfFlag (Reg.DSF_CHn_CNT_FALSE_CAND n) = (Reg.DSF_CHn_EVENT n, 19) := by
  have key : ∀ n < 4, halfFlag (Reg.DSF_CHn_CNT_FALSE_CAND n) = (Reg.DSF_CHn_EVENT n, 19) := by decide
  exact key n h
theorem half_DSF_CHn_CNT_CAND_FULL {n : Nat} (h : n < 4) : halfFlag (Reg.DSF_CHn_CNT_CAND_FULL n) = (Reg.DSF_CHn_EVENT n, 19) := by
  have key : ∀ n < 4, halfFlag (Reg.DSF_CHn_CNT_CAND_FULL n) = (Reg.DSF_CHn_EVENT n, 19) := by decide
  exact key n h
theorem half_DSF_CHn_CNT_SLIP {n : Nat} (h : n < 4) : halfFlag (Reg.DSF_CHn_CNT_SLIP n) = (Reg.DSF_CHn_EVENT n, 19) := by
  have key : ∀ n < 4, halfFlag (Reg.DSF_CHn_CNT_SLIP n) = (Reg.DSF_CHn_EVENT n, 19) := by decide
  exact key n h
theorem half_DSF_CHn_CNT_MF_INCONS {n : Nat} (h : n < 4) : halfFlag (Reg.DSF_CHn_CNT_MF_INCONS n) = (Reg.DSF_CHn_EVENT n, 19) := by
  have key : ∀ n < 4, halfFlag (Reg.DSF_CHn_CNT_MF_INCONS n) = (Reg.DSF_CHn_EVENT n, 19) := by decide
  exact key n h
theorem half_DSF_CHn_CNT_HDR_DISC {n : Nat} (h : n < 4) : halfFlag (Reg.DSF_CHn_CNT_HDR_DISC n) = (Reg.DSF_CHn_EVENT n, 19) := by
  have key : ∀ n < 4, halfFlag (Reg.DSF_CHn_CNT_HDR_DISC n) = (Reg.DSF_CHn_EVENT n, 19) := by decide
  exact key n h
theorem half_DSF_CHn_CNT_PVEC_REUSE {n : Nat} (h : n < 4) : halfFlag (Reg.DSF_CHn_CNT_PVEC_REUSE n) = (Reg.DSF_CHn_EVENT n, 19) := by
  have key : ∀ n < 4, halfFlag (Reg.DSF_CHn_CNT_PVEC_REUSE n) = (Reg.DSF_CHn_EVENT n, 19) := by decide
  exact key n h
theorem half_DSF_CHn_CNT_MAP_LOST {n : Nat} (h : n < 4) : halfFlag (Reg.DSF_CHn_CNT_MAP_LOST n) = (Reg.DSF_CHn_EVENT n, 19) := by
  have key : ∀ n < 4, halfFlag (Reg.DSF_CHn_CNT_MAP_LOST n) = (Reg.DSF_CHn_EVENT n, 19) := by decide
  exact key n h
theorem half_DSF_CHn_CNT_MSG_DISC {n : Nat} (h : n < 4) : halfFlag (Reg.DSF_CHn_CNT_MSG_DISC n) = (Reg.DSF_CHn_EVENT n, 19) := by
  have key : ∀ n < 4, halfFlag (Reg.DSF_CHn_CNT_MSG_DISC n) = (Reg.DSF_CHn_EVENT n, 19) := by decide
  exact key n h
theorem half_DSF_CHn_CNT_SEG_HDR_ERR {n : Nat} (h : n < 4) : halfFlag (Reg.DSF_CHn_CNT_SEG_HDR_ERR n) = (Reg.DSF_CHn_EVENT n, 19) := by
  have key : ∀ n < 4, halfFlag (Reg.DSF_CHn_CNT_SEG_HDR_ERR n) = (Reg.DSF_CHn_EVENT n, 19) := by decide
  exact key n h
theorem half_DSF_CHn_CNT_SEG_RSVD {n : Nat} (h : n < 4) : halfFlag (Reg.DSF_CHn_CNT_SEG_RSVD n) = (Reg.DSF_CHn_EVENT n, 19) := by
  have key : ∀ n < 4, halfFlag (Reg.DSF_CHn_CNT_SEG_RSVD n) = (Reg.DSF_CHn_EVENT n, 19) := by decide
  exact key n h
theorem half_DSF_CHn_CNT_SEG_FOREIGN {n : Nat} (h : n < 4) : halfFlag (Reg.DSF_CHn_CNT_SEG_FOREIGN n) = (Reg.DSF_CHn_EVENT n, 19) := by
  have key : ∀ n < 4, halfFlag (Reg.DSF_CHn_CNT_SEG_FOREIGN n) = (Reg.DSF_CHn_EVENT n, 19) := by decide
  exact key n h
theorem half_DSF_CHn_CNT_SEG_UNCOR {n : Nat} (h : n < 4) : halfFlag (Reg.DSF_CHn_CNT_SEG_UNCOR n) = (Reg.DSF_CHn_EVENT n, 19) := by
  have key : ∀ n < 4, halfFlag (Reg.DSF_CHn_CNT_SEG_UNCOR n) = (Reg.DSF_CHn_EVENT n, 19) := by decide
  exact key n h
theorem half_DSF_CHn_CNT_NONMEMBER {n : Nat} (h : n < 4) : halfFlag (Reg.DSF_CHn_CNT_NONMEMBER n) = (Reg.DSF_CHn_EVENT n, 19) := by
  have key : ∀ n < 4, halfFlag (Reg.DSF_CHn_CNT_NONMEMBER n) = (Reg.DSF_CHn_EVENT n, 19) := by decide
  exact key n h
theorem half_DSF_CHn_CNT_EARLY_JOIN {n : Nat} (h : n < 4) : halfFlag (Reg.DSF_CHn_CNT_EARLY_JOIN n) = (Reg.DSF_CHn_EVENT n, 19) := by
  have key : ∀ n < 4, halfFlag (Reg.DSF_CHn_CNT_EARLY_JOIN n) = (Reg.DSF_CHn_EVENT n, 19) := by decide
  exact key n h
theorem half_DSF_CHn_CNT_CTRL_LOST {n : Nat} (h : n < 4) : halfFlag (Reg.DSF_CHn_CNT_CTRL_LOST n) = (Reg.DSF_CHn_EVENT n, 19) := by
  have key : ∀ n < 4, halfFlag (Reg.DSF_CHn_CNT_CTRL_LOST n) = (Reg.DSF_CHn_EVENT n, 19) := by decide
  exact key n h
@[simp] theorem half_ACT_CNT_ANN_SENT : halfFlag Reg.ACT_CNT_ANN_SENT = (Reg.ACT_STATUS, 15) := by decide
@[simp] theorem half_ACT_CNT_RANGE_SENT : halfFlag Reg.ACT_CNT_RANGE_SENT = (Reg.ACT_STATUS, 15) := by decide
@[simp] theorem half_ACT_CNT_RANGE_LAPSE : halfFlag Reg.ACT_CNT_RANGE_LAPSE = (Reg.ACT_STATUS, 15) := by decide
@[simp] theorem half_ACT_CNT_MSG_ACTED : halfFlag Reg.ACT_CNT_MSG_ACTED = (Reg.ACT_STATUS, 15) := by decide
@[simp] theorem half_ACT_CNT_MSG_REPEAT : halfFlag Reg.ACT_CNT_MSG_REPEAT = (Reg.ACT_STATUS, 15) := by decide
@[simp] theorem half_ACT_CNT_MSG_BAD : halfFlag Reg.ACT_CNT_MSG_BAD = (Reg.ACT_STATUS, 15) := by decide
@[simp] theorem half_ACT_CNT_UQ_DROP : halfFlag Reg.ACT_CNT_UQ_DROP = (Reg.ACT_STATUS, 15) := by decide
@[simp] theorem half_ACT_CNT_GRANT_DISC : halfFlag Reg.ACT_CNT_GRANT_DISC = (Reg.ACT_STATUS, 15) := by decide
@[simp] theorem half_ACT_CNT_GRANT_OVERLAP : halfFlag Reg.ACT_CNT_GRANT_OVERLAP = (Reg.ACT_STATUS, 15) := by decide
@[simp] theorem half_ACT_CNT_RTD_REFUSED : halfFlag Reg.ACT_CNT_RTD_REFUSED = (Reg.ACT_STATUS, 15) := by decide
@[simp] theorem half_ACT_CNT_ADV_COLLIDE : halfFlag Reg.ACT_CNT_ADV_COLLIDE = (Reg.ACT_STATUS, 15) := by decide
@[simp] theorem half_ACT_CNT_ID_LOSS : halfFlag Reg.ACT_CNT_ID_LOSS = (Reg.ACT_STATUS, 15) := by decide
@[simp] theorem half_ACT_CNT_TUN_REQ : halfFlag Reg.ACT_CNT_TUN_REQ = (Reg.ACT_STATUS, 15) := by decide
@[simp] theorem half_ACT_CNT_TUN_REFUSED : halfFlag Reg.ACT_CNT_TUN_REFUSED = (Reg.ACT_STATUS, 15) := by decide
@[simp] theorem half_ACT_CNT_RSVD_MAP : halfFlag Reg.ACT_CNT_RSVD_MAP = (Reg.ACT_STATUS, 15) := by decide
@[simp] theorem half_USQ_CNT_BATCHES : halfFlag Reg.USQ_CNT_BATCHES = (Reg.USQ_STATUS, 7) := by decide
@[simp] theorem half_USQ_CNT_GRANTS : halfFlag Reg.USQ_CNT_GRANTS = (Reg.USQ_STATUS, 7) := by decide
@[simp] theorem half_USQ_CNT_GRANT_EMPTY : halfFlag Reg.USQ_CNT_GRANT_EMPTY = (Reg.USQ_STATUS, 7) := by decide
@[simp] theorem half_USQ_CNT_FILL_BYTES : halfFlag Reg.USQ_CNT_FILL_BYTES = (Reg.USQ_STATUS, 7) := by decide
@[simp] theorem half_USQ_CNT_NEVER_FITS : halfFlag Reg.USQ_CNT_NEVER_FITS = (Reg.USQ_STATUS, 7) := by decide
@[simp] theorem half_USQ_CNT_ABANDON_FRAMES : halfFlag Reg.USQ_CNT_ABANDON_FRAMES = (Reg.USQ_STATUS, 7) := by decide
@[simp] theorem half_USQ_CNT_BIND_DEFER : halfFlag Reg.USQ_CNT_BIND_DEFER = (Reg.USQ_STATUS, 7) := by decide
@[simp] theorem half_USQ_CNT_CTRL_SEGS : halfFlag Reg.USQ_CNT_CTRL_SEGS = (Reg.USQ_STATUS, 7) := by decide
theorem half_UBT_CNT_CAUSE {n : Nat} (h : n < 12) : halfFlag (Reg.UBT_CNT_CAUSE n) = (Reg.UBT_STATUS, 9) := by
  have key : ∀ n < 12, halfFlag (Reg.UBT_CNT_CAUSE n) = (Reg.UBT_STATUS, 9) := by decide
  exact key n h
@[simp] theorem half_UBT_CNT_ROGUE_CLR_REF : halfFlag Reg.UBT_CNT_ROGUE_CLR_REF = (Reg.UBT_STATUS, 9) := by decide
theorem half_UBT_CHn_CNT_BURSTS {n : Nat} (h : n < 4) : halfFlag (Reg.UBT_CHn_CNT_BURSTS n) = (Reg.UBT_STATUS, 9) := by
  have key : ∀ n < 4, halfFlag (Reg.UBT_CHn_CNT_BURSTS n) = (Reg.UBT_STATUS, 9) := by decide
  exact key n h
theorem half_UBT_CHn_CNT_DISC {n : Nat} (h : n < 4) : halfFlag (Reg.UBT_CHn_CNT_DISC n) = (Reg.UBT_STATUS, 9) := by
  have key : ∀ n < 4, halfFlag (Reg.UBT_CHn_CNT_DISC n) = (Reg.UBT_STATUS, 9) := by decide
  exact key n h
theorem half_UBT_CHn_CNT_ABANDON {n : Nat} (h : n < 4) : halfFlag (Reg.UBT_CHn_CNT_ABANDON n) = (Reg.UBT_STATUS, 9) := by
  have key : ∀ n < 4, halfFlag (Reg.UBT_CHn_CNT_ABANDON n) = (Reg.UBT_STATUS, 9) := by decide
  exact key n h
theorem half_UBT_CHn_CNT_CUT {n : Nat} (h : n < 4) : halfFlag (Reg.UBT_CHn_CNT_CUT n) = (Reg.UBT_STATUS, 9) := by
  have key : ∀ n < 4, halfFlag (Reg.UBT_CHn_CNT_CUT n) = (Reg.UBT_STATUS, 9) := by decide
  exact key n h
theorem half_UBT_CHn_CNT_PROF_DISC {n : Nat} (h : n < 4) : halfFlag (Reg.UBT_CHn_CNT_PROF_DISC n) = (Reg.UBT_STATUS, 9) := by
  have key : ∀ n < 4, halfFlag (Reg.UBT_CHn_CNT_PROF_DISC n) = (Reg.UBT_STATUS, 9) := by decide
  exact key n h
theorem half_UBT_CHn_CNT_LIGHT_US {n : Nat} (h : n < 4) : halfFlag (Reg.UBT_CHn_CNT_LIGHT_US n) = (Reg.UBT_STATUS, 9) := by
  have key : ∀ n < 4, halfFlag (Reg.UBT_CHn_CNT_LIGHT_US n) = (Reg.UBT_STATUS, 9) := by decide
  exact key n h
theorem half_POD_TX_CNT_BURSTS {n : Nat} (h : n < 4) : halfFlag (Reg.POD_TX_CNT_BURSTS n) = (Reg.POD_TX_STATUS n, 6) := by
  have key : ∀ n < 4, halfFlag (Reg.POD_TX_CNT_BURSTS n) = (Reg.POD_TX_STATUS n, 6) := by decide
  exact key n h
theorem half_POD_TX_CNT_SYMBOLS {n : Nat} (h : n < 4) : halfFlag (Reg.POD_TX_CNT_SYMBOLS n) = (Reg.POD_TX_STATUS n, 6) := by
  have key : ∀ n < 4, halfFlag (Reg.POD_TX_CNT_SYMBOLS n) = (Reg.POD_TX_STATUS n, 6) := by decide
  exact key n h
theorem half_POD_TX_CNT_CWS {n : Nat} (h : n < 4) : halfFlag (Reg.POD_TX_CNT_CWS n) = (Reg.POD_TX_STATUS n, 6) := by
  have key : ∀ n < 4, halfFlag (Reg.POD_TX_CNT_CWS n) = (Reg.POD_TX_STATUS n, 6) := by decide
  exact key n h
theorem half_POD_TX_CNT_CUT {n : Nat} (h : n < 4) : halfFlag (Reg.POD_TX_CNT_CUT n) = (Reg.POD_TX_STATUS n, 6) := by
  have key : ∀ n < 4, halfFlag (Reg.POD_TX_CNT_CUT n) = (Reg.POD_TX_STATUS n, 6) := by decide
  exact key n h
theorem half_POD_TX_CNT_SENSE_LOW {n : Nat} (h : n < 4) : halfFlag (Reg.POD_TX_CNT_SENSE_LOW n) = (Reg.POD_TX_STATUS n, 6) := by
  have key : ∀ n < 4, halfFlag (Reg.POD_TX_CNT_SENSE_LOW n) = (Reg.POD_TX_STATUS n, 6) := by decide
  exact key n h
theorem half_POD_TX_CNT_LOOP {n : Nat} (h : n < 4) : halfFlag (Reg.POD_TX_CNT_LOOP n) = (Reg.POD_TX_STATUS n, 6) := by
  have key : ∀ n < 4, halfFlag (Reg.POD_TX_CNT_LOOP n) = (Reg.POD_TX_STATUS n, 6) := by decide
  exact key n h
@[simp] theorem half_NTM_CNT_TOD_ACCEPT : halfFlag Reg.NTM_CNT_TOD_ACCEPT = (Reg.NTM_STATUS, 15) := by decide
@[simp] theorem half_NTM_CNT_TOD_REJECT : halfFlag Reg.NTM_CNT_TOD_REJECT = (Reg.NTM_STATUS, 15) := by decide
@[simp] theorem half_NTM_CNT_STEP : halfFlag Reg.NTM_CNT_STEP = (Reg.NTM_STATUS, 15) := by decide
@[simp] theorem half_NTM_CNT_HOLD : halfFlag Reg.NTM_CNT_HOLD = (Reg.NTM_STATUS, 15) := by decide
@[simp] theorem half_NTM_CNT_TC_LATE : halfFlag Reg.NTM_CNT_TC_LATE = (Reg.NTM_STATUS, 15) := by decide
@[simp] theorem half_NTM_CNT_TRIG_SKIP : halfFlag Reg.NTM_CNT_TRIG_SKIP = (Reg.NTM_STATUS, 15) := by decide
theorem half_NTM_PTPp_CNT_SYNC {n : Nat} (h : n < 8) : halfFlag (Reg.NTM_PTPp_CNT_SYNC n) = (Reg.NTM_STATUS, 15) := by
  have key : ∀ n < 8, halfFlag (Reg.NTM_PTPp_CNT_SYNC n) = (Reg.NTM_STATUS, 15) := by decide
  exact key n h
theorem half_NTM_PTPp_CNT_ANN {n : Nat} (h : n < 8) : halfFlag (Reg.NTM_PTPp_CNT_ANN n) = (Reg.NTM_STATUS, 15) := by
  have key : ∀ n < 8, halfFlag (Reg.NTM_PTPp_CNT_ANN n) = (Reg.NTM_STATUS, 15) := by decide
  exact key n h
theorem half_NTM_PTPp_CNT_DRESP {n : Nat} (h : n < 8) : halfFlag (Reg.NTM_PTPp_CNT_DRESP n) = (Reg.NTM_STATUS, 15) := by
  have key : ∀ n < 8, halfFlag (Reg.NTM_PTPp_CNT_DRESP n) = (Reg.NTM_STATUS, 15) := by decide
  exact key n h
theorem half_NTM_PTPp_CNT_DROP {n : Nat} (h : n < 8) : halfFlag (Reg.NTM_PTPp_CNT_DROP n) = (Reg.NTM_STATUS, 15) := by
  have key : ∀ n < 8, halfFlag (Reg.NTM_PTPp_CNT_DROP n) = (Reg.NTM_STATUS, 15) := by decide
  exact key n h
theorem half_NTM_CAPc_CNT_OVF {n : Nat} (h : n < 4) : halfFlag (Reg.NTM_CAPc_CNT_OVF n) = (Reg.NTM_STATUS, 15) := by
  have key : ∀ n < 4, halfFlag (Reg.NTM_CAPc_CNT_OVF n) = (Reg.NTM_STATUS, 15) := by decide
  exact key n h
theorem half_NTM_CAPc_CNT_CLOSE {n : Nat} (h : n < 4) : halfFlag (Reg.NTM_CAPc_CNT_CLOSE n) = (Reg.NTM_STATUS, 15) := by
  have key : ∀ n < 4, halfFlag (Reg.NTM_CAPc_CNT_CLOSE n) = (Reg.NTM_STATUS, 15) := by decide
  exact key n h
@[simp] theorem half_LSC_CNT_ENC_FRAMES : halfFlag Reg.LSC_CNT_ENC_FRAMES = (Reg.LSC_STATUS, 12) := by decide
@[simp] theorem half_LSC_CNT_DEC_OK : halfFlag Reg.LSC_CNT_DEC_OK = (Reg.LSC_STATUS, 12) := by decide
@[simp] theorem half_LSC_CNT_AUTH_FAIL : halfFlag Reg.LSC_CNT_AUTH_FAIL = (Reg.LSC_STATUS, 12) := by decide
@[simp] theorem half_LSC_CNT_NO_KEY : halfFlag Reg.LSC_CNT_NO_KEY = (Reg.LSC_STATUS, 12) := by decide
@[simp] theorem half_LSC_CNT_MALFORMED : halfFlag Reg.LSC_CNT_MALFORMED = (Reg.LSC_STATUS, 12) := by decide
@[simp] theorem half_LSC_CNT_CHECK_FAIL : halfFlag Reg.LSC_CNT_CHECK_FAIL = (Reg.LSC_STATUS, 12) := by decide
@[simp] theorem half_LSC_CNT_HELD_DISC : halfFlag Reg.LSC_CNT_HELD_DISC = (Reg.LSC_STATUS, 12) := by decide
@[simp] theorem half_LSC_CNT_KEY_REFUSED : halfFlag Reg.LSC_CNT_KEY_REFUSED = (Reg.LSC_STATUS, 12) := by decide
@[simp] theorem half_LSC_CNT_SW_FAIL : halfFlag Reg.LSC_CNT_SW_FAIL = (Reg.LSC_STATUS, 12) := by decide
@[simp] theorem half_LSC_CNT_NEAR_END : halfFlag Reg.LSC_CNT_NEAR_END = (Reg.LSC_STATUS, 12) := by decide
@[simp] theorem half_LSC_CNT_ERASES : halfFlag Reg.LSC_CNT_ERASES = (Reg.LSC_STATUS, 12) := by decide
@[simp] theorem half_LSC_CNT_SKIP : halfFlag Reg.LSC_CNT_SKIP = (Reg.LSC_STATUS, 12) := by decide
theorem half_HPE_Pp_RX_OCTETS_ALL {n : Nat} (h : n < 8) : halfFlag (Reg.HPE_Pp_RX_OCTETS_ALL n) = (Reg.HPE_Pp_STATUS n, 2) := by
  have key : ∀ n < 8, halfFlag (Reg.HPE_Pp_RX_OCTETS_ALL n) = (Reg.HPE_Pp_STATUS n, 2) := by decide
  exact key n h
theorem half_HPE_Pp_RX_OCTETS_OK {n : Nat} (h : n < 8) : halfFlag (Reg.HPE_Pp_RX_OCTETS_OK n) = (Reg.HPE_Pp_STATUS n, 2) := by
  have key : ∀ n < 8, halfFlag (Reg.HPE_Pp_RX_OCTETS_OK n) = (Reg.HPE_Pp_STATUS n, 2) := by decide
  exact key n h
theorem half_HPE_Pp_RX_FRAMES_OK {n : Nat} (h : n < 8) : halfFlag (Reg.HPE_Pp_RX_FRAMES_OK n) = (Reg.HPE_Pp_STATUS n, 2) := by
  have key : ∀ n < 8, halfFlag (Reg.HPE_Pp_RX_FRAMES_OK n) = (Reg.HPE_Pp_STATUS n, 2) := by decide
  exact key n h
theorem half_HPE_Pp_RX_UNICAST {n : Nat} (h : n < 8) : halfFlag (Reg.HPE_Pp_RX_UNICAST n) = (Reg.HPE_Pp_STATUS n, 2) := by
  have key : ∀ n < 8, halfFlag (Reg.HPE_Pp_RX_UNICAST n) = (Reg.HPE_Pp_STATUS n, 2) := by decide
  exact key n h
theorem half_HPE_Pp_RX_MULTICAST {n : Nat} (h : n < 8) : halfFlag (Reg.HPE_Pp_RX_MULTICAST n) = (Reg.HPE_Pp_STATUS n, 2) := by
  have key : ∀ n < 8, halfFlag (Reg.HPE_Pp_RX_MULTICAST n) = (Reg.HPE_Pp_STATUS n, 2) := by decide
  exact key n h
theorem half_HPE_Pp_RX_BROADCAST {n : Nat} (h : n < 8) : halfFlag (Reg.HPE_Pp_RX_BROADCAST n) = (Reg.HPE_Pp_STATUS n, 2) := by
  have key : ∀ n < 8, halfFlag (Reg.HPE_Pp_RX_BROADCAST n) = (Reg.HPE_Pp_STATUS n, 2) := by decide
  exact key n h
theorem half_HPE_Pp_RX_PAUSE {n : Nat} (h : n < 8) : halfFlag (Reg.HPE_Pp_RX_PAUSE n) = (Reg.HPE_Pp_STATUS n, 2) := by
  have key : ∀ n < 8, halfFlag (Reg.HPE_Pp_RX_PAUSE n) = (Reg.HPE_Pp_STATUS n, 2) := by decide
  exact key n h
theorem half_HPE_Pp_RX_CTRL {n : Nat} (h : n < 8) : halfFlag (Reg.HPE_Pp_RX_CTRL n) = (Reg.HPE_Pp_STATUS n, 2) := by
  have key : ∀ n < 8, halfFlag (Reg.HPE_Pp_RX_CTRL n) = (Reg.HPE_Pp_STATUS n, 2) := by decide
  exact key n h
theorem half_HPE_Pp_RX_FCS_ERR {n : Nat} (h : n < 8) : halfFlag (Reg.HPE_Pp_RX_FCS_ERR n) = (Reg.HPE_Pp_STATUS n, 2) := by
  have key : ∀ n < 8, halfFlag (Reg.HPE_Pp_RX_FCS_ERR n) = (Reg.HPE_Pp_STATUS n, 2) := by decide
  exact key n h
theorem half_HPE_Pp_RX_ALIGN {n : Nat} (h : n < 8) : halfFlag (Reg.HPE_Pp_RX_ALIGN n) = (Reg.HPE_Pp_STATUS n, 2) := by
  have key : ∀ n < 8, halfFlag (Reg.HPE_Pp_RX_ALIGN n) = (Reg.HPE_Pp_STATUS n, 2) := by decide
  exact key n h
theorem half_HPE_Pp_RX_SYMBOL {n : Nat} (h : n < 8) : halfFlag (Reg.HPE_Pp_RX_SYMBOL n) = (Reg.HPE_Pp_STATUS n, 2) := by
  have key : ∀ n < 8, halfFlag (Reg.HPE_Pp_RX_SYMBOL n) = (Reg.HPE_Pp_STATUS n, 2) := by decide
  exact key n h
theorem half_HPE_Pp_RX_RUNT {n : Nat} (h : n < 8) : halfFlag (Reg.HPE_Pp_RX_RUNT n) = (Reg.HPE_Pp_STATUS n, 2) := by
  have key : ∀ n < 8, halfFlag (Reg.HPE_Pp_RX_RUNT n) = (Reg.HPE_Pp_STATUS n, 2) := by decide
  exact key n h
theorem half_HPE_Pp_RX_FRAGMENT {n : Nat} (h : n < 8) : halfFlag (Reg.HPE_Pp_RX_FRAGMENT n) = (Reg.HPE_Pp_STATUS n, 2) := by
  have key : ∀ n < 8, halfFlag (Reg.HPE_Pp_RX_FRAGMENT n) = (Reg.HPE_Pp_STATUS n, 2) := by decide
  exact key n h
theorem half_HPE_Pp_RX_OVERSIZE_TRUNC {n : Nat} (h : n < 8) : halfFlag (Reg.HPE_Pp_RX_OVERSIZE_TRUNC n) = (Reg.HPE_Pp_STATUS n, 2) := by
  have key : ∀ n < 8, halfFlag (Reg.HPE_Pp_RX_OVERSIZE_TRUNC n) = (Reg.HPE_Pp_STATUS n, 2) := by decide
  exact key n h
theorem half_HPE_Pp_RX_JABBER {n : Nat} (h : n < 8) : halfFlag (Reg.HPE_Pp_RX_JABBER n) = (Reg.HPE_Pp_STATUS n, 2) := by
  have key : ∀ n < 8, halfFlag (Reg.HPE_Pp_RX_JABBER n) = (Reg.HPE_Pp_STATUS n, 2) := by decide
  exact key n h
theorem half_HPE_Pp_RX_ENGINE_OVERRUN {n : Nat} (h : n < 8) : halfFlag (Reg.HPE_Pp_RX_ENGINE_OVERRUN n) = (Reg.HPE_Pp_STATUS n, 2) := by
  have key : ∀ n < 8, halfFlag (Reg.HPE_Pp_RX_ENGINE_OVERRUN n) = (Reg.HPE_Pp_STATUS n, 2) := by decide
  exact key n h
theorem half_HPE_Pp_RX_ABORT {n : Nat} (h : n < 8) : halfFlag (Reg.HPE_Pp_RX_ABORT n) = (Reg.HPE_Pp_STATUS n, 2) := by
  have key : ∀ n < 8, halfFlag (Reg.HPE_Pp_RX_ABORT n) = (Reg.HPE_Pp_STATUS n, 2) := by decide
  exact key n h
theorem half_HPE_Pp_RX_PTP {n : Nat} (h : n < 8) : halfFlag (Reg.HPE_Pp_RX_PTP n) = (Reg.HPE_Pp_STATUS n, 2) := by
  have key : ∀ n < 8, halfFlag (Reg.HPE_Pp_RX_PTP n) = (Reg.HPE_Pp_STATUS n, 2) := by decide
  exact key n h
theorem half_HPE_Pp_RX_MGMT {n : Nat} (h : n < 8) : halfFlag (Reg.HPE_Pp_RX_MGMT n) = (Reg.HPE_Pp_STATUS n, 2) := by
  have key : ∀ n < 8, halfFlag (Reg.HPE_Pp_RX_MGMT n) = (Reg.HPE_Pp_STATUS n, 2) := by decide
  exact key n h
theorem half_HPE_Pp_RX_MGMT_DROP {n : Nat} (h : n < 8) : halfFlag (Reg.HPE_Pp_RX_MGMT_DROP n) = (Reg.HPE_Pp_STATUS n, 2) := by
  have key : ∀ n < 8, halfFlag (Reg.HPE_Pp_RX_MGMT_DROP n) = (Reg.HPE_Pp_STATUS n, 2) := by decide
  exact key n h
theorem half_HPE_Pp_RX_FEC_CORR {n : Nat} (h : n < 8) : halfFlag (Reg.HPE_Pp_RX_FEC_CORR n) = (Reg.HPE_Pp_STATUS n, 2) := by
  have key : ∀ n < 8, halfFlag (Reg.HPE_Pp_RX_FEC_CORR n) = (Reg.HPE_Pp_STATUS n, 2) := by decide
  exact key n h
theorem half_HPE_Pp_RX_FEC_UNCOR {n : Nat} (h : n < 8) : halfFlag (Reg.HPE_Pp_RX_FEC_UNCOR n) = (Reg.HPE_Pp_STATUS n, 2) := by
  have key : ∀ n < 8, halfFlag (Reg.HPE_Pp_RX_FEC_UNCOR n) = (Reg.HPE_Pp_STATUS n, 2) := by decide
  exact key n h
theorem half_HPE_Pp_TX_OCTETS {n : Nat} (h : n < 8) : halfFlag (Reg.HPE_Pp_TX_OCTETS n) = (Reg.HPE_Pp_STATUS n, 2) := by
  have key : ∀ n < 8, halfFlag (Reg.HPE_Pp_TX_OCTETS n) = (Reg.HPE_Pp_STATUS n, 2) := by decide
  exact key n h
theorem half_HPE_Pp_TX_FRAMES {n : Nat} (h : n < 8) : halfFlag (Reg.HPE_Pp_TX_FRAMES n) = (Reg.HPE_Pp_STATUS n, 2) := by
  have key : ∀ n < 8, halfFlag (Reg.HPE_Pp_TX_FRAMES n) = (Reg.HPE_Pp_STATUS n, 2) := by decide
  exact key n h
theorem half_HPE_Pp_TX_UNICAST {n : Nat} (h : n < 8) : halfFlag (Reg.HPE_Pp_TX_UNICAST n) = (Reg.HPE_Pp_STATUS n, 2) := by
  have key : ∀ n < 8, halfFlag (Reg.HPE_Pp_TX_UNICAST n) = (Reg.HPE_Pp_STATUS n, 2) := by decide
  exact key n h
theorem half_HPE_Pp_TX_MULTICAST {n : Nat} (h : n < 8) : halfFlag (Reg.HPE_Pp_TX_MULTICAST n) = (Reg.HPE_Pp_STATUS n, 2) := by
  have key : ∀ n < 8, halfFlag (Reg.HPE_Pp_TX_MULTICAST n) = (Reg.HPE_Pp_STATUS n, 2) := by decide
  exact key n h
theorem half_HPE_Pp_TX_BROADCAST {n : Nat} (h : n < 8) : halfFlag (Reg.HPE_Pp_TX_BROADCAST n) = (Reg.HPE_Pp_STATUS n, 2) := by
  have key : ∀ n < 8, halfFlag (Reg.HPE_Pp_TX_BROADCAST n) = (Reg.HPE_Pp_STATUS n, 2) := by decide
  exact key n h
theorem half_HPE_Pp_TX_PTP {n : Nat} (h : n < 8) : halfFlag (Reg.HPE_Pp_TX_PTP n) = (Reg.HPE_Pp_STATUS n, 2) := by
  have key : ∀ n < 8, halfFlag (Reg.HPE_Pp_TX_PTP n) = (Reg.HPE_Pp_STATUS n, 2) := by decide
  exact key n h
theorem half_HPE_Pp_TX_MGMT {n : Nat} (h : n < 8) : halfFlag (Reg.HPE_Pp_TX_MGMT n) = (Reg.HPE_Pp_STATUS n, 2) := by
  have key : ∀ n < 8, halfFlag (Reg.HPE_Pp_TX_MGMT n) = (Reg.HPE_Pp_STATUS n, 2) := by decide
  exact key n h
theorem half_HPE_Pp_TX_PADDED {n : Nat} (h : n < 8) : halfFlag (Reg.HPE_Pp_TX_PADDED n) = (Reg.HPE_Pp_STATUS n, 2) := by
  have key : ∀ n < 8, halfFlag (Reg.HPE_Pp_TX_PADDED n) = (Reg.HPE_Pp_STATUS n, 2) := by decide
  exact key n h
theorem half_HPE_Pp_TX_DISCARD {n : Nat} (h : n < 8) : halfFlag (Reg.HPE_Pp_TX_DISCARD n) = (Reg.HPE_Pp_STATUS n, 2) := by
  have key : ∀ n < 8, halfFlag (Reg.HPE_Pp_TX_DISCARD n) = (Reg.HPE_Pp_STATUS n, 2) := by decide
  exact key n h
theorem half_HPE_Pp_TX_PAUSED {n : Nat} (h : n < 8) : halfFlag (Reg.HPE_Pp_TX_PAUSED n) = (Reg.HPE_Pp_STATUS n, 2) := by
  have key : ∀ n < 8, halfFlag (Reg.HPE_Pp_TX_PAUSED n) = (Reg.HPE_Pp_STATUS n, 2) := by decide
  exact key n h
@[simp] theorem half_CLS_CNT_PASS1 : halfFlag Reg.CLS_CNT_PASS1 = (Reg.CLS_STATUS, 9) := by decide
@[simp] theorem half_CLS_CNT_PASS2 : halfFlag Reg.CLS_CNT_PASS2 = (Reg.CLS_STATUS, 9) := by decide
@[simp] theorem half_CLS_CNT_HIT : halfFlag Reg.CLS_CNT_HIT = (Reg.CLS_STATUS, 9) := by decide
@[simp] theorem half_CLS_CNT_MISS : halfFlag Reg.CLS_CNT_MISS = (Reg.CLS_STATUS, 9) := by decide
@[simp] theorem half_CLS_CNT_INCOMPLETE : halfFlag Reg.CLS_CNT_INCOMPLETE = (Reg.CLS_STATUS, 9) := by decide
@[simp] theorem half_CLS_CNT_LEN_CONFLICT : halfFlag Reg.CLS_CNT_LEN_CONFLICT = (Reg.CLS_STATUS, 9) := by decide
@[simp] theorem half_CLS_CNT_LEN_DROP : halfFlag Reg.CLS_CNT_LEN_DROP = (Reg.CLS_STATUS, 9) := by decide
@[simp] theorem half_CLS_CNT_DROP : halfFlag Reg.CLS_CNT_DROP = (Reg.CLS_STATUS, 9) := by decide
@[simp] theorem half_CLS_CNT_COPIES : halfFlag Reg.CLS_CNT_COPIES = (Reg.CLS_STATUS, 9) := by decide
@[simp] theorem half_CLS_CNT_RECIRC_BUDGET : halfFlag Reg.CLS_CNT_RECIRC_BUDGET = (Reg.CLS_STATUS, 9) := by decide
@[simp] theorem half_CLS_CNT_RECIRC_PROF : halfFlag Reg.CLS_CNT_RECIRC_PROF = (Reg.CLS_STATUS, 9) := by decide
@[simp] theorem half_CLS_CNT_RECIRC_SECOND : halfFlag Reg.CLS_CNT_RECIRC_SECOND = (Reg.CLS_STATUS, 9) := by decide
@[simp] theorem half_CLS_CNT_DIR_DROP : halfFlag Reg.CLS_CNT_DIR_DROP = (Reg.CLS_STATUS, 9) := by decide
@[simp] theorem half_CLS_CNT_BIND_DROP : halfFlag Reg.CLS_CNT_BIND_DROP = (Reg.CLS_STATUS, 9) := by decide
@[simp] theorem half_CLS_CNT_OVS_DROP : halfFlag Reg.CLS_CNT_OVS_DROP = (Reg.CLS_STATUS, 9) := by decide
@[simp] theorem half_CLS_CNT_SWAP_REFUSED : halfFlag Reg.CLS_CNT_SWAP_REFUSED = (Reg.CLS_STATUS, 9) := by decide
@[simp] theorem half_CLS_CNT_PIPE_DROP : halfFlag Reg.CLS_CNT_PIPE_DROP = (Reg.CLS_STATUS, 9) := by decide
@[simp] theorem half_HRD_CNT_CORR_S0 : halfFlag Reg.HRD_CNT_CORR_S0 = (Reg.HRD_STATUS, 6) := by decide
@[simp] theorem half_HRD_CNT_CORR_S1 : halfFlag Reg.HRD_CNT_CORR_S1 = (Reg.HRD_STATUS, 6) := by decide
@[simp] theorem half_HRD_CNT_UNCOR_S0 : halfFlag Reg.HRD_CNT_UNCOR_S0 = (Reg.HRD_STATUS, 6) := by decide
@[simp] theorem half_HRD_CNT_UNCOR_S1 : halfFlag Reg.HRD_CNT_UNCOR_S1 = (Reg.HRD_STATUS, 6) := by decide
@[simp] theorem half_HRD_CNT_UNCOR_DROP : halfFlag Reg.HRD_CNT_UNCOR_DROP = (Reg.HRD_STATUS, 6) := by decide
@[simp] theorem half_HSK_CNT_TX_MSG : halfFlag Reg.HSK_CNT_TX_MSG = (Reg.HSK_STATUS, 7) := by decide
@[simp] theorem half_HSK_CNT_RX_MSG : halfFlag Reg.HSK_CNT_RX_MSG = (Reg.HSK_STATUS, 7) := by decide
@[simp] theorem half_HSK_CNT_RX_BAD : halfFlag Reg.HSK_CNT_RX_BAD = (Reg.HSK_STATUS, 7) := by decide
@[simp] theorem half_HSK_CNT_RETRY : halfFlag Reg.HSK_CNT_RETRY = (Reg.HSK_STATUS, 7) := by decide
@[simp] theorem half_HSK_CNT_PS_FRAMES : halfFlag Reg.HSK_CNT_PS_FRAMES = (Reg.HSK_STATUS, 7) := by decide
@[simp] theorem half_HSK_CNT_PS_BYTES : halfFlag Reg.HSK_CNT_PS_BYTES = (Reg.HSK_STATUS, 7) := by decide
@[simp] theorem half_HSK_CNT_STALL_US : halfFlag Reg.HSK_CNT_STALL_US = (Reg.HSK_STATUS, 7) := by decide
@[simp] theorem half_HSK_CNT_BEACONS : halfFlag Reg.HSK_CNT_BEACONS = (Reg.HSK_STATUS, 7) := by decide
@[simp] theorem half_HSK_CNT_LINK_DOWN : halfFlag Reg.HSK_CNT_LINK_DOWN = (Reg.HSK_STATUS, 7) := by decide
@[simp] theorem half_HSK_CNT_COMMIT_LOST : halfFlag Reg.HSK_CNT_COMMIT_LOST = (Reg.HSK_STATUS, 7) := by decide
@[simp] theorem half_TWN_CNT_TAKE_CLEAN : halfFlag Reg.TWN_CNT_TAKE_CLEAN = (Reg.TWN_STATUS, 16) := by decide
@[simp] theorem half_TWN_CNT_TAKE_BLIND : halfFlag Reg.TWN_CNT_TAKE_BLIND = (Reg.TWN_STATUS, 16) := by decide
@[simp] theorem half_TWN_CNT_TAKE_UNALIGNED : halfFlag Reg.TWN_CNT_TAKE_UNALIGNED = (Reg.TWN_STATUS, 16) := by decide
@[simp] theorem half_TWN_CNT_LEASE_DISC : halfFlag Reg.TWN_CNT_LEASE_DISC = (Reg.TWN_STATUS, 16) := by decide
@[simp] theorem half_TWN_CNT_LEASE_WAIT : halfFlag Reg.TWN_CNT_LEASE_WAIT = (Reg.TWN_STATUS, 16) := by decide
@[simp] theorem half_TWN_CNT_EXPIRY : halfFlag Reg.TWN_CNT_EXPIRY = (Reg.TWN_STATUS, 16) := by decide
@[simp] theorem half_TWN_CNT_RENEW : halfFlag Reg.TWN_CNT_RENEW = (Reg.TWN_STATUS, 16) := by decide
@[simp] theorem half_TWN_CNT_UNALIGNED : halfFlag Reg.TWN_CNT_UNALIGNED = (Reg.TWN_STATUS, 16) := by decide
@[simp] theorem half_TWN_CNT_REALIGN : halfFlag Reg.TWN_CNT_REALIGN = (Reg.TWN_STATUS, 16) := by decide
@[simp] theorem half_TWN_CNT_CHECK_SKIP : halfFlag Reg.TWN_CNT_CHECK_SKIP = (Reg.TWN_STATUS, 16) := by decide
@[simp] theorem half_TWN_CNT_TRIMMED : halfFlag Reg.TWN_CNT_TRIMMED = (Reg.TWN_STATUS, 16) := by decide
@[simp] theorem half_TWN_CNT_MIRROR_RO : halfFlag Reg.TWN_CNT_MIRROR_RO = (Reg.TWN_STATUS, 16) := by decide
@[simp] theorem half_TWN_CNT_LINK_DOWN : halfFlag Reg.TWN_CNT_LINK_DOWN = (Reg.TWN_STATUS, 16) := by decide
@[simp] theorem half_TWN_CNT_LANE_DROP : halfFlag Reg.TWN_CNT_LANE_DROP = (Reg.TWN_STATUS, 16) := by decide
@[simp] theorem half_TWN_CNT_MSG_RETRY : halfFlag Reg.TWN_CNT_MSG_RETRY = (Reg.TWN_STATUS, 16) := by decide
@[simp] theorem half_TWN_CNT_DS_SUPPRESS : halfFlag Reg.TWN_CNT_DS_SUPPRESS = (Reg.TWN_STATUS, 16) := by decide
@[simp] theorem half_TWN_CNT_PORTS_BYTES : halfFlag Reg.TWN_CNT_PORTS_BYTES = (Reg.TWN_STATUS, 16) := by decide
@[simp] theorem half_TWN_CNT_ST_FAIL : halfFlag Reg.TWN_CNT_ST_FAIL = (Reg.TWN_STATUS, 16) := by decide
@[simp] theorem half_BOOT_CNT_CFG_SKIP : halfFlag Reg.BOOT_CNT_CFG_SKIP = (Reg.BOOT_STATUS, 11) := by decide
@[simp] theorem half_BOOT_CNT_WAIT_TO : halfFlag Reg.BOOT_CNT_WAIT_TO = (Reg.BOOT_STATUS, 11) := by decide
@[simp] theorem half_BOOT_CNT_SCHED_SKIP : halfFlag Reg.BOOT_CNT_SCHED_SKIP = (Reg.BOOT_STATUS, 11) := by decide
@[simp] theorem half_BOOT_CNT_WDT : halfFlag Reg.BOOT_CNT_WDT = (Reg.BOOT_STATUS, 11) := by decide
@[simp] theorem half_BOOT_CNT_HOST_REFUSED : halfFlag Reg.BOOT_CNT_HOST_REFUSED = (Reg.BOOT_STATUS, 11) := by decide
@[simp] theorem half_BOOT_CNT_MCU_REFUSED : halfFlag Reg.BOOT_CNT_MCU_REFUSED = (Reg.BOOT_STATUS, 11) := by decide
@[simp] theorem half_DEV_CNT_SEM_FOREIGN : halfFlag Reg.DEV_CNT_SEM_FOREIGN = (Reg.DEV_STATUS, 2) := by decide
theorem half_PWR_CNT_REFUSE {n : Nat} (h : n < 11) : halfFlag (Reg.PWR_CNT_REFUSE n) = (Reg.PWR_STATUS, 8) := by
  have key : ∀ n < 11, halfFlag (Reg.PWR_CNT_REFUSE n) = (Reg.PWR_STATUS, 8) := by decide
  exact key n h
@[simp] theorem half_PWR_CNT_ABORT : halfFlag Reg.PWR_CNT_ABORT = (Reg.PWR_STATUS, 8) := by decide
@[simp] theorem half_PWR_CNT_ENTRY : halfFlag Reg.PWR_CNT_ENTRY = (Reg.PWR_STATUS, 8) := by decide
@[simp] theorem half_PWR_CNT_RETRY : halfFlag Reg.PWR_CNT_RETRY = (Reg.PWR_STATUS, 8) := by decide
@[simp] theorem half_PWR_CNT_WAKE_FAIL : halfFlag Reg.PWR_CNT_WAKE_FAIL = (Reg.PWR_STATUS, 8) := by decide
@[simp] theorem half_PWR_CNT_BANK_LOST : halfFlag Reg.PWR_CNT_BANK_LOST = (Reg.PWR_STATUS, 8) := by decide
@[simp] theorem half_PWR_CNT_OFF_ACCESS : halfFlag Reg.PWR_CNT_OFF_ACCESS = (Reg.PWR_STATUS, 8) := by decide
@[simp] theorem half_PWR_CNT_LISTEN : halfFlag Reg.PWR_CNT_LISTEN = (Reg.PWR_STATUS, 8) := by decide
theorem half_PWR_CNT_WAKE {n : Nat} (h : n < 10) : halfFlag (Reg.PWR_CNT_WAKE n) = (Reg.PWR_STATUS, 8) := by
  have key : ∀ n < 10, halfFlag (Reg.PWR_CNT_WAKE n) = (Reg.PWR_STATUS, 8) := by decide
  exact key n h
@[simp] theorem half_FLT_CNT_EVENTS : halfFlag Reg.FLT_CNT_EVENTS = (Reg.FLT_STATUS, 12) := by decide
@[simp] theorem half_FLT_CNT_SEVERE : halfFlag Reg.FLT_CNT_SEVERE = (Reg.FLT_STATUS, 12) := by decide
@[simp] theorem half_FLT_CNT_MERGED : halfFlag Reg.FLT_CNT_MERGED = (Reg.FLT_STATUS, 12) := by decide
@[simp] theorem half_FLT_CNT_TRACK_EVICT : halfFlag Reg.FLT_CNT_TRACK_EVICT = (Reg.FLT_STATUS, 12) := by decide
@[simp] theorem half_FLT_CNT_CLR_MISS : halfFlag Reg.FLT_CNT_CLR_MISS = (Reg.FLT_STATUS, 12) := by decide
@[simp] theorem half_FLT_CNT_REPEAT : halfFlag Reg.FLT_CNT_REPEAT = (Reg.FLT_STATUS, 12) := by decide
theorem half_FLT_CNT_REACT {n : Nat} (h : n < 8) : halfFlag (Reg.FLT_CNT_REACT n) = (Reg.FLT_STATUS, 12) := by
  have key : ∀ n < 8, halfFlag (Reg.FLT_CNT_REACT n) = (Reg.FLT_STATUS, 12) := by decide
  exact key n h
@[simp] theorem half_CLK_CNT_SRC_CHG : halfFlag Reg.CLK_CNT_SRC_CHG = (Reg.CLK_STATUS, 8) := by decide
@[simp] theorem half_CLK_CNT_DS_LOSS : halfFlag Reg.CLK_CNT_DS_LOSS = (Reg.CLK_STATUS, 8) := by decide
@[simp] theorem half_CLK_CNT_OVERRUN : halfFlag Reg.CLK_CNT_OVERRUN = (Reg.CLK_STATUS, 8) := by decide
@[simp] theorem half_CLK_CNT_RESYNC : halfFlag Reg.CLK_CNT_RESYNC = (Reg.CLK_STATUS, 8) := by decide
@[simp] theorem half_CLK_CNT_RESYNC_TO : halfFlag Reg.CLK_CNT_RESYNC_TO = (Reg.CLK_STATUS, 8) := by decide

end Sys2Proof.Machine
end

