-- ==== Sys2Proof/Laws/Rows.lean ====
section
/-! SUPPORT. The registers that commands of their own write: each is a register of its block's own map, with its access
code, and whether a twin pair mirrors it (R517). -/

namespace Sys2Proof.Machine

theorem mapped_CLK_FREQ_SEL : MappedReg Reg.CLK_FREQ_SEL 2 .rw :=
  ⟨by decide, by decide, by decide, by decide⟩
theorem mapped_CLK_TEST : MappedReg Reg.CLK_TEST 2 .kg :=
  ⟨by decide, by decide, by decide, by decide⟩
theorem mapped_POD_CAL_CMD {n : Nat} (h : n < 4) : MappedReg (Reg.POD_CAL_CMD n) (17 + n) .w1p := by
  have key : ∀ n < 4, blockOf (Reg.POD_CAL_CMD n) = some (17 + n) ∧ wordAddr (Reg.POD_CAL_CMD n) = Reg.POD_CAL_CMD n ∧ (17 + n) ≠ 14 ∧
      Reg.POD_CAL_CMD n ≠ Reg.BLK_UNLOCK (17 + n) ∧ commonOffset (17 + n) (Reg.POD_CAL_CMD n) = none ∧ Reg.POD_CAL_CMD n ≠ Reg.BOOT_CMD ∧
      (regRow (Reg.POD_CAL_CMD n)).map (fun r => r.1.access) = some .w1p := by decide
  obtain ⟨h1, h2, h3, h4, h5, h6, h7⟩ := key n h
  exact ⟨⟨h1, h2, h3, h4⟩, h5, h6, h7⟩
theorem mapped_DSF_PM_CMD : MappedReg Reg.DSF_PM_CMD 7 .w1p :=
  ⟨by decide, by decide, by decide, by decide⟩
theorem mapped_POD_PROF_CMD {n : Nat} (h : n < 4) : MappedReg (Reg.POD_PROF_CMD n) (17 + n) .w1p := by
  have key : ∀ n < 4, blockOf (Reg.POD_PROF_CMD n) = some (17 + n) ∧ wordAddr (Reg.POD_PROF_CMD n) = Reg.POD_PROF_CMD n ∧ (17 + n) ≠ 14 ∧
      Reg.POD_PROF_CMD n ≠ Reg.BLK_UNLOCK (17 + n) ∧ commonOffset (17 + n) (Reg.POD_PROF_CMD n) = none ∧ Reg.POD_PROF_CMD n ≠ Reg.BOOT_CMD ∧
      (regRow (Reg.POD_PROF_CMD n)).map (fun r => r.1.access) = some .w1p := by decide
  obtain ⟨h1, h2, h3, h4, h5, h6, h7⟩ := key n h
  exact ⟨⟨h1, h2, h3, h4⟩, h5, h6, h7⟩
theorem mapped_POD_TXPROF_CMD {n : Nat} (h : n < 4) : MappedReg (Reg.POD_TXPROF_CMD n) (17 + n) .w1p := by
  have key : ∀ n < 4, blockOf (Reg.POD_TXPROF_CMD n) = some (17 + n) ∧ wordAddr (Reg.POD_TXPROF_CMD n) = Reg.POD_TXPROF_CMD n ∧ (17 + n) ≠ 14 ∧
      Reg.POD_TXPROF_CMD n ≠ Reg.BLK_UNLOCK (17 + n) ∧ commonOffset (17 + n) (Reg.POD_TXPROF_CMD n) = none ∧ Reg.POD_TXPROF_CMD n ≠ Reg.BOOT_CMD ∧
      (regRow (Reg.POD_TXPROF_CMD n)).map (fun r => r.1.access) = some .w1p := by decide
  obtain ⟨h1, h2, h3, h4, h5, h6, h7⟩ := key n h
  exact ⟨⟨h1, h2, h3, h4⟩, h5, h6, h7⟩
theorem mapped_ACT_CTRL : MappedReg Reg.ACT_CTRL 6 .rw :=
  ⟨by decide, by decide, by decide, by decide⟩
theorem mapped_ACT_CMD : MappedReg Reg.ACT_CMD 6 .w1p :=
  ⟨by decide, by decide, by decide, by decide⟩
theorem mapped_UBT_GATE_LIMITS : MappedReg Reg.UBT_GATE_LIMITS 9 .kg :=
  ⟨by decide, by decide, by decide, by decide⟩
theorem mapped_USQ_Q_CMD : MappedReg Reg.USQ_Q_CMD 8 .w1p :=
  ⟨by decide, by decide, by decide, by decide⟩
theorem mapped_LSC_KL_CMD : MappedReg Reg.LSC_KL_CMD 10 .kg :=
  ⟨by decide, by decide, by decide, by decide⟩
theorem mapped_LSC_CMD : MappedReg Reg.LSC_CMD 10 .kg :=
  ⟨by decide, by decide, by decide, by decide⟩
theorem mapped_LSC_CTRL : MappedReg Reg.LSC_CTRL 10 .kg :=
  ⟨by decide, by decide, by decide, by decide⟩
theorem mapped_HPE_Pp_CFG {n : Nat} (h : n < 8) : MappedReg (Reg.HPE_Pp_CFG n) 11 .rw := by
  have key : ∀ n < 8, blockOf (Reg.HPE_Pp_CFG n) = some 11 ∧ wordAddr (Reg.HPE_Pp_CFG n) = Reg.HPE_Pp_CFG n ∧ 11 ≠ 14 ∧
      Reg.HPE_Pp_CFG n ≠ Reg.BLK_UNLOCK 11 ∧ commonOffset 11 (Reg.HPE_Pp_CFG n) = none ∧ Reg.HPE_Pp_CFG n ≠ Reg.BOOT_CMD ∧
      (regRow (Reg.HPE_Pp_CFG n)).map (fun r => r.1.access) = some .rw := by decide
  obtain ⟨h1, h2, h3, h4, h5, h6, h7⟩ := key n h
  exact ⟨⟨h1, h2, h3, h4⟩, h5, h6, h7⟩
theorem mapped_CLS_TBL_CMD : MappedReg Reg.CLS_TBL_CMD 12 .w1p :=
  ⟨by decide, by decide, by decide, by decide⟩
theorem mapped_CLS_GEN_CMD : MappedReg Reg.CLS_GEN_CMD 12 .w1p :=
  ⟨by decide, by decide, by decide, by decide⟩
theorem mapped_CLS_PROF_CMD : MappedReg Reg.CLS_PROF_CMD 12 .w1p :=
  ⟨by decide, by decide, by decide, by decide⟩
theorem mapped_CLS_SG_MAP : MappedReg Reg.CLS_SG_MAP 12 .rw :=
  ⟨by decide, by decide, by decide, by decide⟩
theorem mapped_CLS_SEL_DATA : MappedReg Reg.CLS_SEL_DATA 12 .rw :=
  ⟨by decide, by decide, by decide, by decide⟩
theorem mapped_CLS_SEED0 : MappedReg Reg.CLS_SEED0 12 .rw :=
  ⟨by decide, by decide, by decide, by decide⟩
theorem mapped_CLS_SEED1 : MappedReg Reg.CLS_SEED1 12 .rw :=
  ⟨by decide, by decide, by decide, by decide⟩
theorem mapped_HRD_PART : MappedReg Reg.HRD_PART 13 .rw :=
  ⟨by decide, by decide, by decide, by decide⟩
theorem mapped_HSK_CFG_CMD : MappedReg Reg.HSK_CFG_CMD 16 .w1p :=
  ⟨by decide, by decide, by decide, by decide⟩
theorem mapped_TWN_CMD : MappedReg Reg.TWN_CMD 15 .w1p :=
  ⟨by decide, by decide, by decide, by decide⟩
theorem mapped_TWN_SOLO : MappedReg Reg.TWN_SOLO 15 .kg :=
  ⟨by decide, by decide, by decide, by decide⟩
theorem mapped_TWN_ACORN_OVR : MappedReg Reg.TWN_ACORN_OVR 15 .kg :=
  ⟨by decide, by decide, by decide, by decide⟩
theorem mapped_TWN_LOOP : MappedReg Reg.TWN_LOOP 15 .rw :=
  ⟨by decide, by decide, by decide, by decide⟩
theorem mapped_BOOT_FUSE_CMD : MappedReg Reg.BOOT_FUSE_CMD 1 .kg :=
  ⟨by decide, by decide, by decide, by decide⟩
theorem mapped_BOOT_NVM_CMD : MappedReg Reg.BOOT_NVM_CMD 1 .kg :=
  ⟨by decide, by decide, by decide, by decide⟩
theorem mapped_BOOT_MCUn_CMD {n : Nat} (h : n < 4) : MappedReg (Reg.BOOT_MCUn_CMD n) 1 .w1p := by
  have key : ∀ n < 4, blockOf (Reg.BOOT_MCUn_CMD n) = some 1 ∧ wordAddr (Reg.BOOT_MCUn_CMD n) = Reg.BOOT_MCUn_CMD n ∧ 1 ≠ 14 ∧
      Reg.BOOT_MCUn_CMD n ≠ Reg.BLK_UNLOCK 1 ∧ commonOffset 1 (Reg.BOOT_MCUn_CMD n) = none ∧ Reg.BOOT_MCUn_CMD n ≠ Reg.BOOT_CMD ∧
      (regRow (Reg.BOOT_MCUn_CMD n)).map (fun r => r.1.access) = some .w1p := by decide
  obtain ⟨h1, h2, h3, h4, h5, h6, h7⟩ := key n h
  exact ⟨⟨h1, h2, h3, h4⟩, h5, h6, h7⟩
theorem mapped_PWR_MODE_REQ : MappedReg Reg.PWR_MODE_REQ 3 .rw :=
  ⟨by decide, by decide, by decide, by decide⟩
theorem mapped_FLT_REC_CLR : MappedReg Reg.FLT_REC_CLR 4 .rw :=
  ⟨by decide, by decide, by decide, by decide⟩
theorem mapped_FLT_POD_CMD : MappedReg Reg.FLT_POD_CMD 4 .w1p :=
  ⟨by decide, by decide, by decide, by decide⟩
theorem mapped_FLT_RESET_CMD : MappedReg Reg.FLT_RESET_CMD 4 .kg :=
  ⟨by decide, by decide, by decide, by decide⟩
theorem mapped_FLT_INJ_CMD : MappedReg Reg.FLT_INJ_CMD 4 .kg :=
  ⟨by decide, by decide, by decide, by decide⟩
theorem mapped_FLT_RULE_DATA : MappedReg Reg.FLT_RULE_DATA 4 .rw :=
  ⟨by decide, by decide, by decide, by decide⟩
theorem mapped_NTM_TCs_CMD {n : Nat} (h : n < 16) : MappedReg (Reg.NTM_TCs_CMD n) 5 .w1p := by
  have key : ∀ n < 16, blockOf (Reg.NTM_TCs_CMD n) = some 5 ∧ wordAddr (Reg.NTM_TCs_CMD n) = Reg.NTM_TCs_CMD n ∧ 5 ≠ 14 ∧
      Reg.NTM_TCs_CMD n ≠ Reg.BLK_UNLOCK 5 ∧ commonOffset 5 (Reg.NTM_TCs_CMD n) = none ∧ Reg.NTM_TCs_CMD n ≠ Reg.BOOT_CMD ∧
      (regRow (Reg.NTM_TCs_CMD n)).map (fun r => r.1.access) = some .w1p := by decide
  obtain ⟨h1, h2, h3, h4, h5, h6, h7⟩ := key n h
  exact ⟨⟨h1, h2, h3, h4⟩, h5, h6, h7⟩
theorem mapped_NTM_TRIGt_CMD {n : Nat} (h : n < 8) : MappedReg (Reg.NTM_TRIGt_CMD n) 5 .w1p := by
  have key : ∀ n < 8, blockOf (Reg.NTM_TRIGt_CMD n) = some 5 ∧ wordAddr (Reg.NTM_TRIGt_CMD n) = Reg.NTM_TRIGt_CMD n ∧ 5 ≠ 14 ∧
      Reg.NTM_TRIGt_CMD n ≠ Reg.BLK_UNLOCK 5 ∧ commonOffset 5 (Reg.NTM_TRIGt_CMD n) = none ∧ Reg.NTM_TRIGt_CMD n ≠ Reg.BOOT_CMD ∧
      (regRow (Reg.NTM_TRIGt_CMD n)).map (fun r => r.1.access) = some .w1p := by decide
  obtain ⟨h1, h2, h3, h4, h5, h6, h7⟩ := key n h
  exact ⟨⟨h1, h2, h3, h4⟩, h5, h6, h7⟩
theorem mapped_NTM_CAPc_CMD {n : Nat} (h : n < 4) : MappedReg (Reg.NTM_CAPc_CMD n) 5 .w1p := by
  have key : ∀ n < 4, blockOf (Reg.NTM_CAPc_CMD n) = some 5 ∧ wordAddr (Reg.NTM_CAPc_CMD n) = Reg.NTM_CAPc_CMD n ∧ 5 ≠ 14 ∧
      Reg.NTM_CAPc_CMD n ≠ Reg.BLK_UNLOCK 5 ∧ commonOffset 5 (Reg.NTM_CAPc_CMD n) = none ∧ Reg.NTM_CAPc_CMD n ≠ Reg.BOOT_CMD ∧
      (regRow (Reg.NTM_CAPc_CMD n)).map (fun r => r.1.access) = some .w1p := by decide
  obtain ⟨h1, h2, h3, h4, h5, h6, h7⟩ := key n h
  exact ⟨⟨h1, h2, h3, h4⟩, h5, h6, h7⟩
theorem mapped_NTM_CMD : MappedReg Reg.NTM_CMD 5 .w1p :=
  ⟨by decide, by decide, by decide, by decide⟩
theorem mapped_NTM_TIME_CMD : MappedReg Reg.NTM_TIME_CMD 5 .kg :=
  ⟨by decide, by decide, by decide, by decide⟩
theorem mapped_NTM_CTRL : MappedReg Reg.NTM_CTRL 5 .rw :=
  ⟨by decide, by decide, by decide, by decide⟩
theorem mapped_DSF_LINK_DATA : MappedReg Reg.DSF_LINK_DATA 7 .rw :=
  ⟨by decide, by decide, by decide, by decide⟩
theorem mapped_USQ_Q_DATA : MappedReg Reg.USQ_Q_DATA 8 .rw :=
  ⟨by decide, by decide, by decide, by decide⟩
theorem mapped_USQ_ALLOC_DATA : MappedReg Reg.USQ_ALLOC_DATA 8 .rw :=
  ⟨by decide, by decide, by decide, by decide⟩
theorem mapped_HSK_CMD_GO : MappedReg Reg.HSK_CMD_GO 16 .w1p :=
  ⟨by decide, by decide, by decide, by decide⟩
theorem mapped_UBT_ROGUE_CLR : MappedReg Reg.UBT_ROGUE_CLR 9 .kg :=
  ⟨by decide, by decide, by decide, by decide⟩
theorem mapped_DEV_SEM_FORCE : MappedReg Reg.DEV_SEM_FORCE 0 .kg :=
  ⟨by decide, by decide, by decide, by decide⟩

end Sys2Proof.Machine
end

