-- ==== Sys2Proof/WellFormed.lean ====
section
/-! DEFINITION. Which commands are well formed: operands that the spec's numbering admits. The types of Syntax.lean bound
most operands; what is left is checked here. No meaning rests on it: `exec` is total on every term. -/

namespace Sys2Proof

/-- A requester number of Table ARB-2: 0 the management SPI, 1 to 8 in-band management, 9 the tunnel, 10 to 13 the
controllers. -/
def iniOk (ini : Nat) : Bool := decide (ini < 14)

/-- A requester whose accesses arrive as management requests. -/
def mgmtIni (ini : Nat) : Bool := decide (1 ≤ ini) && decide (ini ≤ 9)

/-- Arbiters 0 and 1 have one resource; arbiter 2 has one per pseudo-channel. -/
def resourceOk (inst : Fin 3) (pc : Fin 64) : Bool := inst == 2 || pc == 0

/-- A report on the four ADCs of a Pod. -/
def AdcReport.ok (r : AdcReport) : Bool := r.rms.length == 4 && r.clips.length == 4

/-- The checks of each command. -/
def Instr.wf (i : Instr) : Bool :=
  match i with
  | .powerOn _ => true
  | .resetNAssert _ => true
  | .resetRelease _ _ _ => true
  | .supplyLow _ _ => true
  | .supplyGood _ => true
  | .tempAlarm _ _ => true
  | .tempClear _ => true
  | .clockLoss _ => true
  | .clockReturn _ => true
  | .rootQualify _ => true
  | .dsLock _ => true
  | .freqMeasure ini _ => iniOk ini
  | .freqDone ppb => decide (ppb.natAbs < 2 ^ 30)
  | .forceRefWrite ini _ => iniOk ini
  | .resyncDone _ => true
  | .resyncTimeout _ => true
  | .cal ini _ _ => iniOk ini
  | .calDone _ _ => true
  | .cdcDone _ _ => true
  | .losIndication _ _ => true
  | .agcHuntUpdate _ report => report.ok
  | .gainRelease _ report _ => report.ok
  | .detection _ _ _ _ _ _ _ => true
  | .blockLost _ => true
  | .codewordDelivery _ final input _ _ => final.length == input.length
  | .blockMark _ => true
  | .lobDeclare _ => true
  | .headerSpace _ raw _ => decide (34 ≤ raw.length)
  | .dsSegment _ _ hdrKind _ _ _ _ _ _ => decide (hdrKind ≤ 3)
  | .skewStoreRelease _ _ => true
  | .reorderTimeout _ => true
  | .linkFrameAuth => true
  | .channelRemove _ => true
  | .channelAdmit _ _ => true
  | .maskApply _ _ => true
  | .reorderWord0Write ini _ => iniOk ini
  | .linkWord12Write ini _ => iniOk ini
  | .degWindowEnd _ => true
  | .ffrWindowEnd _ => true
  | .lokWindowEnd _ => true
  | .secondEnd => true
  | .binEnd _ => true
  | .binFinal _ => true
  | .pmSnap ini _ => iniOk ini
  | .profArm ini _ _ => iniOk ini
  | .txprofArm ini _ _ => iniOk ini
  | .profileActivate _ _ _ => true
  | .assignId _ => true
  | .rangeReq _ => true
  | .rangeTime _ => true
  | .profileSet _ => true
  | .channelSet _ => true
  | .channelSetApply _ => true
  | .keyDeliver _ => true
  | .keySwitch _ => true
  | .timeOfDay _ => true
  | .todHeldApply => true
  | .todHeldLapse => true
  | .todTimeout => true
  | .holdSpecEnd => true
  | .leaseGrant _ => true
  | .leaseRevoke _ => true
  | .silence _ => true
  | .unsilence _ => true
  | .silenceExpiry => true
  | .sleepAllow _ => true
  | .wake _ => true
  | .healthQuery _ => true
  | .mgmtTunnel _ => true
  | .inbandMgmtFrame _ => true
  | .mgmtRead ini => mgmtIni ini
  | .mgmtWrite ini => mgmtIni ini
  | .mgmtWritePairs ini => mgmtIni ini
  | .actEnWrite ini _ => iniOk ini
  | .deactivate ini _ => iniOk ini
  | .channelConditionTransition => true
  | .toRangeExpiry => true
  | .toHeldExpiry => true
  | .rangeReqLapse _ => true
  | .batchStart => true
  | .fillDecision _ => true
  | .secondTest _ => true
  | .burstEnd _ => true
  | .lateData _ => true
  | .leaseExpiry => true
  | .rogueTrip _ _ => true
  | .rogueClr ini _ _ => iniOk ini
  | .senseLow _ => true
  | .gateLimitsWrite ini _ => iniOk ini
  | .biasOff _ => true
  | .frameVisible _ => true
  | .shaperRefill => true
  | .flush ini _ => iniOk ini
  | .latSnap ini _ => iniOk ini
  | .queueSample => true
  | .latPeriodEnd => true
  | .queueWord0Write ini _ => iniOk ini
  | .bindApply _ => true
  | .allocWord0Write ini _ => iniOk ini
  | .egressOffer _ _ => true
  | .keySwitchApply _ _ => true
  | .graceExpiry _ => true
  | .keyLoad ini _ => iniOk ini
  | .erase ini _ => iniOk ini
  | .lscCtrlWrite ini _ => iniOk ini
  | .holdExpiry _ => true
  | .macReceive _ _ _ _ _ _ _ _ => true
  | .pauseEnd _ => true
  | .macTransmit _ => true
  | .portCfgWrite ini _ _ => iniOk ini
  | .portUpChange _ _ _ _ => true
  | .firstPass _ _ => true
  | .recirculation => true
  | .recircWithdraw _ => true
  | .delayReq _ => true
  | .ptpSync _ _ => true
  | .ptpAnnounce _ => true
  | .insert ini => iniOk ini
  | .update ini => iniOk ini
  | .delete ini => iniOk ini
  | .find ini => iniOk ini
  | .readSlot ini => iniOk ini
  | .clearGen ini => iniOk ini
  | .swap ini => iniOk ini
  | .drained => true
  | .profileApply ini _ => iniOk ini
  | .profileLoad ini _ => iniOk ini
  | .sgMapWrite ini _ => iniOk ini
  | .selDataWrite ini _ => iniOk ini
  | .seedWrite ini _ _ => iniOk ini
  | .partitionWrite ini _ => iniOk ini
  | .scrub _ => true
  | .arbitration inst pc arriving => resourceOk inst pc && arriving.all (fun r => decide (r < 16))
  | .grantEnd inst pc => resourceOk inst pc
  | .arbWindowStart _ => true
  | .freezeWrite ini _ _ => iniOk ini
  | .fabricTimeout requester => iniOk requester
  | .beaconSend => true
  | .huskEcho _ _ => true
  | .huskHealth _ _ => true
  | .recordMsg _ => true
  | .captureMsg _ => true
  | .huskTrained => true
  | .huskDown => true
  | .hskCmdStart ini => iniOk ini
  | .hskCmdStop ini => iniOk ini
  | .hskCmdStatus ini => iniOk ini
  | .hskCmdArm ini => iniOk ini
  | .hskCfgSend ini => iniOk ini
  | .commitLost => true
  | .shellPowerUp _ _ _ _ => true
  | .shellWatchdog _ _ _ _ => true
  | .beacon _ _ => true
  | .beaconTimeout => true
  | .cfgBlock _ _ => true
  | .start => true
  | .stop => true
  | .status _ => true
  | .arm => true
  | .definitionStart => true
  | .definitionStop _ => true
  | .intervalEnd _ _ => true
  | .captureStart => true
  | .captureFillDone _ _ => true
  | .recordSend _ => true
  | .healthSend _ => true
  | .shellAlarm _ => true
  | .keyRestore => true
  | .linkResync _ => true
  | .twinLinkUp _ _ taps => decide (taps.length ≤ 8)
  | .trainTimeout => true
  | .twinLinkLost => true
  | .laneLockLoss _ _ _ _ => true
  | .laneReturn _ _ => true
  | .hello _ => true
  | .twinState _ => true
  | .renewSend => true
  | .renew _ _ => true
  | .renewAck _ _ => true
  | .orphanRenew => true
  | .release => true
  | .claim _ => true
  | .takeoverDone => true
  | .finalMark => true
  | .twinEchoSend => true
  | .twinEcho _ _ => true
  | .keymeta _ => true
  | .keyDiverge _ _ _ => true
  | .ctrSend => true
  | .ctr _ => true
  | .markSend => true
  | .mark _ => true
  | .checkSend => true
  | .check _ => true
  | .checkWaitExpiry => true
  | .twinCfg _ _ => true
  | .table _ _ => true
  | .range _ => true
  | .bulkDone _ => true
  | .shaperSend => true
  | .shaper _ => true
  | .perf _ _ _ => true
  | .twinTime _ => true
  | .twinHealthBuild _ => true
  | .twinHealth _ => true
  | .ports _ => true
  | .peerLost => true
  | .loopTest _ _ => true
  | .twnHandover ini => iniOk ini
  | .retrain ini => iniOk ini
  | .solo ini => iniOk ini
  | .forceOff ini => iniOk ini
  | .forceOn ini => iniOk ini
  | .twinLoopWrite ini _ => iniOk ini
  | .loop _ => true
  | .retry ini => iniOk ini
  | .softReset ini => iniOk ini
  | .fuseProg ini => iniOk ini
  | .fuseRead ini => iniOk ini
  | .fuseDone _ => true
  | .nvmRead ini => iniOk ini
  | .nvmProgram ini => iniOk ini
  | .nvmErase4k ini => iniOk ini
  | .nvmErase64k ini => iniOk ini
  | .nvmReadId ini => iniOk ini
  | .nvmDone _ => true
  | .nvmTimeout => true
  | .mcuRestart ini _ => iniOk ini
  | .mcuWatchdog _ => true
  | .semRead ini _ => iniOk ini
  | .semFree ini _ _ => iniOk ini
  | .semForce ini _ => iniOk ini
  | .modeReqActive ini => iniOk ini
  | .modeReqDoze ini => iniOk ini
  | .modeReqCyclic ini => iniOk ini
  | .modeReqDeep ini => iniOk ini
  | .modeReqWarm ini => iniOk ini
  | .modeEntryDone => true
  | .domainOnDone _ _ => true
  | .wakeRetry _ _ => true
  | .reqLapse => true
  | .listenPowerUp => true
  | .listenWindowStart => true
  | .listenWindowEnd => true
  | .optical _ => true
  | .pattern _ _ => true
  | .hostEnergy _ => true
  | .pin => true
  | .faultMessage _ _ => true
  | .regionResetEscalation _ => true
  | .fltRecClr ini _ => iniOk ini
  | .podRestart ini _ => iniOk ini
  | .podAutoRestart _ => true
  | .regionResetCmd ini _ => iniOk ini
  | .inject ini _ => iniOk ini
  | .ruleWrite ini _ => iniOk ini
  | .tcArm ini _ => iniOk ini
  | .tcDisarm ini _ => iniOk ini
  | .tcFire _ => true
  | .trigArm ini _ => iniOk ini
  | .trigStop ini _ => iniOk ini
  | .triggerEdge _ => true
  | .captureEdge _ _ _ => true
  | .capturePop ini _ => iniOk ini
  | .ntmSnap ini => iniOk ini
  | .ntmHold ini => iniOk ini
  | .ntmRelease ini => iniOk ini
  | .timeSet ini => iniOk ini
  | .timeAdj ini => iniOk ini
  | .servoEnWrite ini _ => iniOk ini
  | .holdRefInterval _ => true
  | .spiWrite _ words _ => !words.isEmpty
  | .spiWriteFixed _ words _ => !words.isEmpty
  | .spiRead _ count => decide (0 < count)
  | .spiReadFixed _ count => decide (0 < count)
  | .spiStatus => true
  | .spiReset => true
  | .sqcClear ini _ _ => iniOk ini
  | .unlock ini _ _ => iniOk ini
  | .guardExpiry _ => true
  | .registerWrite ini _ _ => iniOk ini
  | .extest => true
  | .samplePreload => true
  | .idcode => true
  | .clamp => true
  | .highz => true
  | .extestPulse => true
  | .extestTrain => true
  | .bypass _ => true
  | .shellPowerDown => true
  | .holdRefLoss => true
  | .dsLockLoss _ => true
  | .dsRange => true
  | .selfRefreshEntry _ => true
  | .claimMarkWaitExpiry => true
  | .sysrefEdge _ => true
  | .fieldTriggerEdge _ => true
  | .registerRead ini _ => iniOk ini

end Sys2Proof
end

