-- ==== Sys2Proof/Tests/Slice0.lean ====
section
/-! SUPPORT. Tests: a term that each check of WellFormed refuses, worked examples of the spec, and for every obligation with
hypotheses a state and operands that meet them, clause by clause (`met_<obligation>`). -/

namespace Sys2Proof.Tests

set_option maxRecDepth 100000
set_option Elab.async false

open Sys2Proof.Machine

/-! ## Well-formedness: one term for each check, which the check refuses -/

theorem test_wf_ini : (Instr.registerWrite 14 0 0).wf = false := by decide
theorem test_wf_mgmtIni : (Instr.mgmtRead 0).wf = false := by decide
theorem test_wf_resource : (Instr.arbitration 1 3 [4]).wf = false := by decide
theorem test_wf_requester : (Instr.arbitration 2 3 [16]).wf = false := by decide
theorem test_wf_report : (Instr.agcHuntUpdate 2 ⟨[1, 2, 3], [0, 0, 0, 0]⟩).wf = false := by decide
theorem test_wf_gain_report : (Instr.gainRelease 2 ⟨[1, 2, 3, 4], [0]⟩ 5).wf = false := by decide
theorem test_wf_freqDone : (Instr.freqDone (-1073741824)).wf = false := by decide
theorem test_wf_codeword : (Instr.codewordDelivery 1 [0] [0, 1] 3 none).wf = false := by decide
theorem test_wf_headerSpace : (Instr.headerSpace 0 (List.replicate 33 0) []).wf = false := by decide
theorem test_wf_dsSegment : (Instr.dsSegment 0 [] 4 [] false 0 0 0 0).wf = false := by decide
theorem test_wf_spiWrite : (Instr.spiWrite 0 [] true).wf = false := by decide
theorem test_wf_spiRead : (Instr.spiRead 0 0).wf = false := by decide
theorem test_wf_accepts : (Instr.registerWrite 13 0x7FFFFF 5).wf = true := by decide

/-! ## The table gives no command a word -/

theorem test_decode_none : decodeTableWord 32 0x12345678 = none := rfl
theorem test_fetch_none : State.reset.withFetchWord 32 0x12345678 = State.reset := rfl

/-! ## States of the tests -/

/-- Bytes of a number, most significant first. -/
def bytesOf (n v : Nat) : List Byte := (List.range n).map (fun i => BitVec.ofNat 8 (v / 256 ^ (n - 1 - i)))

/-- The reset state with Sprout past step 3: READY is 1, and past step 7 the host may write every block. -/
def ready : State := { State.reset with boot := { State.reset.boot with step := 11 } }

/-- `ready` with the guard of block `b` armed for initiator 0. -/
def unlocked (b : Nat) : State := { ready with guards := [(b, ⟨0, 0⟩)] }

theorem ready_settled : ready.settled := rfl

/-- What `mayAccess` asks of `ready`, for one initiator and block. -/
def readyFor (s : State) (ini b : Nat) : Bool :=
  decide (ini < 14) && !s.frozen 0 && (Tab.find? s.arb.i0.holder 0).isNone && s.arb.extended.isNone &&
  !s.isMasked 0 ini && !s.blockOff b && (ini != 0 || (s.spiReady && s.spi.queue.isEmpty && !s.hostBarred b))

theorem mayAccess_of (s : State) (ini b : Nat) (h : readyFor s ini b = true) : s.mayAccess ini b := by
  simp only [readyFor, Bool.and_eq_true, decide_eq_true_eq, Bool.not_eq_true', Option.isNone_iff_eq_none,
    Bool.or_eq_true, bne_iff_ne, ne_eq, List.isEmpty_iff] at h
  obtain ⟨⟨⟨⟨⟨⟨h1, h2⟩, h3⟩, h4⟩, h5⟩, h6⟩, h7⟩ := h
  exact ⟨h1, h2, h3, h4, h5, h6, fun h0 => (h7.resolve_left (fun hn => hn h0)).elim (fun p q => ⟨p.1, p.2, q⟩)⟩

theorem unlocked_armed : ∀ b < 21, (unlocked b).armedFor b 0 := by
  have key : ∀ b < 21, (unlocked b).guardFor b 0 = true := by decide +kernel
  exact key

/-- `ready` with every Pod calibrated and the receiver of Pod 1 on. -/
def podUp : State :=
  ({ ready with pods := (List.range 4).map (fun n => (n, { Pod.reset with calPass := true })) } : State).setReg
    (Reg.POD_RX_CTRL 1) 1

/-- `podUp` with all four channels enabled in DSF and performance monitoring on. -/
def chUp : State := podUp.setReg Reg.DSF_CTRL 0x1F

/-- `chUp` with the terminal in an activation state, holding identifier 5 from T3 on. -/
def inT (st : TState) : State :=
  { chUp with act := { chUp.act with state := st, tid := if st = .t2 ∨ st = .t1 ∨ st = .t0 then none else some 5 } }

/-- A broadcast control message. -/
def bc (b : List Byte) : MsgIn := ⟨1, 1023, 9, b⟩

/-- A frame of an upstream queue. -/
def qf (id len start sent : Nat) (vis : Bool) : QFrame :=
  { id := id, data := List.replicate (len - 4) 0x5A, len := len, start := start, visible := vis, seenAt := 0, prot := [], link := 3, sent := sent, admitAt := 0, stamp := 0, pos := 0, f := 0, acc := 0 }

/-- An enabled queue of Link 3, allocation 7 and the first strict class. -/
def qu (fs : List QFrame) : Queue := { Queue.reset with link := 3, linkF := 3, alloc := 7, allocF := 7, cls := 1, enable := true, rate := 100, burst := 4000, bucket := 10, frames := fs }

/-- Queue `q` is `x`. -/
def withQ (s : State) (q : Nat) (x : Queue) : State := s.modQueue q (fun _ => x)

/-- A grant of channel 1. -/
def gr (k : GrantKind) (m : Option UpMsg) : Grant := { ch := 1, kind := k, allocId := 9, tg := 512000, launch := 9000000000, len := 200, prof := 0, cBits := 24736, guard := 60, msg := m }

/-- The burst of a grant. -/
def bu (s : State) (g : Grant) : Burst := s.newBurst g []

/-- Link 3 has an upstream key. -/
def keyed (s : State) : State := s.setKeys 7 { LinkKeys.reset with a := { state := .current, key := List.replicate 32 1, salt := 5, epoch := 2, twin := false, ctr := 0, nearEnd := false, mirror := 0 } }

/-- Link 3 is mapped. -/
def mapped (s : State) : State := s.setDlink 3 { DsfLink.reset with linkId := 44, mapped := true, mask := 2 }

/-- Channel 1 may send. -/
def chActive (s : State) : State := (fun s : State => s.modChan 1 (fun c => { c with defects := 0, fa := .sync, mf := .sync })) <| (s.modActCh 1 (fun c => { c with rtd := some 0, upEn := true })).modPod 1 (fun p => { p with calPass := true })

/-- Channel 1 has one burst. -/
def bst (b : Burst) (s : State) : State := s.modUbt 1 (fun u => { u with bursts := [b] })

/-- Everything a burst of channel 1 needs but the transmitter. -/
def upS : State := let s := chActive (mapped (keyed (ready.setReg Reg.USQ_CTRL 3)))
  { s with act := { s.act with state := .t4, tid := some 5 }, boot := { s.boot with fuses := [(0, ⟨512, true, false⟩)] } }

/-- Everything a burst of channel 1 needs. -/
def txOn : State := (upS.setReg Reg.UBT_CTRL 15).setReg Reg.UBT_GATE_LIMITS 0x3F

/-- A pair in operation: link up, handshake done, this device on a ranged, locked channel with the fuse ceiling. -/
def pair (cfg ctl : Word) (st : TState) : State :=
  let s := ((upS.setReg Reg.ACT_TWIN_CFG cfg).setReg Reg.ACT_TWIN_ID 7).setReg Reg.TWN_CTRL ctl
  let s := s.modLease (fun l => { l with paired := true, heldSince := true, sync := 3 })
  let s := s.modLinkT (fun l => { l with up := true, width := 8, rxGood := 0xFF, txUse := 0xFF, peerGood := 0xFF })
  { s with act := { s.act with state := st } }

/-- The holder of a pair, its lease running. -/
def holder (ctl : Word) : State := (pair 1 ctl .t4).modLease (fun l => { l with holds := true, left := 25600000 })

/-- The standby of a pair. -/
def stand (ctl : Word) : State := pair 3 ctl .t7

/-- A device in twin operation with its link down. -/
def unpaired (ctl : Word) : State := ((pair 3 ctl .t7).modLease (fun l => { l with paired := false, sync := 0, heldSince := false })).modLinkT (fun l => { l with up := false })

/-- A LEASE_GRANT of this pair. -/
def lg (t : Nat) : MsgIn := bc (Crypto.beBytes 4 7 ++ ntimeBytes t ++ [0])

/-- The holder with its link down. -/
def linkOff : State := (holder 0x4B).modLinkT (fun l => { l with up := false })

/-- A HELLO of the other device of the pair. -/
def helloBody (s : State) (fl : Nat) : List Byte := Crypto.beBytes 8 99 ++ Crypto.beBytes 4 7 ++ Crypto.beBytes 1 fl ++ [2] ++ Crypto.beBytes 4 6 ++ ntimeBytes (s.now + 5000)

/-- The words of a definition that loads every symbol with 2 bits. -/
def twos : Tab Word := (List.range 359).map (fun w => (w, if w = 358 then 0x492 else 0x12492492))
theorem twos_valid : profValid twos = true := by decide +kernel
theorem loading_twos : loadingWords (List.replicate 1792 0x22) = twos := by
  unfold loadingWords
  have h : (List.replicate 1792 (0x22 : Byte)).flatMap (fun x => [x.toNat % 16, x.toNat / 16]) =
      List.replicate 3584 2 := by decide +kernel
  simp only [h, List.getD_eq_getElem?_getD, List.getElem?_replicate]
  decide +kernel


/-- A signed image of 4,096 bytes with an empty CONFIG section and ENABLES 0. -/
def imgHead : List Byte := bytesOf 128 0x4149574e01024000001000000064b1058967452301000000000000000200000040000000ffffffffffffffffffffffffffffffffffffffffffffffffffffffff0100000080000000000000000000000004000000380f0000c8000000613c0000ffffffffffffffffffffffffffffffffffffffffffffffffffffffffffffffff
def imgSig : List Byte := bytesOf 200 0x0000000004077a41d4606ffa1464793c7e5fdc7d98cb9d3910202dcd06bea4f240d3566da6b408bbae5026580d02d7e5c70500c831c995f7ca0b0c42837d0bbe9602a9fc998520b41c85115aa5f7684c0edc111eacc24abd6be4b5d298b65f28600a2f1df10000004a22e4c6e917086a21962611be3d5cfb9587b254df61cc839c70c28b5d6624ede2e608315e77251877f5974e46bb10c5ac79700d53d911d15fa0d11b89a38722b652270a1c73775581bfe3d057c8abd35ecb7c7166b1a84811dddc7cbf5190fc

/-- The package held in reset at step 3 with that image in slot 0 and the hash of its key in key slot 0. -/
def bootable : State := { State.reset with boot := { State.reset.boot with
  nvm := nvmPut (nvmPut [] 0 imgHead) 3896 imgSig
  fuses := [(3, ⟨17591658030234002449224109855957968740507795928096905318107874993732336524508115491858711944001176625666607809438178, true, false⟩)] } }
def imgDigest : List Byte := bytesOf 48 0x953d1bdcdcf08be5a0d7ec361b5243980c277bf340fe5eb585d4988ca1653093efa7e55ecdd3dd6a94fe1e4c33b1c4f0
def img0 : List Byte := bootable.stageImage false
theorem img_digest : Crypto.sha384 (img0.take (imgLen img0 - 96)) = imgDigest := by decide +kernel
theorem img_sig : sigPart img0 4 1 = [4] ∧ Crypto.ecdsaOk imgDigest (sigPart img0 5 96) (sigPart img0 104 96) = true := by decide +kernel
theorem img_header : headerCheck img0 = none ∧ lengthsOk img0 = true ∧ tableOk img0 = true := by decide +kernel
theorem img_crcs : (sectionsOf img0).all (fun x => (Crypto.crc32 (sectionBytes img0 x)).toNat == x.crc) = true := by decide +kernel
theorem img_key : bootable.keyCheck img0 = none ∧ ¬ (imgSvn img0 < bootable.svnMin) := by decide +kernel
theorem img_records : imgRecords img0 = some [] ∧ (sectionsOf img0).filter (fun x => x.type = 2) = [] ∧ imgNat img0 24 4 = 0 := by decide +kernel
theorem img_ok : bootable.imageCheck img0 = none := by
  unfold State.imageCheck
  rw [img_header.1]
  simp [img_header.2.1, img_header.2.2, img_crcs, img_key.1, img_key.2, img_digest, img_sig.1, img_sig.2, img_records.1]

/-! ## Worked examples of the spec -/

/-- Chapter 1: unit 5 of cluster 9 in region EQL of Pod 2. -/
theorem test_sourceId_equaliser : sourceId 2 3 9 5 = 0x11A45 := by decide

/-- Chapter 16: LDPC decoder 4 of cluster 1 in Pod 1. -/
theorem test_sourceId_decoder : sourceId 1 5 1 4 = 0x0A844 := by decide

/-- Chapter 3: C of the example profile fits, a block holds 427 codewords. -/
theorem test_codewords_per_block : Line.codewordsOf 24736 = 427 := by decide

/-- Chapter 5: ranging of channel 2 of Terminal ID 77. -/
theorem test_delays :
    ((State.reset.setReg (Reg.ACT_CHn_FE 2) (BitVec.ofNat 32 (14730 * 65536 + 2560))).setReg (Reg.ACT_CHn_ASYM 2)
      (BitVec.ofNat 32 (2 ^ 24 - 1088))).delaysOf 2 63195527 = some (31590590, 31604937) := by decide +kernel

/-- Chapter 6: the reported occupancy of 21,060 bytes. -/
theorem test_occupancyCode : occupancyCode 21060 = 43 := by decide +kernel

/-- Chapter 6: values of 1 to 576 bytes report code 1. -/
theorem test_occupancyCode_least : occupancyCode 576 = 1 ∧ occupancyCode 577 = 2 ∧ occupancyCode 0 = 0 := by
  decide +kernel

/-- Chapter 8: the measurement of 4 ns in ACQUIRE with I = 12,000. -/
theorem test_servo : servoRate 12000 1024 (some 1280000000) 3 0 8589934 = (15864, 12429) := by decide +kernel

/-- Chapter 8: a HOLD_REF 10 ppb fast. -/
theorem test_hold_ref_rate : hrefRateOf (List.replicate 16 (256000000000 - 2560)) = -8589 := by decide +kernel

/-- Chapter 9: the upstream counter of device B as it takes the Acorn. -/
theorem test_skipped_counter : skippedCtr 0x000980000000 0x001200004A10 = 0x001201004A10 := by decide +kernel

/-- Chapter 10: the Toeplitz hash of the field 0x8001. -/
theorem test_spread_hash :
    ((State.reset.setReg (Reg.CLS_HASH_KEY 0) 0x3C6E91A7).setReg (Reg.CLS_HASH_KEY 1) 0x5B04D2F8).toeplitz 0x8001 16
      = 0x74BD3C25 := by decide +kernel

/-- Chapter 12: bin 400 at -50.00 dBFS, between two entries of +0.37 dB. -/
theorem test_level_code :
    levelCode (0 :: 0xFC18D120#32 :: List.replicate 128 0x00250025#32) (-50000000) 400 2048 = 121 := by decide +kernel

/-- The CRC-32 of IEEE 802.3 over the digits 1 to 9. -/
theorem test_crc32 :
    Crypto.crc32 [0x31, 0x32, 0x33, 0x34, 0x35, 0x36, 0x37, 0x38, 0x39] = 0xCBF43926 := by decide +kernel

/-- FIPS 197, appendix C.3. -/
theorem test_aes256 :
    Crypto.aes ((List.range 32).map (fun i => BitVec.ofNat 8 i)) ((List.range 16).map (fun i => BitVec.ofNat 8 (17 * i)))
      = [0x8E, 0xA2, 0xB7, 0xCA, 0x51, 0x67, 0x45, 0xBF, 0xEA, 0xFC, 0x49, 0x90, 0x4B, 0x49, 0x60, 0x89] := by
  decide +kernel

/-- FIPS 180-4: SHA-384 of "abc", its first four bytes. -/
theorem test_sha384 : (Crypto.sha384 [0x61, 0x62, 0x63]).take 4 = [0xCB, 0x00, 0x75, 0x3F] := by decide +kernel

/-! ## Worked examples as commands -/

/-- What a command leaves of a state. -/
def after (c : Instr) (s : State) : State := match exec c s with
  | .next t => t
  | _ => s

/-- Chapter 18: ACT_STATUS after RANGED and STATE_CHG at 0 µs, and STATE_CHG once more at 15 µs. -/
def sqcStart : State :=
  let s : State := (((ready.setReg Reg.ACT_STATUS 0x40000000).raise Reg.ACT_STATUS 0).raise Reg.ACT_STATUS 4).commit
  (s.raise Reg.ACT_STATUS 0).commit

theorem test_sqc_start : sqcStart.view Reg.ACT_STATUS = 0x42000011 := by decide +kernel

/-- 20 µs: SEQ stale, ignored and counted. -/
theorem test_sqc_stale :
    (after (.sqcClear 0 Reg.ACT_STATUS 0x41000011) sqcStart).view Reg.ACT_STATUS = 0x42000011 ∧
    (after (.sqcClear 0 Reg.ACT_STATUS 0x41000011) sqcStart).reg (Reg.BLK_SEQ_MISS 6) = 1 := by decide +kernel

/-- 35 µs: STATE_CHG cleared. -/
theorem test_sqc_clear :
    (after (.sqcClear 0 Reg.ACT_STATUS 0x42000001) sqcStart).view Reg.ACT_STATUS = 0x42000010 := by decide +kernel

/-- Chapter 16: PARITY of LDPC decoder 4 of cluster 1 in Pod 1, which rule 9 governs (N = 3). -/
noncomputable def parity (tick : Nat) (s : State) : State := after (.faultMessage tick [⟨0x0A844, 1, 0, 0⟩]) s

/-- The second message is logged: nothing is isolated. -/
theorem test_parity_second :
    (parity 5120000 (parity 0 ready)).reg (Reg.POD_REPAIR_LDP 1 1) = ready.reg (Reg.POD_REPAIR_LDP 1 1) := by
  decide +kernel

/-- The third is severe: decoder 4 of cluster 1 is isolated. -/
theorem test_parity_third :
    (parity 11520000 (parity 5120000 (parity 0 ready))).rbit (Reg.POD_REPAIR_LDP 1 1) 20 = true := by decide +kernel

/-- Chapter 16: 31 working decoders leave k_max = 17. -/
theorem test_kMax : kMax 31 = 17 := by decide

/-- Chapter 6: need(L) of the frames of the filling example. -/
theorem test_need : need 1500 = 1508 ∧ need 9000 = 9008 ∧ need 12000 = 12008 := by decide

/-- Chapter 6: the third whole frame of queue 800 takes its bucket from 7,872 to -4,192 bits. -/
theorem test_charge :
    ((withQ ready 800 { qu [] with bucket := 7872 }).charge 800 1508).queue 800
      = (withQ ready 800 { qu [] with bucket := -4192 }).queue 800 := by decide +kernel

/-- A guarded register written without an armed guard keeps its word. -/
theorem test_guarded_write :
    (after (.registerWrite 0 Reg.UBT_GATE_LIMITS 0x11) ready).reg Reg.UBT_GATE_LIMITS
      = ready.reg Reg.UBT_GATE_LIMITS := by decide +kernel

/-! ## The hypotheses of the obligations can be met -/

namespace Step

/-- States that meet the hypotheses of each clause of `IdleStepIsOneTick`. -/
theorem met_idleStepIsOneTick :
    (∃ (s : State), s.pending = [] ∧ s.ntm.frac < 2 ^ 32 ∧ -2 ^ 31 ≤ s.ntm.rate ∧ s.ntm.rate < 2 ^ 31) :=
  ⟨({ State.reset with ntm := { State.reset.ntm with frac := 2 ^ 32 - 1, rate := 2 ^ 31 - 1 } }),
  (by decide +kernel)⟩

/-- States that meet the hypotheses of each clause of `EveryStepRuns`. -/
theorem met_everyStepRuns :
    (∃ (s : State), s.settled) :=
  ⟨({ ready with pending := [.latPeriodEnd, .shaperRefill] }), (by unfold State.settled; decide +kernel)⟩

end Step

namespace Access

/-- States that meet the hypotheses of each clause of `SpiCommands`. -/
theorem met_spiCommands :
    (∃ (s : State) (ws : List Word), s.settled ∧ s.spiReady = true ∧ s.spi.queue.length + ws.length ≤ 64) ∧
    (∃ (s : State) (a : BitVec 28) (n : Nat), s.settled ∧ s.spiReady = true ∧ s.spi.queue = [] ∧ (∀ i < n, blockOf
    (wordAddr (a.toNat + 4 * i)) = some 14)) ∧
    (∃ (s : State) (a : BitVec 28), s.settled ∧ s.spiReady = true ∧ s.spi.queue = [] ∧ blockOf (wordAddr a.toNat) =
    some 14) :=
  ⟨⟨ready, ([1, 2]), (by unfold State.settled; decide +kernel), (by decide +kernel)⟩,
   ⟨ready, 0xE0004, 2, (by unfold State.settled; decide +kernel), (by decide +kernel)⟩,
   ⟨ready, 0xE0008, (by unfold State.settled; decide +kernel), (by decide +kernel)⟩⟩

/-- States that meet the hypotheses of each clause of `RegisterAccess`. -/
theorem met_registerAccess :
    (∃ (s : State) (ini b a : Nat) (r : RegRow × Nat), s.settled ∧ s.mayAccess ini b ∧ (b = 0 ∨ b = 1) ∧ a < 2 ^ 28
    ∧ a % 4 = 0 ∧ blockOf a = some b ∧ regRow a = some r ∧ r.1.access = .rw ∧ commonOffset b a = none) ∧
    (∃ (s : State) (ini : Nat) (a : BitVec 28), s.settled ∧ s.mayAccess ini 0 ∧ 0 < ini ∧ blockOf (wordAddr a.toNat)
    = none) :=
  ⟨⟨ready, 3, 1, Reg.BOOT_NVM_ADDR, (((regRow Reg.BOOT_NVM_ADDR).get (by decide +kernel))),
   (by unfold State.settled; decide +kernel), mayAccess_of _ _ _ (by decide +kernel), (by decide +kernel)⟩,
   ⟨ready, 3, 0xFFF0000, (by unfold State.settled; decide +kernel), mayAccess_of _ _ _ (by decide +kernel),
   (by decide +kernel)⟩⟩

/-- States that meet the hypotheses of each clause of `SequenceClear`. -/
theorem met_sequenceClear :
    (∃ (s : State) (ini b a : Nat) (v : Word), s.settled ∧ s.mayAccess ini b ∧ a < 2 ^ 28 ∧ a % 4 = 0 ∧ blockOf a =
    some b ∧ (b = 14 → ini = 0) ∧ commonOffset b a = none ∧ (regRow a).map (fun r => r.1.access) = some .sqc ∧
    v.toNat / 2 ^ 24 = (s.reg a).toNat / 2 ^ 24) ∧
    (∃ (s : State) (ini b a : Nat) (v : Word), s.settled ∧ s.mayAccess ini b ∧ a < 2 ^ 28 ∧ a % 4 = 0 ∧ blockOf a =
    some b ∧ (b = 14 → ini = 0) ∧ commonOffset b a = none ∧ (regRow a).map (fun r => r.1.access) = some .sqc ∧
    v.toNat / 2 ^ 24 = (s.reg a).toNat / 2 ^ 24) ∧
    (∃ (s : State) (ini b a : Nat) (v : Word), s.settled ∧ s.mayAccess ini b ∧ a < 2 ^ 28 ∧ a % 4 = 0 ∧ blockOf a =
    some b ∧ (b = 14 → ini = 0) ∧ commonOffset b a = none ∧ (regRow a).map (fun r => r.1.access) = some .sqc ∧
    v.toNat / 2 ^ 24 ≠ (s.reg a).toNat / 2 ^ 24) :=
  ⟨⟨(ready.setReg Reg.CLK_STATUS 0xFF000003), 3, 2, Reg.CLK_STATUS, 0xFF000001,
   (by unfold State.settled; decide +kernel), mayAccess_of _ _ _ (by decide +kernel), (by decide +kernel)⟩,
   ⟨(ready.setReg Reg.ARB_STATUS 0x03000003), 0, 14, Reg.ARB_STATUS, 0x03000001,
   (by unfold State.settled; decide +kernel), mayAccess_of _ _ _ (by decide +kernel), (by decide +kernel)⟩,
   ⟨(ready.setReg Reg.CLK_STATUS 0x05000003), 3, 2, Reg.CLK_STATUS, 0x04000001,
   (by unfold State.settled; decide +kernel), mayAccess_of _ _ _ (by decide +kernel), (by decide +kernel)⟩⟩

/-- States that meet the hypotheses of each clause of `GuardRules`. -/
theorem met_guardRules :
    (∃ (s : State) (ini : Nat) (b : Fin 21) (v : Word), s.settled ∧ s.mayAccess ini b ∧ (s.guardOf b = none ∨
    s.armedFor b ini) ∧ b.val ≠ 14 ∧ v = 0x5EED) ∧
    (∃ (s : State) (ini : Nat) (b : Fin 21) (v : Word), s.settled ∧ s.mayAccess ini b ∧ (s.guardOf b = none ∨
    s.armedFor b ini) ∧ b.val ≠ 14 ∧ v = 0x5EED) ∧
    (∃ (s : State) (ini : Nat) (b : Fin 21) (v : Word), s.settled ∧ s.mayAccess ini b ∧ ¬ s.armedFor b ini ∧ b.val ≠
    14 ∧ v = 0x5EED ∧ (s.guardOf b).isSome = true) ∧
    (∃ (s : State) (ini b a : Nat), s.settled ∧ s.mayAccess ini b ∧ a < 2 ^ 28 ∧ a % 4 = 0 ∧ blockOf a = some b ∧ b
    ≠ 14 ∧ commonOffset b a = none ∧ (regRow a).map (fun r => r.1.access) = some .kg ∧ s.guardFor b ini = false ∧
    s.boot.sprout = false) ∧
    (∃ (s : State) (b : Fin 21) (g : Guard), s.settled ∧ Tab.find? s.guards b = some g) :=
  ⟨⟨ready, 3, 2, 0x5EED, (by unfold State.settled; decide +kernel), mayAccess_of _ _ _ (by decide +kernel),
   (by unfold State.armedFor; decide +kernel), (by decide +kernel)⟩,
   ⟨(unlocked 2), 0, 2, 0x5EED, (by unfold State.settled; decide +kernel), mayAccess_of _ _ _ (by decide +kernel),
   (by unfold State.armedFor; decide +kernel), (by decide +kernel)⟩,
   ⟨(unlocked 2), 3, 2, 0x5EED, (by unfold State.settled; decide +kernel), mayAccess_of _ _ _ (by decide +kernel),
   (by unfold State.armedFor; decide +kernel), (by decide +kernel)⟩,
   ⟨(unlocked 2), 3, 2, Reg.CLK_TEST, (by unfold State.settled; decide +kernel), mayAccess_of _ _ _
   (by decide +kernel), (by decide +kernel)⟩,
   ⟨(unlocked 20), 20, ⟨0, 0⟩, (by unfold State.settled; decide +kernel), (by decide +kernel)⟩⟩

/-- States that meet the hypotheses of each clause of `Semaphores`. -/
theorem met_semaphores :
    (∃ (s : State) (ini : Nat) (k : Fin 32), s.settled ∧ s.mayAccess ini 0 ∧ 0 < ini ∧ (s.sem k).owner = 15) ∧
    (∃ (s : State) (ini : Nat) (k : Fin 32) (v : Word), s.settled ∧ s.mayAccess ini 0 ∧ v.getLsbD 0 = true ∧ (s.sem
    k).owner = ini) ∧
    (∃ (s : State) (ini : Nat), s.settled ∧ s.mayAccess ini 0 ∧ s.armedFor 0 ini ∧ ini < 10) :=
  ⟨⟨ready, 3, 31, (by unfold State.settled; decide +kernel), mayAccess_of _ _ _ (by decide +kernel),
   (by decide +kernel)⟩,
   ⟨(ready.setSem 2 ⟨3, false⟩), 3, 2, 1, (by unfold State.settled; decide +kernel), mayAccess_of _ _ _
   (by decide +kernel), (by decide +kernel)⟩,
   ⟨(unlocked 0), 0, (by unfold State.settled; decide +kernel), mayAccess_of _ _ _ (by decide +kernel),
   (by unfold State.armedFor; decide +kernel), (by decide +kernel)⟩⟩

/-- States that meet the hypotheses of each clause of `ArbiterCommands`. -/
theorem met_arbiterCommands :
    (∃ (s : State) (r : Nat), s.settled ∧ r < 7 ∧ s.frozen 2 = false ∧ s.arb.i2.holder = [] ∧ s.arb.i2.waiting = []
    ∧ s.isMasked 2 r = false) ∧
    (∃ (s : State) (r : Nat), s.settled ∧ r < 7 ∧ s.frozen 2 = true ∧ s.arb.i2.waiting = []) ∧
    (∃ (s : State), s.settled ∧ s.spiReady = true ∧ s.spi.queue = []) ∧
    (∃ (s : State) (r : Nat), s.settled ∧ 10 ≤ r ∧ r < 14 ∧ s.frozen 0 = false ∧ Tab.find? s.arb.i0.holder 0 = some
    r) :=
  ⟨⟨ready, 6, (by unfold State.settled; decide +kernel), (by decide +kernel)⟩,
   ⟨(ready.setReg (Reg.ARB_Ii_CTRL 2) 1), 3, (by unfold State.settled; decide +kernel), (by decide +kernel)⟩,
   ⟨ready, (by unfold State.settled; decide +kernel), (by decide +kernel)⟩,
   ⟨({ ready with arb := { ready.arb with i0 := { ready.arb.i0 with holder := [(0, 10)] } } }), 10,
   (by unfold State.settled; decide +kernel), (by decide +kernel)⟩⟩

end Access

namespace Pads

def lost (r : Nat) : State := { ready with pads := { ready.pads with railGood := putBit ready.pads.railGood r false } }
def atStep (n : Nat) (s : State) : State := { s with boot := { s.boot with step := n } }

/-- States that meet the hypotheses of each clause of `SupplyCommands`. -/
theorem met_supplyCommands :
    (∃ (s : State) (rail : Fin 22), s.settled ∧ s.pads.railGood.getLsbD rail = true ∧ s.boot.step ≠ 1 ∧ s.rbit
    Reg.LSC_CTRL 0 = false) ∧
    (∃ (s : State) (rail : Fin 22), s.settled ∧ s.pads.railGood.getLsbD rail = true ∧ s.boot.step ≠ 1 ∧ s.rbit
    Reg.LSC_CTRL 0 = true ∧ s.dsf.links = [] ∧ s.lsc.keys = []) ∧
    (∃ (s : State) (rail : Fin 22), s.settled ∧ s.pads.railGood.getLsbD rail = true ∧ s.boot.step = 1) ∧
    (∃ (s : State) (rail : Fin 22), s.settled ∧ s.pads.railGood.getLsbD rail = false ∧ s.boot.step ≠ 1) ∧
    (∃ (s : State) (rail : Fin 22), s.settled ∧ s.pads.railGood.getLsbD rail = false ∧ s.boot.step = 1) :=
  ⟨⟨(ready.setReg Reg.LSC_CTRL 0), 21, (by unfold State.settled; decide +kernel), (by decide +kernel)⟩,
   ⟨ready, 21, (by unfold State.settled; decide +kernel), (by decide +kernel)⟩,
   ⟨(atStep 1 ready), 0, (by unfold State.settled; decide +kernel), (by decide +kernel)⟩,
   ⟨(lost 21), 21, (by unfold State.settled; decide +kernel), (by decide +kernel)⟩,
   ⟨(atStep 1 (lost 0)), 0, (by unfold State.settled; decide +kernel), (by decide +kernel)⟩⟩

/-- States that meet the hypotheses of each clause of `ClockAndTemperatureAlarms`. -/
theorem met_clockAndTemperatureAlarms :
    (∃ (s : State) (m : Fin 4), s.settled ∧ s.clk.good.getLsbD m = true ∧ s.rbit Reg.LSC_CTRL 0 = false ∧ (∀ p < 8,
    s.portEn p = false ∧ (s.port p).up = false)) ∧
    (∃ (s : State) (m : Fin 4), s.settled ∧ s.clk.good.getLsbD m = false ∧ s.boot.step ≠ 1 ∧ (∀ p < 8, s.portEn p =
    false ∧ (s.port p).up = false)) ∧
    (∃ (s : State) (die : Fin 8) (c : BitVec 8), s.settled ∧ s.pads.tempAlarm.getLsbD die = false ∧ 110 ≤ c.toInt ∧
    s.rbit Reg.LSC_CTRL 0 = false) ∧
    (∃ (s : State) (die : Fin 8), s.settled ∧ s.pads.tempAlarm.getLsbD die = true) :=
  ⟨⟨(ready.setReg Reg.LSC_CTRL 0), 3, (by unfold State.settled; decide +kernel), (by decide +kernel)⟩,
   ⟨({ ready with clk := { ready.clk with good := 7 } }), 3, (by unfold State.settled; decide +kernel),
   (by decide +kernel)⟩,
   ⟨(ready.setReg Reg.LSC_CTRL 0), 7, 110, (by unfold State.settled; decide +kernel), (by decide +kernel)⟩,
   ⟨({ ready with pads := { ready.pads with tempAlarm := 0x80 } }), 7, (by unfold State.settled; decide +kernel),
   (by decide +kernel)⟩⟩

/-- States that meet the hypotheses of each clause of `PackageResets`. -/
theorem met_packageResets :
    (∃ (s : State) (w : Nat), s.settled ∧ s.boot.fuseBusy = none ∧ s.boot.nvmBusy = none ∧ 1000 ≤ w) ∧
    (∃ (s : State) (w : Nat), s.settled ∧ s.boot.fuseBusy = none ∧ s.boot.nvmBusy = none ∧ w < 100) ∧
    (∃ (s : State) (w : Nat), s.settled ∧ s.boot.fuseBusy = none ∧ s.boot.nvmBusy = none ∧ 100 ≤ w ∧ w < 1000) ∧
    (∃ (s : State) (w : Nat), s.settled ∧ s.boot.fuseBusy = none ∧ s.boot.nvmBusy = none ∧ 100 ≤ w ∧ w < 1000) :=
  ⟨⟨ready, 1000, (by unfold State.settled; decide +kernel), (by decide +kernel)⟩,
   ⟨ready, 99, (by unfold State.settled; decide +kernel), (by decide +kernel)⟩,
   ⟨ready, 100, (by unfold State.settled; decide +kernel), (by decide +kernel)⟩,
   ⟨ready, 999, (by unfold State.settled; decide +kernel), (by decide +kernel)⟩⟩

/-- States that meet the hypotheses of each clause of `ResetRelease`. -/
theorem met_resetRelease :
    (∃ (s : State) (f h v : Bool), s.settled ∧ (s.boot.step = 2 ∨ s.boot.step = 3) ∧ s.boot.halted = false ∧
    s.pads.railGood = allRails ∧ ¬ (f = true ∧ h = true ∧ v = true)) ∧
    (∃ (s : State) (c0 c1 : Nat), s.settled ∧ (s.boot.step = 2 ∨ s.boot.step = 3) ∧ s.boot.halted = false ∧
    s.pads.railGood = allRails ∧ s.imageCheck (s.stageImage false) = some c0 ∧ s.imageCheck (s.stageImage true) =
    some c1) ∧
    (∃ (s : State) (img : List Byte), s.settled ∧ img = s.stageImage false ∧ s.imageCheck img = none ∧ imgRecords
    img = some [] ∧ (sectionsOf img).filter (fun x => x.type = 2) = [] ∧ imgNat img 24 4 = 0 ∧ (s.boot.step = 2 ∨
    s.boot.step = 3) ∧ s.boot.halted = false ∧ s.pads.railGood = allRails ∧ (∀ n < 4, (s.pod n).calSprout = false)) :=
  ⟨⟨State.reset, false, true, true, (by unfold State.settled; decide +kernel), (by decide +kernel)⟩,
   ⟨State.reset, 4, 4, (by unfold State.settled; decide +kernel), (by decide +kernel)⟩,
   ⟨bootable, img0, (by unfold State.settled; decide +kernel), rfl, img_ok, img_records.1, img_records.2.1,
   img_records.2.2, (by decide +kernel)⟩⟩

/-- States that meet the hypotheses of each clause of `TapInstructions`. -/
theorem met_tapInstructions :
    (∃ (s : State) (p : Instr × TapInstr), s.settled ∧ s.quiet ∧ p ∈ [(Instr.extest, TapInstr.extest),
    (.samplePreload, .samplePreload), (.clamp, .clamp), (.highz, .highz), (.extestPulse, .extestPulse),
    (.extestTrain, .extestTrain), (.bypass 0xFF, .bypass), (.bypass 0x03, .clamp)]) ∧
    (∃ (s : State), s.settled ∧ s.quiet) ∧
    (∃ (s : State) (op : Byte), s.settled ∧ s.quiet ∧ tapOpcode op.toNat = none ∧ 3 < s.boot.step) :=
  ⟨⟨ready, ((.bypass 0x03, .clamp)), (by unfold State.settled; decide +kernel),
   (by unfold State.quiet; decide +kernel), (by decide +kernel)⟩,
   ⟨ready, (by unfold State.settled; decide +kernel), (by unfold State.quiet; decide +kernel)⟩,
   ⟨ready, 0x55, (by unfold State.settled; decide +kernel), (by unfold State.quiet; decide +kernel),
   (by decide +kernel)⟩⟩

end Pads

namespace Clk

/-- Channel 2 synchronised, in service and the root. -/
def rooted : State :=
  let s := (chUp.setReg Reg.CLK_CTRL 1).modChan 2 (fun c => { c with fa := .sync, mf := .sync, defects := 0 })
  { s with clk := { s.clk with rootCh := some 2 }, ntm := { s.ntm with tch := some 2 } }
def onDs (lock : Bool) : State := { ready with clk := { ready.clk with source := .ds, dsLock := lock } }

/-- States that meet the hypotheses of each clause of `ClockCommands`. -/
theorem met_clockCommands :
    (∃ (s : State) (ch : Chan), s.settled ∧ s.chooseRootCh = some ch.val ∧ s.mayQualify ch = true ∧ s.clk.forceRef =
    false ∧ s.ntm.state ≠ .holdover) ∧
    (∃ (s : State) (p : Int), s.settled ∧ s.clk.source = .ds ∧ s.clk.dsLock = false ∧ p.natAbs ≤ 1024) ∧
    (∃ (s : State) (p : Int), s.settled ∧ s.clk.source = .ds ∧ s.clk.dsLock = true ∧ 4096 < p.natAbs) ∧
    (∃ (s : State) (n : Chan), s.settled ∧ s.chooseRootCh = some n.val ∧ s.clk.rootCh = some n.val ∧ s.clk.forceRef
    = false ∧ s.ntm.state ≠ .holdover) ∧
    (∃ (s : State), s.settled ∧ s.clk.freqBusy = true) ∧
    (∃ (s : State) (x : Fin 82), s.settled ∧ (s.crossing x).resyncing = true) ∧
    (∃ (s : State) (ini : Nat) (v : Word), s.settled ∧ s.mayAccess ini 2 ∧ s.armedFor 2 ini ∧ v.getLsbD 0 = true) :=
  ⟨⟨rooted, 2, (by unfold State.settled; decide +kernel), (by decide +kernel)⟩,
   ⟨(onDs false), (-1024), (by unfold State.settled; decide +kernel), (by decide +kernel)⟩,
   ⟨(onDs true), 4097, (by unfold State.settled; decide +kernel), (by decide +kernel)⟩,
   ⟨rooted, 2, (by unfold State.settled; decide +kernel), (by decide +kernel)⟩,
   ⟨({ ready with clk := { ready.clk with freqBusy := true } }), (by unfold State.settled; decide +kernel),
   (by decide +kernel)⟩,
   ⟨(ready.modCrossing 81 (fun c => { c with resyncing := true })), 81, (by unfold State.settled; decide +kernel),
   (by decide +kernel)⟩,
   ⟨(unlocked 2), 0, 1, (by unfold State.settled; decide +kernel), mayAccess_of _ _ _ (by decide +kernel),
   (by unfold State.armedFor; decide +kernel), (by decide +kernel)⟩⟩

end Clk

namespace Pod

def fullProf : Prof := { Prof.reset with staging := twos }
def blk (c n : Nat) : Block :=
  { start := 100, mark := 5000000, marked := true, slip := false, limit := 5, power := 0, tx := false, cutAt := none, cBits := c, number := 0, nextCw := n }

/-- States that meet the hypotheses of each clause of `PodCalibration`. -/
theorem met_podCalibration :
    (∃ (s : State) (ch : Chan) (ini : Nat) (v : Word), s.settled ∧ s.mayAccess ini (17 + ch.val) ∧ s.alone ∧ s.quiet
    ∧ v.getLsbD 0 = true ∧ (s.pod ch).calBusy = false ∧ (s.ubtCh ch).bursts = []) ∧
    (∃ (s : State) (ch : Chan) (ini : Nat) (v : Word), s.settled ∧ s.mayAccess ini (17 + ch.val) ∧ s.alone ∧ s.quiet
    ∧ v.getLsbD 0 = true ∧ (s.pod ch).calBusy = false ∧ (s.ubtCh ch).bursts = []) ∧
    (∃ (s : State) (ch : Chan) (ini : Nat), s.settled ∧ s.mayAccess ini (17 + ch.val) ∧ s.alone ∧ (s.pod ch).calBusy
    = true) ∧
    (∃ (s : State) (ch : Chan), s.settled ∧ (s.pod ch).calBusy = true ∧ s.inReset ch 9 = false ∧ (s.pod
    ch).restarting = false ∧ (s.pod ch).calSprout = false) :=
  ⟨⟨podUp, 1, 3, 1, (by unfold State.settled; decide +kernel), mayAccess_of _ _ _ (by decide +kernel),
   (by unfold State.alone; decide +kernel), (by unfold State.quiet; decide +kernel), (by decide +kernel)⟩,
   ⟨podUp, 3, 0, 0xFFFFFFFF, (by unfold State.settled; decide +kernel), mayAccess_of _ _ _ (by decide +kernel),
   (by unfold State.alone; decide +kernel), (by unfold State.quiet; decide +kernel), (by decide +kernel)⟩,
   ⟨(podUp.modPod 1 (fun p => { p with calBusy := true })), 1, 3, (by unfold State.settled; decide +kernel),
   mayAccess_of _ _ _ (by decide +kernel), (by unfold State.alone; decide +kernel), (by decide +kernel)⟩,
   ⟨(podUp.modPod 3 (fun p => { p with calBusy := true })), 3, (by unfold State.settled; decide +kernel),
   (by decide +kernel)⟩⟩

/-- States that meet the hypotheses of each clause of `PodGainAndDispersion`. -/
theorem met_podGainAndDispersion :
    (∃ (s : State) (ch : Chan) (v : Int), s.settled ∧ -2000 ≤ v ∧ v ≤ 2000 ∧ (s.pod ch).scanning = true ∧ (s.pod
    ch).current = none) ∧
    (∃ (s : State) (ch : Chan), s.settled ∧ (s.pod ch).scanning = true) ∧
    (∃ (s : State) (ch : Chan), s.settled ∧ ((s.pod ch).missRun = 64 ∨ (s.pod ch).predicted = none) ∧ s.rbit
    (Reg.POD_AGC_CTRL ch) 13 = true) ∧
    (∃ (s : State) (ch : Chan) (p : Nat) (b : Block), s.settled ∧ (s.pod ch).predicted = some p ∧ (s.pod ch).current
    = some b ∧ (s.pod ch).cdcNext = none) :=
  ⟨⟨(podUp.modPod 1 (fun p => { p with scanning := true })), 1, (-2000), (by unfold State.settled; decide +kernel),
   (by decide +kernel)⟩,
   ⟨(podUp.modPod 1 (fun p => { p with scanning := true })), 1, (by unfold State.settled; decide +kernel),
   (by decide +kernel)⟩,
   ⟨(podUp.setReg (Reg.POD_AGC_CTRL 1) 0x2000), 1, (by unfold State.settled; decide +kernel), (by decide +kernel)⟩,
   ⟨(podUp.modPod 1 (fun p => { p with predicted := some 2000000, current := some (blk 0 0) })), 1, 2000000, (blk 0
   0), (by unfold State.settled; decide +kernel), (by decide +kernel)⟩⟩

/-- States that meet the hypotheses of each clause of `PodBlocks`. -/
theorem met_podBlocks :
    (∃ (s : State) (ch : Chan) (metric : Nat), s.settled ∧ s.podReceives ch = true ∧ (s.pod ch).current = none ∧
    s.fld (Reg.POD_PRE_CTRL ch) 7 0 ≤ metric) ∧
    (∃ (s : State) (ch : Chan) (metric : Nat), s.settled ∧ metric < s.fld (Reg.POD_PRE_CTRL ch) 7 0) ∧
    (∃ (s : State) (ch : Chan) (p : Nat), s.settled ∧ (s.pod ch).predicted = some p ∧ (s.pod ch).current = none) ∧
    (∃ (s : State) (ch : Chan) (b : Block) (rest : List Block), s.settled ∧ (s.pod ch).decoding = b :: rest ∧
    b.marked = true ∧ b.cBits = 0 ∧ b.nextCw < 495 ∧ s.rxRegionReset ch = false ∧ s.chEnabled ch = false ∧ rest.all
    (fun x => x.start != b.start) = true) :=
  ⟨⟨podUp, 1, 255, (by unfold State.settled; decide +kernel), (by decide +kernel)⟩,
   ⟨podUp, 1, 0, (by unfold State.settled; decide +kernel), (by decide +kernel)⟩,
   ⟨(podUp.modPod 1 (fun p => { p with predicted := some 2000000 })), 1, 2000000,
   (by unfold State.settled; decide +kernel), (by decide +kernel)⟩,
   ⟨(ready.modPod 1 (fun p => { p with decoding := [blk 0 494] })), 1, (blk 0 494), ([]),
   (by unfold State.settled; decide +kernel), (by decide +kernel)⟩⟩

/-- States that meet the hypotheses of each clause of `CodewordKinds`. -/
theorem met_codewordKinds :
    (∃ (s : State) (ch : Chan) (b : Block) (rest : List Block) (input : List Byte) (d : Fin 32), s.settled ∧ (s.pod
    ch).decoding = b :: rest ∧ b.marked = true ∧ b.cBits ≠ 0 ∧ b.nextCw + 1 < b.total ∧ b.cutAt = none ∧ (s.pod
    ch).loops = [] ∧ s.rxRegionReset ch = false ∧ s.chEnabled ch = false ∧ s.decoderIsolated ch d = false ∧ s.rbit
    (Reg.POD_LDPC_CTRL ch) 16 = true ∧ Line.parityDown input = true) ∧
    (∃ (s : State) (ch : Chan) (b : Block) (rest : List Block) (final input : List Byte) (iter : Nat) (d : Fin 32),
    s.settled ∧ (s.pod ch).decoding = b :: rest ∧ b.marked = true ∧ b.cBits ≠ 0 ∧ b.nextCw + 1 < b.total ∧ b.cutAt =
    none ∧ (s.pod ch).loops = [] ∧ s.rxRegionReset ch = false ∧ s.chEnabled ch = false ∧ s.decoderIsolated ch d =
    false ∧ s.rbit (Reg.POD_LDPC_CTRL ch) 16 = true ∧ Line.parityDown input = false ∧ Line.parityDown final = true ∧
    1 ≤ iter ∧ iter ≤ b.limit) ∧
    (∃ (s : State) (ch : Chan) (b : Block) (rest : List Block) (final input : List Byte) (d : Fin 32), s.settled ∧
    (s.pod ch).decoding = b :: rest ∧ b.marked = true ∧ b.cBits ≠ 0 ∧ b.nextCw + 1 < b.total ∧ b.cutAt = none ∧
    (s.pod ch).loops = [] ∧ s.rxRegionReset ch = false ∧ s.chEnabled ch = false ∧ s.decoderIsolated ch d = false ∧
    s.rbit (Reg.POD_LDPC_CTRL ch) 16 = true ∧ Line.parityDown input = false ∧ Line.parityDown final = false) :=
  ⟨⟨(ready.modPod 1 (fun p => { p with decoding := [blk 28672 0] })), 1, (blk 28672 0), ([]), ([]), 31,
   (by unfold State.settled; decide +kernel), (by decide +kernel)⟩,
   ⟨(ready.modPod 1 (fun p => { p with decoding := [blk 28672 0] })), 1, (blk 28672 0), ([]), ([]), ([1]), 5, 31,
   (by unfold State.settled; decide +kernel), (by decide +kernel)⟩,
   ⟨(ready.modPod 1 (fun p => { p with decoding := [blk 28672 0] })), 1, (blk 28672 0), ([]), ([1]), ([1]), 31,
   (by unfold State.settled; decide +kernel), (by decide +kernel)⟩⟩

/-- States that meet the hypotheses of each clause of `Profiles`. -/
theorem met_profiles :
    (∃ (s : State) (ch : Chan) (ini : Nat) (v : Word) (tx : Bool) (i j : Nat), s.settled ∧ s.mayAccess ini (17 +
    ch.val) ∧ s.alone ∧ (i ≠ 0 ∧ profValid ((s.pod ch).prof tx i).staging = true) ∧ v.getLsbD 0 = true ∧ i = s.fld
    (if tx then Reg.POD_TXPROF_SEL ch else Reg.POD_PROF_SEL ch) 2 0 ∧ j ≠ i) ∧
    (∃ (s : State) (ch : Chan) (ini : Nat) (v : Word) (tx : Bool) (i : Nat), s.settled ∧ s.mayAccess ini (17 +
    ch.val) ∧ s.alone ∧ v.getLsbD 0 = true ∧ i = s.fld (if tx then Reg.POD_TXPROF_SEL ch else Reg.POD_PROF_SEL ch) 2
    0 ∧ ¬ (i ≠ 0 ∧ profValid ((s.pod ch).prof tx i).staging = true)) ∧
    (∃ (s : State) (ch : Chan) (tx : Bool) (i : Fin 8) (p : PendingProf) (d : Nat), s.settled ∧ s.mfSync ch = true ∧
    ((s.pod ch).prof tx i).pending = some p ∧ p.due = some d) :=
  ⟨⟨((podUp.setReg (Reg.POD_TXPROF_SEL 1) 0x102).modPod 1 (fun p => { p with txProf := [(2, fullProf)] })), 1, 3, 1,
   true, 2, 0, (by unfold State.settled; decide +kernel), mayAccess_of _ _ _ (by decide +kernel),
   (by unfold State.alone; decide +kernel), ⟨by decide, (congrArg profValid (by decide +kernel : _ = twos)).trans
   twos_valid⟩, (by decide +kernel)⟩,
   ⟨(podUp.setReg (Reg.POD_PROF_SEL 1) 0x102), 1, 3, 1, false, 2, (by unfold State.settled; decide +kernel),
   mayAccess_of _ _ _ (by decide +kernel), (by unfold State.alone; decide +kernel), (by decide +kernel)⟩,
   ⟨((podUp.modChan 1 (fun c => { c with mf := .sync })).modPod 1
   (fun p => { p with rxProf := [(2, { Prof.reset with pending := some ⟨[(1, 1)], 3, some 4000⟩ })] })), 1, false,
   2, ⟨[(1, 1)], 3, some 4000⟩, 4000, (by unfold State.settled; decide +kernel), (by decide +kernel)⟩⟩

end Pod

namespace Dsf

def inSync (f : DsfCh → DsfCh) : State := chUp.modChan 1 (fun c => f { c with fa := .sync, mf := .sync, defects := 0 })
/-- A superframe header of superframe 0, block 0, channel 1, as it is sent: bytes 16 on scrambled. -/
def goodHeader : List Byte :=
  let b : List Byte := List.replicate 13 0 ++ [1]
  b ++ Crypto.beBytes 2 (Crypto.crc16 b).toNat
def blk (c n : Nat) : Block :=
  { start := 100, mark := 5000000, marked := false, slip := false, limit := 5, power := 0, tx := false, cutAt := none, cBits := c, number := 0, nextCw := n }
def hdrOf (id len seq : Nat) : List Byte := Line.sleHeader id len true true seq

/-- States that meet the hypotheses of each clause of `ChannelDefects`. -/
theorem met_channelDefects :
    (∃ (s : State) (ch : Chan) (b : Block), s.settled ∧ (s.pod ch).unmarked = some b ∧ s.chEnabled ch = false) ∧
    (∃ (s : State) (ch : Chan) (b : Block), s.settled ∧ (s.pod ch).unmarked = some b ∧ s.chEnabled ch = true ∧
    (s.chan ch).asleep = false ∧ (s.chan ch).fa = .hunt ∧ (s.chan ch).lastMark = none ∧ (s.chan ch).defects.getLsbD
    1 = false) ∧
    (∃ (s : State) (ch : Chan), s.settled ∧ s.chEnabled ch = true ∧ (s.chan ch).asleep = false ∧ (s.chan ch).fa ≠
    .sync ∧ (s.chan ch).defects.getLsbD 0 = false ∧ (s.chan ch).defects.getLsbD 1 = false) ∧
    (∃ (s : State) (ch : Chan), s.settled ∧ s.chEnabled ch = true ∧ (s.chan ch).asleep = false ∧ (s.chan ch).fa ≠
    .sync ∧ (s.chan ch).defects.getLsbD 0 = false ∧ (s.pod ch).losInd = false) ∧
    (∃ (s : State) (ch : Chan), s.settled ∧ (s.chan ch).defects.getLsbD 0 = true ∧ (s.pod ch).losInd = true) :=
  ⟨⟨(podUp.modPod 1 (fun p => { p with decoding := [blk 28672 0] })), 1, (blk 28672 0),
   (by unfold State.settled; decide +kernel), (by decide +kernel)⟩,
   ⟨(chUp.modPod 1 (fun p => { p with decoding := [blk 28672 0] })), 1, (blk 28672 0),
   (by unfold State.settled; decide +kernel), (by decide +kernel)⟩,
   ⟨(chUp.modChan 1 (fun c => { c with defects := 4 })), 1, (by unfold State.settled; decide +kernel),
   (by decide +kernel)⟩,
   ⟨(chUp.modChan 1 (fun c => { c with defects := 6 })), 1, (by unfold State.settled; decide +kernel),
   (by decide +kernel)⟩,
   ⟨((chUp.modChan 1 (fun c => { c with defects := 1 })).modPod 1 (fun p => { p with losInd := true })), 1,
   (by unfold State.settled; decide +kernel), (by decide +kernel)⟩⟩

/-- States that meet the hypotheses of each clause of `DefectWindows`. -/
theorem met_defectWindows :
    (∃ (s : State) (ch : Chan) (w : Window), s.settled ∧ s.chEnabled ch = true ∧ (s.chan ch).asleep = false ∧ (∀ d <
    3, (s.chan ch).defects.getLsbD d = false) ∧ (s.chan ch).deg = w ∧ w.active = true ∧ w.masked = false ∧ w.total ≠
    0 ∧ (if s.fld Reg.DSF_DEG_CTRL 5 4 = 0 then min (s.fld Reg.DSF_DEG_CTRL 3 0) 1 else s.fld Reg.DSF_DEG_CTRL 3 0)
    * 14336 * w.total < w.errors * 10 ^ (min (s.fld Reg.DSF_DEG_CTRL 5 4) 2 + 2) ∧ (s.chan ch).defects.getLsbD 4 =
    false) ∧
    (∃ (s : State) (ch : Chan) (w : Window), s.settled ∧ s.chEnabled ch = true ∧ (s.chan ch).asleep = false ∧ (∀ d <
    3, (s.chan ch).defects.getLsbD d = false) ∧ (s.chan ch).deg = w ∧ w.active = true ∧ w.masked = false ∧ w.total ≠
    0 ∧ w.errors * 10 ^ (min (s.fld Reg.DSF_DEG_CTRL 5 4) 2 + 2) * 2 ^ s.fld Reg.DSF_DEG_CTRL 7 6 ≤ (if s.fld
    Reg.DSF_DEG_CTRL 5 4 = 0 then min (s.fld Reg.DSF_DEG_CTRL 3 0) 1 else s.fld Reg.DSF_DEG_CTRL 3 0) * 14336 *
    w.total ∧ 1 ≤ w.clears) ∧
    (∃ (s : State) (ch : Chan) (w : Window), s.settled ∧ s.chEnabled ch = true ∧ (s.chan ch).asleep = false ∧ (∀ d <
    3, (s.chan ch).defects.getLsbD d = false) ∧ (s.chan ch).ffr = w ∧ w.active = true ∧ w.masked = false ∧ w.total ≠
    0 ∧ s.fld Reg.DSF_FFR_CTRL 3 0 * w.total < w.errors * 10 ^ max (s.fld Reg.DSF_FFR_CTRL 7 4) 1 ∧ (s.chan
    ch).defects.getLsbD 5 = false) ∧
    (∃ (s : State) (ch : Chan) (w : Window), s.settled ∧ s.chEnabled ch = true ∧ (s.chan ch).asleep = false ∧ (∀ d <
    3, (s.chan ch).defects.getLsbD d = false) ∧ (s.chan ch).ffr = w ∧ w.active = true ∧ w.masked = false ∧ w.total ≠
    0 ∧ w.errors * 10 ^ max (s.fld Reg.DSF_FFR_CTRL 7 4) 1 * 2 ^ s.fld Reg.DSF_FFR_CTRL 9 8 ≤ s.fld Reg.DSF_FFR_CTRL
    3 0 * w.total ∧ 1 ≤ w.clears ∧ ¬ s.fld Reg.DSF_FFR_CTRL 3 0 * w.total < w.errors * 10 ^ max (s.fld
    Reg.DSF_FFR_CTRL 7 4) 1) ∧
    (∃ (s : State) (ch : Chan), s.settled ∧ s.chEnabled ch = true ∧ (s.chan ch).asleep = false ∧ (∀ d < 3, (s.chan
    ch).defects.getLsbD d = false) ∧ (s.chan ch).lok.active = true ∧ s.lokLinks ch = [] ∧ (s.chan
    ch).defects.getLsbD 6 = true) :=
  ⟨⟨(inSync (fun c => { c with deg := ⟨0, true, false, 100000, 3, 0⟩ })), 1, ⟨0, true, false, 100000, 3, 0⟩,
   (by unfold State.settled; decide +kernel), (by decide +kernel)⟩,
   ⟨(inSync (fun c => { c with deg := ⟨0, true, false, 0, 3, 1⟩ })), 1, ⟨0, true, false, 0, 3, 1⟩,
   (by unfold State.settled; decide +kernel), (by decide +kernel)⟩,
   ⟨(inSync (fun c => { c with ffr := ⟨0, true, false, 100000, 3, 0⟩ })), 1, ⟨0, true, false, 100000, 3, 0⟩,
   (by unfold State.settled; decide +kernel), (by decide +kernel)⟩,
   ⟨(inSync (fun c => { c with ffr := ⟨0, true, false, 0, 3, 1⟩ })), 1, ⟨0, true, false, 0, 3, 1⟩,
   (by unfold State.settled; decide +kernel), (by decide +kernel)⟩,
   ⟨(inSync (fun c => { c with defects := 64, lok := ⟨0, true, false, 0, 3, 1⟩ })), 1,
   (by unfold State.settled; decide +kernel), (by decide +kernel)⟩⟩

/-- States that meet the hypotheses of each clause of `PerformanceBins`. -/
theorem met_performanceBins :
    (∃ (s : State) (n : Nat), s.settled ∧ n < 4 ∧ s.pmOn n = true ∧ (s.chan n).unavailable = false ∧ (s.chan n).run
    = [] ∧ (s.chan n).defects.getLsbD 0 = true ∧ (s.chan n).cur15.valid = true ∧ (s.chan n).cur15.final = false ∧
    (s.chan n).cur15.start ≤ s.dsf.second ∧ s.dsf.second < (s.chan n).cur15.start + 900) ∧
    (∃ (s : State), s.settled ∧ (∀ n < 4, (s.chan n).hist15 ≠ []) ∧ s.twn.link.up = false) ∧
    (∃ (s : State), s.settled ∧ (∀ n < 4, (s.chan n).hist24 ≠ []) ∧ s.twn.link.up = false) ∧
    (∃ (s : State) (ini : Nat) (v : Word), s.settled ∧ s.mayAccess ini 7 ∧ s.alone ∧ v.getLsbD 0 = true) :=
  ⟨⟨(chUp.modChan 1 (fun c => { c with defects := 1, cur15 := { c.cur15 with valid := true } })), 1,
   (by unfold State.settled; decide +kernel), (by decide +kernel)⟩,
   ⟨((List.range 4).foldl (fun s n => s.modChan n (fun c => { c with hist15 := [Bin.empty false] })) chUp),
   (by unfold State.settled; decide +kernel), (by decide +kernel)⟩,
   ⟨((List.range 4).foldl (fun s n => s.modChan n (fun c => { c with hist24 := [Bin.empty false] })) chUp),
   (by unfold State.settled; decide +kernel), (by decide +kernel)⟩,
   ⟨chUp, 3, 1, (by unfold State.settled; decide +kernel), mayAccess_of _ _ _ (by decide +kernel),
   (by unfold State.alone; decide +kernel), (by decide +kernel)⟩⟩

/-- States that meet the hypotheses of each clause of `HeaderSpaces`. -/
theorem met_headerSpaces :
    (∃ (s : State) (ch : Chan) (raw data : List Byte) (kinds : List Nat), s.settled ∧ data = raw.take 16 ++
    Line.scramble (raw.drop 16) ∧ s.coreReset 3 = false ∧ (s.chan ch).fa = .sync ∧ (s.chan ch).hdrDone = false ∧
    (badBytes kinds 0 16 = true ∨ Crypto.crc16 (data.take 14) ≠ BitVec.ofNat 16 (Crypto.beNat (Crypto.slice data 14
    2)) ∨ Crypto.beNat (Crypto.slice data 13 1) % 4 ≠ ch.val ∨ 8000 ≤ Crypto.beNat (Crypto.slice data 8 2) % 8192)) ∧
    (∃ (s : State) (ch : Chan) (raw data : List Byte) (kinds : List Nat), s.settled ∧ data = raw.take 16 ++
    Line.scramble (raw.drop 16) ∧ s.coreReset 3 = false ∧ (s.chan ch).fa = .sync ∧ (s.chan ch).hdrDone = false ∧
    badBytes kinds 0 16 = false ∧ Crypto.crc16 (data.take 14) = BitVec.ofNat 16 (Crypto.beNat (Crypto.slice data 14
    2)) ∧ Crypto.beNat (Crypto.slice data 13 1) % 4 = ch.val ∧ Crypto.beNat (Crypto.slice data 8 2) % 8192 < 8000 ∧
    (s.chan ch).mf = .hunt) :=
  ⟨⟨(chUp.modChan 1 (fun c => { c with fa := .sync })), 1, ([]), _, ([1]),
   (by unfold State.settled; decide +kernel), rfl, (by decide +kernel)⟩,
   ⟨(chUp.modChan 1 (fun c => { c with fa := .sync })), 1, goodHeader, _, ([]),
   (by unfold State.settled; decide +kernel), rfl, (by decide +kernel)⟩⟩

/-- States that meet the hypotheses of each clause of `DownstreamSegments`. -/
theorem met_downstreamSegments :
    (∃ (s : State) (ch : Chan) (hdr : List Byte) (left : Nat), s.settled ∧ s.coreReset 3 = false ∧ (s.chan ch).fa =
    .sync ∧ (s.chan ch).skipRest = false ∧ Line.hcsOk hdr = true ∧ bitsOf (Crypto.beNat hdr) 47 34 ≤ left ∧ bitsOf
    (Crypto.beNat hdr) 63 48 = 0xFFFF) ∧
    (∃ (s : State) (ch : Chan) (hdr : List Byte) (left : Nat), s.settled ∧ s.coreReset 3 = false ∧ (s.chan ch).fa =
    .sync ∧ (s.chan ch).skipRest = false ∧ Line.hcsOk hdr = true ∧ bitsOf (Crypto.beNat hdr) 47 34 ≤ left ∧ 0xFFF0 ≤
    bitsOf (Crypto.beNat hdr) 63 48 ∧ bitsOf (Crypto.beNat hdr) 63 48 < 0xFFFF) ∧
    (∃ (s : State) (ch : Chan) (hdr : List Byte) (left : Nat), s.settled ∧ s.coreReset 3 = false ∧ (s.chan ch).fa =
    .sync ∧ (s.chan ch).skipRest = false ∧ Line.hcsOk hdr = true ∧ bitsOf (Crypto.beNat hdr) 47 34 ≤ left ∧ 0xFFF0 ≤
    bitsOf (Crypto.beNat hdr) 63 48 ∧ bitsOf (Crypto.beNat hdr) 63 48 < 0xFFFF) ∧
    (∃ (s : State) (ch : Chan) (hdr : List Byte) (left : Nat), s.settled ∧ s.coreReset 3 = false ∧ (s.chan ch).fa =
    .sync ∧ (s.chan ch).skipRest = false ∧ Line.hcsOk hdr = true ∧ bitsOf (Crypto.beNat hdr) 47 34 ≤ left ∧ bitsOf
    (Crypto.beNat hdr) 63 48 < 0xFFF0 ∧ s.linkOf (BitVec.ofNat 16 (bitsOf (Crypto.beNat hdr) 63 48)) = none) ∧
    (∃ (s : State) (ch : Chan) (hdr pay : List Byte) (bad : Bool) (left i j : Nat), s.settled ∧ s.coreReset 3 =
    false ∧ (s.chan ch).fa = .sync ∧ (s.chan ch).skipRest = false ∧ Line.hcsOk hdr = true ∧ bitsOf (Crypto.beNat
    hdr) 47 34 ≤ left ∧ bitsOf (Crypto.beNat hdr) 63 48 < 0xFFF0 ∧ s.linkOf (BitVec.ofNat 16 (bitsOf (Crypto.beNat
    hdr) 63 48)) = some i ∧ bad = false ∧ s.accepts (s.dlink i) ch = true ∧ s.bonded (s.dlink i) = false ∧ (s.dlink
    i).synced = true ∧ (s.dlink i).next = BitVec.ofNat 12 (bitsOf (Crypto.beNat hdr) 31 20) ∧ (s.dlink i).openStamp
    = none ∧ (Crypto.beNat hdr).testBit 33 = true ∧ (Crypto.beNat hdr).testBit 32 = true ∧ (pay.take (bitsOf
    (Crypto.beNat hdr) 47 34)).length ≤ 16448 ∧ j ≠ i) ∧
    (∃ (s : State) (ch : Chan) (hdr : List Byte), s.settled ∧ s.coreReset 3 = false ∧ (s.chan ch).fa = .sync ∧
    (s.chan ch).skipRest = false ∧ Line.hcsOk hdr = false) ∧
    (∃ (s : State) (link : Fin 4096) (e : Held), s.settled ∧ s.coreReset 3 = false ∧ (s.dlink link).skewStore = [e]
    ∧ (s.dlink link).synced = true ∧ (s.dlink link).reorder = [] ∧ 1 ≤ (e.seq - (s.dlink link).next).toNat ∧ (e.seq
    - (s.dlink link).next).toNat < 2048 ∧ s.hoardFrozen = false) ∧
    (∃ (s : State) (link : Fin 4096) (e : Held), s.settled ∧ s.coreReset 3 = false ∧ (s.dlink link).reorder = [e] ∧
    e.seg = none ∧ (s.dlink link).openStamp = none ∧ e.seq = (s.dlink link).next + 1 ∧ (s.dlink link).skewStore = []
    ∧ (s.dlink link).mask = 0 ∧ (s.dlink link).gapSkip ≠ 0x7FFFFFFFFFFF ∧ s.ntm.frac < 2 ^ 32 ∧ s.now < 2 ^ 48 *
    pipsPerSec ∧ e.time + (s.dlink link).timeoutUs * 256000 ≤ s.now) :=
  ⟨⟨(chUp.modChan 1 (fun c => { c with fa := .sync })), 1, (hdrOf 0xFFFF 0 0), 0,
   (by unfold State.settled; decide +kernel), (by decide +kernel)⟩,
   ⟨(chUp.modChan 1 (fun c => { c with fa := .sync })), 1, (hdrOf 0xFFF0 0 0), 0,
   (by unfold State.settled; decide +kernel), (by decide +kernel)⟩,
   ⟨(chUp.modChan 1 (fun c => { c with fa := .sync })), 1, (hdrOf 0xFFFE 0 0), 0,
   (by unfold State.settled; decide +kernel), (by decide +kernel)⟩,
   ⟨(chUp.modChan 1 (fun c => { c with fa := .sync })), 1, (hdrOf 0xFFEF 0 0), 0,
   (by unfold State.settled; decide +kernel), (by decide +kernel)⟩,
   ⟨((chUp.modChan 1 (fun c => { c with fa := .sync, mf := .sync })).setDlink 4
   { DsfLink.reset with linkId := 5, mapped := true, en := true, mask := 2, synced := true, next := 7 }), 1, (hdrOf
   5 3 7), ([1, 2, 3]), false, 100, 4, 0, (by unfold State.settled; decide +kernel), (by decide +kernel)⟩,
   ⟨(chUp.modChan 1 (fun c => { c with fa := .sync })), 1, ([1, 2]), (by unfold State.settled; decide +kernel),
   (by decide +kernel)⟩,
   ⟨(chUp.setDlink 4 { DsfLink.reset with synced := true, next := 7, skewStore := [⟨1, 9, none, 500⟩] }), 4, ⟨1, 9,
   none, 500⟩, (by unfold State.settled; decide +kernel), (by decide +kernel)⟩,
   ⟨({ chUp.setDlink 4 { DsfLink.reset with synced := true, next := 7, reorder := [⟨1, 8, none, 500⟩] } with ntm := { chUp.ntm with time := 1000000000 } }),
   4, ⟨1, 8, none, 500⟩, (by unfold State.settled; decide +kernel), (by decide +kernel)⟩⟩

/-- States that meet the hypotheses of each clause of `LinkMembers`. -/
theorem met_linkMembers :
    (∃ (s : State) (ch : Chan), s.settled ∧ s.dsLost ch = true ∧ Tab.wf (fun _ => DsfLink.reset) s.dsf.links = true) ∧
    (∃ (s : State) (ch : Chan) (link : Fin 4096), s.settled ∧ s.mfSync ch = true ∧ (s.dlink link).change = none ∧
    (s.dlink link).mask.getLsbD ch = true ∧ (s.dlink link).effective.getLsbD ch = false ∧ (s.chan ch).skewReady =
    true ∧ s.skewInRange (s.dlink link) ch = true) ∧
    (∃ (s : State) (ch : Chan) (link : Fin 4096) (c : MaskChange), s.settled ∧ (s.dlink link).change = some c ∧
    c.mask.getLsbD ch = false ∧ (s.dlink link).synced = false ∧ (s.dlink link).skewStore = [] ∧ (∀ k < 4, k ≠ ch.val
    → c.reached.getLsbD k = true)) ∧
    (∃ (s : State) (ini : Nat) (v : Word) (i j : Nat), s.settled ∧ s.mayAccess ini 7 ∧ s.alone ∧ s.fld
    Reg.DSF_LINK_ADDR 3 0 = 0 ∧ i = s.fld Reg.DSF_LINK_SEL 11 0 ∧ (s.dlink i).mask = 0 ∧ (s.dlink i).skewStore = []
    ∧ (s.dlink i).reorder = [] ∧ s.poolUsed (some i) ≤ 1048576 ∧ (64 ≤ bitsOf v.toNat 14 0 ∧ bitsOf v.toNat 14 0 ≤
    16384 ∧ 1 ≤ bitsOf v.toNat 25 16 ∧ bitsOf v.toNat 25 16 ≤ 1000) ∧ j ≠ i) ∧
    (∃ (s : State) (ini : Nat) (v : Word) (i j : Nat), s.settled ∧ s.mayAccess ini 7 ∧ s.alone ∧ s.fld
    Reg.DSF_LINK_ADDR 3 0 = 0 ∧ i = s.fld Reg.DSF_LINK_SEL 11 0 ∧ (s.dlink i).mask = 0 ∧ (s.dlink i).skewStore = []
    ∧ (s.dlink i).reorder = [] ∧ s.poolUsed (some i) ≤ 1048576 ∧ (64 ≤ bitsOf v.toNat 14 0 ∧ bitsOf v.toNat 14 0 ≤
    16384 ∧ 1 ≤ bitsOf v.toNat 25 16 ∧ bitsOf v.toNat 25 16 ≤ 1000) ∧ j ≠ i) ∧
    (∃ (s : State) (ini : Nat) (v : Word) (i : Nat), s.settled ∧ s.mayAccess ini 7 ∧ s.alone ∧ s.fld
    Reg.DSF_LINK_ADDR 3 0 = 0 ∧ i = s.fld Reg.DSF_LINK_SEL 11 0 ∧ (s.dlink i).mask = 0 ∧ (s.dlink i).skewStore = []
    ∧ (s.dlink i).reorder = [] ∧ s.poolUsed (some i) ≤ 1048576 ∧ (bitsOf v.toNat 14 0 < 64 ∨ 16384 < bitsOf v.toNat
    14 0 ∨ bitsOf v.toNat 25 16 < 1 ∨ 1000 < bitsOf v.toNat 25 16)) ∧
    (∃ (s : State) (ini : Nat) (v : Word) (i : Nat), s.settled ∧ s.mayAccess ini 7 ∧ s.alone ∧ s.fld
    Reg.DSF_LINK_ADDR 3 0 = 12 ∧ i = s.fld Reg.DSF_LINK_SEL 11 0 ∧ 0xFFF0 ≤ bitsOf v.toNat 15 0 ∧ (s.keys (2 * i +
    1)).held = .none ∧ (s.dlink i).mapped = false) ∧
    (∃ (s : State) (ini : Nat) (v : Word) (i : Nat), s.settled ∧ s.mayAccess ini 7 ∧ s.alone ∧ s.fld
    Reg.DSF_LINK_ADDR 3 0 = 12 ∧ i = s.fld Reg.DSF_LINK_SEL 11 0 ∧ bitsOf v.toNat 15 0 < 0xFFF0 ∧ v.getLsbD 16 =
    true ∧ s.linkOf (BitVec.ofNat 16 (bitsOf v.toNat 15 0)) = none ∧ (s.dlink i).en = false ∧ (s.dlink i).mask =
    BitVec.ofNat 4 (bitsOf v.toNat 23 20) ∧ (s.dlink i).skewStore = [] ∧ (s.dlink i).reorder = [] ∧ (s.dlink
    i).openStamp = none ∧ (s.keys (2 * i + 1)).usable = true ∧ (s.keys (2 * i + 1)).held = .none) :=
  ⟨⟨((chUp.modChan 1 (fun c => { c with defects := 1 })).setDlink 4 { DsfLink.reset with effective := 6 }), 1,
   (by unfold State.settled; decide +kernel), (by decide +kernel)⟩,
   ⟨((chUp.modChan 1 (fun c => { c with fa := .sync, mf := .sync, skewReady := true })).setDlink 4
   { DsfLink.reset with mask := 6 }), 1, 4, (by unfold State.settled; decide +kernel), (by decide +kernel)⟩,
   ⟨(chUp.setDlink 4 { DsfLink.reset with mask := 6, effective := 6, change := some ⟨4, 0, 13⟩ }), 1, 4, ⟨4, 0, 13⟩,
   (by unfold State.settled; decide +kernel), (by decide +kernel)⟩,
   ⟨(chUp.setReg Reg.DSF_LINK_SEL 4), 3, (64 + 65536 * 1), 4, 0, (by unfold State.settled; decide +kernel),
   mayAccess_of _ _ _ (by decide +kernel), (by unfold State.alone; decide +kernel), (by decide +kernel)⟩,
   ⟨(chUp.setReg Reg.DSF_LINK_SEL 4), 3, (16384 + 65536 * 1000), 4, 0, (by unfold State.settled; decide +kernel),
   mayAccess_of _ _ _ (by decide +kernel), (by unfold State.alone; decide +kernel), (by decide +kernel)⟩,
   ⟨(chUp.setReg Reg.DSF_LINK_SEL 4), 3, (63 + 65536 * 5), 4, (by unfold State.settled; decide +kernel),
   mayAccess_of _ _ _ (by decide +kernel), (by unfold State.alone; decide +kernel), (by decide +kernel)⟩,
   ⟨((chUp.setReg Reg.DSF_LINK_SEL 4).setReg Reg.DSF_LINK_ADDR 12), 3, 0xFFF0, 4,
   (by unfold State.settled; decide +kernel), mayAccess_of _ _ _ (by decide +kernel),
   (by unfold State.alone; decide +kernel), (by decide +kernel)⟩,
   ⟨(((chUp.setReg Reg.DSF_LINK_SEL 4).setReg Reg.DSF_LINK_ADDR 12).setKeys 9
   { LinkKeys.reset with a := { KeySlot.empty with state := .current } }), 3, 0x1FFEF, 4,
   (by unfold State.settled; decide +kernel), mayAccess_of _ _ _ (by decide +kernel),
   (by unfold State.alone; decide +kernel), (by decide +kernel)⟩⟩

end Dsf

namespace Act

def asg (w : Nat) : List Byte := Crypto.beBytes 8 chUp.serial ++ Crypto.beBytes 2 w ++ [0, 0] ++ List.replicate 16 7
def rq (op c : Nat) (a : Nat) (d : List Word) : MgmtReq := ⟨77, 3, op, false, c, a, d, false, []⟩
def tun (r : MgmtReq) : State :=
  let s := inT .t4
  ({ s with act := { s.act with tunnel := [r] } } : State).setReg Reg.ACT_CTRL 3

/-- States that meet the hypotheses of each clause of `Activation`. -/
theorem met_activation :
    (∃ (s : State) (ini : Nat) (v : Word), s.settled ∧ s.solitary ∧ s.mayAccess ini 6 ∧ v.getLsbD 0 = true ∧ s.rbit
    Reg.ACT_CTRL 0 = false ∧ s.act.state = .t0) ∧
    (∃ (s : State) (n : Nat), s.settled ∧ s.solitary ∧ s.act.silence = none ∧ s.act.state = .t1 ∧ lowestCh
    (fun n => s.chEnabled n && s.mfSync n) = some n ∧ (s.ceiling 0).isSome = true) ∧
    (∃ (s : State) (m : MsgIn), s.settled ∧ s.solitary ∧ s.hears m [.t2] ∧ m.body.length = 28 ∧ Crypto.beNat
    (Crypto.slice m.body 0 8) = s.serial ∧ Crypto.beNat (Crypto.slice m.body 8 2) < 1023) :=
  ⟨⟨(inT .t0), 3, 1, (by unfold State.settled; decide +kernel), (by unfold State.solitary; decide +kernel),
   mayAccess_of _ _ _ (by decide +kernel), (by decide +kernel)⟩,
   ⟨(let s := (inT .t1).modChan 2 (fun c => { c with fa := .sync, mf := .sync }); { s with boot := { s.boot with fuses := [(0, ⟨512, true, false⟩)] } }),
   2, (by unfold State.settled; decide +kernel), (by unfold State.solitary; decide +kernel), (by decide +kernel)⟩,
   ⟨(inT .t2), (bc (asg 1022)), (by unfold State.settled; decide +kernel),
   (by unfold State.solitary; decide +kernel), (by unfold State.hears; decide +kernel), (by decide +kernel)⟩⟩

/-- States that meet the hypotheses of each clause of `IdLoss`. -/
theorem met_idLoss :
    (∃ (s : State) (ini : Nat) (v : Word), s.settled ∧ s.solitary ∧ s.quiet ∧ s.unladen ∧ s.mayAccess ini 6 ∧
    v.getLsbD 0 = true ∧ (s.act.state = .t3 ∨ s.act.state = .t4)) ∧
    (∃ (s : State) (k a : Nat), s.settled ∧ s.solitary ∧ s.quiet ∧ s.unladen ∧ s.act.toRange = some k ∧ s.act.state
    = .t3 ∧ s.act.anchor = some a ∧ s.ranged a = false) ∧
    (∃ (s : State) (k : Nat), s.settled ∧ s.solitary ∧ s.quiet ∧ s.unladen ∧ s.act.toHeld = some k ∧ s.act.state =
    .t5 ∧ s.rangedChs.any s.mfSync = false) ∧
    (∃ (s : State) (m : MsgIn), s.settled ∧ s.solitary ∧ s.quiet ∧ s.unladen ∧ s.hears m [.t3] ∧ m.body.length = 28
    ∧ Crypto.beNat (Crypto.slice m.body 0 8) = s.serial ∧ 2 ^ 15 ≤ Crypto.beNat (Crypto.slice m.body 8 2) ∧
    Crypto.beNat (Crypto.slice m.body 8 2) / 1024 % 32 = 0) ∧
    (∃ (s : State) (ini : Nat) (v : Word), s.settled ∧ s.solitary ∧ s.quiet ∧ s.unladen ∧ s.mayAccess ini 6 ∧
    v.getLsbD 0 = false ∧ s.rbit Reg.ACT_CTRL 0 = true ∧ s.act.state = .t4) :=
  ⟨⟨(inT .t4), 3, 1, (by unfold State.settled; decide +kernel), (by unfold State.solitary; decide +kernel),
   (by unfold State.quiet; decide +kernel), (by unfold State.unladen; decide +kernel), mayAccess_of _ _ _
   (by decide +kernel), (by decide +kernel)⟩,
   ⟨(let s := inT .t3; { s with act := { s.act with toRange := some 500, anchor := some 1 } }), 500, 1,
   (by unfold State.settled; decide +kernel), (by unfold State.solitary; decide +kernel),
   (by unfold State.quiet; decide +kernel), (by unfold State.unladen; decide +kernel), (by decide +kernel)⟩,
   ⟨(let s := inT .t5; { s with act := { s.act with toHeld := some 500, anchor := some 1 } }), 500,
   (by unfold State.settled; decide +kernel), (by unfold State.solitary; decide +kernel),
   (by unfold State.quiet; decide +kernel), (by unfold State.unladen; decide +kernel), (by decide +kernel)⟩,
   ⟨(inT .t3), (bc (asg 0x8005)), (by unfold State.settled; decide +kernel),
   (by unfold State.solitary; decide +kernel), (by unfold State.quiet; decide +kernel),
   (by unfold State.unladen; decide +kernel), (by unfold State.hears; decide +kernel), (by decide +kernel)⟩,
   ⟨((inT .t4).setReg Reg.ACT_CTRL 1), 3, 0, (by unfold State.settled; decide +kernel),
   (by unfold State.solitary; decide +kernel), (by unfold State.quiet; decide +kernel),
   (by unfold State.unladen; decide +kernel), mayAccess_of _ _ _ (by decide +kernel), (by decide +kernel)⟩⟩

/-- States that meet the hypotheses of each clause of `Ranging`. -/
theorem met_ranging :
    (∃ (s : State) (m : MsgIn) (c : Nat), s.settled ∧ s.solitary ∧ s.hears m [.t3, .t4, .t7] ∧ m.body.length = 4 ∧ c
    = Crypto.beNat (Crypto.slice m.body 0 1) % 4) ∧
    (∃ (s : State) (ch : Chan) (r : ArmedReq), s.settled ∧ s.solitary ∧ (s.actCh ch).armed = some r) ∧
    (∃ (s : State) (m : MsgIn) (c : Nat) (down up : Int), s.settled ∧ s.solitary ∧ s.hears m [.t4] ∧ m.body.length =
    8 ∧ c = Crypto.beNat (Crypto.slice m.body 0 1) % 4 ∧ Crypto.beNat (Crypto.slice m.body 1 1) % 2 = 0 ∧ s.delaysOf
    c (Crypto.beNat (Crypto.slice m.body 4 4)) = some (down, up) ∧ s.act.uq.length < 64) ∧
    (∃ (s : State) (m : MsgIn) (c : Nat), s.settled ∧ s.solitary ∧ s.hears m [.t3, .t4, .t7] ∧ m.body.length = 8 ∧ c
    = Crypto.beNat (Crypto.slice m.body 0 1) % 4 ∧ Crypto.beNat (Crypto.slice m.body 1 1) % 2 = 0 ∧ 128000000 <
    Crypto.beNat (Crypto.slice m.body 4 4) ∧ s.act.uq.length < 64) :=
  ⟨⟨(inT .t4), (bc [3, 1, 0, 0]), 3, (by unfold State.settled; decide +kernel),
   (by unfold State.solitary; decide +kernel), (by unfold State.hears; decide +kernel), (by decide +kernel)⟩,
   ⟨((inT .t4).modActCh 1 (fun c => { c with armed := some ⟨true, 3, 700⟩ })), 1, ⟨true, 3, 700⟩,
   (by unfold State.settled; decide +kernel), (by unfold State.solitary; decide +kernel), (by decide +kernel)⟩,
   ⟨(inT .t4), (bc [1, 0, 0, 0, 0, 0x10, 0, 0]), 1, (((inT .t4).delaysOf 1 0x100000).get (by decide +kernel) |>
   Prod.fst), (((inT .t4).delaysOf 1 0x100000).get (by decide +kernel) |> Prod.snd),
   (by unfold State.settled; decide +kernel), (by unfold State.solitary; decide +kernel),
   (by unfold State.hears; decide +kernel), (by decide +kernel)⟩,
   ⟨(inT .t4), (bc [1, 0, 0, 0, 0x07, 0xA1, 0x20, 0x01]), 1, (by unfold State.settled; decide +kernel),
   (by unfold State.solitary; decide +kernel), (by unfold State.hears; decide +kernel), (by decide +kernel)⟩⟩

/-- States that meet the hypotheses of each clause of `ProfileAndChannelSets`. -/
theorem met_profileAndChannelSets :
    (∃ (s : State) (m : MsgIn) (up : Bool) (i : Nat), s.settled ∧ s.solitary ∧ s.hears m t1to7 ∧ profValid
    (loadingWords (Crypto.slice m.body 4 1792)) = true ∧ s.act.tid = none ∧ m.body.length = 1796 ∧ up = decide
    (Crypto.beNat (Crypto.slice m.body 0 1) % 2 = 1) ∧ i = Crypto.beNat (Crypto.slice m.body 1 1) % 8 ∧ i ≠ 0 ∧
    loadingOk (Crypto.slice m.body 4 1792) = true) ∧
    (∃ (s : State) (m : MsgIn) (up : Bool) (i : Nat), s.settled ∧ s.solitary ∧ s.hears m t1to7 ∧ s.act.tid = none ∧
    m.body.length = 1796 ∧ up = decide (Crypto.beNat (Crypto.slice m.body 0 1) % 2 = 1) ∧ i = Crypto.beNat
    (Crypto.slice m.body 1 1) % 8 ∧ i = 0) ∧
    (∃ (s : State) (m : MsgIn) (n : Nat), s.settled ∧ s.solitary ∧ s.hears m t1to7 ∧ s.act.tid = none ∧ n =
    Crypto.beNat (Crypto.slice m.body 4 2) ∧ n ≤ 510 ∧ m.body.length = 6 + 4 * n ∧ s.dsf.links = []) ∧
    (∃ (s : State) (ch : Chan) (h : HeldSet), s.settled ∧ s.solitary ∧ s.act.tid = none ∧ s.act.held = some h ∧
    h.left.getLsbD ch = true ∧ h.carrier ≠ ch.val ∧ h.entries = []) :=
  ⟨⟨(inT .t1), (bc ([0, 2, 0, 3] ++ List.replicate 1792 0x22)), false, 2, (by unfold State.settled; decide +kernel),
   (by unfold State.solitary; decide +kernel), (by unfold State.hears; decide +kernel),
   (by rw [show Crypto.slice _ 4 1792 = List.replicate 1792 0x22 from by decide +kernel, loading_twos]; exact twos_valid),
   (by decide +kernel)⟩,
   ⟨(inT .t1), (bc ([1, 0, 0, 3] ++ List.replicate 1792 0x22)), true, 0, (by unfold State.settled; decide +kernel),
   (by unfold State.solitary; decide +kernel), (by unfold State.hears; decide +kernel), (by decide +kernel)⟩,
   ⟨(inT .t1), (bc [0, 3, 15, 0, 0, 0]), 0, (by unfold State.settled; decide +kernel),
   (by unfold State.solitary; decide +kernel), (by unfold State.hears; decide +kernel), (by decide +kernel)⟩,
   ⟨(let s := inT .t1; { s with act := { s.act with held := some ⟨3, none, 15, 4, [], 2, 2⟩ } }), 1, ⟨3, none, 15,
   4, [], 2, 2⟩, (by unfold State.settled; decide +kernel), (by unfold State.solitary; decide +kernel),
   (by decide +kernel)⟩⟩

/-- States that meet the hypotheses of each clause of `SilenceLatch`. -/
theorem met_silenceLatch :
    (∃ (s : State) (m : MsgIn) (ms : Nat), s.settled ∧ s.solitary ∧ s.quiet ∧ s.hears m [.t1, .t2, .t3, .t4] ∧
    s.mcusRun = true ∧ (∀ n < 4, (s.actCh n).armed = none) ∧ m.body.length = 4 ∧ ms = Crypto.beNat (Crypto.slice
    m.body 0 2) ∧ ms ≠ 0 ∧ s.act.silence = none) ∧
    (∃ (s : State) (m : MsgIn) (ms : Nat), s.settled ∧ s.solitary ∧ s.quiet ∧ s.hears m [.t1, .t2, .t3, .t4] ∧
    s.mcusRun = true ∧ (∀ n < 4, (s.actCh n).armed = none) ∧ m.body.length = 4 ∧ ms = Crypto.beNat (Crypto.slice
    m.body 0 2) ∧ ms ≠ 0 ∧ s.act.silence = none) ∧
    (∃ (s : State) (m : MsgIn) (x : Silence), s.settled ∧ s.solitary ∧ s.quiet ∧ s.hears m [.t6] ∧ s.mcusRun = true
    ∧ (∀ n < 4, (s.actCh n).armed = none) ∧ m.body = [] ∧ s.act.silence = some x ∧ s.act.prior = .t4 ∧
    (s.rangedChs.isEmpty = true ∨ s.rangedChs.all s.dsLost = false) ∧ s.act.uq.length < 64) ∧
    (∃ (s : State) (b owed : Bool) (k : Nat), s.settled ∧ s.solitary ∧ s.quiet ∧ s.mcusRun = true ∧ (∀ n < 4,
    (s.actCh n).armed = none) ∧ s.act.silence = some ⟨b, some k, owed⟩ ∧ s.act.state = .t6 ∧ s.act.prior = .t4 ∧
    (s.rangedChs.isEmpty = true ∨ s.rangedChs.all s.dsLost = false) ∧ s.act.unsilenceAck = none) :=
  ⟨⟨(inT .t4), (bc [0, 9, 0, 0]), 9, (by unfold State.settled; decide +kernel),
   (by unfold State.solitary; decide +kernel), (by unfold State.quiet; decide +kernel),
   (by unfold State.hears; decide +kernel), (by decide +kernel)⟩,
   ⟨(inT .t1), (bc [0xFF, 0xFF, 0, 0]), 65535, (by unfold State.settled; decide +kernel),
   (by unfold State.solitary; decide +kernel), (by unfold State.quiet; decide +kernel),
   (by unfold State.hears; decide +kernel), (by decide +kernel)⟩,
   ⟨(let s := inT .t6; { s with act := { s.act with prior := .t4, silence := some ⟨false, some 800, false⟩ } }), (bc
   []), ⟨false, some 800, false⟩, (by unfold State.settled; decide +kernel),
   (by unfold State.solitary; decide +kernel), (by unfold State.quiet; decide +kernel),
   (by unfold State.hears; decide +kernel), (by decide +kernel)⟩,
   ⟨(let s := inT .t6; { s with act := { s.act with prior := .t4, silence := some ⟨false, some 800, false⟩ } }),
   false, false, 800, (by unfold State.settled; decide +kernel), (by unfold State.solitary; decide +kernel),
   (by unfold State.quiet; decide +kernel), (by decide +kernel)⟩⟩

/-- States that meet the hypotheses of each clause of `ManagementRequests`. -/
theorem met_managementRequests :
    (∃ (s : State) (m : MsgIn), s.settled ∧ s.hears m t3to7 ∧ 8 ≤ m.body.length ∧ s.act.tunnel.length < 8) ∧
    (∃ (s : State) (m : MsgIn), s.settled ∧ s.hears m t3to7 ∧ 8 ≤ m.body.length ∧ 8 ≤ s.act.tunnel.length) ∧
    (∃ (s : State) (c : Instr) (op : Nat) (r : MgmtReq) (rest : List MgmtReq), s.settled ∧ (c, op) ∈
    [(Instr.mgmtRead 9, 1), (.mgmtWrite 9, 2), (.mgmtWritePairs 9, 3)] ∧ s.act.tunnel = r :: rest ∧ r.op = op ∧
    r.malformed = false ∧ s.act.tunnelLast = none ∧ s.rbit Reg.ACT_CTRL 1 = false ∧ s.act.uq.length < 64) ∧
    (∃ (s : State) (c : Instr) (r : MgmtReq) (rest : List MgmtReq) (a : Nat) (v : Word), s.settled ∧ s.mayAccess 9 1
    ∧ ((c = .mgmtWrite 9 ∧ r.op = 2 ∧ r.addr = a ∧ r.data = [v]) ∨ (c = .mgmtWritePairs 9 ∧ r.op = 3 ∧ r.data =
    [BitVec.ofNat 32 a, v])) ∧ a = Reg.BOOT_NVM_ADDR ∧ r.c = 1 ∧ s.act.tunnel = r :: rest ∧ r.malformed = false ∧
    s.act.tunnelLast = none ∧ s.rbit Reg.ACT_CTRL 1 = true ∧ s.rbit Reg.ACT_CTRL 2 = false ∧ s.spiReady = true ∧
    s.act.uq.length < 64) ∧
    (∃ (s : State) (c : Instr) (r : MgmtReq) (rest : List MgmtReq) (a : Nat) (v : Word), s.settled ∧ s.mayAccess 9 1
    ∧ ((c = .mgmtWrite 9 ∧ r.op = 2 ∧ r.addr = a ∧ r.data = [v]) ∨ (c = .mgmtWritePairs 9 ∧ r.op = 3 ∧ r.data =
    [BitVec.ofNat 32 a, v])) ∧ a = Reg.BOOT_NVM_ADDR ∧ r.c = 1 ∧ s.act.tunnel = r :: rest ∧ r.malformed = false ∧
    s.act.tunnelLast = none ∧ s.rbit Reg.ACT_CTRL 1 = true ∧ s.rbit Reg.ACT_CTRL 2 = false ∧ s.spiReady = true ∧
    s.act.uq.length < 64) ∧
    (∃ (s : State) (r : MgmtReq) (rest : List MgmtReq), s.settled ∧ s.mayAccess 9 1 ∧ r.op = 1 ∧ r.addr =
    Reg.BOOT_NVM_ADDR ∧ r.c = 1 ∧ s.act.tunnel = r :: rest ∧ r.malformed = false ∧ s.act.tunnelLast = none ∧ s.rbit
    Reg.ACT_CTRL 1 = true ∧ s.spiReady = true ∧ s.act.uq.length < 64) ∧
    (∃ (s : State) (p : Port) (f : List Byte) (rest : List (List Byte)), s.settled ∧ (s.port p).mgmtIn = f :: rest ∧
    (s.port p).mgmt.length < 8 ∧ s.rbit (Reg.HPE_Pp_MAC_CTRL p) 5 = false ∧ Crypto.slice f 0 6 = s.portMac p) ∧
    (∃ (s : State) (p : Port) (f : List Byte) (rest : List (List Byte)), s.settled ∧ (s.port p).mgmtIn = f :: rest ∧
    (s.port p).mgmt.length < 8 ∧ s.rbit (Reg.HPE_Pp_MAC_CTRL p) 5 = false ∧ Crypto.slice f 0 6 ≠ s.portMac p) :=
  ⟨⟨(inT .t4), (bc [0, 1, 1, 1, 0, 0, 0, 0]), (by unfold State.settled; decide +kernel),
   (by unfold State.hears; decide +kernel), (by decide +kernel)⟩,
   ⟨(let s := inT .t4; { s with act := { s.act with tunnel := List.replicate 8 (rq 1 1 0 []) } }), (bc [0, 1, 1, 1,
   0, 0, 0, 0]), (by unfold State.settled; decide +kernel), (by unfold State.hears; decide +kernel),
   (by decide +kernel)⟩,
   ⟨((tun (rq 1 1 Reg.BOOT_NVM_ADDR [])).setReg Reg.ACT_CTRL 1), (.mgmtRead 9), 1, (rq 1 1 Reg.BOOT_NVM_ADDR []),
   ([]), (by unfold State.settled; decide +kernel), (by decide +kernel)⟩,
   ⟨(tun (rq 2 1 Reg.BOOT_NVM_ADDR [5])), (.mgmtWrite 9), (rq 2 1 Reg.BOOT_NVM_ADDR [5]), ([]), Reg.BOOT_NVM_ADDR,
   5, (by unfold State.settled; decide +kernel), mayAccess_of _ _ _ (by decide +kernel), (by decide +kernel)⟩,
   ⟨(tun (rq 3 1 0 [BitVec.ofNat 32 Reg.BOOT_NVM_ADDR, 5])), (.mgmtWritePairs 9), (rq 3 1 0 [BitVec.ofNat 32
   Reg.BOOT_NVM_ADDR, 5]), ([]), Reg.BOOT_NVM_ADDR, 5, (by unfold State.settled; decide +kernel), mayAccess_of _ _ _
   (by decide +kernel), (by decide +kernel)⟩,
   ⟨(tun (rq 1 1 Reg.BOOT_NVM_ADDR [])), (rq 1 1 Reg.BOOT_NVM_ADDR []), ([]),
   (by unfold State.settled; decide +kernel), mayAccess_of _ _ _ (by decide +kernel), (by decide +kernel)⟩,
   ⟨(ready.modPort 2 (fun p => { p with mgmtIn := [ready.portMac 2 ++ List.replicate 58 0] })), 2, (ready.portMac 2
   ++ List.replicate 58 0), ([]), (by unfold State.settled; decide +kernel), (by decide +kernel)⟩,
   ⟨(ready.modPort 2 (fun p => { p with mgmtIn := [List.replicate 64 1] })), 2, (List.replicate 64 1), ([]),
   (by unfold State.settled; decide +kernel), (by decide +kernel)⟩⟩

end Act

namespace Up

/-- States that meet the hypotheses of each clause of `QueueCommands`. -/
theorem met_queueCommands :
    (∃ (s : State) (q : Fin 8192) (f : QFrame), s.settled ∧ s.usq.queues.wf (fun _ => Queue.reset) = true ∧ (s.queue
    q).frames.find? (fun f => !f.visible) = some f) ∧
    (∃ (s : State) (ini : Nat) (v : Word) (q : Nat), s.settled ∧ s.mayAccess ini 8 ∧ s.solitary ∧ s.usq.queues.wf
    (fun _ => Queue.reset) = true ∧ v.getLsbD 0 = true ∧ q = s.fld Reg.USQ_Q_SEL 12 0 ∧ (s.queue q).enable = false ∧
    s.hrd.failing = [] ∧ q < 4096) ∧
    (∃ (s : State) (ini : Nat) (v : Word), s.settled ∧ s.mayAccess ini 8 ∧ s.solitary ∧ s.usq.queues.wf
    (fun _ => Queue.reset) = true ∧ v.getLsbD 0 = true ∧ (s.queue (s.fld Reg.USQ_Q_SEL 12 0)).enable = true) ∧
    (∃ (s : State) (ini : Nat) (v : Word) (q : Nat), s.settled ∧ s.mayAccess ini 8 ∧ s.solitary ∧ s.usq.queues.wf
    (fun _ => Queue.reset) = true ∧ v.getLsbD 1 = true ∧ q = s.fld Reg.USQ_Q_SEL 12 0) ∧
    (∃ (s : State) (q : Nat) (f : QFrame) (r : List QFrame), s.settled ∧ s.usq.queues.wf (fun _ => Queue.reset) =
    true ∧ s.usq.latOff = false ∧ (s.queue q).frames = f :: r ∧ f.visible = true) ∧
    (∃ (s : State) (q : Nat), s.settled ∧ s.usq.queues.wf (fun _ => Queue.reset) = true ∧ s.usq.latOff = false ∧
    (s.queue q).frames = []) :=
  ⟨⟨(withQ ready 5 (qu [qf 1 64 0 0 false])), 5, (qf 1 64 0 0 false), (by unfold State.settled; decide +kernel),
   (by decide +kernel)⟩,
   ⟨((withQ ready 4095 { qu [qf 1 64 0 0 false, qf 2 300 64 0 false] with enable := false }).setReg Reg.USQ_Q_SEL
   4095), 3, 1, 4095, (by unfold State.settled; decide +kernel), mayAccess_of _ _ _ (by decide +kernel),
   (by unfold State.solitary; decide +kernel), (by decide +kernel)⟩,
   ⟨((withQ ready 5 (qu [])).setReg Reg.USQ_Q_SEL 5), 3, 1, (by unfold State.settled; decide +kernel), mayAccess_of
   _ _ _ (by decide +kernel), (by unfold State.solitary; decide +kernel), (by decide +kernel)⟩,
   ⟨((withQ ready 5 (qu [])).setReg Reg.USQ_Q_SEL 5), 3, 2, 5, (by unfold State.settled; decide +kernel),
   mayAccess_of _ _ _ (by decide +kernel), (by unfold State.solitary; decide +kernel), (by decide +kernel)⟩,
   ⟨((withQ ready 5 (qu [qf 1 64 0 0 true])).passTo 700000), 5, (qf 1 64 0 0 true), ([]),
   (by unfold State.settled; decide +kernel), (by decide +kernel)⟩,
   ⟨ready, 8191, (by unfold State.settled; decide +kernel), (by decide +kernel)⟩⟩

/-- States that meet the hypotheses of each clause of `QueueWords`. -/
theorem met_queueWords :
    (∃ (s : State) (ini q : Nat) (v : Word) (x : Queue), s.settled ∧ s.mayAccess ini 8 ∧ s.solitary ∧ x = s.queue q
    ∧ s.fld Reg.USQ_Q_ADDR 5 0 = 0 ∧ s.rbit Reg.USQ_Q_SEL 16 = false ∧ q = s.fld Reg.USQ_Q_SEL 12 0 ∧ q < 4096 ∧
    bitsOf v.toNat 22 20 = 0 ∧ x.isOpen = false) ∧
    (∃ (s : State) (ini q : Nat) (v : Word) (x : Queue), s.settled ∧ s.mayAccess ini 8 ∧ s.solitary ∧ x = s.queue q
    ∧ s.fld Reg.USQ_Q_ADDR 5 0 = 0 ∧ s.rbit Reg.USQ_Q_SEL 16 = false ∧ q = s.fld Reg.USQ_Q_SEL 12 0 ∧ q < 4096 ∧
    bitsOf v.toNat 22 20 = 0 ∧ x.isOpen = true ∧ bitsOf v.toNat 11 0 ≠ x.linkF ∧ x.bindPending = false) ∧
    (∃ (s : State) (ini q c : Nat) (v : Word), s.settled ∧ s.mayAccess ini 8 ∧ s.solitary ∧ s.fld Reg.USQ_Q_ADDR 5 0
    = 0 ∧ s.rbit Reg.USQ_Q_SEL 16 = false ∧ q = s.fld Reg.USQ_Q_SEL 12 0 ∧ q < 4096 ∧ c = bitsOf v.toNat 22 20 ∧ (5
    ≤ c ∨ v.getLsbD 24 = true ∧ 1 ≤ c ∧ s.rankTaken q (bitsOf v.toNat 19 12) c = true)) ∧
    (∃ (s : State) (ini q c : Nat) (v : Word), s.settled ∧ s.mayAccess ini 8 ∧ s.solitary ∧ s.fld Reg.USQ_Q_ADDR 5 0
    = 0 ∧ s.rbit Reg.USQ_Q_SEL 16 = false ∧ q = s.fld Reg.USQ_Q_SEL 12 0 ∧ q < 4096 ∧ c = bitsOf v.toNat 22 20 ∧ (5
    ≤ c ∨ v.getLsbD 24 = true ∧ 1 ≤ c ∧ s.rankTaken q (bitsOf v.toNat 19 12) c = true)) ∧
    (∃ (s : State) (q : Fin 8192), s.settled ∧ (s.queue q).bindPending = true ∧ (s.queue q).isOpen = false) ∧
    (∃ (s : State) (ini i : Nat) (v : Word), s.settled ∧ s.mayAccess ini 8 ∧ s.solitary ∧ s.fld Reg.USQ_ALLOC_ADDR 2
    0 = 0 ∧ i = s.fld Reg.USQ_ALLOC_SEL 7 0 ∧ (v.getLsbD 16 = true → v.toNat % 65536 < 0xFC00) ∧ (∀ e ∈
    s.usq.allocs, e.1 ≠ i → e.2.id ≠ v.setWidth 16) ∧ v.setWidth 16 ≠ (s.alloc i).id) ∧
    (∃ (s : State) (ini : Nat) (v : Word), s.settled ∧ s.mayAccess ini 8 ∧ s.solitary ∧ s.fld Reg.USQ_ALLOC_ADDR 2 0
    = 0 ∧ v.getLsbD 16 = true ∧ 0xFC00 ≤ v.toNat % 65536) :=
  ⟨⟨((withQ ready 5 (qu [])).setReg Reg.USQ_Q_SEL 5), 3, 5, 0x1007003, _, (by unfold State.settled; decide +kernel),
   mayAccess_of _ _ _ (by decide +kernel), (by unfold State.solitary; decide +kernel), rfl, (by decide +kernel)⟩,
   ⟨((withQ ready 5 (qu [qf 1 64 0 20 true])).setReg Reg.USQ_Q_SEL 5), 3, 5, 0x1007004, _,
   (by unfold State.settled; decide +kernel), mayAccess_of _ _ _ (by decide +kernel),
   (by unfold State.solitary; decide +kernel), rfl, (by decide +kernel)⟩,
   ⟨((withQ (withQ ready 5 (qu [])) 6 (qu [])).setReg Reg.USQ_Q_SEL 5), 3, 5, 1, 0x1107004,
   (by unfold State.settled; decide +kernel), mayAccess_of _ _ _ (by decide +kernel),
   (by unfold State.solitary; decide +kernel), (by decide +kernel)⟩,
   ⟨(ready.setReg Reg.USQ_Q_SEL 4095), 3, 4095, 5, 0x1507004, (by unfold State.settled; decide +kernel),
   mayAccess_of _ _ _ (by decide +kernel), (by unfold State.solitary; decide +kernel), (by decide +kernel)⟩,
   ⟨(withQ ready 5 { qu [] with link := 4, bindPending := true }), 5, (by unfold State.settled; decide +kernel),
   (by decide +kernel)⟩,
   ⟨ready, 3, 0, 0x3FBFF, (by unfold State.settled; decide +kernel), mayAccess_of _ _ _ (by decide +kernel),
   (by unfold State.solitary; decide +kernel), (by decide +kernel)⟩,
   ⟨ready, 3, 0x3FC00, (by unfold State.settled; decide +kernel), mayAccess_of _ _ _ (by decide +kernel),
   (by unfold State.solitary; decide +kernel), (by decide +kernel)⟩⟩

/-- States that meet the hypotheses of each clause of `Filling`. -/
theorem met_filling :
    (∃ (s : State) (g : Grant) (u : State) (b : Burst), s.settled ∧ u = s.passTo (g.launch - s.fillLead) ∧ b =
    u.newBurst g [] ∧ s.usq.grants = [g] ∧ s.coreReset 4 = false ∧ s.coreReset 5 = false ∧ (s.ubtCh g.ch).bursts =
    [] ∧ (∀ e ∈ s.usq.allocs, e.2.report = false) ∧ g.ch < 4 ∧ u.gateFails g.ch b = []) ∧
    (∃ (s : State) (g : Grant) (u : State) (b : Burst) (c : Nat) (r : List Nat), s.settled ∧ u = s.passTo (g.launch
    - s.fillLead) ∧ b = u.newBurst g [] ∧ s.usq.grants = [g] ∧ s.coreReset 4 = false ∧ s.coreReset 5 = false ∧
    (s.ubtCh g.ch).bursts = [] ∧ (∀ e ∈ s.usq.allocs, e.2.report = false) ∧ g.ch < 4 ∧ u.gateFails g.ch b = c :: r ∧
    c < 9 ∧ g.kind ≠ .announce) ∧
    (∃ (s : State) (b : Burst) (n : Nat) (m : UpMsg) (k : Bool), s.settled ∧ n < 4 ∧ b.g.ch = n ∧ (s.ubtCh n).bursts
    = [b] ∧ (∀ m < 4, m ≠ n → (s.ubtCh m).bursts = []) ∧ s.coreReset 4 = false ∧ s.coreReset 6 = false ∧
    s.hoardFrozen = false ∧ b.finished = false ∧ b.g.kind = .ranging k ∧ b.started = false ∧ b.g.msg = some m ∧
    s.act.uq = []) ∧
    (∃ (s : State) (b : Burst) (n : Nat), s.settled ∧ n < 4 ∧ b.g.ch = n ∧ (s.ubtCh n).bursts = [b] ∧ (∀ m < 4, m ≠
    n → (s.ubtCh m).bursts = []) ∧ s.coreReset 4 = false ∧ s.coreReset 6 = false ∧ s.hoardFrozen = false ∧
    b.finished = false ∧ b.started = true ∧ (s.rbit Reg.USQ_CTRL 0 = false ∨ b.space < 8)) ∧
    (∃ (s : State) (b : Burst) (n a q i : Nat) (f : QFrame) (rest : List QFrame) (r : Nat), s.settled ∧ n < 4 ∧
    b.g.ch = n ∧ (s.ubtCh n).bursts = [b] ∧ (∀ m < 4, m ≠ n → (s.ubtCh m).bursts = []) ∧ s.coreReset 4 = false ∧
    s.coreReset 6 = false ∧ s.hoardFrozen = false ∧ b.finished = false ∧ b.g.kind = .alloc a ∧ b.started = true ∧
    s.rbit Reg.USQ_CTRL 0 = true ∧ s.placingStopped = false ∧ s.queuesOf a = [q] ∧ (s.queue q).frames = f :: rest ∧
    (s.queue q).cls = 1 ∧ f.sent = 0 ∧ s.candidate b q = true ∧ q ∉ b.passed ∧ 0 < f.len ∧ f.len ≤ 16383 ∧ f.len + 8
    ≤ b.space ∧ (∀ g ∈ rest, g.id ≠ f.id) ∧ i = (s.queue q).linkF ∧ (∃ x, (s.keys (2 * i + 1)).current? = some x ∧
    x.ctr + 1 < ctrEnd) ∧ s.rateOf q = some r) ∧
    (∃ (s : State) (p : Port) (i q : Nat) (f : QFrame) (rest : List QFrame) (r : Nat), s.settled ∧ s.coreReset 7 =
    false ∧ s.portUp p = true ∧ (s.port p).tx = none ∧ s.rbit Reg.USQ_CTRL 1 = true ∧ s.hoardFrozen = false ∧
    (List.range 8).find? (fun i => s.egressReady (4096 + 512 * p.val + i)) = some i ∧ q = 4096 + 512 * p.val + i ∧
    (s.queue q).frames = f :: rest ∧ s.rateOf q = some r) :=
  ⟨⟨(let s := txOn; { s with usq := { s.usq with grants := [gr (.alloc 7) none] } }), (gr (.alloc 7) none), _, _,
   (by unfold State.settled; decide +kernel), rfl, rfl, (by decide +kernel)⟩,
   ⟨(let s := ready; { s with usq := { s.usq with grants := [gr (.alloc 7) none] } }), (gr (.alloc 7) none), _, _,
   4, ([5, 7, 8]), (by unfold State.settled; decide +kernel), rfl, rfl, (by decide +kernel)⟩,
   ⟨(let s := upS; bst (bu s (gr (.ranging false) (some ⟨1, 4, [1, 2, 3]⟩))) s), (bu upS (gr (.ranging false) (some
   ⟨1, 4, [1, 2, 3]⟩))), 1, ⟨1, 4, [1, 2, 3]⟩, false, (by unfold State.settled; decide +kernel),
   (by decide +kernel)⟩,
   ⟨(let s := ready; bst { bu s (gr (.alloc 7) none) with started := true } s),
   ({ bu ready (gr (.alloc 7) none) with started := true }), 1, (by unfold State.settled; decide +kernel),
   (by decide +kernel)⟩,
   ⟨(let s := withQ upS 5 (qu [qf 1 64 0 0 true]); bst { bu s (gr (.alloc 7) none) with started := true } s),
   ({ bu (withQ upS 5 (qu [qf 1 64 0 0 true])) (gr (.alloc 7) none) with started := true }), 1, 7, 5, 3, (qf 1 64 0
   0 true), ([]), 100, (by unfold State.settled; decide +kernel), (by decide +kernel)⟩,
   ⟨(let s := (withQ (ready.setReg Reg.USQ_CTRL 3) 4610 (qu [qf 1 64 0 0 true])).modPort 1 (fun p => { p with locked := 15 }); s.setReg (Reg.HPE_Pp_CFG 1) 1),
   1, 2, 4610, (qf 1 64 0 0 true), ([]), 100, (by unfold State.settled; decide +kernel), (by decide +kernel)⟩⟩

/-- States that meet the hypotheses of each clause of `BurstGate`. -/
theorem met_burstGate :
    (∃ (s : State) (ch : Chan) (b : Burst) (u : State), s.settled ∧ u = s.passTo b.testAt ∧ (s.ubtCh ch).bursts =
    [b] ∧ b.launched = false ∧ b.places = [] ∧ b.msgs = [] ∧ b.joined = false ∧ u.gateFails ch b = []) ∧
    (∃ (s : State) (ch : Chan) (b : Burst) (u : State) (c : Nat) (r : List Nat), s.settled ∧ u = s.passTo b.testAt ∧
    (s.ubtCh ch).bursts = [b] ∧ b.launched = false ∧ b.places = [] ∧ b.msgs = [] ∧ b.joined = false ∧ u.gateFails ch
    b = c :: r ∧ c < 9 ∧ b.g.kind ≠ .announce ∧ s.act.uq.length ≤ 64) ∧
    (∃ (s : State) (ch : Chan) (b : Burst), s.settled ∧ (s.ubtCh ch).bursts = [b] ∧ b.launched = true ∧ b.places =
    [] ∧ b.frames = [] ∧ 5 ≤ b.g.len) ∧
    (∃ (s : State) (ch : Chan) (b : Burst), s.settled ∧ (s.ubtCh ch).bursts = [b] ∧ b.launched = true ∧ b.places =
    [] ∧ b.msgs = [] ∧ b.g.kind ≠ .announce ∧ s.act.uq.length ≤ 64) ∧
    (∃ (s : State), s.settled ∧ s.quiet) ∧
    (∃ (s : State) (ini : Nat) (v : Word) (m : Nat), s.settled ∧ s.mayAccess ini 9 ∧ s.armedFor 9 ini ∧ (4 ≤ m ∨
    v.getLsbD m = false)) ∧
    (∃ (s : State) (ch : Chan), s.settled ∧ (s.openBurst ch).isSome = true) ∧
    (∃ (s : State) (ini : Nat), s.settled ∧ s.mayAccess ini 9 ∧ s.armedFor 9 ini) ∧
    (∃ (s : State) (ch : Chan) (m : Nat), s.settled ∧ s.openBurst ch = none ∧ s.pwr.mode ≠ .active ∧ m ≠ ch.val) ∧
    (∃ (s : State) (ch : Chan), s.settled ∧ (s.openBurst ch ≠ none ∨ s.pwr.mode = .active)) :=
  ⟨⟨(let s := txOn; bst (bu s (gr (.alloc 7) none)) s), 1, (bu txOn (gr (.alloc 7) none)), _,
   (by unfold State.settled; decide +kernel), rfl, (by decide +kernel)⟩,
   ⟨(let s := upS; bst (bu s (gr (.alloc 7) none)) s), 1, (bu upS (gr (.alloc 7) none)), _, 7, ([]),
   (by unfold State.settled; decide +kernel), rfl, (by decide +kernel)⟩,
   ⟨(let s := txOn; bst { bu s (gr (.alloc 7) none) with launched := true } s), 1,
   ({ bu txOn (gr (.alloc 7) none) with launched := true }), (by unfold State.settled; decide +kernel),
   (by decide +kernel)⟩,
   ⟨(let s := txOn; bst { bu s (gr (.alloc 7) none) with launched := true } s), 1,
   ({ bu txOn (gr (.alloc 7) none) with launched := true }), (by unfold State.settled; decide +kernel),
   (by decide +kernel)⟩,
   ⟨ready, (by unfold State.settled; decide +kernel), (by unfold State.quiet; decide +kernel)⟩,
   ⟨({ ready with guards := [(9, ⟨3, 0⟩)], pads := { ready.pads with tripped := 7 } }), 3, 0xF, 4,
   (by unfold State.settled; decide +kernel), mayAccess_of _ _ _ (by decide +kernel),
   (by unfold State.armedFor; decide +kernel), (by decide +kernel)⟩,
   ⟨(let s := txOn; bst { bu s (gr (.alloc 7) none) with launched := true } s), 1,
   (by unfold State.settled; decide +kernel), (by decide +kernel)⟩,
   ⟨({ ready with guards := [(9, ⟨3, 0⟩)] }), 3, (by unfold State.settled; decide +kernel), mayAccess_of _ _ _
   (by decide +kernel), (by unfold State.armedFor; decide +kernel)⟩,
   ⟨({ ready with pwr := { ready.pwr with bias := 15, mode := .doze } }), 1, 0,
   (by unfold State.settled; decide +kernel), (by decide +kernel)⟩,
   ⟨ready, 1, (by unfold State.settled; decide +kernel), (by decide +kernel)⟩⟩

end Up

namespace Lsc

set_option maxRecDepth 100000
def kek0 : List Byte := List.replicate 32 9
/-- A key wrapped under `kek0`. -/
def wrapped0 : List Byte := bytesOf 40 0xc189b760691435231e880b4079deec1cf610ad37453efdbcf404f2e6640d12d4d2570e9933fd4e56
def ks : State := let s := mapped (inT .t4); { s with lsc := { s.lsc with kek := some kek0 } }
def kd (dir : Byte) : MsgIn := bc ([0, 44, dir, 0, 0, 6, 0, 0, 0, 5] ++ wrapped0)
def klS : State :=
  let s := (List.range 10).foldl (fun s w => s.setReg (Reg.LSC_KL_WRAP w)
    (BitVec.ofNat 32 (Crypto.beNat (Crypto.slice wrapped0 (4 * w) 4)))) (ks.setReg Reg.LSC_KL_CTRL 0x60003)
  { s with guards := [(10, ⟨3, 0⟩)] }
def sl (st : SlotState) (e : BitVec 15) : KeySlot :=
  { state := st, key := List.replicate 32 1, salt := 5, epoch := e, twin := false, ctr := 0, nearEnd := false, mirror := 0 }
def lf (b : List Byte) : State :=
  let s := ready.setKeys 6 { LinkKeys.reset with a := sl .current 5 }
  { s with dsf := { s.dsf with frames := [⟨3, b, 9⟩] } }
def sealed0 : List Byte := bytesOf 24 0x000500000000004d7fc364e9596fd39cb26a88aaa6e10a3b

/-- States that meet the hypotheses of each clause of `KeyCommands`. -/
theorem met_keyCommands :
    (∃ (s : State) (m : MsgIn) (i dir kx : Nat) (kek key : List Byte) (ep : BitVec 15), s.settled ∧ s.solitary ∧
    s.hears m t3to7 ∧ m.body.length = 50 ∧ s.linkOf (BitVec.ofNat 16 (Crypto.beNat (Crypto.slice m.body 0 2))) =
    some i ∧ s.act.uq.length < 64 ∧ dir = Crypto.beNat (Crypto.slice m.body 2 1) % 4 ∧ ep = BitVec.ofNat 15
    (Crypto.beNat (Crypto.slice m.body 4 2)) ∧ s.lsc.kek = some kek ∧ Crypto.kwUnwrap kek (Crypto.slice m.body 10
    40) = some key ∧ (dir = 1 ∧ kx = 2 * i ∨ dir = 2 ∧ kx = 2 * i + 1 ∧ (s.keys kx).current? = none) ∧ (s.keys
    kx).a.state = .empty ∧ ((s.keys kx).b.state = .empty ∨ (s.keys kx).b.epoch ≠ ep) ∧ (s.keys kx).mirrors = [] ∧
    dir = 2) ∧
    (∃ (s : State) (m : MsgIn) (i dir kx : Nat) (kek key : List Byte) (ep : BitVec 15), s.settled ∧ s.solitary ∧
    s.hears m t3to7 ∧ m.body.length = 50 ∧ s.linkOf (BitVec.ofNat 16 (Crypto.beNat (Crypto.slice m.body 0 2))) =
    some i ∧ s.act.uq.length < 64 ∧ dir = Crypto.beNat (Crypto.slice m.body 2 1) % 4 ∧ ep = BitVec.ofNat 15
    (Crypto.beNat (Crypto.slice m.body 4 2)) ∧ s.lsc.kek = some kek ∧ Crypto.kwUnwrap kek (Crypto.slice m.body 10
    40) = some key ∧ (dir = 1 ∧ kx = 2 * i ∨ dir = 2 ∧ kx = 2 * i + 1 ∧ (s.keys kx).current? = none) ∧ (s.keys
    kx).a.state = .empty ∧ ((s.keys kx).b.state = .empty ∨ (s.keys kx).b.epoch ≠ ep) ∧ (s.keys kx).mirrors = []) ∧
    (∃ (s : State) (m : MsgIn), s.settled ∧ s.solitary ∧ s.hears m t3to7 ∧ m.body.length = 50 ∧ s.lsc.kek = none ∧
    s.act.uq.length < 64) ∧
    (∃ (s : State) (ini i : Nat) (v : Word), s.settled ∧ s.solitary ∧ s.mayAccess ini 10 ∧ s.armedFor 10 ini ∧
    v.getLsbD 0 = true ∧ i = s.fld Reg.LSC_KL_CTRL 11 0 ∧ s.lsc.kek = none) ∧
    (∃ (s : State) (ini i : Nat) (v : Word) (kek key : List Byte) (k : Nat), s.settled ∧ s.solitary ∧ s.mayAccess
    ini 10 ∧ s.armedFor 10 ini ∧ v.getLsbD 0 = true ∧ i = s.fld Reg.LSC_KL_CTRL 11 0 ∧ s.lsc.kek = some kek ∧
    (s.dlink i).mapped = true ∧ s.rbit Reg.LSC_KL_CTRL 12 = false ∧ Crypto.kwUnwrap kek ((List.range 10).flatMap
    (fun w => Crypto.beBytes 4 (s.reg (Reg.LSC_KL_WRAP w)).toNat)) = some key ∧ (s.keys (2 * i)).a.state = .empty ∧
    (s.keys (2 * i)).b.state = .empty ∧ (s.keys (2 * i)).mirrors = [] ∧ k ≠ 2 * i) ∧
    (∃ (s : State) (m : MsgIn) (i dir kx : Nat) (ep : BitVec 15), s.settled ∧ s.solitary ∧ s.hears m t3to7 ∧
    m.body.length = 20 ∧ ntimeOk (Crypto.slice m.body 8 11) = true ∧ s.act.uq.length < 64 ∧ s.linkOf (BitVec.ofNat
    16 (Crypto.beNat (Crypto.slice m.body 0 2))) = some i ∧ dir = Crypto.beNat (Crypto.slice m.body 2 1) % 4 ∧ (dir
    = 1 ∧ kx = 2 * i ∨ dir = 2 ∧ kx = 2 * i + 1) ∧ ep = BitVec.ofNat 15 (Crypto.beNat (Crypto.slice m.body 4 2)) ∧
    (s.keys kx).a.state = .next ∧ (s.keys kx).a.epoch = ep) ∧
    (∃ (s : State) (l : Fin 4096) (ep : BitVec 15) (at_ : Nat), s.settled ∧ s.solitary ∧ (s.keys (2 * l.val)).sched
    = some (ep, at_) ∧ s.ntm.slots = [] ∧ (s.keys (2 * l.val)).a.state = .current ∧ (s.keys (2 * l.val)).a.epoch ≠
    ep ∧ (s.keys (2 * l.val)).b.state = .next ∧ (s.keys (2 * l.val)).b.epoch = ep) ∧
    (∃ (s : State) (l : Fin 4096) (ep : BitVec 15) (at_ : Nat), s.settled ∧ s.solitary ∧ (s.keys (2 * l.val)).sched
    = some (ep, at_) ∧ s.ntm.slots = [] ∧ (s.keys (2 * l.val)).a.epoch ≠ ep ∧ (s.keys (2 * l.val)).b.epoch ≠ ep) ∧
    (∃ (s : State) (l : Fin 4096) (g : Nat) (x : KeySlot), s.settled ∧ s.solitary ∧ x = (s.keys (2 * l.val)).a ∧
    (s.keys (2 * l.val)).graceUntil = some g) ∧
    (∃ (s : State) (l : Fin 4096) (g : Nat) (x : KeySlot), s.settled ∧ s.solitary ∧ x = (s.keys (2 * l.val)).b ∧
    (s.keys (2 * l.val)).graceUntil = some g) :=
  ⟨⟨ks, (kd 2), 3, 2, 7, kek0, (List.replicate 32 1), 6, (by unfold State.settled; decide +kernel),
   (by unfold State.solitary; decide +kernel), (by unfold State.hears; decide +kernel), (by decide +kernel)⟩,
   ⟨ks, (kd 1), 3, 1, 6, kek0, (List.replicate 32 1), 6, (by unfold State.settled; decide +kernel),
   (by unfold State.solitary; decide +kernel), (by unfold State.hears; decide +kernel), (by decide +kernel)⟩,
   ⟨(mapped (inT .t4)), (kd 1), (by unfold State.settled; decide +kernel),
   (by unfold State.solitary; decide +kernel), (by unfold State.hears; decide +kernel), (by decide +kernel)⟩,
   ⟨({ klS with lsc := { klS.lsc with kek := none } }), 3, 3, 1, (by unfold State.settled; decide +kernel),
   (by unfold State.solitary; decide +kernel), mayAccess_of _ _ _ (by decide +kernel),
   (by unfold State.armedFor; decide +kernel), (by decide +kernel)⟩,
   ⟨klS, 3, 3, 1, kek0, (List.replicate 32 1), 0, (by unfold State.settled; decide +kernel),
   (by unfold State.solitary; decide +kernel), mayAccess_of _ _ _ (by decide +kernel),
   (by unfold State.armedFor; decide +kernel), (by decide +kernel)⟩,
   ⟨(ks.setKeys 6 { LinkKeys.reset with a := sl .next 6 }), (bc ([0, 44, 1, 0, 0, 6, 0, 0] ++ List.replicate 11 0 ++
   [0])), 3, 1, 6, 6, (by unfold State.settled; decide +kernel), (by unfold State.solitary; decide +kernel),
   (by unfold State.hears; decide +kernel), (by decide +kernel)⟩,
   ⟨(ks.setKeys 6 { LinkKeys.reset with a := sl .current 5, b := sl .next 6, sched := some (6, 5000) }), 3, 6, 5000,
   (by unfold State.settled; decide +kernel), (by unfold State.solitary; decide +kernel), (by decide +kernel)⟩,
   ⟨(ks.setKeys 6 { LinkKeys.reset with a := sl .current 5, b := sl .next 7, sched := some (6, 5000) }), 3, 6, 5000,
   (by unfold State.settled; decide +kernel), (by unfold State.solitary; decide +kernel), (by decide +kernel)⟩,
   ⟨(ks.setKeys 6 { LinkKeys.reset with a := sl .old 5, b := sl .current 7, graceUntil := some 7000 }), 3, 7000, _,
   (by unfold State.settled; decide +kernel), (by unfold State.solitary; decide +kernel), rfl, (by decide +kernel)⟩,
   ⟨(ks.setKeys 6 { LinkKeys.reset with a := sl .old 5, b := sl .current 7, graceUntil := some 7000 }), 3, 7000, _,
   (by unfold State.settled; decide +kernel), (by unfold State.solitary; decide +kernel), rfl, (by decide +kernel)⟩⟩

/-- States that meet the hypotheses of each clause of `LinkSecurity`. -/
theorem met_linkSecurity :
    (∃ (s : State) (f : LinkFrame) (r : List LinkFrame) (code : Nat), s.settled ∧ s.coreReset 6 = false ∧
    s.dsf.frames = f :: r ∧ (s.dlink f.link).mask = 0 ∧ (f.bytes.length < 24 ∧ code = 1 ∨ 24 ≤ f.bytes.length ∧ code
    = 2 ∧ (∀ x ∈ (s.keys (2 * f.link)).slots, x.state = .empty ∨ x.epoch.toNat ≠ Crypto.beNat (Crypto.slice f.bytes
    0 2) % 2 ^ 15))) ∧
    (∃ (s : State) (f : LinkFrame) (r : List LinkFrame) (code : Nat), s.settled ∧ s.coreReset 6 = false ∧
    s.dsf.frames = f :: r ∧ (s.dlink f.link).mask = 0 ∧ (f.bytes.length < 24 ∧ code = 1 ∨ 24 ≤ f.bytes.length ∧ code
    = 2 ∧ (∀ x ∈ (s.keys (2 * f.link)).slots, x.state = .empty ∨ x.epoch.toNat ≠ Crypto.beNat (Crypto.slice f.bytes
    0 2) % 2 ^ 15))) ∧
    (∃ (s : State) (f : LinkFrame) (r : List LinkFrame) (x : KeySlot) (pt : List Byte), s.settled ∧ x = (s.keys (2 *
    f.link)).a ∧ s.coreReset 6 = false ∧ s.dsf.frames = f :: r ∧ (s.dlink f.link).mask = 0 ∧ 24 ≤ f.bytes.length ∧
    s.twinOn = false ∧ x.state ≠ .empty ∧ x.epoch.toNat = Crypto.beNat (Crypto.slice f.bytes 0 2) % 2 ^ 15 ∧ (s.keys
    (2 * f.link)).b.state = .empty ∧ Crypto.gcmOpen x.key (ivOf x.salt (Crypto.beNat (Crypto.slice f.bytes 0 2))
    (Crypto.beNat (Crypto.slice f.bytes 2 6))) (aadOf (s.dlink f.link).linkId.toNat (Crypto.beNat (Crypto.slice
    f.bytes 0 2)) (Crypto.beNat (Crypto.slice f.bytes 2 6))) (Crypto.slice f.bytes 8 (f.bytes.length - 24))
    (f.bytes.drop (8 + (f.bytes.length - 24))) = some pt) ∧
    (∃ (s : State) (ini : Nat) (v : Word), s.settled ∧ s.mayAccess ini 10 ∧ s.armedFor 10 ini ∧ s.solitary ∧
    v.getLsbD 0 = true ∧ s.dsf.links = []) ∧
    (∃ (s : State) (l : Fin 4096) (k : Nat), s.settled ∧ (s.keys (2 * l.val + 1)).holdUntil = some k ∧ s.usq.queues
    = []) :=
  ⟨⟨(lf (List.replicate 23 1)), ⟨3, List.replicate 23 1, 9⟩, ([]), 1, (by unfold State.settled; decide +kernel),
   (by decide +kernel)⟩,
   ⟨(lf (List.replicate 24 0)), ⟨3, List.replicate 24 0, 9⟩, ([]), 2, (by unfold State.settled; decide +kernel),
   (by decide +kernel)⟩,
   ⟨(lf sealed0), ⟨3, sealed0, 9⟩, ([]), _, ([]), (by unfold State.settled; decide +kernel), rfl,
   (by decide +kernel)⟩,
   ⟨(let s := ks.setKeys 6 { LinkKeys.reset with a := sl .current 5 }; { s with guards := [(10, ⟨3, 0⟩)], dsf := { s.dsf with links := [] } }),
   3, 1, (by unfold State.settled; decide +kernel), mayAccess_of _ _ _ (by decide +kernel),
   (by unfold State.armedFor; decide +kernel), (by unfold State.solitary; decide +kernel), (by decide +kernel)⟩,
   ⟨(ks.setKeys 7 { LinkKeys.reset with held := .noKey, holdUntil := some 8000 }), 3, 8000,
   (by unfold State.settled; decide +kernel), (by decide +kernel)⟩⟩

end Lsc

namespace Hpe

def port1 : State := (ready.setReg (Reg.HPE_Pp_CFG 1) 1).modPort 1 (fun p => {p with locked := 15, up := true})
def fcs (b : List Byte) : List Byte := b ++ Crypto.leBytes 4 (Crypto.crc32 b).toNat
def eth (a b : Byte) (r : List Byte) : List Byte := fcs (List.replicate 12 2 ++ [a, b] ++ r ++ List.replicate (46 - r.length) 0)
def ptp1 : State := let s := port1.setReg (Reg.NTM_PTPp_CTRL 1) 1; { s with ntm := { s.ntm with state := .locked } }
def dreq : List Byte := fcs ((List.replicate 12 2 ++ [0x88, 0xF7] ++ [1, 2, 0, 44, 0x18] ++ List.replicate 39 1))

/-- States that meet the hypotheses of each clause of `HostPorts`. -/
theorem met_hostPorts :
    (∃ (s : State) (p : Port) (f sum : List Byte), s.settled ∧ s.coreReset 7 = false ∧ s.portUp p = true ∧ 64 ≤
    f.length ∧ f.length ≤ s.fld (Reg.HPE_Pp_MAXLEN p) 13 0 ∧ sum = f.drop (f.length - 4) ∧ sum ≠ Crypto.leBytes 4
    (Crypto.crc32 (f.take (f.length - 4))).toNat) ∧
    (∃ (s : State) (p : Port) (f : List Byte) (q : Nat), s.settled ∧ s.coreReset 7 = false ∧ s.portUp p = true ∧ 64
    ≤ f.length ∧ f.length ≤ s.fld (Reg.HPE_Pp_MAXLEN p) 13 0 ∧ f.drop (f.length - 4) = Crypto.leBytes 4
    (Crypto.crc32 (f.take (f.length - 4))).toNat ∧ Crypto.slice f 12 2 = [0x88, 0x08] ∧ Crypto.beNat (Crypto.slice f
    14 2) = 1 ∧ s.rbit (Reg.HPE_Pp_MAC_CTRL p) 0 = true ∧ 0 < Crypto.beNat (Crypto.slice f 16 2) ∧ q ≠ p.val) ∧
    (∃ (s : State) (p : Port) (f : List Byte), s.settled ∧ s.coreReset 7 = false ∧ s.portUp p = true ∧ 64 ≤ f.length
    ∧ f.length ≤ s.fld (Reg.HPE_Pp_MAXLEN p) 13 0 ∧ f.drop (f.length - 4) = Crypto.leBytes 4 (Crypto.crc32 (f.take
    (f.length - 4))).toNat ∧ Crypto.beNat (Crypto.slice f 12 2) ≠ 0x8808 ∧ s.rbit (Reg.NTM_PTPp_CTRL p) 0 = false ∧
    s.rbit (Reg.HPE_Pp_MAC_CTRL p) 2 = false) ∧
    (∃ (s : State) (p : Port) (k : Nat), s.settled ∧ (s.port p).pauseUntil = some k) ∧
    (∃ (s : State) (p : Port) (q : Nat) (f : QFrame), s.settled ∧ s.coreReset 7 = false ∧ (s.port p).tx = some (q,
    f.id) ∧ s.mayStart p = true ∧ s.usq.flight = [(q, f)] ∧ 64 ≤ f.data.length ∧ s.hrd.failing = []) ∧
    (∃ (s : State) (p : Port) (ini : Nat) (v : Word), s.settled ∧ s.mayAccess ini 11 ∧ s.solitary ∧ s.portCfgRefused
    p v = true) ∧
    (∃ (s : State) (p : Port) (ini : Nat) (v : Word), s.settled ∧ s.mayAccess ini 11 ∧ s.solitary ∧ s.portCfgRefused
    p v = false ∧ v.getLsbD 0 = true) ∧
    (∃ (s : State) (p : Port) (ini : Nat) (v : Word), s.settled ∧ s.mayAccess ini 11 ∧ s.solitary ∧ s.portCfgRefused
    p v = false ∧ v.getLsbD 0 = false ∧ s.portEn p = true ∧ (s.port p).tx = none) :=
  ⟨⟨port1, 1, (List.replicate 64 0), (List.replicate 4 0), (by unfold State.settled; decide +kernel),
   (by decide +kernel)⟩,
   ⟨(port1.setReg (Reg.HPE_Pp_MAC_CTRL 1) 1), 1, (eth 0x88 8 [0, 1, 0, 9]), 0,
   (by unfold State.settled; decide +kernel), (by decide +kernel)⟩,
   ⟨port1, 1, (eth 8 0 []), (by unfold State.settled; decide +kernel), (by decide +kernel)⟩,
   ⟨(port1.modPort 1 (fun p => { p with pauseUntil := some 900 })), 1, 900,
   (by unfold State.settled; decide +kernel), (by decide +kernel)⟩,
   ⟨(let s := port1.modPort 1 (fun p => { p with tx := some (4610, 1) }); { s with usq := { s.usq with flight := [(4610, { qf 1 64 0 0 true with data := List.replicate 64 5 })] } }),
   1, 4610, ({ qf 1 64 0 0 true with data := List.replicate 64 5 }), (by unfold State.settled; decide +kernel),
   (by decide +kernel)⟩,
   ⟨port1, 1, 3, 3, (by unfold State.settled; decide +kernel), mayAccess_of _ _ _ (by decide +kernel),
   (by unfold State.solitary; decide +kernel), (by decide +kernel)⟩,
   ⟨ready, 1, 3, 1, (by unfold State.settled; decide +kernel), mayAccess_of _ _ _ (by decide +kernel),
   (by unfold State.solitary; decide +kernel), (by decide +kernel)⟩,
   ⟨port1, 1, 3, 0, (by unfold State.settled; decide +kernel), mayAccess_of _ _ _ (by decide +kernel),
   (by unfold State.solitary; decide +kernel), (by decide +kernel)⟩⟩

/-- States that meet the hypotheses of each clause of `PtpMaster`. -/
theorem met_ptpMaster :
    (∃ (s : State) (p : Port) (mac : Nat) (u : State), s.settled ∧ u = s.passTo mac ∧ s.ptpSends p = false) ∧
    (∃ (s : State) (p : Port) (mac : Nat) (u : State), s.settled ∧ u = s.passTo mac ∧ s.ptpSends p = true ∧ s.fld
    (Reg.NTM_PTPp_CTRL p) 2 1 = 0) ∧
    (∃ (s : State) (p : Port), s.settled ∧ s.ptpSends p = false) ∧
    (∃ (s : State) (p : Port), s.settled ∧ s.ptpSends p = true ∧ s.fld (Reg.NTM_PTPp_CTRL p) 2 1 = 0) ∧
    (∃ (s : State) (p : Port) (f : List Byte) (mac : Nat) (r : List (List Byte × Nat)) (m : List Byte), s.settled ∧
    (s.port p).ptp = (f, mac) :: r ∧ m = (f.take (f.length - 4)).drop (s.ptpOffset p f) ∧ (s.validDreq m = false ∨
    s.ptpSends p = false ∨ 512 ≤ s.drespSent p)) ∧
    (∃ (s : State) (p : Port) (f : List Byte) (mac : Nat) (r : List (List Byte × Nat)) (m : List Byte), s.settled ∧
    (s.port p).ptp = (f, mac) :: r ∧ m = (f.take (f.length - 4)).drop (s.ptpOffset p f) ∧ s.validDreq m = true ∧
    s.ptpSends p = true ∧ s.drespSent p < 512 ∧ s.fld (Reg.NTM_PTPp_CTRL p) 2 1 = 0) :=
  ⟨⟨ready, 1, 700000, _, (by unfold State.settled; decide +kernel), rfl, (by decide +kernel)⟩,
   ⟨ptp1, 1, 700000, _, (by unfold State.settled; decide +kernel), rfl, (by decide +kernel)⟩,
   ⟨ready, 1, (by unfold State.settled; decide +kernel), (by decide +kernel)⟩,
   ⟨ptp1, 1, (by unfold State.settled; decide +kernel), (by decide +kernel)⟩,
   ⟨(port1.modPort 1 (fun p => { p with ptp := [(dreq, 70000)] })), 1, dreq, 70000, ([]), ((dreq.take (dreq.length -
   4)).drop (port1.ptpOffset 1 dreq)), (by unfold State.settled; decide +kernel), (by decide +kernel)⟩,
   ⟨(ptp1.modPort 1 (fun p => { p with ptp := [(dreq, 70000)] })), 1, dreq, 70000, ([]), ((dreq.take (dreq.length -
   4)).drop (ptp1.ptpOffset 1 dreq)), (by unfold State.settled; decide +kernel), (by decide +kernel)⟩⟩

end Hpe

namespace Cls

def act0 (a0 a1 : Word) : Action := ⟨a0, a1, 0⟩
def ent (k : Nat) (a : Action) : TblEntry := ⟨true, 0, 0, 0, BitVec.ofNat 320 (k * 2 ^ 304), a, 0⟩
/-- Profile 0 with default action `a0`, `a1`: no extraction. -/
def prof0 (a0 a1 : Word) (s : State) : State := s.modCls (fun c => { c with profs := [(0, [(18, a0), (19, a1)])] })
/-- Profile 0 with a 16-bit extraction at byte 0 in the key, and the entry `e` staged. -/
def keyed16 (e : TblEntry) : State := (ready.modCls (fun c => { c with profs := [(0, [(0, 1), (2, 0x5E000)])], stage := e }))
def pkt (src : Nat) : PktIn := ⟨src, 3, List.replicate 64 7, 9, false⟩
def engine (s : State) (src : Nat) : State := { (s.setReg Reg.CLS_CTRL 1) with arrivals := [pkt src] }
/-- `keyed16` with the staged key in bank 0. -/
def present (e : TblEntry) : State :=
  let s := keyed16 e
  s.modCls (fun c => c.put 0 (s.slotOf s.staged 0) (ent 5 .none))
theorem ok_of {e : Except Nat Nat} {q : Nat}
    (h : (match e with | .ok x => decide (x = q) | .error _ => false) = true) : e = .ok q := by
  cases e <;> simp_all

/-- States that meet the hypotheses of each clause of `TableCommands`. -/
theorem met_tableCommands :
    (∃ (s : State) (ini : Nat), s.settled ∧ s.mayAccess ini 12 ∧ s.solitary ∧ s.genBusy s.staged.gen = true) ∧
    (∃ (s : State) (ini : Nat), s.settled ∧ s.mayAccess ini 12 ∧ s.solitary ∧ s.genBusy s.staged.gen = false ∧
    s.entryBad s.staged = true) ∧
    (∃ (s : State) (ini : Nat), s.settled ∧ s.mayAccess ini 12 ∧ s.solitary ∧ s.genBusy s.staged.gen = false ∧
    s.entryBad s.staged = false ∧ (s.lookup s.staged).isSome = true) ∧
    (∃ (s : State) (ini : Nat), s.settled ∧ s.mayAccess ini 12 ∧ s.solitary ∧ s.genBusy s.staged.gen = false ∧
    s.entryBad s.staged = false ∧ s.lookup s.staged = none ∧ (s.cls.entry 0 (s.slotOf s.staged 0)).valid = false) ∧
    (∃ (s : State) (ini : Nat), s.settled ∧ s.mayAccess ini 12 ∧ s.solitary ∧ s.genBusy s.staged.gen = false ∧
    s.entryBad s.staged = false ∧ s.lookup s.staged = none ∧ (s.cls.entry 0 (s.slotOf s.staged 0)).valid = true ∧
    (s.cls.entry 1 (s.slotOf s.staged 1)).valid = false) ∧
    (∃ (s : State) (ini pl i : Nat), s.settled ∧ s.mayAccess ini 12 ∧ s.solitary ∧ s.genBusy s.staged.gen = false ∧
    s.lookup s.staged = some (pl, i)) ∧
    (∃ (s : State) (ini : Nat), s.settled ∧ s.mayAccess ini 12 ∧ s.solitary ∧ s.genBusy s.staged.gen = false ∧
    s.lookup s.staged = none) ∧
    (∃ (s : State) (ini pl i : Nat), s.settled ∧ s.mayAccess ini 12 ∧ s.solitary ∧ s.lookup s.staged = some (pl, i)) ∧
    (∃ (s : State) (ini : Nat), s.settled ∧ s.mayAccess ini 12 ∧ s.solitary ∧ s.lookup s.staged = none) ∧
    (∃ (s : State) (ini pl i : Nat), s.settled ∧ s.mayAccess ini 12 ∧ s.solitary ∧ pl = s.fld Reg.CLS_TBL_IDX 16 15
    ∧ i = s.fld Reg.CLS_TBL_IDX 14 0 ∧ (pl < 2 ∨ pl = 2 ∧ i < 16)) ∧
    (∃ (s : State) (ini pl i : Nat), s.settled ∧ s.mayAccess ini 12 ∧ s.solitary ∧ pl = s.fld Reg.CLS_TBL_IDX 16 15
    ∧ i = s.fld Reg.CLS_TBL_IDX 14 0 ∧ (pl < 2 ∨ pl = 2 ∧ i < 16)) ∧
    (∃ (s : State) (ini pl i : Nat), s.settled ∧ s.mayAccess ini 12 ∧ s.solitary ∧ pl = s.fld Reg.CLS_TBL_IDX 16 15
    ∧ i = s.fld Reg.CLS_TBL_IDX 14 0 ∧ (pl = 3 ∨ pl = 2 ∧ 16 ≤ i)) ∧
    (∃ (s : State) (ini g : Nat), s.settled ∧ s.mayAccess ini 12 ∧ s.solitary ∧ g = s.fld Reg.CLS_TBL_GEN 0 0 ∧
    s.genBusy g = false ∧ s.cls.bank0.wf (fun _ => .empty) = true ∧ s.cls.bank1.wf (fun _ => .empty) = true ∧
    s.cls.stash.wf (fun _ => .empty) = true) ∧
    (∃ (s : State) (ini : Nat), s.settled ∧ s.mayAccess ini 12 ∧ s.solitary ∧ s.cls.drained = true) ∧
    (∃ (s : State) (ini : Nat), s.settled ∧ s.mayAccess ini 12 ∧ s.solitary ∧ s.cls.drained = false) ∧
    (∃ (s : State), s.settled ∧ s.cls.drained = false ∧ (∀ r ∈ s.cls.recirc, r.gen = s.cls.active)) :=
  ⟨⟨((keyed16 (ent 5 .none)).modCls (fun c => { c with active := 1, drained := false })), 3,
   (by unfold State.settled; decide +kernel), mayAccess_of _ _ _ (by decide +kernel),
   (by unfold State.solitary; decide +kernel), (by decide +kernel)⟩,
   ⟨(ready.modCls (fun c => { c with stage := ent 5 .none })), 3, (by unfold State.settled; decide +kernel),
   mayAccess_of _ _ _ (by decide +kernel), (by unfold State.solitary; decide +kernel), (by decide +kernel)⟩,
   ⟨(present (ent 5 .none)), 3, (by unfold State.settled; decide +kernel), mayAccess_of _ _ _ (by decide +kernel),
   (by unfold State.solitary; decide +kernel), (by decide +kernel)⟩,
   ⟨(keyed16 (ent 5 .none)), 3, (by unfold State.settled; decide +kernel), mayAccess_of _ _ _ (by decide +kernel),
   (by unfold State.solitary; decide +kernel), (by decide +kernel)⟩,
   ⟨(let s := keyed16 (ent 5 .none); s.modCls (fun c => c.put 0 (s.slotOf s.staged 0) (ent 9 .none))), 3,
   (by unfold State.settled; decide +kernel), mayAccess_of _ _ _ (by decide +kernel),
   (by unfold State.solitary; decide +kernel), (by decide +kernel)⟩,
   ⟨(present (ent 5 (act0 2 0))), 3, 0, ((keyed16 (ent 5 (act0 2 0))).slotOf (keyed16 (ent 5 (act0 2 0))).staged 0),
   (by unfold State.settled; decide +kernel), mayAccess_of _ _ _ (by decide +kernel),
   (by unfold State.solitary; decide +kernel), (by decide +kernel)⟩,
   ⟨(keyed16 (ent 5 (act0 2 0))), 3, (by unfold State.settled; decide +kernel), mayAccess_of _ _ _
   (by decide +kernel), (by unfold State.solitary; decide +kernel), (by decide +kernel)⟩,
   ⟨(present (ent 5 (act0 2 0))), 3, 0, ((keyed16 (ent 5 (act0 2 0))).slotOf (keyed16 (ent 5 (act0 2 0))).staged 0),
   (by unfold State.settled; decide +kernel), mayAccess_of _ _ _ (by decide +kernel),
   (by unfold State.solitary; decide +kernel), (by decide +kernel)⟩,
   ⟨(keyed16 (ent 5 (act0 2 0))), 3, (by unfold State.settled; decide +kernel), mayAccess_of _ _ _
   (by decide +kernel), (by unfold State.solitary; decide +kernel), (by decide +kernel)⟩,
   ⟨(ready.setReg Reg.CLS_TBL_IDX 0x1000F), 3, 2, 15, (by unfold State.settled; decide +kernel), mayAccess_of _ _ _
   (by decide +kernel), (by unfold State.solitary; decide +kernel), (by decide +kernel)⟩,
   ⟨(ready.setReg Reg.CLS_TBL_IDX 0xFFFF), 3, 1, 32767, (by unfold State.settled; decide +kernel), mayAccess_of _ _
   _ (by decide +kernel), (by unfold State.solitary; decide +kernel), (by decide +kernel)⟩,
   ⟨(ready.setReg Reg.CLS_TBL_IDX 0x10010), 3, 2, 16, (by unfold State.settled; decide +kernel), mayAccess_of _ _ _
   (by decide +kernel), (by unfold State.solitary; decide +kernel), (by decide +kernel)⟩,
   ⟨(present (ent 5 (act0 2 0))), 3, 0, (by unfold State.settled; decide +kernel), mayAccess_of _ _ _
   (by decide +kernel), (by unfold State.solitary; decide +kernel), (by decide +kernel)⟩,
   ⟨ready, 3, (by unfold State.settled; decide +kernel), mayAccess_of _ _ _ (by decide +kernel),
   (by unfold State.solitary; decide +kernel), (by decide +kernel)⟩,
   ⟨(ready.modCls (fun c => { c with drained := false })), 3, (by unfold State.settled; decide +kernel),
   mayAccess_of _ _ _ (by decide +kernel), (by unfold State.solitary; decide +kernel), (by decide +kernel)⟩,
   ⟨(ready.modCls (fun c => { c with drained := false })), (by unfold State.settled; decide +kernel),
   (by decide +kernel)⟩⟩

/-- States that meet the hypotheses of each clause of `PacketEngine`. -/
theorem met_packetEngine :
    (∃ (s : State) (pipe : Fin 8) (p : PktIn) (prof : Nat) (r : Pass), s.settled ∧ prof = s.selectProfile p
    (s.tagsOf p) ∧ r = (s.makePass p prof s.cls.active false none).1 ∧ s.coreReset 8 = false ∧ s.rbit Reg.CLS_CTRL 0
    = true ∧ s.flt.isoCls.getLsbD pipe = false ∧ s.hoardFrozen = false ∧ s.nextArrival = some p ∧ lenConflict p
    (s.tagsOf p) (s.profile prof) = false ∧ r.act.bit 30 = false ∧ r.act.bit 31 = true) ∧
    (∃ (s : State) (pipe : Fin 8) (head : Bool) (p : PktIn) (prof : Nat) (r : Pass), s.settled ∧ prof =
    s.selectProfile p (s.tagsOf p) ∧ r = (s.makePass p prof s.cls.active false none).1 ∧ s.coreReset 8 = false ∧
    s.rbit Reg.CLS_CTRL 0 = true ∧ s.flt.isoCls.getLsbD pipe = false ∧ s.hoardFrozen = false ∧ s.nextArrival = some
    p ∧ lenConflict p (s.tagsOf p) (s.profile prof) = false ∧ r.act.bit 30 = false ∧ r.act.bit 31 = false ∧
    r.act.bit 29 = true ∧ head = true ∧ keyBits (s.profile (bitsOf r.act.a1.toNat 9 4)) ≤ 304) ∧
    (∃ (s : State) (pipe : Fin 8) (p : PktIn) (prof : Nat) (r : Pass) (q : Nat) (x : Queue) (k : Nat), s.settled ∧
    prof = s.selectProfile p (s.tagsOf p) ∧ r = (s.makePass p prof s.cls.active false none).1 ∧
    ({ s with fresh := s.fresh + 16 } : State).resolve p [r] = .ok q ∧ x = s.queue q ∧ s.coreReset 8 = false ∧
    s.rbit Reg.CLS_CTRL 0 = true ∧ s.flt.isoCls.getLsbD pipe = false ∧ s.hoardFrozen = false ∧ s.nextArrival = some
    p ∧ lenConflict p (s.tagsOf p) (s.profile prof) = false ∧ r.act.bit 30 = false ∧ r.act.bit 31 = false ∧
    r.act.bit 29 = false ∧ p.ovs = false ∧ p.source < 8 ∧ q < 4096 ∧ x.enable = true ∧ x.maxDepth = 0 ∧ x.trim =
    none ∧ x.waits = [] ∧ (s.keys (2 * x.linkF + 1)).held = .none ∧ s.hasRoom q (p.dataLen + 24) = true ∧ k ≠ q) ∧
    (∃ (s : State) (r : Recirc) (p2 : Pass), s.settled ∧ p2 = (s.makePass r.pkt (bitsOf r.first.act.a1.toNat 9 4)
    r.gen r.conflict (some r.first)).1 ∧ s.coreReset 8 = false ∧ s.cls.recirc.find? (·.granted) = some r ∧
    p2.act.bit 31 = true ∧ p2.act.bit 30 = false ∧ r.first.act.bit 30 = false) ∧
    (∃ (s : State) (pipe : Fin 8) (r : Recirc), s.settled ∧ s.cls.recirc.find?
    (fun r => r.pipe = pipe.val ∧ r.granted = false) = some r ∧ (Tab.get 0 (s.profile r.first.prof) 0).getLsbD 28 =
    false) :=
  ⟨⟨(engine (prof0 0x80000000 0 ready) 2), 7, (pkt 2), _, _, (by unfold State.settled; decide +kernel), rfl, rfl,
   (by decide +kernel)⟩,
   ⟨(engine (prof0 0x20000000 0 ready) 2), 7, true, (pkt 2), _, _, (by unfold State.settled; decide +kernel), rfl,
   rfl, (by decide +kernel)⟩,
   ⟨(engine (withQ (prof0 0 0 (mapped (keyed (ready.setReg (Reg.CLS_SRC_DEFQ 2) 5)))) 5
   { qu [] with maxDepth := 0 }) 2), 1, (pkt 2), _, _, 5, _, 0, (by unfold State.settled; decide +kernel), rfl, rfl,
   ok_of (by decide +kernel), rfl, (by decide +kernel)⟩,
   ⟨((prof0 0x80000000 0 ready).modCls
   (fun c => { c with recirc := [⟨1, pkt 2, 0, false, ⟨0, .none, false, []⟩, 5, true⟩] })), (⟨1, pkt 2, 0, false,
   ⟨0, .none, false, []⟩, 5, true⟩), _, (by unfold State.settled; decide +kernel), rfl, (by decide +kernel)⟩,
   ⟨((prof0 0x80000000 0 ready).modCls
   (fun c => { c with recirc := [⟨7, pkt 2, 0, false, ⟨0, .none, false, []⟩, 5, false⟩] })), 7, (⟨7, pkt 2, 0,
   false, ⟨0, .none, false, []⟩, 5, false⟩), (by unfold State.settled; decide +kernel), (by decide +kernel)⟩⟩

/-- States that meet the hypotheses of each clause of `EngineSettings`. -/
theorem met_engineSettings :
    (∃ (s : State) (ini k : Nat), s.settled ∧ s.mayAccess ini 12 ∧ s.solitary ∧ profRefused s.cls.profStage = false
    ∧ k ≠ s.fld Reg.CLS_PROF_SEL 5 0) ∧
    (∃ (s : State) (ini : Nat), s.settled ∧ s.mayAccess ini 12 ∧ s.solitary ∧ profRefused s.cls.profStage = true) ∧
    (∃ (s : State) (ini k : Nat), s.settled ∧ s.mayAccess ini 12 ∧ s.solitary ∧ k ≠ s.fld Reg.CLS_SEL_IDX 5 0) ∧
    (∃ (s : State) (ini : Nat) (v : Word) (k : Nat), s.settled ∧ s.mayAccess ini 12 ∧ s.solitary ∧ bitsOf v.toNat 15
    12 ≤ 12 ∧ bitsOf v.toNat 11 0 + 2 ^ bitsOf v.toNat 15 12 ≤ 4096 ∧ k ≠ s.fld Reg.CLS_SG_SEL 5 0) ∧
    (∃ (s : State) (ini : Nat) (v : Word), s.settled ∧ s.mayAccess ini 12 ∧ s.solitary ∧ (12 < bitsOf v.toNat 15 12
    ∨ 4096 < bitsOf v.toNat 11 0 + 2 ^ bitsOf v.toNat 15 12)) ∧
    (∃ (s : State) (ini : Nat) (v : Word), s.settled ∧ s.mayAccess ini 12 ∧ s.solitary ∧ (12 < bitsOf v.toNat 15 12
    ∨ 4096 < bitsOf v.toNat 11 0 + 2 ^ bitsOf v.toNat 15 12)) ∧
    (∃ (s : State) (ini : Nat) (v : Word), s.settled ∧ s.mayAccess ini 13 ∧ s.solitary ∧ s.fld Reg.USQ_CTRL 1 0 = 0
    ∧ s.fld Reg.DSF_CTRL 3 0 = 0 ∧ s.hoardEmpty = true ∧ 8 ≤ bitsOf v.toNat 5 0 ∧ bitsOf v.toNat 5 0 ≤ 40 ∧
    s.hrd.retired0 = [] ∧ s.hrd.retired1 = []) ∧
    (∃ (s : State) (ini : Nat) (v : Word), s.settled ∧ s.mayAccess ini 13 ∧ s.solitary ∧ s.fld Reg.USQ_CTRL 1 0 = 0
    ∧ s.fld Reg.DSF_CTRL 3 0 = 0 ∧ s.hoardEmpty = true ∧ 8 ≤ bitsOf v.toNat 5 0 ∧ bitsOf v.toNat 5 0 ≤ 40 ∧
    s.hrd.retired0 = [] ∧ s.hrd.retired1 = []) ∧
    (∃ (s : State) (ini : Nat) (v : Word), s.settled ∧ s.mayAccess ini 13 ∧ s.solitary ∧ (s.fld Reg.USQ_CTRL 1 0 ≠ 0
    ∨ s.fld Reg.DSF_CTRL 3 0 ≠ 0 ∨ s.hoardEmpty = false ∨ bitsOf v.toNat 5 0 < 8 ∨ 40 < bitsOf v.toNat 5 0)) ∧
    (∃ (s : State) (ini : Nat) (v : Word), s.settled ∧ s.mayAccess ini 13 ∧ s.solitary ∧ (s.fld Reg.USQ_CTRL 1 0 ≠ 0
    ∨ s.fld Reg.DSF_CTRL 3 0 ≠ 0 ∨ s.hoardEmpty = false ∨ bitsOf v.toNat 5 0 < 8 ∨ 40 < bitsOf v.toNat 5 0)) ∧
    (∃ (s : State) (x : Fin 64), s.settled ∧ s.rbit Reg.HRD_CTRL 0 = true ∧ s.hoardFrozen = false ∧ (s.pc x).pos + 1
    ≠ 3145728) :=
  ⟨⟨(ready.modCls (fun c => { c with profStage := [(18, 0x80000000)] })), 3, 1,
   (by unfold State.settled; decide +kernel), mayAccess_of _ _ _ (by decide +kernel),
   (by unfold State.solitary; decide +kernel), (by decide +kernel)⟩,
   ⟨(ready.modCls (fun c => { c with profStage := [(0, 0x01800000)] })), 3,
   (by unfold State.settled; decide +kernel), mayAccess_of _ _ _ (by decide +kernel),
   (by unfold State.solitary; decide +kernel), (by decide +kernel)⟩,
   ⟨ready, 3, 1, (by unfold State.settled; decide +kernel), mayAccess_of _ _ _ (by decide +kernel),
   (by unfold State.solitary; decide +kernel), (by decide +kernel)⟩,
   ⟨ready, 3, 0xC000, 1, (by unfold State.settled; decide +kernel), mayAccess_of _ _ _ (by decide +kernel),
   (by unfold State.solitary; decide +kernel), (by decide +kernel)⟩,
   ⟨ready, 3, 0xC001, (by unfold State.settled; decide +kernel), mayAccess_of _ _ _ (by decide +kernel),
   (by unfold State.solitary; decide +kernel), (by decide +kernel)⟩,
   ⟨ready, 3, 0xD000, (by unfold State.settled; decide +kernel), mayAccess_of _ _ _ (by decide +kernel),
   (by unfold State.solitary; decide +kernel), (by decide +kernel)⟩,
   ⟨ready, 3, 8, (by unfold State.settled; decide +kernel), mayAccess_of _ _ _ (by decide +kernel),
   (by unfold State.solitary; decide +kernel), (by decide +kernel)⟩,
   ⟨ready, 3, 40, (by unfold State.settled; decide +kernel), mayAccess_of _ _ _ (by decide +kernel),
   (by unfold State.solitary; decide +kernel), (by decide +kernel)⟩,
   ⟨ready, 3, 7, (by unfold State.settled; decide +kernel), mayAccess_of _ _ _ (by decide +kernel),
   (by unfold State.solitary; decide +kernel), (by decide +kernel)⟩,
   ⟨ready, 3, 41, (by unfold State.settled; decide +kernel), mayAccess_of _ _ _ (by decide +kernel),
   (by unfold State.solitary; decide +kernel), (by decide +kernel)⟩,
   ⟨(ready.setReg Reg.HRD_CTRL 1), 63, (by unfold State.settled; decide +kernel), (by decide +kernel)⟩⟩

end Cls

namespace Hsk

/-- A signed key block of the Shell (class 3), made outside the model with the key 3. -/
def cfgKey : List Byte := bytesOf 269 0x53484346010300004f524f5600000000000000010000003404077a41d4606ffa1464793c7e5fdc7d98cb9d3910202dcd06bea4f240d3566da6b408bbae5026580d02d7e5c70500c831c995f7ca0b0c42837d0bbe9602a9fc998520b41c85115aa5f7684c0edc111eacc24abd6be4b5d298b65f28600a2f1df100000000724b9957582f0a755fa67e1febc163df570ee375b3c866fe2aa156994bd692f9c3425bd40dd1059a7921b8a27dae21e20b9eeb6fed0ee2e53ed882ab96e5abc0c17df74e85d6bdd86df83a635b0be059ad48cdda906eb74a09e6b670cd8838326254a65b92bd576f4751f5618818a8312ac35122b561de8b35fa7a515eea67236d238ab42953166a2e1cb6f00dc54164
def huskUp : State := { (ready.setReg Reg.HSK_CTRL 3) with hsk := { ready.hsk with link := .up }, shell := { Shell.unpowered ready.shell.nv with powered := true, st := .idle, time := .locked, stepped := true } }
def toSh (s : State) (ty : Byte) (b : List Byte) : State := { s with hsk := { s.hsk with toShell := [⟨ty, 7, b⟩] } }
def def1 : MeasDef := { MeasDef.off with en := true, kind := .spectrum, chan := 1, nptsLog2 := 10, intMs := 100, nbins := 4 }
def withNv (s : State) (f : ShellNv → ShellNv) : State := s.modShell (fun x => { x with nv := f x.nv })
def clink : ConvLink := { en := true, lane := 0, l := 2, conv := 0, m := 2, f := 2, k := 32, s := 1, scr := true, mbps := 5000, sysrefNs := 1000, sysrefAdj := 5 }
def shellOk : State := withNv huskUp (fun v => { v with defs := [(2, def1)], links := [(0, clink)], words := [(0x4000 + 0x100 + 130, 1)] })
def nt (t : Nat) : List Byte := ntimeBytes t
set_option maxRecDepth 100000
def rund : RunDef := ⟨0, false, false, false, false, []⟩
def cap1 : ShellCap := { st := .armed, id := 5, convs := 1, evidence := false, at_ := 30000000, bytes := 4, step := false, samples := [], spans := [], seg := 0 }
/-- The endpoint's buffer is full: one message of 2 MiB waits. -/
def fullHusk : State := (shellOk.modHsk (fun h => { h with toCore := [⟨0x81, 1, List.replicate 2097152 0⟩] })).modShell
  (fun x => { x with store := [⟨1, 1, [1, 2], some [3]⟩] })
theorem credit_full {s : State} {n k : Nat} (h : s.hsk.toCore = [⟨0x81, 1, List.replicate n 0⟩]) (hk : 2097152 < n + k) :
    s.huskCredit k = false := by
  simp [State.huskCredit, Hsk.heldBytes, h]
  omega
theorem fullHusk_credit : fullHusk.huskCredit 3 = false :=
  credit_full (n := 2097152) (by with_unfolding_all rfl) (by decide)

/-- States that meet the hypotheses of each clause of `HuskEndpoint`. -/
theorem met_huskEndpoint :
    (∃ (s : State), s.settled ∧ s.hskUp = true ∧ s.hsk.beacons % 16 = 15) ∧
    (∃ (s : State) (m : HuskMsg) (arr tTx : Nat) (rt : Int), s.settled ∧ rt = ((arr : Int) - tTx) - ((ntimeOf
    (Crypto.slice m.body 11 11) : Int) - ntimeOf (Crypto.slice m.body 0 11)) ∧ s.hskUp = true ∧ m.type = 0x84 ∧
    Tab.find? s.hsk.echoTx (Crypto.beNat (Crypto.slice m.body 22 4)) = some tTx ∧ s.hsk.rts.length < 15) ∧
    (∃ (s : State) (m : HuskMsg) (arr tTx : Nat) (rt : Int), s.settled ∧ rt = ((arr : Int) - tTx) - ((ntimeOf
    (Crypto.slice m.body 11 11) : Int) - ntimeOf (Crypto.slice m.body 0 11)) ∧ s.hskUp = true ∧ m.type = 0x84 ∧
    Tab.find? s.hsk.echoTx (Crypto.beNat (Crypto.slice m.body 22 4)) = some tTx ∧ s.hsk.rts.length = 15) ∧
    (∃ (s : State) (m : HuskMsg) (new : List Nat), s.settled ∧ new = (List.range 12).filter
    (fun i => (healthField m.body 48 4).testBit i && !(healthField s.hsk.health 48 4).testBit i) ∧ s.hskUp = true ∧
    m.type = 0x83 ∧ s.hsk.cmd = some (BitVec.ofNat 8 (healthField m.body 40 1), BitVec.ofNat 32 (healthField m.body
    44 4))) ∧
    (∃ (s : State) (m : HuskMsg) (new : List Nat), s.settled ∧ new = (List.range 12).filter
    (fun i => (healthField m.body 48 4).testBit i && !(healthField s.hsk.health 48 4).testBit i) ∧ s.hskUp = true ∧
    m.type = 0x83 ∧ s.hsk.cmd = none) ∧
    (∃ (s : State) (m : HuskMsg) (c : Instr), s.settled ∧ (c, m.type) ∈ [(Instr.recordMsg (some m), 0x81),
    (.captureMsg (some m), 0x82)] ∧ s.hskUp = true ∧ s.rbit Reg.HSK_CTRL 1 = true ∧ s.twinOn = false ∧ 0 <
    m.body.length ∧ m.body.length ≤ 8192 ∧ s.hsk.stalledAt = none) ∧
    (∃ (s : State) (m : HuskMsg) (c : Instr), s.settled ∧ (c, m.type) ∈ [(Instr.recordMsg (some m), 0x81),
    (.captureMsg (some m), 0x82)] ∧ s.hskUp = true ∧ s.rbit Reg.HSK_CTRL 1 = true ∧ s.twinOn = false ∧ 0 <
    m.body.length ∧ m.body.length ≤ 8192 ∧ s.hsk.stalledAt = none) ∧
    (∃ (s : State) (ini ty len : Nat) (c : Instr), s.settled ∧ s.mayAccess ini 16 ∧ (c, ty, len) ∈
    [(Instr.hskCmdStart ini, 3, 16), (.hskCmdStop ini, 4, 16), (.hskCmdStatus ini, 5, 12), (.hskCmdArm ini, 6, 24)]
    ∧ s.fld Reg.HSK_CMD_TYPE 7 0 = ty ∧ s.hskUp = true) ∧
    (∃ (s : State) (ini ty len : Nat) (c : Instr), s.settled ∧ s.mayAccess ini 16 ∧ (c, ty, len) ∈
    [(Instr.hskCmdStart ini, 3, 16), (.hskCmdStop ini, 4, 16), (.hskCmdStatus ini, 5, 12), (.hskCmdArm ini, 6, 24)]
    ∧ s.fld Reg.HSK_CMD_TYPE 7 0 = ty ∧ s.hskUp = true) ∧
    (∃ (s : State) (ini : Nat), s.settled ∧ s.mayAccess ini 16 ∧ s.hskUp = true) ∧
    (∃ (s : State), s.settled ∧ s.shell.powered = true ∧ s.hsk.link ≠ .up ∧ s.hsk.held = [] ∧ s.hsk.link = .down) ∧
    (∃ (s : State), s.settled ∧ s.hsk.link = .up) ∧
    (∃ (s : State) (h : HeldStart), s.settled ∧ s.hsk.held = [h] ∧ h.time ≤ s.now + us100 ∧ s.ntm.frac < 2 ^ 32 ∧
    s.now < 2 ^ 48 * pipsPerSec) :=
  ⟨⟨({ huskUp with hsk := { huskUp.hsk with beacons := 15 } }), (by unfold State.settled; decide +kernel),
   (by decide +kernel)⟩,
   ⟨({ huskUp with hsk := { huskUp.hsk with echoTx := [(0, 100)], rts := List.replicate 14 8 } }), ⟨0x84, 3,
   List.replicate 26 0⟩, 9000, 100, _, (by unfold State.settled; decide +kernel), rfl, (by decide +kernel)⟩,
   ⟨({ huskUp with hsk := { huskUp.hsk with echoTx := [(0, 100)], rts := List.replicate 15 8 } }), ⟨0x84, 3,
   List.replicate 26 0⟩, 9000, 100, _, (by unfold State.settled; decide +kernel), rfl, (by decide +kernel)⟩,
   ⟨({ huskUp with hsk := { huskUp.hsk with cmd := some (3, 7) } }), ⟨0x83, 3, List.replicate 40 0 ++ [3, 0, 0, 0,
   0, 0, 0, 7, 0, 0, 0, 5] ++ List.replicate 12 0⟩, _, (by unfold State.settled; decide +kernel), rfl,
   (by decide +kernel)⟩,
   ⟨huskUp, ⟨0x83, 3, List.replicate 64 0⟩, _, (by unfold State.settled; decide +kernel), rfl, (by decide +kernel)⟩,
   ⟨huskUp, ⟨0x81, 3, List.replicate 90 1⟩, (.recordMsg (some ⟨0x81, 3, List.replicate 90 1⟩)),
   (by unfold State.settled; decide +kernel), (by decide +kernel)⟩,
   ⟨huskUp, ⟨0x82, 3, List.replicate 8192 1⟩, (.captureMsg (some ⟨0x82, 3, List.replicate 8192 1⟩)),
   (by unfold State.settled; decide +kernel), (by decide +kernel)⟩,
   ⟨(huskUp.setReg Reg.HSK_CMD_TYPE 3), 3, 3, 16, (.hskCmdStart 3), (by unfold State.settled; decide +kernel),
   mayAccess_of _ _ _ (by decide +kernel), (by decide +kernel)⟩,
   ⟨(huskUp.setReg Reg.HSK_CMD_TYPE 6), 3, 6, 24, (.hskCmdArm 3), (by unfold State.settled; decide +kernel),
   mayAccess_of _ _ _ (by decide +kernel), (by decide +kernel)⟩,
   ⟨(huskUp.setReg Reg.HSK_CFG_LEN 6), 3, (by unfold State.settled; decide +kernel), mayAccess_of _ _ _
   (by decide +kernel), (by decide +kernel)⟩,
   ⟨({ huskUp with hsk := { huskUp.hsk with link := .down } }), (by unfold State.settled; decide +kernel),
   (by decide +kernel)⟩,
   ⟨huskUp, (by unfold State.settled; decide +kernel), (by decide +kernel)⟩,
   ⟨({ huskUp with hsk := { huskUp.hsk with held := [⟨1, false, 100, []⟩] } }), ⟨1, false, 100, []⟩,
   (by unfold State.settled; decide +kernel), (by decide +kernel)⟩⟩

/-- States that meet the hypotheses of each clause of `ShellTimeAndKeys`. -/
theorem met_shellTimeAndKeys :
    (∃ (s : State) (okA : Bool), s.settled ∧ s.shell.powered = false ∧ s.shell.keyNext = none ∧ s.shell.nv.pointerB
    = false ∧ okA = true) ∧
    (∃ (s : State) (okA okB : Bool), s.settled ∧ s.shell.powered = false ∧ s.shell.keyNext = none ∧
    s.shell.nv.pointerB = false ∧ okA = false ∧ okB = true) ∧
    (∃ (s : State) (okA okB : Bool), s.settled ∧ s.shell.powered = false ∧ s.shell.keyNext = none ∧
    s.shell.nv.pointerB = false ∧ okA = false ∧ okB = false) ∧
    (∃ (s : State), s.settled ∧ s.shell.keyNext = none) ∧
    (∃ (s : State) (okA : Bool), s.settled ∧ s.shell.powered = true ∧ s.shell.keyNext = none ∧ s.shell.nv.pointerB =
    false ∧ s.hsk.link = .up ∧ okA = true) ∧
    (∃ (s : State) (m : HuskMsg) (tRx core : Nat) (e : Int), s.settled ∧ s.reaches m ∧ e = (ntimeOf (Crypto.slice
    m.body 0 11) : Int) + signedOf 32 (Crypto.beNat (Crypto.slice m.body 12 4)) - tRx ∧ m.type = 1 ∧ s.shell.st ≠
    .safe ∧ Crypto.beNat (Crypto.slice m.body 11 1) = 2 * core ∧ core < 8 ∧ core = 0) ∧
    (∃ (s : State) (m : HuskMsg) (tRx core : Nat) (e : Int), s.settled ∧ s.reaches m ∧ e = (ntimeOf (Crypto.slice
    m.body 0 11) : Int) + signedOf 32 (Crypto.beNat (Crypto.slice m.body 12 4)) - tRx ∧ m.type = 1 ∧ s.shell.st ≠
    .safe ∧ Crypto.beNat (Crypto.slice m.body 11 1) = 2 * core ∧ core < 8 ∧ core = 2 ∧ s.shell.stepped = false ∧
    s.shell.running = [] ∧ s.shell.time = .unsync ∧ s.shell.lockRun < 7) ∧
    (∃ (s : State) (m : HuskMsg) (tRx core : Nat) (e : Int), s.settled ∧ s.reaches m ∧ e = (ntimeOf (Crypto.slice
    m.body 0 11) : Int) + signedOf 32 (Crypto.beNat (Crypto.slice m.body 12 4)) - tRx ∧ m.type = 1 ∧ s.shell.st ≠
    .safe ∧ Crypto.beNat (Crypto.slice m.body 11 1) = 2 * core ∧ core < 8 ∧ core = 2 ∧ s.shell.stepped = true ∧
    e.natAbs ≤ 32 ∧ s.shell.time ≠ .locked ∧ s.shell.lockRun = 7) ∧
    (∃ (s : State) (m : HuskMsg) (tRx core : Nat) (e : Int), s.settled ∧ s.reaches m ∧ e = (ntimeOf (Crypto.slice
    m.body 0 11) : Int) + signedOf 32 (Crypto.beNat (Crypto.slice m.body 12 4)) - tRx ∧ m.type = 1 ∧ s.shell.st ≠
    .safe ∧ Crypto.beNat (Crypto.slice m.body 11 1) = 2 * core ∧ core < 8 ∧ core = 2 ∧ s.shell.stepped = true ∧
    e.natAbs ≤ 32 ∧ s.shell.time = .locked) ∧
    (∃ (s : State) (m : HuskMsg) (tRx core : Nat) (e : Int), s.settled ∧ s.reaches m ∧ e = (ntimeOf (Crypto.slice
    m.body 0 11) : Int) + signedOf 32 (Crypto.beNat (Crypto.slice m.body 12 4)) - tRx ∧ m.type = 1 ∧ s.shell.st ≠
    .safe ∧ Crypto.beNat (Crypto.slice m.body 11 1) = 2 * core ∧ core < 8 ∧ core = 2 ∧ s.shell.stepped = true ∧
    e.natAbs ≤ 32 ∧ 40 ≤ s.fld Reg.HSK_BEACON 13 0) ∧
    (∃ (s : State), s.settled ∧ s.shell.powered = true ∧ s.shell.st ≠ .safe) ∧
    (∃ (s : State), s.settled ∧ s.shell.powered = true ∧ s.hsk.link = .up) ∧
    (∃ (s : State), s.settled ∧ s.shell.powered = true ∧ s.shell.nv.twice = false) ∧
    (∃ (s : State), s.settled ∧ s.shell.powered = true ∧ s.shell.store = []) ∧
    (∃ (s : State) (j : Fin 4) (l : ConvLink), s.settled ∧ s.shell.powered = true ∧ Tab.find? s.shell.nv.links j =
    some l ∧ l.en = true ∧ s.shell.st ≠ .safe ∧ 0 < l.sysrefNs) ∧
    (∃ (s : State) (n : Fin 4) (x : Trig), s.settled ∧ x = Tab.get Trig.reset s.shell.ftrigs n ∧ s.shell.powered =
    true ∧ x.armed = true) :=
  ⟨⟨ready, true, (by unfold State.settled; decide +kernel), (by decide +kernel)⟩,
   ⟨ready, false, true, (by unfold State.settled; decide +kernel), (by decide +kernel)⟩,
   ⟨ready, false, false, (by unfold State.settled; decide +kernel), (by decide +kernel)⟩,
   ⟨huskUp, (by unfold State.settled; decide +kernel), (by decide +kernel)⟩,
   ⟨huskUp, true, (by unfold State.settled; decide +kernel), (by decide +kernel)⟩,
   ⟨(toSh huskUp 1 (nt 5010 ++ [0] ++ [0, 0, 0, 0])), ⟨1, 7, nt 5010 ++ [0] ++ [0, 0, 0, 0]⟩, 5000, 0, _,
   (by unfold State.settled; decide +kernel), (by unfold State.reaches; decide +kernel), rfl, (by decide +kernel)⟩,
   ⟨((toSh huskUp 1 (nt 5100 ++ [4] ++ [0, 0, 0, 0])).modShell
   (fun x => { x with stepped := false, time := .unsync })), ⟨1, 7, nt 5100 ++ [4] ++ [0, 0, 0, 0]⟩, 5000, 2, _,
   (by unfold State.settled; decide +kernel), (by unfold State.reaches; decide +kernel), rfl, (by decide +kernel)⟩,
   ⟨((toSh huskUp 1 (nt 5032 ++ [4] ++ [0, 0, 0, 0])).modShell (fun x => { x with lockRun := 7, time := .unsync })),
   ⟨1, 7, nt 5032 ++ [4] ++ [0, 0, 0, 0]⟩, 5000, 2, _, (by unfold State.settled; decide +kernel),
   (by unfold State.reaches; decide +kernel), rfl, (by decide +kernel)⟩,
   ⟨(toSh huskUp 1 (nt 5010 ++ [4] ++ [0, 0, 0, 0])), ⟨1, 7, nt 5010 ++ [4] ++ [0, 0, 0, 0]⟩, 5000, 2, _,
   (by unfold State.settled; decide +kernel), (by unfold State.reaches; decide +kernel), rfl, (by decide +kernel)⟩,
   ⟨((toSh huskUp 1 (nt 5010 ++ [4] ++ [0, 0, 0, 0])).setReg Reg.HSK_BEACON 40), ⟨1, 7, nt 5010 ++ [4] ++ [0, 0, 0,
   0]⟩, 5000, 2, _, (by unfold State.settled; decide +kernel), (by unfold State.reaches; decide +kernel), rfl,
   (by decide +kernel)⟩,
   ⟨huskUp, (by unfold State.settled; decide +kernel), (by decide +kernel)⟩,
   ⟨huskUp, (by unfold State.settled; decide +kernel), (by decide +kernel)⟩,
   ⟨huskUp, (by unfold State.settled; decide +kernel), (by decide +kernel)⟩,
   ⟨huskUp, (by unfold State.settled; decide +kernel), (by decide +kernel)⟩,
   ⟨shellOk, 0, clink, (by unfold State.settled; decide +kernel), (by decide +kernel)⟩,
   ⟨(huskUp.modShell (fun x => { x with ftrigs := [(1, { Trig.reset with armed := true, start := 5000 })] })), 1, _,
   (by unfold State.settled; decide +kernel), rfl, (by decide +kernel)⟩⟩

/-- States that meet the hypotheses of each clause of `ShellMeasurement`. -/
theorem met_shellMeasurement :
    (∃ (s : State) (m : HuskMsg) (c : Instr), s.settled ∧ s.reaches m ∧ s.shell.refuses = true ∧ (c, m.type) ∈
    [(Instr.start, 3), (.stop, 4), (.arm, 6)]) ∧
    (∃ (s : State) (m : HuskMsg) (mask : BitVec 16) (at_ : Nat), s.settled ∧ s.reaches m ∧ s.shell.refuses = false ∧
    m.body.length = 16 ∧ mask = BitVec.ofNat 16 (Crypto.beNat (Crypto.slice m.body 0 2)) ∧ ntimeOk (Crypto.slice
    m.body 4 11) = true ∧ at_ = ntimeOf (Crypto.slice m.body 4 11) ∧ Crypto.slice m.body 15 1 = [0] ∧ m.type = 3 ∧
    s.shellNow + us100 ≤ at_ ∧ s.shell.running = [] ∧ s.shell.starts = [] ∧ (bitList mask).all (s.shell.nv.startable
    mask) = true) ∧
    (∃ (s : State) (m : HuskMsg) (mask : BitVec 16) (at_ : Nat), s.settled ∧ s.reaches m ∧ s.shell.refuses = false ∧
    m.body.length = 16 ∧ mask = BitVec.ofNat 16 (Crypto.beNat (Crypto.slice m.body 0 2)) ∧ ntimeOk (Crypto.slice
    m.body 4 11) = true ∧ at_ = ntimeOf (Crypto.slice m.body 4 11) ∧ Crypto.slice m.body 15 1 = [0] ∧ m.type = 4 ∧
    Crypto.slice m.body 2 2 = [0, 0]) ∧
    (∃ (s : State) (m : HuskMsg) (convs : BitVec 16) (n : Nat), s.settled ∧ s.reaches m ∧ m.type = 6 ∧
    s.shell.refuses = false ∧ m.body.length = 24 ∧ convs = BitVec.ofNat 16 (Crypto.beNat (Crypto.slice m.body 4 2))
    ∧ convs ≠ 0 ∧ Crypto.slice m.body 6 1 = [0] ∧ ntimeOk (Crypto.slice m.body 8 11) = true ∧ s.shellNow + us100 ≤
    ntimeOf (Crypto.slice m.body 8 11) ∧ n = Crypto.beNat (Crypto.slice m.body 20 4) ∧ 0 < n ∧ n ≤ 33554432 ∧
    (s.shell.nv.capRate convs).isSome = true ∧ s.shell.cap = none) ∧
    (∃ (s : State) (m : HuskMsg) (convs : BitVec 16) (n : Nat), s.settled ∧ s.reaches m ∧ m.type = 6 ∧
    s.shell.refuses = false ∧ m.body.length = 24 ∧ convs = BitVec.ofNat 16 (Crypto.beNat (Crypto.slice m.body 4 2))
    ∧ convs ≠ 0 ∧ Crypto.slice m.body 6 1 = [0] ∧ ntimeOk (Crypto.slice m.body 8 11) = true ∧ s.shellNow + us100 ≤
    ntimeOf (Crypto.slice m.body 8 11) ∧ n = Crypto.beNat (Crypto.slice m.body 20 4) ∧ 0 < n ∧ n ≤ 33554432 ∧
    (s.shell.nv.capRate convs).isSome = true ∧ s.shell.cap.isSome = true) ∧
    (∃ (s : State) (m : HuskMsg), s.settled ∧ s.reaches m ∧ m.type = 5 ∧ m.body.length = 12 ∧ Crypto.slice m.body 0
    1 = [0]) ∧
    (∃ (s : State) (id mask : BitVec 16) (at_ d : Nat), s.settled ∧ s.shell.starts = [(id, mask, at_)] ∧ bitList
    mask = [d] ∧ (s.shell.nv.defn d).en = true ∧ s.shell.st = .idle) ∧
    (∃ (s : State) (mask : BitVec 16) (at_ d : Nat) (r : RunDef), s.settled ∧ s.shell.stops = [(mask, at_)] ∧
    s.shell.starts = [] ∧ s.shell.running = [(d, r)] ∧ mask.getLsbD d = true ∧ s.shell.st = .run ∧ s.shell.time ≠
    .unsync) ∧
    (∃ (s : State) (d : Fin 16) (r : RunDef) (len : Nat), s.settled ∧ len = (s.shell.nv.base d).intMs * msPips ∧
    Tab.find? s.shell.running d = some r ∧ s.shell.keyNext = none ∧ s.shell.time ≠ .unsync) ∧
    (∃ (s : State) (c : ShellCap), s.settled ∧ s.shell.cap = some c ∧ c.st = .armed) ∧
    (∃ (s : State) (c : ShellCap) (l : List Byte), s.settled ∧ s.shell.cap = some c ∧ c.st = .filling ∧ l.length =
    c.bytes) ∧
    (∃ (s : State) (r : Rec) (rest : List Rec) (tr : List Byte), s.settled ∧ s.shell.powered = true ∧ s.hskUp = true
    ∧ s.shell.store = r :: rest ∧ r.trailer = some tr ∧ s.huskCredit (r.body ++ tr).length = true) ∧
    (∃ (s : State) (r : Rec) (rest : List Rec) (tr : List Byte), s.settled ∧ s.huskCredit (r.body ++ tr).length =
    false ∧ s.shell.powered = true ∧ s.hskUp = true ∧ s.shell.store = r :: rest ∧ r.trailer = some tr) ∧
    (∃ (s : State) (m : HuskMsg) (ps : List (List ShellParam)), s.settled ∧ s.reaches m ∧ m.type = 2 ∧ s.shell.st =
    .idle ∧ s.cfgFormat m.body ps = false) ∧
    (∃ (s : State) (m : HuskMsg) (ps : List (List ShellParam)) (seq : Word), s.settled ∧ s.reaches m ∧ seq =
    BitVec.ofNat 32 (Crypto.beNat (Crypto.slice m.body 16 4)) ∧ m.type = 2 ∧ s.shell.st = .idle ∧ s.cfgFormat m.body
    ps = true ∧ Crypto.beNat (Crypto.slice m.body 8 8) = s.serial ∧ s.cfgSigned m.body = true ∧ Crypto.slice m.body
    5 1 = [3] ∧ s.shell.nv.digests = [] ∧ s.shell.nv.cfgSeq < seq ∧ s.shell.nv.events < 8192) :=
  ⟨⟨(toSh (shellOk.modShell (fun x => { x with time := .unsync })) 3 ([0, 4, 0, 9] ++ nt 30000000 ++ [0])), ⟨3, 7,
   [0, 4, 0, 9] ++ nt 30000000 ++ [0]⟩, .start, (by unfold State.settled; decide +kernel),
   (by unfold State.reaches; decide +kernel), (by decide +kernel)⟩,
   ⟨(toSh shellOk 3 ([0, 4, 0, 9] ++ nt 30000000 ++ [0])), ⟨3, 7, [0, 4, 0, 9] ++ nt 30000000 ++ [0]⟩, 4, 30000000,
   (by unfold State.settled; decide +kernel), (by unfold State.reaches; decide +kernel), (by decide +kernel)⟩,
   ⟨(toSh shellOk 4 ([0, 4, 0, 0] ++ nt 30000000 ++ [0])), ⟨4, 7, [0, 4, 0, 0] ++ nt 30000000 ++ [0]⟩, 4, 30000000,
   (by unfold State.settled; decide +kernel), (by unfold State.reaches; decide +kernel), (by decide +kernel)⟩,
   ⟨(toSh shellOk 6 ([0, 0, 0, 5, 0, 1, 0, 0] ++ nt 30000000 ++ [0, 2, 0, 0, 0])), ⟨6, 7, [0, 0, 0, 5, 0, 1, 0, 0]
   ++ nt 30000000 ++ [0, 2, 0, 0, 0]⟩, 1, 33554432, (by unfold State.settled; decide +kernel),
   (by unfold State.reaches; decide +kernel), (by decide +kernel)⟩,
   ⟨(toSh (shellOk.modShell (fun x => { x with cap := some cap1 })) 6 ([0, 0, 0, 5, 0, 1, 0, 0] ++ nt 30000000 ++
   [0, 0, 0, 0, 1])), ⟨6, 7, [0, 0, 0, 5, 0, 1, 0, 0] ++ nt 30000000 ++ [0, 0, 0, 0, 1]⟩, 1, 1,
   (by unfold State.settled; decide +kernel), (by unfold State.reaches; decide +kernel), (by decide +kernel)⟩,
   ⟨(toSh shellOk 5 (List.replicate 12 0)), ⟨5, 7, List.replicate 12 0⟩, (by unfold State.settled; decide +kernel),
   (by unfold State.reaches; decide +kernel), (by decide +kernel)⟩,
   ⟨(shellOk.modShell (fun x => { x with starts := [(9, 4, 40000)] })), 9, 4, 40000, 2,
   (by unfold State.settled; decide +kernel), (by decide +kernel)⟩,
   ⟨(shellOk.modShell (fun x => { x with st := .run, running := [(2, rund)], stops := [(4, 40000)] })), 4, 40000, 2,
   rund, (by unfold State.settled; decide +kernel), (by decide +kernel)⟩,
   ⟨(shellOk.modShell (fun x => { x with st := .run, running := [(2, rund)] })), 2, rund, _,
   (by unfold State.settled; decide +kernel), rfl, (by decide +kernel)⟩,
   ⟨(shellOk.modShell (fun x => { x with cap := some cap1 })), cap1, (by unfold State.settled; decide +kernel),
   (by decide +kernel)⟩,
   ⟨(shellOk.modShell (fun x => { x with cap := some { cap1 with st := .filling } })),
   ({ cap1 with st := .filling }), ([1, 2, 3, 4]), (by unfold State.settled; decide +kernel), (by decide +kernel)⟩,
   ⟨(shellOk.modShell (fun x => { x with store := [⟨1, 1, [1, 2], some [3]⟩] })), ⟨1, 1, [1, 2], some [3]⟩, ([]),
   ([3]), (by unfold State.settled; decide +kernel), (by decide +kernel)⟩,
   ⟨fullHusk, ⟨1, 1, [1, 2], some [3]⟩, ([]), ([3]), (by unfold State.settled; decide +kernel), fullHusk_credit,
   (by decide +kernel)⟩,
   ⟨(toSh shellOk 2 [1, 2]), ⟨2, 7, [1, 2]⟩, ([]), (by unfold State.settled; decide +kernel),
   (by unfold State.reaches; decide +kernel), (by decide +kernel)⟩,
   ⟨(toSh shellOk 2 cfgKey), ⟨2, 7, cfgKey⟩, ([]), _, (by unfold State.settled; decide +kernel),
   (by unfold State.reaches; decide +kernel), rfl, (by decide +kernel)⟩⟩

end Hsk

namespace Twin

/-- The standby preparing a takeover, a mark of Link 3 held. -/
def taking : State :=
  let s := (stand 0x4B).modLease (fun l => { l with preparing := true, left := 1000000 })
  let s := s.modPeer (fun p => { p with markLinks := [(3, 50, 1)] })
  { s with dsf := { s.dsf with links := [] } }
theorem noFrames_of (s : State) (h : s.usq.queues = []) (q : Nat) : (s.queue q).frames = [] := by
  simp only [State.queue, h]
  rfl

/-- States that meet the hypotheses of each clause of `TwinLease`. -/
theorem met_twinLease :
    (∃ (s : State) (m : MsgIn) (e : Nat) (foreign : Bool), s.settled ∧ s.quiet ∧ s.hears m t3to7 ∧ s.twinOn = true ∧
    m.body.length = 16 ∧ ntimeOk (Crypto.slice m.body 4 11) = true ∧ e = ntimeOf (Crypto.slice m.body 4 11) ∧
    s.localMode = false ∧ foreign = decide (Crypto.beNat (Crypto.slice m.body 0 4) ≠ (s.reg Reg.ACT_TWIN_ID).toNat)
    ∧ foreign = true) ∧
    (∃ (s : State) (m : MsgIn) (e : Nat) (foreign : Bool), s.settled ∧ s.quiet ∧ s.hears m t3to7 ∧ e = ntimeOf
    (Crypto.slice m.body 4 11) ∧ s.twinOn = true ∧ m.body.length = 16 ∧ ntimeOk (Crypto.slice m.body 4 11) = true ∧
    s.localMode = false ∧ foreign = decide (Crypto.beNat (Crypto.slice m.body 0 4) ≠ (s.reg Reg.ACT_TWIN_ID).toNat)
    ∧ foreign = false ∧ (e ≤ s.now ∨ s.now + pipsPerSec < e)) ∧
    (∃ (s : State) (m : MsgIn) (e : Nat) (foreign : Bool), s.settled ∧ s.quiet ∧ s.hears m t3to7 ∧ e = ntimeOf
    (Crypto.slice m.body 4 11) ∧ s.twinOn = true ∧ m.body.length = 16 ∧ ntimeOk (Crypto.slice m.body 4 11) = true ∧
    s.localMode = false ∧ foreign = decide (Crypto.beNat (Crypto.slice m.body 0 4) ≠ (s.reg Reg.ACT_TWIN_ID).toNat)
    ∧ foreign = false ∧ (e ≤ s.now ∨ s.now + pipsPerSec < e)) ∧
    (∃ (s : State) (m : MsgIn) (e : Nat) (foreign : Bool), s.settled ∧ s.quiet ∧ s.hears m t3to7 ∧ e = ntimeOf
    (Crypto.slice m.body 4 11) ∧ s.twinOn = true ∧ m.body.length = 16 ∧ ntimeOk (Crypto.slice m.body 4 11) = true ∧
    s.localMode = false ∧ foreign = decide (Crypto.beNat (Crypto.slice m.body 0 4) ≠ (s.reg Reg.ACT_TWIN_ID).toNat)
    ∧ foreign = false ∧ s.now < e ∧ e ≤ s.now + pipsPerSec ∧ s.twn.lease.holds = false ∧ s.twn.lease.preparing =
    false ∧ s.eligibleNow = false) ∧
    (∃ (s : State) (m : MsgIn) (e : Nat) (foreign : Bool) (due : Nat), s.settled ∧ s.quiet ∧ s.hears m t3to7 ∧ e =
    ntimeOf (Crypto.slice m.body 4 11) ∧ s.twinOn = true ∧ m.body.length = 16 ∧ ntimeOk (Crypto.slice m.body 4 11) =
    true ∧ s.localMode = false ∧ foreign = decide (Crypto.beNat (Crypto.slice m.body 0 4) ≠ (s.reg
    Reg.ACT_TWIN_ID).toNat) ∧ foreign = false ∧ s.now < e ∧ e ≤ s.now + pipsPerSec ∧ s.twn.lease.holds = false ∧
    s.twn.lease.preparing = false ∧ s.eligibleNow = true ∧ s.twn.lease.lostByExpiry = false ∧ ((s.twn.peer.expiry =
    none ∧ due = s.now) ∨ ∃ p, s.twn.peer.expiry = some p ∧ due = if s.twn.lease.paired = true ∧ s.now ≤ p then p +
    256000 * s.fld Reg.TWN_GUARD_US 16 0 else s.now)) ∧
    (∃ (s : State) (m : MsgIn) (e : Nat) (foreign : Bool), s.settled ∧ s.quiet ∧ s.hears m t3to7 ∧ e = ntimeOf
    (Crypto.slice m.body 4 11) ∧ s.talks ∧ s.twinOn = true ∧ m.body.length = 16 ∧ ntimeOk (Crypto.slice m.body 4 11)
    = true ∧ s.localMode = false ∧ foreign = decide (Crypto.beNat (Crypto.slice m.body 0 4) ≠ (s.reg
    Reg.ACT_TWIN_ID).toNat) ∧ foreign = false ∧ s.now < e ∧ e ≤ s.now + pipsPerSec ∧ s.twn.lease.holds = true) ∧
    (∃ (s : State) (m : MsgIn), s.settled ∧ s.quiet ∧ s.hears m t3to7 ∧ s.twinOn = true ∧ m.body = Crypto.beBytes 4
    (s.reg Reg.ACT_TWIN_ID).toNat ∧ s.twn.lease.holds = true ∧ s.act.uq.length < 64 ∧ s.act.state = .t4) ∧
    (∃ (s : State), s.settled ∧ s.quiet ∧ s.twinOn = true ∧ s.twn.lease.holds = true ∧ s.act.state = .t4) ∧
    (∃ (s : State), s.settled ∧ s.quiet ∧ s.twinOn = true ∧ s.twn.lease.holds = true ∧ s.localMode = true ∧
    s.twn.link.up = false ∧ s.twn.lease.peerEligible = true) ∧
    (∃ (s : State), s.settled ∧ s.quiet ∧ s.talks ∧ s.twinOn = true ∧ s.localMode = true ∧ s.twn.lease.holds = true) ∧
    (∃ (s : State) (e : Nat) (rid : Word), s.settled ∧ s.quiet ∧ s.talks ∧ s.twinOn = true ∧ s.localMode = true ∧
    s.twn.lease.holds = true ∧ 0 < s.twn.lease.left ∧ s.twn.lease.renew = some (rid, e) ∧ s.twn.lease.left < e -
    s.now) ∧
    (∃ (s : State), s.settled ∧ s.quiet ∧ s.twinOn = true ∧ s.twn.lease.holds = true ∧ s.twn.lease.orphan = true ∧
    s.twn.link.up = false) ∧
    (∃ (s : State) (c : Claim), s.settled ∧ s.quiet ∧ s.talks ∧ s.twinOn = true ∧ s.twn.lease.holds = false ∧
    s.localMode = true ∧ s.twn.lease.lostByExpiry = false ∧ s.twn.lease.claim = some c) ∧
    (∃ (s : State), s.settled ∧ s.quiet ∧ s.talks ∧ s.twinOn = true ∧ s.twn.lease.holds = false ∧ s.localMode = true
    ∧ s.twn.lease.lostByExpiry = false ∧ s.twn.lease.claim = none ∧ s.eligibleNow = true) ∧
    (∃ (s : State), s.settled ∧ s.quiet ∧ s.talks ∧ s.twinOn = true ∧ s.twn.lease.holds = false ∧ s.localMode = true
    ∧ s.twn.lease.lostByExpiry = false ∧ s.twn.lease.claim = none ∧ s.eligibleNow = false) ∧
    (∃ (s : State) (c : Claim), s.settled ∧ s.quiet ∧ s.twinOn = true ∧ s.twn.lease.claim = some c ∧ s.claimReady =
    true ∧ s.pwr.mode = .active ∧ s.pwr.phase ≠ .entering ∧ c.expiry = none ∧ 0 < s.leasePips) ∧
    (∃ (s : State) (c : Claim), s.settled ∧ s.quiet ∧ s.twinOn = true ∧ s.twn.lease.claim = some c ∧ s.claimReady =
    true ∧ s.pwr.mode = .active ∧ s.pwr.phase ≠ .entering ∧ s.twn.link.up = true ∧ s.twn.peer.finalSeen = false ∧
    s.twn.lease.markWait = false) ∧
    (∃ (s : State) (c : Claim), s.settled ∧ s.quiet ∧ s.twinOn = true ∧ s.twn.lease.claim = some c ∧ s.claimReady =
    true ∧ s.pwr.mode = .active ∧ s.pwr.phase ≠ .entering ∧ s.twn.lease.markWait = true ∧ c.expiry = none ∧ 0 <
    s.leasePips) ∧
    (∃ (s : State), s.settled ∧ s.quiet ∧ (∀ q, (s.queue q).frames = []) ∧ s.twinOn = true ∧ s.twn.lease.preparing =
    true ∧ 0 < s.twn.lease.left ∧ s.act.state = .t7 ∧ s.twn.peer.shQueues = [] ∧ s.twn.peer.shAllocs = [] ∧ Tab.wf
    (fun _ => LinkKeys.reset) s.lsc.keys = true ∧ s.pwr.mode = .active ∧ s.dsf.links = [] ∧ Tab.wf
    (fun _ => ((0 : Nat), (0 : Nat))) s.twn.peer.markLinks = true ∧ s.twn.lease.forceOff = false) ∧
    (∃ (s : State) (k : Nat) (v : Nat × Nat), s.settled ∧ s.quiet ∧ (∀ q, (s.queue q).frames = []) ∧ s.twinOn = true
    ∧ s.twn.lease.preparing = true ∧ 0 < s.twn.lease.left ∧ s.act.state = .t7 ∧ s.twn.peer.shQueues = [] ∧
    s.twn.peer.shAllocs = [] ∧ Tab.wf (fun _ => LinkKeys.reset) s.lsc.keys = true ∧ s.pwr.mode = .active ∧
    s.dsf.links = [] ∧ Tab.wf (fun _ => ((0 : Nat), (0 : Nat))) s.twn.peer.markLinks = true ∧ Tab.find?
    s.twn.peer.markLinks k = some v) ∧
    (∃ (s : State), s.settled ∧ s.quiet ∧ s.talks ∧ s.twinOn = true ∧ s.twn.lease.finalOwed = true ∧ s.burstsOver =
    true) ∧
    (∃ (s : State) (ini : Nat), s.settled ∧ s.quiet ∧ s.mayAccess ini 15 ∧ s.talks ∧ s.twinOn = true ∧
    s.twn.lease.holds = true ∧ s.twn.lease.peerEligible = true ∧ s.act.state = .t4) ∧
    (∃ (s : State) (ini : Nat), s.settled ∧ s.quiet ∧ s.mayAccess ini 15 ∧ s.twinOn = true ∧ (s.twn.lease.holds =
    false ∨ s.twn.lease.peerEligible = false ∨ s.twn.link.up = false)) ∧
    (∃ (s : State) (ini : Nat), s.settled ∧ s.quiet ∧ s.mayAccess ini 15 ∧ s.armedFor 15 ini ∧ s.twinOn = true ∧
    s.twn.lease.paired = false ∧ s.twn.lease.holds = false ∧ s.twn.lease.preparing = false ∧ s.twn.lease.claim =
    none ∧ s.claimReady = true) ∧
    (∃ (s : State) (ini : Nat), s.settled ∧ s.quiet ∧ s.mayAccess ini 15 ∧ s.armedFor 15 ini ∧ s.twinOn = true ∧
    s.twn.lease.paired = true) ∧
    (∃ (s : State) (ini : Nat), s.settled ∧ s.quiet ∧ s.mayAccess ini 15 ∧ s.armedFor 15 ini ∧ s.twinOn = true ∧
    s.act.state = .t4 ∧ (∃ n ∈ s.rangedChs, s.dsLost n = false)) ∧
    (∃ (s : State) (ini : Nat), s.settled ∧ s.quiet ∧ s.mayAccess ini 15 ∧ s.armedFor 15 ini ∧ s.twinOn = true ∧
    s.act.state = .t7 ∧ (∃ n ∈ s.rangedChs, s.dsLost n = false) ∧ (∀ n < 4, s.rbit (Reg.POD_TX_CTRL n) 1 = true)) :=
  ⟨⟨(holder 0x4A), (bc (Crypto.beBytes 4 8 ++ ntimeBytes 1000 ++ [0])), 1000, true,
   (by unfold State.settled; decide +kernel), (by unfold State.quiet; decide +kernel),
   (by unfold State.hears; decide +kernel), (by decide +kernel)⟩,
   ⟨(stand 0x4A), (lg (stand 0x4A).now), _, false, (by unfold State.settled; decide +kernel),
   (by unfold State.quiet; decide +kernel), (by unfold State.hears; decide +kernel), rfl, (by decide +kernel)⟩,
   ⟨(stand 0x4A), (lg ((stand 0x4A).now + pipsPerSec + 1)), _, false, (by unfold State.settled; decide +kernel),
   (by unfold State.quiet; decide +kernel), (by unfold State.hears; decide +kernel), rfl, (by decide +kernel)⟩,
   ⟨((stand 0x48).modLease (fun l => { l with sync := 4 })), (lg ((stand 0x48).now + 1000)), _, false,
   (by unfold State.settled; decide +kernel), (by unfold State.quiet; decide +kernel),
   (by unfold State.hears; decide +kernel), rfl, (by decide +kernel)⟩,
   ⟨(stand 0x4A), (lg ((stand 0x4A).now + pipsPerSec)), _, false, ((stand 0x4A).now),
   (by unfold State.settled; decide +kernel), (by unfold State.quiet; decide +kernel),
   (by unfold State.hears; decide +kernel), rfl, (by decide +kernel)⟩,
   ⟨(holder 0x4A), (lg ((holder 0x4A).now + 1000)), _, false, (by unfold State.settled; decide +kernel),
   (by unfold State.quiet; decide +kernel), (by unfold State.hears; decide +kernel), rfl,
   (by unfold State.talks; decide +kernel), (by decide +kernel)⟩,
   ⟨(holder 0x4A), (bc (Crypto.beBytes 4 7)), (by unfold State.settled; decide +kernel),
   (by unfold State.quiet; decide +kernel), (by unfold State.hears; decide +kernel), (by decide +kernel)⟩,
   ⟨(holder 0x4B), (by unfold State.settled; decide +kernel), (by unfold State.quiet; decide +kernel),
   (by decide +kernel)⟩,
   ⟨(((holder 0x4B).modLinkT (fun l => { l with up := false })).modLease
   (fun l => { l with peerEligible := true })), (by unfold State.settled; decide +kernel),
   (by unfold State.quiet; decide +kernel), (by decide +kernel)⟩,
   ⟨(holder 0x4B), (by unfold State.settled; decide +kernel), (by unfold State.quiet; decide +kernel),
   (by unfold State.talks; decide +kernel), (by decide +kernel)⟩,
   ⟨((holder 0x4B).modLease (fun l => { l with renew := some (4, (holder 0x4B).now + 35600000) })), ((holder
   0x4B).now + 35600000), 4, (by unfold State.settled; decide +kernel), (by unfold State.quiet; decide +kernel),
   (by unfold State.talks; decide +kernel), (by decide +kernel)⟩,
   ⟨(((holder 0x4B).modLinkT (fun l => { l with up := false })).modLease (fun l => { l with orphan := true })),
   (by unfold State.settled; decide +kernel), (by unfold State.quiet; decide +kernel), (by decide +kernel)⟩,
   ⟨((stand 0x4B).modLease (fun l => { l with claim := some ⟨none, 90000, false⟩ })), ⟨none, 90000, false⟩,
   (by unfold State.settled; decide +kernel), (by unfold State.quiet; decide +kernel),
   (by unfold State.talks; decide +kernel), (by decide +kernel)⟩,
   ⟨(stand 0x4B), (by unfold State.settled; decide +kernel), (by unfold State.quiet; decide +kernel),
   (by unfold State.talks; decide +kernel), (by decide +kernel)⟩,
   ⟨({ stand 0x4B with act := { (stand 0x4B).act with state := .t1 } }), (by unfold State.settled; decide +kernel),
   (by unfold State.quiet; decide +kernel), (by unfold State.talks; decide +kernel), (by decide +kernel)⟩,
   ⟨((stand 0x4B).modLease (fun l => { l with claim := some ⟨none, 90000, false⟩ })), ⟨none, 90000, false⟩,
   (by unfold State.settled; decide +kernel), (by unfold State.quiet; decide +kernel), (by decide +kernel)⟩,
   ⟨((stand 0x4B).modLease (fun l => { l with claim := some ⟨none, 90000, false⟩ })), ⟨none, 90000, false⟩,
   (by unfold State.settled; decide +kernel), (by unfold State.quiet; decide +kernel), (by decide +kernel)⟩,
   ⟨((stand 0x4B).modLease (fun l => { l with claim := some ⟨none, 90000, false⟩, markWait := true })), ⟨none,
   90000, false⟩, (by unfold State.settled; decide +kernel), (by unfold State.quiet; decide +kernel),
   (by decide +kernel)⟩,
   ⟨taking, (by unfold State.settled; decide +kernel), (by unfold State.quiet; decide +kernel), noFrames_of _
   (by decide +kernel), (by decide +kernel)⟩,
   ⟨taking, 3, ((50, 1)), (by unfold State.settled; decide +kernel), (by unfold State.quiet; decide +kernel),
   noFrames_of _ (by decide +kernel), (by decide +kernel)⟩,
   ⟨((holder 0x4B).modLease (fun l => { l with finalOwed := true, releaseOwed := true })),
   (by unfold State.settled; decide +kernel), (by unfold State.quiet; decide +kernel),
   (by unfold State.talks; decide +kernel), (by decide +kernel)⟩,
   ⟨((holder 0x4B).modLease (fun l => { l with peerEligible := true })), 3,
   (by unfold State.settled; decide +kernel), (by unfold State.quiet; decide +kernel), mayAccess_of _ _ _
   (by decide +kernel), (by unfold State.talks; decide +kernel), (by decide +kernel)⟩,
   ⟨(holder 0x4B), 3, (by unfold State.settled; decide +kernel), (by unfold State.quiet; decide +kernel),
   mayAccess_of _ _ _ (by decide +kernel), (by decide +kernel)⟩,
   ⟨({ unpaired 0x4A with guards := [(15, ⟨3, (unpaired 0x4A).ticks⟩)] }), 3,
   (by unfold State.settled; decide +kernel), (by unfold State.quiet; decide +kernel), mayAccess_of _ _ _
   (by decide +kernel), (by unfold State.armedFor; decide +kernel), (by decide +kernel)⟩,
   ⟨({ stand 0x4A with guards := [(15, ⟨3, (stand 0x4A).ticks⟩)] }), 3, (by unfold State.settled; decide +kernel),
   (by unfold State.quiet; decide +kernel), mayAccess_of _ _ _ (by decide +kernel),
   (by unfold State.armedFor; decide +kernel), (by decide +kernel)⟩,
   ⟨({ holder 0x4B with guards := [(15, ⟨3, (holder 0x4B).ticks⟩)] }), 3, (by unfold State.settled; decide +kernel),
   (by unfold State.quiet; decide +kernel), mayAccess_of _ _ _ (by decide +kernel),
   (by unfold State.armedFor; decide +kernel), (by decide +kernel)⟩,
   ⟨(let s := (List.range 4).foldl (fun s n => State.setReg s (Reg.POD_TX_CTRL n) 2) (stand 0x4B); { s with guards := [(15, ⟨3, s.ticks⟩)] }),
   3, (by unfold State.settled; decide +kernel), (by unfold State.quiet; decide +kernel), mayAccess_of _ _ _
   (by decide +kernel), (by unfold State.armedFor; decide +kernel), (by decide +kernel)⟩⟩

end Twin

namespace Link

/-- States that meet the hypotheses of each clause of `TwinLinkCommands`. -/
theorem met_twinLinkCommands :
    (∃ (s : State) (peer : Byte) (w : Nat), s.settled ∧ s.rbit Reg.TWN_CTRL 3 = true ∧ s.twn.link.loopFar = false ∧
    s.fld Reg.TWN_LOOP 1 0 = 0 ∧ w = (if 8 ≤ (bitList peer).length then 8 else if 4 ≤ (bitList peer).length then 4
    else if 2 ≤ (bitList peer).length then 2 else (bitList peer).length) ∧ s.twn.link.up = false) ∧
    (∃ (s : State) (peer : Byte) (w : Nat), s.settled ∧ s.rbit Reg.TWN_CTRL 3 = true ∧ s.twn.link.loopFar = false ∧
    s.fld Reg.TWN_LOOP 1 0 = 0 ∧ w = (if 8 ≤ (bitList peer).length then 8 else if 4 ≤ (bitList peer).length then 4
    else if 2 ≤ (bitList peer).length then 2 else (bitList peer).length) ∧ s.twn.link.up = true ∧
    s.twn.link.training = true) ∧
    (∃ (s : State), s.settled ∧ s.rbit Reg.TWN_CTRL 3 = true ∧ (s.twn.link.up = false ∨ s.twn.link.training = true)) ∧
    (∃ (s : State) (lane : Fin 8), s.settled ∧ s.twn.link.up = true ∧ s.twn.link.rxGood.getLsbD lane = true) ∧
    (∃ (s : State) (lane : Fin 8) (v r : Nat) (c : Instr) (g : Byte) (w : Nat), s.settled ∧ s.twn.link.up = true ∧
    ((c = .laneLockLoss lane true v r ∧ s.twn.link.peerGood.getLsbD lane = true ∧ g = putBit s.twn.link.peerGood
    lane false) ∨ (c = .laneReturn lane true ∧ g = putBit s.twn.link.peerGood lane true)) ∧ w = (if 8 ≤ (bitList
    g).length then 8 else if 4 ≤ (bitList g).length then 4 else if 2 ≤ (bitList g).length then 2 else (bitList
    g).length)) ∧
    (∃ (s : State) (lane : Fin 8) (v r : Nat) (c : Instr) (g : Byte) (w : Nat), s.settled ∧ s.twn.link.up = true ∧
    ((c = .laneLockLoss lane true v r ∧ s.twn.link.peerGood.getLsbD lane = true ∧ g = putBit s.twn.link.peerGood
    lane false) ∨ (c = .laneReturn lane true ∧ g = putBit s.twn.link.peerGood lane true)) ∧ w = (if 8 ≤ (bitList
    g).length then 8 else if 4 ≤ (bitList g).length then 4 else if 2 ≤ (bitList g).length then 2 else (bitList
    g).length)) ∧
    (∃ (s : State) (c : Instr), s.settled ∧ (c = .twinLinkLost ∨ ∃ ini, c = .retrain ini ∧ s.mayAccess ini 15) ∧
    s.twn.link.up = true ∧ s.pwr.mode = .active ∧ s.twn.lease.paired = true ∧ s.twn.lease.sync = 3) ∧
    (∃ (s : State) (c : Instr), s.settled ∧ (c = .twinLinkLost ∨ ∃ ini, c = .retrain ini ∧ s.mayAccess ini 15) ∧
    s.twn.link.up = true ∧ s.pwr.mode = .active ∧ s.twn.lease.paired = true ∧ (s.twn.lease.sync = 1 ∨
    s.twn.lease.sync = 2)) ∧
    (∃ (s : State) (c : Instr), s.settled ∧ (c = .twinLinkLost ∨ ∃ ini, c = .retrain ini ∧ s.mayAccess ini 15) ∧
    s.twn.link.up = true ∧ s.pwr.mode = .active ∧ s.twinOn = true ∧ s.localMode = true ∧ s.twn.lease.paired = true ∧
    s.twn.lease.holds = true ∧ s.twn.lease.peerEligible = false) ∧
    (∃ (s : State) (c : Instr), s.settled ∧ (c = .twinLinkLost ∨ ∃ ini, c = .retrain ini ∧ s.mayAccess ini 15) ∧
    s.twn.link.up = true ∧ s.pwr.mode = .active ∧ s.twinOn = true ∧ s.localMode = true ∧ s.twn.lease.paired = true ∧
    s.twn.lease.holds = false ∧ s.twn.lease.eligible = true ∧ s.twn.lease.claim = none ∧ s.twn.lease.preparing =
    false ∧ s.twn.lease.lostByExpiry = false) ∧
    (∃ (s : State) (c : Instr), s.settled ∧ (c = .twinLinkLost ∨ ∃ ini, c = .retrain ini ∧ s.mayAccess ini 15) ∧
    s.twn.link.up = true ∧ s.pwr.mode = .active ∧ c = .twinLinkLost) ∧
    (∃ (s : State) (c : Instr) (ini : Nat), s.settled ∧ (c = .twinLinkLost ∨ ∃ ini, c = .retrain ini ∧ s.mayAccess
    ini 15) ∧ s.twn.link.up = true ∧ s.pwr.mode = .active ∧ c = .retrain ini) ∧
    (∃ (s : State) (k : Nat), s.settled ∧ s.twn.link.lostAt = some k ∧ s.pwr.mode = .active ∧ s.twn.lease.holds =
    true) ∧
    (∃ (s : State) (b : List Byte) (fl : Nat), s.settled ∧ b.length = 29 ∧ s.twn.link.up = true ∧ fl = Crypto.beNat
    (Crypto.slice b 12 1) ∧ s.pwr.mode = .active ∧ s.twn.lease.paired = true) ∧
    (∃ (s : State) (b : List Byte) (fl : Nat), s.settled ∧ b.length = 29 ∧ s.twn.link.up = true ∧ fl = Crypto.beNat
    (Crypto.slice b 12 1) ∧ s.pwr.mode = .active ∧ (s.twn.lease.paired = true ∨ (s.twinOn = true ∧ Crypto.beNat
    (Crypto.slice b 8 4) = (s.reg Reg.ACT_TWIN_ID).toNat ∧ s.reg Reg.ACT_TWIN_ID ≠ 0 ∧ fl.testBit 0 ≠ s.twinBit ∧
    fl.testBit 1 = s.localMode)) ∧ fl.testBit 2 = true) ∧
    (∃ (s : State) (b : List Byte) (fl : Nat), s.settled ∧ b.length = 29 ∧ s.twn.link.up = true ∧ fl = Crypto.beNat
    (Crypto.slice b 12 1) ∧ s.pwr.mode = .active ∧ s.twn.lease.paired = false ∧ (s.twinOn = false ∨ Crypto.beNat
    (Crypto.slice b 8 4) ≠ (s.reg Reg.ACT_TWIN_ID).toNat ∨ s.reg Reg.ACT_TWIN_ID = 0 ∨ fl.testBit 0 = s.twinBit ∨
    fl.testBit 1 ≠ s.localMode)) ∧
    (∃ (s : State) (b : List Byte) (fl : Nat), s.settled ∧ s.talks ∧ b.length = 13 ∧ fl = Crypto.beNat (Crypto.slice
    b 0 1) ∧ s.pwr.mode = .active ∧ fl.testBit 2 = true) ∧
    (∃ (s : State) (b : List Byte) (fl : Nat), s.settled ∧ s.talks ∧ b.length = 13 ∧ fl = Crypto.beNat (Crypto.slice
    b 0 1) ∧ s.pwr.mode = .active ∧ s.twn.lease.holds = true) ∧
    (∃ (s : State) (b : List Byte) (fl : Nat), s.settled ∧ s.talks ∧ b.length = 13 ∧ fl = Crypto.beNat (Crypto.slice
    b 0 1) ∧ s.pwr.mode = .active ∧ s.twn.lease.holds = false ∧ s.twn.lease.toldElig = true ∧ s.eligibleNow = true ∧
    s.twn.lease.sync = 3 ∧ s.twn.lease.heldSince = true ∧ fl.testBit 2 = s.twn.peer.holds ∧ fl.testBit 1 = true) ∧
    (∃ (s : State) (p : Nat × Nat), s.settled ∧ s.talks ∧ s.twn.peer.echo = some p) ∧
    (∃ (s : State), s.settled ∧ s.talks ∧ s.twn.peer.echo = none) ∧
    (∃ (s : State) (b : List Byte) (arr : Nat) (o : Int), s.settled ∧ s.twn.lease.paired = true ∧ b.length = 33 ∧
    ntimeOf (Crypto.slice b 0 11) ≠ 0 ∧ o = (((ntimeOf (Crypto.slice b 11 11) : Int) - ntimeOf (Crypto.slice b 0
    11)) + ((ntimeOf (Crypto.slice b 22 11) : Int) - arr)) / 2 ∧ s.twn.peer.echoes.length < 15) ∧
    (∃ (s : State) (b : List Byte) (arr : Nat) (o : Int), s.settled ∧ s.twn.lease.paired = true ∧ b.length = 33 ∧
    ntimeOf (Crypto.slice b 0 11) ≠ 0 ∧ o = (((ntimeOf (Crypto.slice b 11 11) : Int) - ntimeOf (Crypto.slice b 0
    11)) + ((ntimeOf (Crypto.slice b 22 11) : Int) - arr)) / 2 ∧ s.twn.peer.echoes.length = 15) ∧
    (∃ (s : State) (ini : Nat) (v : Word), s.settled ∧ s.mayAccess ini 15 ∧ s.twinOn = true ∧ v.toNat % 4 ≠ 0) ∧
    (∃ (s : State) (ini : Nat) (v : Word), s.settled ∧ s.mayAccess ini 15 ∧ (s.twinOn = false ∨ v.toNat % 4 = 0)) :=
  ⟨⟨linkOff, 0xF7, 4, (by unfold State.settled; decide +kernel), (by decide +kernel)⟩,
   ⟨((holder 0x4B).modLinkT (fun l => { l with training := true, target := 3 })), 0x03, 2,
   (by unfold State.settled; decide +kernel), (by decide +kernel)⟩,
   ⟨((holder 0x4B).modLinkT (fun l => { l with training := true, target := 3 })),
   (by unfold State.settled; decide +kernel), (by decide +kernel)⟩,
   ⟨(holder 0x4B), 7, (by unfold State.settled; decide +kernel), (by decide +kernel)⟩,
   ⟨(holder 0x4B), 7, 3, 1, (.laneLockLoss 7 true 3 1), 0x7F, 4, (by unfold State.settled; decide +kernel),
   (by decide +kernel)⟩,
   ⟨((holder 0x4B).modLinkT (fun l => { l with peerGood := 0x7F })), 7, 3, 1, (.laneReturn 7 true), 0xFF, 8,
   (by unfold State.settled; decide +kernel), (by decide +kernel)⟩,
   ⟨(holder 0x4B), .twinLinkLost, (by unfold State.settled; decide +kernel), Or.inl rfl, (by decide +kernel)⟩,
   ⟨((holder 0x4B).modLease (fun l => { l with sync := 2 })), (.retrain 3),
   (by unfold State.settled; decide +kernel), Or.inr ⟨3, rfl, mayAccess_of _ _ _ (by decide +kernel)⟩,
   (by decide +kernel)⟩,
   ⟨(holder 0x4B), .twinLinkLost, (by unfold State.settled; decide +kernel), Or.inl rfl, (by decide +kernel)⟩,
   ⟨((stand 0x4B).modLease (fun l => { l with eligible := true })), .twinLinkLost,
   (by unfold State.settled; decide +kernel), Or.inl rfl, (by decide +kernel)⟩,
   ⟨(holder 0x42), .twinLinkLost, (by unfold State.settled; decide +kernel), Or.inl rfl, (by decide +kernel)⟩,
   ⟨(holder 0x4B), (.retrain 3), 3, (by unfold State.settled; decide +kernel), Or.inr ⟨3, rfl, mayAccess_of _ _ _
   (by decide +kernel)⟩, (by decide +kernel)⟩,
   ⟨(linkOff.modLinkT (fun l => { l with lostAt := some 5 })), 5, (by unfold State.settled; decide +kernel),
   (by decide +kernel)⟩,
   ⟨(holder 0x4B), (helloBody (holder 0x4B) 7), 7, (by unfold State.settled; decide +kernel), (by decide +kernel)⟩,
   ⟨((holder 0x4B).modLease (fun l => { l with paired := false })), (helloBody (holder 0x4B) 7), 7,
   (by unfold State.settled; decide +kernel), (by decide +kernel)⟩,
   ⟨((holder 0x4B).modLease (fun l => { l with paired := false })), (helloBody (holder 0x4B) 2), 2,
   (by unfold State.settled; decide +kernel), (by decide +kernel)⟩,
   ⟨((stand 0x4B).modLease (fun l => { l with sync := 0 })), ([4, 3] ++ ntimeBytes 77777), 4,
   (by unfold State.settled; decide +kernel), (by unfold State.talks; decide +kernel), (by decide +kernel)⟩,
   ⟨(holder 0x4B), ([1, 3] ++ ntimeBytes 0), 1, (by unfold State.settled; decide +kernel),
   (by unfold State.talks; decide +kernel), (by decide +kernel)⟩,
   ⟨((stand 0x4B).modLease (fun l => { l with toldElig := true })), ([2, 3] ++ ntimeBytes 0), 2,
   (by unfold State.settled; decide +kernel), (by unfold State.talks; decide +kernel), (by decide +kernel)⟩,
   ⟨((holder 0x4B).modPeer (fun p => { p with echo := some (500, 600) })), ((500, 600)),
   (by unfold State.settled; decide +kernel), (by unfold State.talks; decide +kernel), (by decide +kernel)⟩,
   ⟨(holder 0x4B), (by unfold State.settled; decide +kernel), (by unfold State.talks; decide +kernel),
   (by decide +kernel)⟩,
   ⟨((holder 0x4B).modPeer (fun p => { p with echoes := List.replicate 14 1000000000 })), (ntimeBytes 512 ++
   ntimeBytes 600 ++ ntimeBytes 700), 900, (-56), (by unfold State.settled; decide +kernel), (by decide +kernel)⟩,
   ⟨((holder 0x4B).modPeer (fun p => { p with echoes := List.replicate 15 1000000000 })), (ntimeBytes 512 ++
   ntimeBytes 600 ++ ntimeBytes 700), 900, (-56), (by unfold State.settled; decide +kernel), (by decide +kernel)⟩,
   ⟨(holder 0x4B), 3, 3, (by unfold State.settled; decide +kernel), mayAccess_of _ _ _ (by decide +kernel),
   (by decide +kernel)⟩,
   ⟨ready, 3, 3, (by unfold State.settled; decide +kernel), mayAccess_of _ _ _ (by decide +kernel),
   (by decide +kernel)⟩⟩

end Link

namespace Mirror

def ckB (fl f pos acc : Nat) : List Byte := List.replicate 5 0 ++ Crypto.beBytes 4 0 ++ [0,1] ++ [0,9] ++ Crypto.beBytes 6 f ++ Crypto.beBytes 6 pos ++ Crypto.beBytes 4 acc ++ [BitVec.ofNat 8 fl]
def mkB (fl pos : Nat) : List Byte := List.replicate 5 0 ++ [BitVec.ofNat 8 fl] ++ [0,1] ++ [0,9] ++ Crypto.beBytes 6 pos ++ [0,1,0,3] ++ Crypto.beBytes 2 0x1032
def al (al' : Bool) (fs : List QFrame) (s : State) : State := withQ s 9 { qu fs with aligned := al', pos := 1000, f := 4, acc := 77, checkDue := true }

/-- States that meet the hypotheses of each clause of `MirrorSent`. -/
theorem met_mirrorSent :
    (∃ (s : State) (q : Nat) (x : Queue), s.settled ∧ s.talks ∧ (q, x) ∈ s.usq.queues ∧ s.twn.lease.holds = true ∧
    s.usq.queues.length < 65536 ∧ isUs q = true ∧ s.sentPosOf q ≠ Tab.get 0 s.twn.mir.sentQueues q) ∧
    (∃ (s : State) (q : Nat), s.settled ∧ s.talks ∧ s.twn.lease.holds = true ∧ isUs q = true ∧ (s.queue q).checkDue
    = true ∧ s.usq.queues.length < 65536) ∧
    (∃ (s : State) (e : Nat × Nat), s.settled ∧ s.talks ∧ s.twn.lease.holds = true ∧ [e] = s.upCtrs ∧ Tab.get 0
    s.twn.mir.sentCtrs e.1 ≠ e.2) ∧
    (∃ (s : State) (ini : Nat), s.settled ∧ s.talks ∧ s.mayAccess ini 6 ∧ ini < 9 ∧ s.twn.lease.holds = true) ∧
    (∃ (s : State) (ini : Nat), s.settled ∧ s.talks ∧ s.mayAccess ini 6 ∧ ini < 9 ∧ s.twn.lease.holds = false ∧
    s.twn.lease.sync ∈ [1, 2, 3]) :=
  ⟨⟨(withQ (holder 0x4B) 9 (qu [{ qf 1 100 0 0 true with pos := 200 }])), 9, (qu
   [{ qf 1 100 0 0 true with pos := 200 }]), (by unfold State.settled; decide +kernel),
   (by unfold State.talks; decide +kernel), List.mem_singleton_self _, (by decide +kernel)⟩,
   ⟨(al true [] (holder 0x4B)), 9, (by unfold State.settled; decide +kernel),
   (by unfold State.talks; decide +kernel), (by decide +kernel)⟩,
   ⟨((holder 0x4B).setKeys 7 { (holder 0x4B).keys 7 with a := { ((holder 0x4B).keys 7).a with ctr := 5 } }), ((13,
   5)), (by unfold State.settled; decide +kernel), (by unfold State.talks; decide +kernel), (by decide +kernel)⟩,
   ⟨(holder 0x4B), 3, (by unfold State.settled; decide +kernel), (by unfold State.talks; decide +kernel),
   mayAccess_of _ _ _ (by decide +kernel), (by decide +kernel)⟩,
   ⟨(stand 0x4B), 3, (by unfold State.settled; decide +kernel), (by unfold State.talks; decide +kernel),
   mayAccess_of _ _ _ (by decide +kernel), (by decide +kernel)⟩⟩

/-- States that meet the hypotheses of each clause of `MirrorTaken`. -/
theorem met_mirrorTaken :
    (∃ (s : State) (b : List Byte) (q pos k w : Nat), s.settled ∧ s.talks ∧ s.twn.lease.holds = false ∧
    s.twn.lease.preparing = false ∧ s.pwr.mode = .active ∧ b.length = 22 ∧ Crypto.slice b 6 2 = [0, 1] ∧
    Crypto.slice b 16 2 = [0, 1] ∧ q = Crypto.beNat (Crypto.slice b 8 2) ∧ pos = Crypto.beNat (Crypto.slice b 10 6)
    ∧ k = Crypto.beNat (Crypto.slice b 18 2) ∧ w = Crypto.beNat (Crypto.slice b 20 2) ∧ isUs q = true ∧
    s.twn.lease.markWait = false ∧ (s.queue q).aligned = true ∧ (s.queue q).pos < pos) ∧
    (∃ (s : State) (b : List Byte) (q pos k w : Nat), s.settled ∧ s.talks ∧ s.twn.lease.holds = false ∧
    s.twn.lease.preparing = false ∧ s.pwr.mode = .active ∧ b.length = 22 ∧ Crypto.slice b 6 2 = [0, 1] ∧
    Crypto.slice b 16 2 = [0, 1] ∧ q = Crypto.beNat (Crypto.slice b 8 2) ∧ pos = Crypto.beNat (Crypto.slice b 10 6)
    ∧ k = Crypto.beNat (Crypto.slice b 18 2) ∧ w = Crypto.beNat (Crypto.slice b 20 2) ∧ isUs q = true ∧
    s.twn.lease.markWait = false ∧ (s.queue q).aligned = true ∧ (s.queue q).frames = []) ∧
    (∃ (s : State) (b : List Byte) (q pos k w : Nat), s.settled ∧ s.talks ∧ s.twn.lease.holds = false ∧
    s.twn.lease.preparing = false ∧ s.pwr.mode = .active ∧ b.length = 22 ∧ Crypto.slice b 6 2 = [0, 1] ∧
    Crypto.slice b 16 2 = [0, 1] ∧ q = Crypto.beNat (Crypto.slice b 8 2) ∧ pos = Crypto.beNat (Crypto.slice b 10 6)
    ∧ k = Crypto.beNat (Crypto.slice b 18 2) ∧ w = Crypto.beNat (Crypto.slice b 20 2) ∧ isUs q = true ∧
    s.twn.lease.markWait = false ∧ (s.queue q).aligned = false) ∧
    (∃ (s : State) (b : List Byte) (q pos k w : Nat), s.settled ∧ s.talks ∧ s.twn.lease.holds = false ∧
    s.twn.lease.preparing = false ∧ s.pwr.mode = .active ∧ b.length = 22 ∧ Crypto.slice b 6 2 = [0, 1] ∧
    Crypto.slice b 16 2 = [0, 1] ∧ q = Crypto.beNat (Crypto.slice b 8 2) ∧ pos = Crypto.beNat (Crypto.slice b 10 6)
    ∧ k = Crypto.beNat (Crypto.slice b 18 2) ∧ w = Crypto.beNat (Crypto.slice b 20 2) ∧ isUs q = true ∧
    s.twn.lease.markWait = false ∧ (s.queue q).frames = []) ∧
    (∃ (s : State) (b : List Byte) (q fl f pos : Nat) (acc gen : Word), s.settled ∧ s.talks ∧ s.twn.lease.holds =
    false ∧ s.twn.lease.preparing = false ∧ s.pwr.mode = .active ∧ b.length = 30 ∧ Crypto.slice b 9 2 = [0, 1] ∧ gen
    = BitVec.ofNat 32 (Crypto.beNat (Crypto.slice b 5 4)) ∧ q = Crypto.beNat (Crypto.slice b 11 2) ∧ isUs q = true ∧
    f = Crypto.beNat (Crypto.slice b 13 6) ∧ pos = Crypto.beNat (Crypto.slice b 19 6) ∧ acc = BitVec.ofNat 32
    (Crypto.beNat (Crypto.slice b 25 4)) ∧ fl = Crypto.beNat (Crypto.slice b 29 1) ∧ (s.queue q).aligned = true ∧
    fl.testBit 1 = true) ∧
    (∃ (s : State) (b : List Byte) (q fl f pos : Nat) (acc gen : Word), s.settled ∧ s.talks ∧ s.twn.lease.holds =
    false ∧ s.twn.lease.preparing = false ∧ s.pwr.mode = .active ∧ b.length = 30 ∧ Crypto.slice b 9 2 = [0, 1] ∧ gen
    = BitVec.ofNat 32 (Crypto.beNat (Crypto.slice b 5 4)) ∧ q = Crypto.beNat (Crypto.slice b 11 2) ∧ isUs q = true ∧
    f = Crypto.beNat (Crypto.slice b 13 6) ∧ pos = Crypto.beNat (Crypto.slice b 19 6) ∧ acc = BitVec.ofNat 32
    (Crypto.beNat (Crypto.slice b 25 4)) ∧ fl = Crypto.beNat (Crypto.slice b 29 1) ∧ (s.queue q).aligned = true ∧
    fl.testBit 1 = false ∧ (s.queue q).f = f) ∧
    (∃ (s : State) (b : List Byte) (q fl f pos : Nat) (acc gen : Word), s.settled ∧ s.talks ∧ s.twn.lease.holds =
    false ∧ s.twn.lease.preparing = false ∧ s.pwr.mode = .active ∧ b.length = 30 ∧ Crypto.slice b 9 2 = [0, 1] ∧ gen
    = BitVec.ofNat 32 (Crypto.beNat (Crypto.slice b 5 4)) ∧ q = Crypto.beNat (Crypto.slice b 11 2) ∧ isUs q = true ∧
    f = Crypto.beNat (Crypto.slice b 13 6) ∧ pos = Crypto.beNat (Crypto.slice b 19 6) ∧ acc = BitVec.ofNat 32
    (Crypto.beNat (Crypto.slice b 25 4)) ∧ fl = Crypto.beNat (Crypto.slice b 29 1) ∧ (s.queue q).aligned = true ∧
    fl.testBit 1 = false ∧ (s.queue q).f < f) ∧
    (∃ (s : State) (b : List Byte) (q fl f pos : Nat) (acc gen : Word), s.settled ∧ s.talks ∧ s.twn.lease.holds =
    false ∧ s.twn.lease.preparing = false ∧ s.pwr.mode = .active ∧ b.length = 30 ∧ Crypto.slice b 9 2 = [0, 1] ∧ gen
    = BitVec.ofNat 32 (Crypto.beNat (Crypto.slice b 5 4)) ∧ q = Crypto.beNat (Crypto.slice b 11 2) ∧ isUs q = true ∧
    f = Crypto.beNat (Crypto.slice b 13 6) ∧ pos = Crypto.beNat (Crypto.slice b 19 6) ∧ acc = BitVec.ofNat 32
    (Crypto.beNat (Crypto.slice b 25 4)) ∧ fl = Crypto.beNat (Crypto.slice b 29 1) ∧ (s.queue q).aligned = false ∧
    fl.testBit 1 = false ∧ fl.testBit 0 = true ∧ (s.queue q).frames = []) ∧
    (∃ (s : State) (b : List Byte) (q fl f pos : Nat) (acc gen : Word), s.settled ∧ s.talks ∧ s.twn.lease.holds =
    false ∧ s.twn.lease.preparing = false ∧ s.pwr.mode = .active ∧ b.length = 30 ∧ Crypto.slice b 9 2 = [0, 1] ∧ gen
    = BitVec.ofNat 32 (Crypto.beNat (Crypto.slice b 5 4)) ∧ q = Crypto.beNat (Crypto.slice b 11 2) ∧ isUs q = true ∧
    f = Crypto.beNat (Crypto.slice b 13 6) ∧ pos = Crypto.beNat (Crypto.slice b 19 6) ∧ acc = BitVec.ofNat 32
    (Crypto.beNat (Crypto.slice b 25 4)) ∧ fl = Crypto.beNat (Crypto.slice b 29 1) ∧ (s.queue q).aligned = false ∧
    fl.testBit 0 = false) ∧
    (∃ (s : State) (b : List Byte) (q fl f pos : Nat) (acc gen : Word), s.settled ∧ s.talks ∧ s.twn.lease.holds =
    false ∧ s.twn.lease.preparing = false ∧ s.pwr.mode = .active ∧ b.length = 30 ∧ Crypto.slice b 9 2 = [0, 1] ∧ gen
    = BitVec.ofNat 32 (Crypto.beNat (Crypto.slice b 5 4)) ∧ q = Crypto.beNat (Crypto.slice b 11 2) ∧ isUs q = true ∧
    f = Crypto.beNat (Crypto.slice b 13 6) ∧ pos = Crypto.beNat (Crypto.slice b 19 6) ∧ acc = BitVec.ofNat 32
    (Crypto.beNat (Crypto.slice b 25 4)) ∧ fl = Crypto.beNat (Crypto.slice b 29 1) ∧ s.twn.lease.sync = 2 ∧
    s.twn.mir.gen = gen) ∧
    (∃ (s : State) (b : List Byte) (q fl f pos : Nat) (acc gen : Word), s.settled ∧ s.talks ∧ s.twn.lease.holds =
    false ∧ s.twn.lease.preparing = false ∧ s.pwr.mode = .active ∧ b.length = 30 ∧ Crypto.slice b 9 2 = [0, 1] ∧ gen
    = BitVec.ofNat 32 (Crypto.beNat (Crypto.slice b 5 4)) ∧ q = Crypto.beNat (Crypto.slice b 11 2) ∧ isUs q = true ∧
    f = Crypto.beNat (Crypto.slice b 13 6) ∧ pos = Crypto.beNat (Crypto.slice b 19 6) ∧ acc = BitVec.ofNat 32
    (Crypto.beNat (Crypto.slice b 25 4)) ∧ fl = Crypto.beNat (Crypto.slice b 29 1) ∧ (s.twn.lease.sync ≠ 2 ∨
    s.twn.mir.gen ≠ gen)) ∧
    (∃ (s : State) (b : List Byte) (q fl f pos : Nat) (acc gen : Word), s.settled ∧ s.talks ∧ s.twn.lease.holds =
    false ∧ s.twn.lease.preparing = false ∧ s.pwr.mode = .active ∧ b.length = 30 ∧ Crypto.slice b 9 2 = [0, 1] ∧ gen
    = BitVec.ofNat 32 (Crypto.beNat (Crypto.slice b 5 4)) ∧ q = Crypto.beNat (Crypto.slice b 11 2) ∧ isUs q = true ∧
    f = Crypto.beNat (Crypto.slice b 13 6) ∧ pos = Crypto.beNat (Crypto.slice b 19 6) ∧ acc = BitVec.ofNat 32
    (Crypto.beNat (Crypto.slice b 25 4)) ∧ fl = Crypto.beNat (Crypto.slice b 29 1) ∧ (s.queue q).frames = []) ∧
    (∃ (s : State) (q : Nat) (x : Queue) (w : Nat × Nat × Word × Nat), s.settled ∧ s.talks ∧ s.twn.lease.holds =
    false ∧ s.twn.lease.preparing = false ∧ s.pwr.mode = .active ∧ s.usq.queues = [(q, x)] ∧ isUs q = true ∧ x.waits
    = [w] ∧ x.aligned = true) ∧
    (∃ (s : State) (b : List Byte), s.settled ∧ s.talks ∧ s.twn.lease.holds = false ∧ s.twn.lease.preparing = false
    ∧ s.pwr.mode = .active ∧ b.length = 4 ∧ s.twn.lease.sync = 1) ∧
    (∃ (s : State) (b : List Byte) (k : Nat) (p : PeerSlot), s.settled ∧ s.talks ∧ s.twn.lease.holds = false ∧
    s.twn.lease.preparing = false ∧ s.pwr.mode = .active ∧ b.length = 13 ∧ k = Crypto.beNat (Crypto.slice b 0 2) %
    4096 * 4 + Crypto.beNat (Crypto.slice b 2 1) % 4 ∧ p = ⟨Crypto.beNat (Crypto.slice b 3 1) % 4, BitVec.ofNat 16
    (Crypto.beNat (Crypto.slice b 4 2)), BitVec.ofNat 32 (Crypto.beNat (Crypto.slice b 6 4)), Crypto.slice b 10 3⟩) ∧
    (∃ (s : State) (l : Fin 4096) (up slotB : Bool) (k : Nat), s.settled ∧ s.talks ∧ s.twn.lease.holds = false ∧
    s.twn.lease.preparing = false ∧ s.pwr.mode = .active ∧ k = l.val * 4 + b2n up + 2 * b2n slotB ∧ s.slotDiffers k
    = true ∧ k ∉ s.twn.peer.diverged) ∧
    (∃ (s : State) (b : List Byte) (l c : Nat) (x : KeySlot), s.settled ∧ s.talks ∧ s.twn.lease.holds = false ∧
    s.twn.lease.preparing = false ∧ s.pwr.mode = .active ∧ b.length = 9 ∧ l = Crypto.beNat (Crypto.slice b 0 2) ∧ l
    < 4096 ∧ Crypto.beNat (Crypto.slice b 2 1) % 4 = 1 ∧ c = Crypto.beNat (Crypto.slice b 3 6) ∧ x = (s.keys (2 * l
    + 1)).a ∧ x.state ≠ .empty ∧ Tab.find? s.twn.peer.slots (4 * l + 1) = none) ∧
    (∃ (s : State) (gen v : Word) (c : Instr), s.settled ∧ s.talks ∧ s.twn.lease.holds = false ∧
    s.twn.lease.preparing = false ∧ s.pwr.mode = .active ∧ s.twn.lease.sync ∈ [1, 2, 3] ∧ s.blockOff 6 = false ∧ (c
    = .twinCfg gen [(Reg.ACT_TO_RANGE, v), (Reg.ACT_TWIN_CFG, v), (Reg.TWN_CTRL, v)] ∨ c = .table gen
    [(Reg.ACT_TO_RANGE, v), (Reg.ACT_TWIN_CFG, v), (Reg.TWN_CTRL, v)])) ∧
    (∃ (s : State) (gen v : Word) (c : Instr), s.settled ∧ s.talks ∧ s.twn.lease.holds = false ∧
    s.twn.lease.preparing = false ∧ s.pwr.mode = .active ∧ s.twn.lease.sync ∈ [1, 2, 3] ∧ s.blockOff 6 = false ∧ (c
    = .twinCfg gen [(Reg.ACT_TO_RANGE, v), (Reg.ACT_TWIN_CFG, v), (Reg.TWN_CTRL, v)] ∨ c = .table gen
    [(Reg.ACT_TO_RANGE, v), (Reg.ACT_TWIN_CFG, v), (Reg.TWN_CTRL, v)])) ∧
    (∃ (s : State) (b : List Byte), s.settled ∧ s.talks ∧ s.twn.lease.holds = false ∧ s.twn.lease.preparing = false
    ∧ s.pwr.mode = .active ∧ b.length = 38656) :=
  ⟨⟨(al true [] (stand 0x4B)), (mkB 0 1100), 9, 1100, 3, 0x1032, (by unfold State.settled; decide +kernel),
   (by unfold State.talks; decide +kernel), (by decide +kernel)⟩,
   ⟨(al true [] (stand 0x4B)), (mkB 1 1000), 9, 1000, 3, 0x1032, (by unfold State.settled; decide +kernel),
   (by unfold State.talks; decide +kernel), (by decide +kernel)⟩,
   ⟨(al false [] (stand 0x4B)), (mkB 0 500), 9, 500, 3, 0x1032, (by unfold State.settled; decide +kernel),
   (by unfold State.talks; decide +kernel), (by decide +kernel)⟩,
   ⟨(al false [] (stand 0x4B)), (mkB 0 500), 9, 500, 3, 0x1032, (by unfold State.settled; decide +kernel),
   (by unfold State.talks; decide +kernel), (by decide +kernel)⟩,
   ⟨(al true [] (stand 0x4B)), (ckB 2 4 1000 77), 9, 2, 4, 1000, 77, 0, (by unfold State.settled; decide +kernel),
   (by unfold State.talks; decide +kernel), (by decide +kernel)⟩,
   ⟨(al true [] (stand 0x4B)), (ckB 0 4 1000 77), 9, 0, 4, 1000, 77, 0, (by unfold State.settled; decide +kernel),
   (by unfold State.talks; decide +kernel), (by decide +kernel)⟩,
   ⟨(al true [] (stand 0x4B)), (ckB 0 5 1000 78), 9, 0, 5, 1000, 78, 0, (by unfold State.settled; decide +kernel),
   (by unfold State.talks; decide +kernel), (by decide +kernel)⟩,
   ⟨(al false [] (stand 0x4B)), (ckB 1 5 1000 78), 9, 1, 5, 1000, 78, 0, (by unfold State.settled; decide +kernel),
   (by unfold State.talks; decide +kernel), (by decide +kernel)⟩,
   ⟨(al false [] (stand 0x4B)), (ckB 0 5 1000 78), 9, 0, 5, 1000, 78, 0, (by unfold State.settled; decide +kernel),
   (by unfold State.talks; decide +kernel), (by decide +kernel)⟩,
   ⟨((al true [] (stand 0x4B)).modLease (fun l => { l with sync := 2 })), (ckB 0 4 1000 77), 9, 0, 4, 1000, 77, 0,
   (by unfold State.settled; decide +kernel), (by unfold State.talks; decide +kernel), (by decide +kernel)⟩,
   ⟨(al true [] (stand 0x4B)), (ckB 0 4 1000 77), 9, 0, 4, 1000, 77, 0, (by unfold State.settled; decide +kernel),
   (by unfold State.talks; decide +kernel), (by decide +kernel)⟩,
   ⟨(al true [] (stand 0x4B)), (ckB 0 4 1000 77), 9, 0, 4, 1000, 77, 0, (by unfold State.settled; decide +kernel),
   (by unfold State.talks; decide +kernel), (by decide +kernel)⟩,
   ⟨(withQ (stand 0x4B) 9 { qu [] with aligned := true, waits := [(5, 6, 7, 800)] }), 9,
   ({ qu [] with aligned := true, waits := [(5, 6, 7, 800)] }), ((5, 6, 7, 800)),
   (by unfold State.settled; decide +kernel), (by unfold State.talks; decide +kernel), (by decide +kernel)⟩,
   ⟨((stand 0x4B).modLease (fun l => { l with sync := 1 })), ([0, 0, 0, 5]),
   (by unfold State.settled; decide +kernel), (by unfold State.talks; decide +kernel), (by decide +kernel)⟩,
   ⟨(stand 0x4B), ([0, 3, 1, 1, 0, 2, 0, 0, 0, 5, 1, 2, 3]), 13, ⟨1, 2, 5, [1, 2, 3]⟩,
   (by unfold State.settled; decide +kernel), (by unfold State.talks; decide +kernel), (by decide +kernel)⟩,
   ⟨((stand 0x4B).modPeer (fun p => { p with slots := [(13, ⟨1, 9, 9, [1, 2, 3]⟩)] })), 3, true, false, 13,
   (by unfold State.settled; decide +kernel), (by unfold State.talks; decide +kernel), (by decide +kernel)⟩,
   ⟨(stand 0x4B), ([0, 3, 1, 0, 0, 0, 0, 1, 0]), 3, 256, (((stand 0x4B).keys 7).a),
   (by unfold State.settled; decide +kernel), (by unfold State.talks; decide +kernel), (by decide +kernel)⟩,
   ⟨(stand 0x4B), 8, 9, (.twinCfg 8 [(Reg.ACT_TO_RANGE, 9), (Reg.ACT_TWIN_CFG, 9), (Reg.TWN_CTRL, 9)]),
   (by unfold State.settled; decide +kernel), (by unfold State.talks; decide +kernel), (by decide +kernel)⟩,
   ⟨(stand 0x4B), 8, 9, (.table 8 [(Reg.ACT_TO_RANGE, 9), (Reg.ACT_TWIN_CFG, 9), (Reg.TWN_CTRL, 9)]),
   (by unfold State.settled; decide +kernel), (by unfold State.talks; decide +kernel), (by decide +kernel)⟩,
   ⟨(stand 0x4B), (List.replicate 38656 1), (by unfold State.settled; decide +kernel),
   (by unfold State.talks; decide +kernel), (by decide +kernel)⟩⟩

/-- States that meet the hypotheses of each clause of `TwinRecords`. -/
theorem met_twinRecords :
    (∃ (s : State) (c : Instr) (b : List Byte) (base n k : Nat), s.settled ∧ s.twinOn = true ∧ s.twn.lease.paired =
    true ∧ n ≤ 16 ∧ ((c = .range b ∧ b.length = 48 ∧ base = 0 ∧ n = 12) ∨ (c = .twinHealth b ∧ b.length = 64 ∧ base
    = 16 ∧ n = 16)) ∧ (k < base ∨ base + n ≤ k)) ∧
    (∃ (s : State) (c : Instr) (b : List Byte) (base n k : Nat), s.settled ∧ s.twinOn = true ∧ s.twn.lease.paired =
    true ∧ n ≤ 16 ∧ ((c = .range b ∧ b.length = 48 ∧ base = 0 ∧ n = 12) ∨ (c = .twinHealth b ∧ b.length = 64 ∧ base
    = 16 ∧ n = 16)) ∧ (k < base ∨ base + n ≤ k)) ∧
    (∃ (s : State) (b : List Byte) (k : Nat), s.settled ∧ s.twinOn = true ∧ s.twn.lease.paired = true ∧ b.length =
    13 ∧ (k < 12 ∨ 16 ≤ k)) ∧
    (∃ (s : State) (ch : Chan) (i : Fin 64) (b : List Byte) (a : Nat), s.settled ∧ s.twinOn = true ∧
    s.twn.lease.paired = true ∧ b.length = 96 ∧ (a < (i.val * 4 + ch.val) * 32 ∨ (i.val * 4 + ch.val) * 32 + 24 ≤
    a)) ∧
    (∃ (s : State), s.settled ∧ s.twinOn = true ∧ s.twn.lease.paired = true ∧ s.twn.lease.holds = true) ∧
    (∃ (s : State) (ch : Chan) (pass : Bool), s.settled ∧ s.twinOn = true ∧ s.twn.lease.holds = false ∧ s.rbit
    Reg.TWN_ST_CTRL 16 = true ∧ s.podInService ch = true ∧ s.usq.grants = [] ∧ (s.ubtCh ch).bursts = [] ∧ s.inReset
    ch 9 = false ∧ pass = true) ∧
    (∃ (s : State) (ch : Chan) (pass : Bool), s.settled ∧ s.twinOn = true ∧ s.twn.lease.holds = false ∧ s.rbit
    Reg.TWN_ST_CTRL 16 = true ∧ s.podInService ch = true ∧ s.usq.grants = [] ∧ (s.ubtCh ch).bursts = [] ∧ s.inReset
    ch 9 = false ∧ pass = false) ∧
    (∃ (s : State), s.settled ∧ s.twinOn = false) ∧
    (∃ (s : State), s.settled ∧ s.talks) ∧
    (∃ (s : State) (m : MsgIn), s.settled ∧ s.hears m t3to7 ∧ m.body = [] ∧ s.act.uq.length < 64) :=
  ⟨⟨(stand 0x4B), (.range (List.replicate 48 1)), (List.replicate 48 1), 0, 12, 12,
   (by unfold State.settled; decide +kernel), (by decide +kernel)⟩,
   ⟨(stand 0x4B), (.twinHealth (List.replicate 64 1)), (List.replicate 64 1), 16, 16, 15,
   (by unfold State.settled; decide +kernel), (by decide +kernel)⟩,
   ⟨(stand 0x4B), (List.replicate 13 1), 16, (by unfold State.settled; decide +kernel), (by decide +kernel)⟩,
   ⟨(stand 0x4B), 3, 63, (List.replicate 96 1), 0, (by unfold State.settled; decide +kernel), (by decide +kernel)⟩,
   ⟨(holder 0x4B), (by unfold State.settled; decide +kernel), (by decide +kernel)⟩,
   ⟨({ stand 0x4B with usq := { (stand 0x4B).usq with grants := [] } }), 1, true,
   (by unfold State.settled; decide +kernel), (by decide +kernel)⟩,
   ⟨({ stand 0x4B with usq := { (stand 0x4B).usq with grants := [] } }), 1, false,
   (by unfold State.settled; decide +kernel), (by decide +kernel)⟩,
   ⟨ready, (by unfold State.settled; decide +kernel), (by decide +kernel)⟩,
   ⟨(holder 0x4B), (by unfold State.settled; decide +kernel), (by unfold State.talks; decide +kernel)⟩,
   ⟨(holder 0x4B), (bc []), (by unfold State.settled; decide +kernel), (by unfold State.hears; decide +kernel),
   (by decide +kernel)⟩⟩

end Mirror

namespace Boot

def bootU : State := unlocked 1
def mcuR : State := ready.setMcu 2 { Mcu.reset with state := .running }

/-- States that meet the hypotheses of each clause of `BootCommands`. -/
theorem met_bootCommands :
    (∃ (s : State) (ini c0 c1 : Nat), s.settled ∧ s.mayAccess ini 1 ∧ s.armedFor 1 ini ∧ ini < 10 ∧ s.boot.fuseBusy
    = none ∧ s.boot.nvmBusy = none ∧ s.boot.halted = true ∧ s.imageCheck (s.stageImage false) = some c0 ∧
    s.imageCheck (s.stageImage true) = some c1) ∧
    (∃ (s : State) (ini : Nat), s.settled ∧ s.mayAccess ini 1 ∧ s.armedFor 1 ini ∧ ini < 10 ∧ s.boot.fuseBusy = none
    ∧ s.boot.nvmBusy = none ∧ s.boot.halted = false) ∧
    (∃ (s : State) (ini f v : Nat), s.settled ∧ s.mayAccess ini 1 ∧ s.armedFor 1 ini ∧ v = s.fuseData f ∧ ini < 10 ∧
    f = s.fld Reg.BOOT_FUSE_SEL 3 0 ∧ f < 7 ∧ (s.fuse f).programmed = false ∧ (s.fuse f).bad = false ∧ v ≠ 0 ∧
    s.boot.fuseBusy = none) ∧
    (∃ (s : State) (ini f v : Nat), s.settled ∧ s.mayAccess ini 1 ∧ s.armedFor 1 ini ∧ v = s.fuseData f ∧ ini < 10 ∧
    f = s.fld Reg.BOOT_FUSE_SEL 3 0 ∧ (8 < f ∨ v = 0 ∨ s.boot.fuseBusy.isSome = true ∨ (f < 7 ∧ (s.fuse
    f).programmed = true))) ∧
    (∃ (s : State) (ini f v : Nat), s.settled ∧ s.mayAccess ini 1 ∧ s.armedFor 1 ini ∧ v = s.fuseData f ∧ ini < 10 ∧
    f = s.fld Reg.BOOT_FUSE_SEL 3 0 ∧ (8 < f ∨ v = 0 ∨ s.boot.fuseBusy.isSome = true ∨ (f < 7 ∧ (s.fuse
    f).programmed = true))) ∧
    (∃ (s : State) (ini f v : Nat), s.settled ∧ s.mayAccess ini 1 ∧ s.armedFor 1 ini ∧ v = s.fuseData f ∧ ini < 10 ∧
    f = s.fld Reg.BOOT_FUSE_SEL 3 0 ∧ f ≤ 8 ∧ s.boot.fuseBusy = none) ∧
    (∃ (s : State) (f v : Nat), s.settled ∧ s.boot.fuseBusy = some (f, v) ∧ f ≤ 8) ∧
    (∃ (s : State) (ini op : Nat) (c : Instr), s.settled ∧ s.mayAccess ini 1 ∧ s.armedFor 1 ini ∧ ini < 10 ∧ (c, op)
    ∈ [(Instr.nvmRead ini, 1), (.nvmProgram ini, 2), (.nvmErase4k ini, 3), (.nvmErase64k ini, 4), (.nvmReadId ini,
    5)] ∧ (s.boot.step < 4 ∨ 6 < s.boot.step) ∧ s.boot.nvmBusy = none ∧ (op ≤ 2 → s.fld Reg.BOOT_NVM_ADDR 24 0 +
    s.fld Reg.BOOT_NVM_LEN 8 0 ≤ 0x2000000) ∧ (op = 2 → s.fld Reg.BOOT_NVM_ADDR 24 0 % 256 + s.fld Reg.BOOT_NVM_LEN
    8 0 ≤ 256) ∧ (op = 3 → s.fld Reg.BOOT_NVM_ADDR 24 0 % 4096 = 0) ∧ (op = 4 → s.fld Reg.BOOT_NVM_ADDR 24 0 % 65536
    = 0)) ∧
    (∃ (s : State) (ini op : Nat) (c : Instr), s.settled ∧ s.mayAccess ini 1 ∧ s.armedFor 1 ini ∧ ini < 10 ∧ (c, op)
    ∈ [(Instr.nvmRead ini, 1), (.nvmProgram ini, 2), (.nvmErase4k ini, 3), (.nvmErase64k ini, 4), (.nvmReadId ini,
    5)] ∧ (s.boot.step < 4 ∨ 6 < s.boot.step) ∧ s.boot.nvmBusy = none ∧ (op ≤ 2 → s.fld Reg.BOOT_NVM_ADDR 24 0 +
    s.fld Reg.BOOT_NVM_LEN 8 0 ≤ 0x2000000) ∧ (op = 2 → s.fld Reg.BOOT_NVM_ADDR 24 0 % 256 + s.fld Reg.BOOT_NVM_LEN
    8 0 ≤ 256) ∧ (op = 3 → s.fld Reg.BOOT_NVM_ADDR 24 0 % 4096 = 0) ∧ (op = 4 → s.fld Reg.BOOT_NVM_ADDR 24 0 % 65536
    = 0)) ∧
    (∃ (s : State) (ini op : Nat) (c : Instr), s.settled ∧ s.mayAccess ini 1 ∧ s.armedFor 1 ini ∧ ini < 10 ∧ (c, op)
    ∈ [(Instr.nvmRead ini, 1), (.nvmProgram ini, 2), (.nvmErase4k ini, 3), (.nvmErase64k ini, 4), (.nvmReadId ini,
    5)] ∧ (s.boot.step < 4 ∨ 6 < s.boot.step) ∧ s.boot.nvmBusy = none ∧ (op ≤ 2 → s.fld Reg.BOOT_NVM_ADDR 24 0 +
    s.fld Reg.BOOT_NVM_LEN 8 0 ≤ 0x2000000) ∧ (op = 2 → s.fld Reg.BOOT_NVM_ADDR 24 0 % 256 + s.fld Reg.BOOT_NVM_LEN
    8 0 ≤ 256) ∧ (op = 3 → s.fld Reg.BOOT_NVM_ADDR 24 0 % 4096 = 0) ∧ (op = 4 → s.fld Reg.BOOT_NVM_ADDR 24 0 % 65536
    = 0)) ∧
    (∃ (s : State) (ini op : Nat) (c : Instr), s.settled ∧ s.mayAccess ini 1 ∧ s.armedFor 1 ini ∧ ini < 10 ∧ (c, op)
    ∈ [(Instr.nvmRead ini, 1), (.nvmProgram ini, 2), (.nvmErase4k ini, 3), (.nvmErase64k ini, 4), (.nvmReadId ini,
    5)] ∧ (s.boot.step < 4 ∨ 6 < s.boot.step) ∧ s.boot.nvmBusy = none ∧ (op ≤ 2 → s.fld Reg.BOOT_NVM_ADDR 24 0 +
    s.fld Reg.BOOT_NVM_LEN 8 0 ≤ 0x2000000) ∧ (op = 2 → s.fld Reg.BOOT_NVM_ADDR 24 0 % 256 + s.fld Reg.BOOT_NVM_LEN
    8 0 ≤ 256) ∧ (op = 3 → s.fld Reg.BOOT_NVM_ADDR 24 0 % 4096 = 0) ∧ (op = 4 → s.fld Reg.BOOT_NVM_ADDR 24 0 % 65536
    = 0)) ∧
    (∃ (s : State) (ini op : Nat) (c : Instr), s.settled ∧ s.mayAccess ini 1 ∧ s.armedFor 1 ini ∧ ini < 10 ∧ (c, op)
    ∈ [(Instr.nvmRead ini, 1), (.nvmProgram ini, 2), (.nvmErase4k ini, 3), (.nvmErase64k ini, 4), (.nvmReadId ini,
    5)] ∧ (s.boot.nvmBusy.isSome = true ∨ (4 ≤ s.boot.step ∧ s.boot.step ≤ 6 ∧ s.boot.halted = false) ∨ (op = 3 ∧
    s.fld Reg.BOOT_NVM_ADDR 24 0 % 4096 ≠ 0))) ∧
    (∃ (s : State) (o : NvmOp), s.settled ∧ s.boot.nvmBusy = some o ∧ 1 ≤ o.op ∧ o.op ≤ 5 ∧ o.len ≤ 256 ∧ Tab.wf
    (fun _ => (0xFF : Byte)) s.boot.nvm = true ∧ o.op = 1) ∧
    (∃ (s : State) (o : NvmOp), s.settled ∧ s.boot.nvmBusy = some o ∧ 1 ≤ o.op ∧ o.op ≤ 5 ∧ o.len ≤ 256 ∧ Tab.wf
    (fun _ => (0xFF : Byte)) s.boot.nvm = true ∧ o.op = 2) ∧
    (∃ (s : State) (o : NvmOp), s.settled ∧ s.boot.nvmBusy = some o ∧ 1 ≤ o.op ∧ o.op ≤ 5 ∧ o.len ≤ 256 ∧ Tab.wf
    (fun _ => (0xFF : Byte)) s.boot.nvm = true ∧ (o.op = 3 ∨ o.op = 4)) ∧
    (∃ (s : State) (o : NvmOp), s.settled ∧ s.boot.nvmBusy = some o ∧ 1 ≤ o.op ∧ o.op ≤ 5 ∧ o.len ≤ 256 ∧ Tab.wf
    (fun _ => (0xFF : Byte)) s.boot.nvm = true ∧ o.op = 5) ∧
    (∃ (s : State) (o : NvmOp), s.settled ∧ s.boot.nvmBusy = some o ∧ (o.op = 1 ∨ o.op = 5)) ∧
    (∃ (s : State) (m : Fin 4) (c : Instr) (w : Bool), s.settled ∧ (((∃ ini, c = .mcuRestart ini m ∧ s.mayAccess ini
    1 ∧ (10 ≤ ini → s.alone)) ∧ w = false) ∨ (c = .mcuWatchdog m ∧ s.rbit (Reg.BOOT_MCUn_CTRL m) 16 = true ∧ w =
    true)) ∧ (s.mcu m).state = .running ∧ (s.mcu m).corrupt = false ∧ w = true) ∧
    (∃ (s : State) (m : Fin 4) (c : Instr) (w : Bool), s.settled ∧ (((∃ ini, c = .mcuRestart ini m ∧ s.mayAccess ini
    1 ∧ (10 ≤ ini → s.alone)) ∧ w = false) ∨ (c = .mcuWatchdog m ∧ s.rbit (Reg.BOOT_MCUn_CTRL m) 16 = true ∧ w =
    true)) ∧ (s.mcu m).state = .running ∧ (s.mcu m).corrupt = false) :=
  ⟨⟨({ bootU with boot := { bootU.boot with halted := true, step := 5 } }), 0, 4, 4,
   (by unfold State.settled; decide +kernel), mayAccess_of _ _ _ (by decide +kernel),
   (by unfold State.armedFor; decide +kernel), (by decide +kernel)⟩,
   ⟨bootU, 0, (by unfold State.settled; decide +kernel), mayAccess_of _ _ _ (by decide +kernel),
   (by unfold State.armedFor; decide +kernel), (by decide +kernel)⟩,
   ⟨((bootU.setReg Reg.BOOT_FUSE_SEL 6).setReg (Reg.BOOT_FUSE_DATA 0) 5), 0, 6, _,
   (by unfold State.settled; decide +kernel), mayAccess_of _ _ _ (by decide +kernel),
   (by unfold State.armedFor; decide +kernel), rfl, (by decide +kernel)⟩,
   ⟨(bootU.setReg Reg.BOOT_FUSE_SEL 9), 0, 9, _, (by unfold State.settled; decide +kernel), mayAccess_of _ _ _
   (by decide +kernel), (by unfold State.armedFor; decide +kernel), rfl, (by decide +kernel)⟩,
   ⟨bootU, 0, 0, _, (by unfold State.settled; decide +kernel), mayAccess_of _ _ _ (by decide +kernel),
   (by unfold State.armedFor; decide +kernel), rfl, (by decide +kernel)⟩,
   ⟨({ (bootU.setReg Reg.BOOT_FUSE_SEL 8) with boot := { bootU.boot with fuses := [(8, ⟨77, true, false⟩)] } }), 0,
   8, _, (by unfold State.settled; decide +kernel), mayAccess_of _ _ _ (by decide +kernel),
   (by unfold State.armedFor; decide +kernel), rfl, (by decide +kernel)⟩,
   ⟨({ ready with boot := { ready.boot with fuseBusy := some (8, 3) } }), 8, 3,
   (by unfold State.settled; decide +kernel), (by decide +kernel)⟩,
   ⟨(bootU.setReg Reg.BOOT_NVM_ADDR 0x10000), 0, 1, (.nvmRead 0), (by unfold State.settled; decide +kernel),
   mayAccess_of _ _ _ (by decide +kernel), (by unfold State.armedFor; decide +kernel), (by decide +kernel)⟩,
   ⟨(bootU.setReg Reg.BOOT_NVM_ADDR 0x10000), 0, 2, (.nvmProgram 0), (by unfold State.settled; decide +kernel),
   mayAccess_of _ _ _ (by decide +kernel), (by unfold State.armedFor; decide +kernel), (by decide +kernel)⟩,
   ⟨(bootU.setReg Reg.BOOT_NVM_ADDR 0x11000), 0, 3, (.nvmErase4k 0), (by unfold State.settled; decide +kernel),
   mayAccess_of _ _ _ (by decide +kernel), (by unfold State.armedFor; decide +kernel), (by decide +kernel)⟩,
   ⟨(bootU.setReg Reg.BOOT_NVM_ADDR 0x10000), 0, 4, (.nvmErase64k 0), (by unfold State.settled; decide +kernel),
   mayAccess_of _ _ _ (by decide +kernel), (by unfold State.armedFor; decide +kernel), (by decide +kernel)⟩,
   ⟨(bootU.setReg Reg.BOOT_NVM_ADDR 5), 0, 3, (.nvmErase4k 0), (by unfold State.settled; decide +kernel),
   mayAccess_of _ _ _ (by decide +kernel), (by unfold State.armedFor; decide +kernel), (by decide +kernel)⟩,
   ⟨({ ready with boot := { ready.boot with nvmBusy := some ⟨1, 16, 256⟩, nvm := [(17, 4)] } }), ⟨1, 16, 256⟩,
   (by unfold State.settled; decide +kernel), (by decide +kernel)⟩,
   ⟨({ ready with boot := { ready.boot with nvmBusy := some ⟨2, 16, 8⟩, nvm := [(17, 4)] } }), ⟨2, 16, 8⟩,
   (by unfold State.settled; decide +kernel), (by decide +kernel)⟩,
   ⟨({ ready with boot := { ready.boot with nvmBusy := some ⟨3, 0, 8⟩, nvm := [(17, 4)] } }), ⟨3, 0, 8⟩,
   (by unfold State.settled; decide +kernel), (by decide +kernel)⟩,
   ⟨({ ready with boot := { ready.boot with nvmBusy := some ⟨5, 0, 8⟩, nvm := [(17, 4)] } }), ⟨5, 0, 8⟩,
   (by unfold State.settled; decide +kernel), (by decide +kernel)⟩,
   ⟨({ ready with boot := { ready.boot with nvmBusy := some ⟨1, 0, 8⟩, nvm := [(17, 4)] } }), ⟨1, 0, 8⟩,
   (by unfold State.settled; decide +kernel), (by decide +kernel)⟩,
   ⟨(mcuR.setReg (Reg.BOOT_MCUn_CTRL 2) 0x10064), 2, (.mcuWatchdog 2), true,
   (by unfold State.settled; decide +kernel), Or.inr ⟨rfl, (by decide +kernel), rfl⟩, (by decide +kernel)⟩,
   ⟨mcuR, 2, (.mcuRestart 3 2), false, (by unfold State.settled; decide +kernel), Or.inl ⟨⟨3, rfl, mayAccess_of _ _
   _ (by decide +kernel), fun h => absurd h (by decide)⟩, rfl⟩, (by decide +kernel)⟩⟩

end Boot

namespace Pwr

def inMode (m : Mode) : State := let s := inT .t4
  { s with boot := { s.boot with enables := 15 }, pwr := { s.pwr with mode := m, phase := if m = .cyclic then .sleepPeriod else .steady, periods := (40, 10) }, act := { s.act with sleepMs := 40, listenMs := 10 } }
def sw (d : Nat) : State := { ready with pwr := { ready.pwr with on := putBit ready.pwr.on d false, switching := putBit 0 d true } }
def asked (s : State) : State := s.setReg Reg.PWR_CTRL 1

/-- States that meet the hypotheses of each clause of `PowerModes`. -/
theorem met_powerModes :
    (∃ (s : State) (ini : Nat) (c : Instr) (m : Mode), s.settled ∧ s.mayAccess ini 3 ∧ s.rbit Reg.PWR_CTRL 0 = true
    ∧ (c, m) ∈ [(Instr.modeReqDoze ini, Mode.doze), (.modeReqCyclic ini, .cyclic), (.modeReqDeep ini, .deep),
    (.modeReqWarm ini, .warm)] ∧ s.inSequence = true) ∧
    (∃ (s : State) (ini : Nat) (c : Instr) (m : Mode), s.settled ∧ s.mayAccess ini 3 ∧ s.rbit Reg.PWR_CTRL 0 = true
    ∧ (c, m) ∈ [(Instr.modeReqDoze ini, Mode.doze), (.modeReqCyclic ini, .cyclic), (.modeReqDeep ini, .deep),
    (.modeReqWarm ini, .warm)] ∧ s.inSequence = false ∧ s.refuser m = none) ∧
    (∃ (s : State) (ini : Nat) (c : Instr) (m : Mode), s.settled ∧ s.mayAccess ini 3 ∧ s.rbit Reg.PWR_CTRL 0 = true
    ∧ (c, m) ∈ [(Instr.modeReqDoze ini, Mode.doze), (.modeReqCyclic ini, .cyclic), (.modeReqDeep ini, .deep),
    (.modeReqWarm ini, .warm)] ∧ s.inSequence = false ∧ s.refuser m = none) ∧
    (∃ (s : State) (ini : Nat) (c : Instr) (m : Mode) (code : Nat), s.settled ∧ s.mayAccess ini 3 ∧ s.rbit
    Reg.PWR_CTRL 0 = true ∧ (c, m) ∈ [(Instr.modeReqDoze ini, Mode.doze), (.modeReqCyclic ini, .cyclic),
    (.modeReqDeep ini, .deep), (.modeReqWarm ini, .warm)] ∧ s.inSequence = false ∧ s.refuser m = some code ∧ code ≠
    3) ∧
    (∃ (s : State) (ini : Nat) (c : Instr) (m : Mode), s.settled ∧ s.mayAccess ini 3 ∧ s.rbit Reg.PWR_CTRL 0 = true
    ∧ (c, m) ∈ [(Instr.modeReqDoze ini, Mode.doze), (.modeReqCyclic ini, .cyclic), (.modeReqDeep ini, .deep),
    (.modeReqWarm ini, .warm)] ∧ s.inSequence = false ∧ s.refuser m = some 3 ∧ s.act.uq.length < 64) ∧
    (∃ (s : State) (ini : Nat) (c : Instr) (m : Mode), s.settled ∧ s.mayAccess ini 3 ∧ s.rbit Reg.PWR_CTRL 0 = true
    ∧ (c, m) ∈ [(Instr.modeReqDoze ini, Mode.doze), (.modeReqCyclic ini, .cyclic), (.modeReqDeep ini, .deep),
    (.modeReqWarm ini, .warm)] ∧ s.act.uq.length < 64) ∧
    (∃ (s : State) (ini : Nat), s.settled ∧ s.solitary ∧ s.mayAccess ini 3 ∧ s.mayWake 0 ∧ s.rbit Reg.PWR_CTRL 0 =
    true ∧ s.inSequence = false) ∧
    (∃ (s : State) (ini : Nat), s.settled ∧ s.solitary ∧ s.mayAccess ini 3 ∧ s.inSequence = false ∧ s.pwr.mode =
    .active ∧ s.pwr.held = none) ∧
    (∃ (s : State) (m : MsgIn) (p : Nat), s.settled ∧ s.solitary ∧ s.hears m [.t4, .t7] ∧ m.body.length = 8 ∧ p =
    Crypto.beNat (Crypto.slice m.body 0 1) ∧ p ≤ 3 ∧ s.pwr.reqPending = none ∧ (s.pwr.mode = .active ∨ 2 ≤ p)) ∧
    (∃ (s : State) (m : MsgIn) (p : Nat), s.settled ∧ s.solitary ∧ s.hears m [.t4, .t7] ∧ s.mayWake 7 ∧
    m.body.length = 8 ∧ p = Crypto.beNat (Crypto.slice m.body 0 1) ∧ p ≤ 3 ∧ s.pwr.reqPending = none ∧ s.pwr.mode =
    .doze ∧ p = 0) ∧
    (∃ (s : State) (m : MsgIn) (p k : Nat), s.settled ∧ s.solitary ∧ s.hears m [.t4, .t7] ∧ m.body.length = 8 ∧ p =
    Crypto.beNat (Crypto.slice m.body 0 1) ∧ p ≤ 3 ∧ s.pwr.reqPending = some (.doze, k) ∧ s.pwr.mode = .active ∧ 1 ≤
    p ∧ s.inSequence = false ∧ 11 ≤ s.boot.step) ∧
    (∃ (s : State) (m : MsgIn) (p k : Nat), s.settled ∧ s.solitary ∧ s.hears m [.t4, .t7] ∧ m.body.length = 8 ∧ p =
    Crypto.beNat (Crypto.slice m.body 0 1) ∧ p ≤ 3 ∧ s.pwr.reqPending = some (.doze, k) ∧ s.pwr.mode = .active ∧ p =
    0) ∧
    (∃ (s : State) (m : MsgIn), s.settled ∧ s.solitary ∧ s.hears m [.t4, .t7] ∧ m.body = [] ∧ s.pwr.mode = .active ∧
    s.act.uq.length < 64) ∧
    (∃ (s : State) (m : MsgIn), s.settled ∧ s.solitary ∧ s.hears m [.t4, .t7] ∧ s.mayWake 4 ∧ m.body = [] ∧
    s.pwr.mode = .cyclic ∧ s.pwr.phase = .listen ∧ s.act.uq.length < 64) ∧
    (∃ (s : State) (m : Mode) (k : Nat), s.settled ∧ s.solitary ∧ s.pwr.reqPending = some (m, k)) ∧
    (∃ (s : State) (code : Nat), s.settled ∧ s.pwr.phase = .entering ∧ s.pwr.held = none ∧ s.refuser s.pwr.target =
    some code) ∧
    (∃ (s : State), s.settled ∧ s.solitary ∧ s.pwr.phase = .entering ∧ s.pwr.held = none ∧ s.refuser s.pwr.target =
    none ∧ s.pwr.target = .doze) ∧
    (∃ (s : State), s.settled ∧ s.pwr.phase = .entering ∧ s.pwr.held = none ∧ s.refuser s.pwr.target = none ∧
    s.pwr.target = .deep) ∧
    (∃ (s : State) (d : Nat), s.settled ∧ s.pwr.phase = .entering ∧ s.pwr.held = none ∧ s.refuser s.pwr.target =
    none ∧ s.pwr.target = .cyclic ∧ 4 ≤ d) ∧
    (∃ (s : State), s.settled ∧ s.pwr.phase = .entering ∧ s.pwr.held = none ∧ s.refuser s.pwr.target = none ∧
    s.pwr.target = .warm) :=
  ⟨⟨(asked (let s := inT .t4; { s with pwr := { s.pwr with phase := .waking } })), 3, (.modeReqCyclic 3), .cyclic,
   (by unfold State.settled; decide +kernel), mayAccess_of _ _ _ (by decide +kernel), (by decide +kernel)⟩,
   ⟨(asked (let s := inT .t4; { s with act := { s.act with permit := 3 } })), 3, (.modeReqDoze 3), .doze,
   (by unfold State.settled; decide +kernel), mayAccess_of _ _ _ (by decide +kernel), (by decide +kernel)⟩,
   ⟨(asked (stand 0x4B)), 3, (.modeReqWarm 3), .warm, (by unfold State.settled; decide +kernel), mayAccess_of _ _ _
   (by decide +kernel), (by decide +kernel)⟩,
   ⟨(asked (inT .t1)), 3, (.modeReqDeep 3), .deep, 2, (by unfold State.settled; decide +kernel), mayAccess_of _ _ _
   (by decide +kernel), (by decide +kernel)⟩,
   ⟨(asked (inT .t4)), 3, (.modeReqDoze 3), .doze, (by unfold State.settled; decide +kernel), mayAccess_of _ _ _
   (by decide +kernel), (by decide +kernel)⟩,
   ⟨(asked (inT .t4)), 3, (.modeReqDoze 3), .doze, (by unfold State.settled; decide +kernel), mayAccess_of _ _ _
   (by decide +kernel), (by decide +kernel)⟩,
   ⟨(asked (let s := inMode .cyclic; { s with pwr := { s.pwr with on := 0x7FF0 } })), 3,
   (by unfold State.settled; decide +kernel), (by unfold State.solitary; decide +kernel), mayAccess_of _ _ _
   (by decide +kernel), (by unfold State.mayWake; decide +kernel), (by decide +kernel)⟩,
   ⟨(asked ready), 3, (by unfold State.settled; decide +kernel), (by unfold State.solitary; decide +kernel),
   mayAccess_of _ _ _ (by decide +kernel), (by decide +kernel)⟩,
   ⟨(inT .t4), (bc [2, 0, 0, 9, 0, 5, 0, 0]), 2, (by unfold State.settled; decide +kernel),
   (by unfold State.solitary; decide +kernel), (by unfold State.hears; decide +kernel), (by decide +kernel)⟩,
   ⟨((inMode .doze).setReg Reg.PWR_WK_EN_DOZE 0x80), (bc [0, 0, 0, 9, 0, 5, 0, 0]), 0,
   (by unfold State.settled; decide +kernel), (by unfold State.solitary; decide +kernel),
   (by unfold State.hears; decide +kernel), (by unfold State.mayWake; decide +kernel), (by decide +kernel)⟩,
   ⟨(let s := inT .t4; { s with pwr := { s.pwr with reqPending := some (.doze, 4) } }), (bc [1, 0, 0, 9, 0, 5, 0,
   0]), 1, 4, (by unfold State.settled; decide +kernel), (by unfold State.solitary; decide +kernel),
   (by unfold State.hears; decide +kernel), (by decide +kernel)⟩,
   ⟨(let s := inT .t4; { s with pwr := { s.pwr with reqPending := some (.doze, 4) } }), (bc [0, 0, 0, 9, 0, 5, 0,
   0]), 0, 4, (by unfold State.settled; decide +kernel), (by unfold State.solitary; decide +kernel),
   (by unfold State.hears; decide +kernel), (by decide +kernel)⟩,
   ⟨(inT .t4), (bc []), (by unfold State.settled; decide +kernel), (by unfold State.solitary; decide +kernel),
   (by unfold State.hears; decide +kernel), (by decide +kernel)⟩,
   ⟨(let s := inMode .cyclic; { s with pwr := { s.pwr with phase := .listen } }), (bc []),
   (by unfold State.settled; decide +kernel), (by unfold State.solitary; decide +kernel),
   (by unfold State.hears; decide +kernel), (by unfold State.mayWake; decide +kernel), (by decide +kernel)⟩,
   ⟨(let s := inT .t4; { s with pwr := { s.pwr with reqPending := some (.doze, 4) } }), .doze, 4,
   (by unfold State.settled; decide +kernel), (by unfold State.solitary; decide +kernel), (by decide +kernel)⟩,
   ⟨(let s := inT .t4; { s with pwr := { s.pwr with phase := .entering, target := .doze } }), 3,
   (by unfold State.settled; decide +kernel), (by decide +kernel)⟩,
   ⟨(let s := inT .t4; { s with pwr := { s.pwr with phase := .entering, target := .doze }, act := { s.act with permit := 3 } }),
   (by unfold State.settled; decide +kernel), (by unfold State.solitary; decide +kernel), (by decide +kernel)⟩,
   ⟨(let s := inT .t4; { s with ntm := { s.ntm with state := .locked }, pwr := { s.pwr with phase := .entering, target := .deep }, act := { s.act with permit := 3 } }),
   (by unfold State.settled; decide +kernel), (by decide +kernel)⟩,
   ⟨(let s := inT .t4; { s with ntm := { s.ntm with state := .locked }, pwr := { s.pwr with phase := .entering, target := .cyclic }, act := { s.act with permit := 3, sleepMs := 40, listenMs := 10 } }),
   4, (by unfold State.settled; decide +kernel), (by decide +kernel)⟩,
   ⟨(let s := stand 0x4B; { s with pwr := { s.pwr with phase := .entering, target := .warm } }),
   (by unfold State.settled; decide +kernel), (by decide +kernel)⟩⟩

/-- States that meet the hypotheses of each clause of `PowerDomains`. -/
theorem met_powerDomains :
    (∃ (s : State) (c : Instr) (source : Nat), s.settled ∧ s.solitary ∧ ((c, source) = (.pin, 6) ∨ (∃ ch : Chan, (c,
    source) = (.optical ch, 1) ∧ s.chEnabled ch = true ∧ s.inReset ch 11 = false) ∨ (∃ (ch : Chan) (w : BitVec 64),
    (c, source) = (.pattern ch w, 2) ∧ s.chEnabled ch = true ∧ s.inReset ch 11 = false ∧ s.rbit Reg.PWR_WK_PAT_CTRL
    8 = true ∧ ((List.range 64).filter
    (fun i => w.getLsbD i != (if i < 32 then (s.reg Reg.PWR_WK_PAT_ALL_LO).getLsbD i else (s.reg Reg.PWR_WK_PAT_ALL_HI).getLsbD (i - 32)))).length
    ≤ s.fld Reg.PWR_WK_PAT_CTRL 2 0) ∨ (∃ (l : Fin 32) (p : Nat), (c, source) = (.hostEnergy l, 3) ∧ p < 8 ∧
    s.portEn p = true ∧ s.fld (Reg.HPE_Pp_CFG p) 7 3 ≤ l.val ∧ l.val < s.fld (Reg.HPE_Pp_CFG p) 7 3 + s.portLanes
    p)) ∧ s.mayWake source) ∧
    (∃ (s : State) (c : Instr) (source : Nat), s.settled ∧ s.solitary ∧ ((c, source) = (.pin, 6) ∨ (∃ ch : Chan, (c,
    source) = (.optical ch, 1) ∧ s.chEnabled ch = true ∧ s.inReset ch 11 = false) ∨ (∃ (ch : Chan) (w : BitVec 64),
    (c, source) = (.pattern ch w, 2) ∧ s.chEnabled ch = true ∧ s.inReset ch 11 = false ∧ s.rbit Reg.PWR_WK_PAT_CTRL
    8 = true ∧ ((List.range 64).filter
    (fun i => w.getLsbD i != (if i < 32 then (s.reg Reg.PWR_WK_PAT_ALL_LO).getLsbD i else (s.reg Reg.PWR_WK_PAT_ALL_HI).getLsbD (i - 32)))).length
    ≤ s.fld Reg.PWR_WK_PAT_CTRL 2 0) ∨ (∃ (l : Fin 32) (p : Nat), (c, source) = (.hostEnergy l, 3) ∧ p < 8 ∧
    s.portEn p = true ∧ s.fld (Reg.HPE_Pp_CFG p) 7 3 ≤ l.val ∧ l.val < s.fld (Reg.HPE_Pp_CFG p) 7 3 + s.portLanes
    p)) ∧ s.mayWake source) ∧
    (∃ (s : State) (c : Instr) (source : Nat), s.settled ∧ s.solitary ∧ ((c, source) = (.pin, 6) ∨ (∃ ch : Chan, (c,
    source) = (.optical ch, 1) ∧ s.chEnabled ch = true ∧ s.inReset ch 11 = false) ∨ (∃ (ch : Chan) (w : BitVec 64),
    (c, source) = (.pattern ch w, 2) ∧ s.chEnabled ch = true ∧ s.inReset ch 11 = false ∧ s.rbit Reg.PWR_WK_PAT_CTRL
    8 = true ∧ ((List.range 64).filter
    (fun i => w.getLsbD i != (if i < 32 then (s.reg Reg.PWR_WK_PAT_ALL_LO).getLsbD i else (s.reg Reg.PWR_WK_PAT_ALL_HI).getLsbD (i - 32)))).length
    ≤ s.fld Reg.PWR_WK_PAT_CTRL 2 0) ∨ (∃ (l : Fin 32) (p : Nat), (c, source) = (.hostEnergy l, 3) ∧ p < 8 ∧
    s.portEn p = true ∧ s.fld (Reg.HPE_Pp_CFG p) 7 3 ≤ l.val ∧ l.val < s.fld (Reg.HPE_Pp_CFG p) 7 3 + s.portLanes
    p)) ∧ s.mayWake source) ∧
    (∃ (s : State) (c : Instr) (source : Nat), s.settled ∧ s.solitary ∧ ((c, source) = (.pin, 6) ∨ (∃ ch : Chan, (c,
    source) = (.optical ch, 1) ∧ s.chEnabled ch = true ∧ s.inReset ch 11 = false) ∨ (∃ (ch : Chan) (w : BitVec 64),
    (c, source) = (.pattern ch w, 2) ∧ s.chEnabled ch = true ∧ s.inReset ch 11 = false ∧ s.rbit Reg.PWR_WK_PAT_CTRL
    8 = true ∧ ((List.range 64).filter
    (fun i => w.getLsbD i != (if i < 32 then (s.reg Reg.PWR_WK_PAT_ALL_LO).getLsbD i else (s.reg Reg.PWR_WK_PAT_ALL_HI).getLsbD (i - 32)))).length
    ≤ s.fld Reg.PWR_WK_PAT_CTRL 2 0) ∨ (∃ (l : Fin 32) (p : Nat), (c, source) = (.hostEnergy l, 3) ∧ p < 8 ∧
    s.portEn p = true ∧ s.fld (Reg.HPE_Pp_CFG p) 7 3 ≤ l.val ∧ l.val < s.fld (Reg.HPE_Pp_CFG p) 7 3 + s.portLanes
    p)) ∧ s.mayWake source) ∧
    (∃ (s : State) (c : Instr) (source : Nat), s.settled ∧ s.solitary ∧ ((c, source) = (.pin, 6) ∨ (∃ ch : Chan, (c,
    source) = (.optical ch, 1) ∧ s.chEnabled ch = true ∧ s.inReset ch 11 = false) ∨ (∃ (ch : Chan) (w : BitVec 64),
    (c, source) = (.pattern ch w, 2) ∧ s.chEnabled ch = true ∧ s.inReset ch 11 = false ∧ s.rbit Reg.PWR_WK_PAT_CTRL
    8 = true ∧ ((List.range 64).filter
    (fun i => w.getLsbD i != (if i < 32 then (s.reg Reg.PWR_WK_PAT_ALL_LO).getLsbD i else (s.reg Reg.PWR_WK_PAT_ALL_HI).getLsbD (i - 32)))).length
    ≤ s.fld Reg.PWR_WK_PAT_CTRL 2 0) ∨ (∃ (l : Fin 32) (p : Nat), (c, source) = (.hostEnergy l, 3) ∧ p < 8 ∧
    s.portEn p = true ∧ s.fld (Reg.HPE_Pp_CFG p) 7 3 ≤ l.val ∧ l.val < s.fld (Reg.HPE_Pp_CFG p) 7 3 + s.portLanes
    p)) ∧ s.pwr.mode = .active ∧ s.pwr.phase ≠ .entering ∧ s.pwr.held = none) ∧
    (∃ (s : State) (c : Instr) (source : Nat), s.settled ∧ s.solitary ∧ ((c, source) = (.pin, 6) ∨ (∃ ch : Chan, (c,
    source) = (.optical ch, 1) ∧ s.chEnabled ch = true ∧ s.inReset ch 11 = false) ∨ (∃ (ch : Chan) (w : BitVec 64),
    (c, source) = (.pattern ch w, 2) ∧ s.chEnabled ch = true ∧ s.inReset ch 11 = false ∧ s.rbit Reg.PWR_WK_PAT_CTRL
    8 = true ∧ ((List.range 64).filter
    (fun i => w.getLsbD i != (if i < 32 then (s.reg Reg.PWR_WK_PAT_ALL_LO).getLsbD i else (s.reg Reg.PWR_WK_PAT_ALL_HI).getLsbD (i - 32)))).length
    ≤ s.fld Reg.PWR_WK_PAT_CTRL 2 0) ∨ (∃ (l : Fin 32) (p : Nat), (c, source) = (.hostEnergy l, 3) ∧ p < 8 ∧
    s.portEn p = true ∧ s.fld (Reg.HPE_Pp_CFG p) 7 3 ≤ l.val ∧ l.val < s.fld (Reg.HPE_Pp_CFG p) 7 3 + s.portLanes
    p)) ∧ s.pwr.phase = .entering ∧ s.wakeEnabled s.pwr.target source = true ∧ s.pwr.held = none) ∧
    (∃ (s : State) (d : Fin 15), s.settled ∧ s.solitary ∧ s.pwr.switching.getLsbD d = true ∧ s.pwr.phase ≠ .waking ∧
    s.pwr.fullReset.getLsbD d = false ∧ 13 ≤ d.val) ∧
    (∃ (s : State) (d : Fin 15) (f : BitVec 15), s.settled ∧ s.solitary ∧ s.pwr.switching.getLsbD d = true ∧
    s.pwr.phase ≠ .waking ∧ s.pwr.fullReset.getLsbD d = false ∧ d.val < 4 ∧ f.getLsbD (10 + d.val) = true) ∧
    (∃ (s : State) (d : Fin 15) (f : BitVec 15), s.settled ∧ s.solitary ∧ s.pwr.switching.getLsbD d = true ∧
    s.pwr.phase ≠ .waking ∧ s.pwr.fullReset.getLsbD d = false ∧ d.val < 4 ∧ f.getLsbD (10 + d.val) = false) ∧
    (∃ (s : State) (d : Fin 15), s.settled ∧ s.solitary ∧ s.pwr.switching.getLsbD d = true ∧ s.pwr.phase ≠ .waking ∧
    s.pwr.fullReset.getLsbD d = false ∧ Tab.get 0 s.pwr.retries d < 3) ∧
    (∃ (s : State) (d : Fin 15), s.settled ∧ s.solitary ∧ s.pwr.switching.getLsbD d = true ∧ s.pwr.phase ≠ .waking ∧
    s.pwr.fullReset.getLsbD d = false ∧ 3 ≤ Tab.get 0 s.pwr.retries d) ∧
    (∃ (s : State) (d : Fin 15), s.settled ∧ s.solitary ∧ s.pwr.switching.getLsbD d = true ∧ s.pwr.phase ≠ .waking ∧
    s.pwr.fullReset.getLsbD d = true ∧ 4 ≤ d.val) ∧
    (∃ (s : State), s.settled ∧ s.solitary ∧ s.pwr.mode = .cyclic ∧ s.pwr.phase = .sleepPeriod ∧ s.act.sleepMs +
    s.act.listenMs ≠ 0) ∧
    (∃ (s : State) (d : Nat), s.settled ∧ s.solitary ∧ s.pwr.mode = .cyclic ∧ s.pwr.phase = .listen ∧
    s.pwr.periods.1 ≠ 0 ∧ (∀ n < 4, (s.ubtCh n).bursts = []) ∧ 4 ≤ d) ∧
    (∃ (s : State) (n : Nat), s.settled ∧ s.solitary ∧ s.pwr.mode = .cyclic ∧ s.pwr.phase = .listen ∧
    s.pwr.periods.1 ≠ 0 ∧ (∀ n < 4, (s.ubtCh n).bursts = []) ∧ n < 4 ∧ s.pwr.on.getLsbD n = true) ∧
    (∃ (s : State), s.settled ∧ s.solitary ∧ (s.pwr.mode = .cyclic ∨ s.pwr.mode = .warm)) :=
  ⟨⟨(inMode .doze), .pin, 6, (by unfold State.settled; decide +kernel), (by unfold State.solitary; decide +kernel),
   Or.inl rfl, (by unfold State.mayWake; decide +kernel)⟩,
   ⟨(inMode .deep), (.optical 1), 1, (by unfold State.settled; decide +kernel),
   (by unfold State.solitary; decide +kernel), Or.inr (Or.inl ⟨1, rfl, (by decide +kernel), (by decide +kernel)⟩),
   (by unfold State.mayWake; decide +kernel)⟩,
   ⟨((inMode .deep).setReg Reg.PWR_WK_EN_DEEP 0x24F), (.pattern 1 0xE1D28B7496C35A0F), 2,
   (by unfold State.settled; decide +kernel), (by unfold State.solitary; decide +kernel), Or.inr (Or.inr (Or.inl ⟨1,
   0xE1D28B7496C35A0F, rfl, (by decide +kernel), (by decide +kernel), (by decide +kernel), (by decide +kernel)⟩)),
   (by unfold State.mayWake; decide +kernel)⟩,
   ⟨((inMode .deep).setReg (Reg.HPE_Pp_CFG 0) 1), (.hostEnergy 0), 3, (by unfold State.settled; decide +kernel),
   (by unfold State.solitary; decide +kernel), Or.inr (Or.inr (Or.inr ⟨0, 0, rfl, (by decide), (by decide +kernel),
   (by decide +kernel), (by decide +kernel)⟩)), (by unfold State.mayWake; decide +kernel)⟩,
   ⟨(inMode .active), .pin, 6, (by unfold State.settled; decide +kernel),
   (by unfold State.solitary; decide +kernel), Or.inl rfl, (by decide +kernel)⟩,
   ⟨(let s := inMode .active; { s with pwr := { s.pwr with phase := .entering, target := .doze } }), .pin, 6,
   (by unfold State.settled; decide +kernel), (by unfold State.solitary; decide +kernel), Or.inl rfl,
   (by decide +kernel)⟩,
   ⟨(sw 13), 13, (by unfold State.settled; decide +kernel), (by unfold State.solitary; decide +kernel),
   (by decide +kernel)⟩,
   ⟨(sw 2), 2, 0x1000, (by unfold State.settled; decide +kernel), (by unfold State.solitary; decide +kernel),
   (by decide +kernel)⟩,
   ⟨(sw 2), 2, 0, (by unfold State.settled; decide +kernel), (by unfold State.solitary; decide +kernel),
   (by decide +kernel)⟩,
   ⟨(sw 3), 3, (by unfold State.settled; decide +kernel), (by unfold State.solitary; decide +kernel),
   (by decide +kernel)⟩,
   ⟨(let s := sw 5; { s with pwr := { s.pwr with retries := [(5, 3)] } }), 5,
   (by unfold State.settled; decide +kernel), (by unfold State.solitary; decide +kernel), (by decide +kernel)⟩,
   ⟨(let s := sw 4; { s with pwr := { s.pwr with fullReset := putBit 0 4 true } }), 4,
   (by unfold State.settled; decide +kernel), (by unfold State.solitary; decide +kernel), (by decide +kernel)⟩,
   ⟨(inMode .cyclic), (by unfold State.settled; decide +kernel), (by unfold State.solitary; decide +kernel),
   (by decide +kernel)⟩,
   ⟨(let s := inMode .cyclic; { s with pwr := { s.pwr with phase := .listen } }), 4,
   (by unfold State.settled; decide +kernel), (by unfold State.solitary; decide +kernel), (by decide +kernel)⟩,
   ⟨(let s := inMode .cyclic; { s with pwr := { s.pwr with phase := .listen } }), 3,
   (by unfold State.settled; decide +kernel), (by unfold State.solitary; decide +kernel), (by decide +kernel)⟩,
   ⟨(inMode .cyclic), (by unfold State.settled; decide +kernel), (by unfold State.solitary; decide +kernel),
   (by decide +kernel)⟩⟩

end Pwr

namespace Flt

def flm (d r k : Nat) : FaultMsg := ⟨sourceId d r 1 2, BitVec.ofNat 8 k, 5, 0⟩
def ruled (c : Nat) : State := ready.setRule 0 ⟨0x04000000, 0, BitVec.ofNat 32 (1 + c * 4096 + c * 256), 1000, 0, 0, 0, 0⟩
def oneRec : FltRecord := ⟨flm 1 2 0x7F, 0, 0, 64, 0, false, 0, true, none, 0, false⟩
def withRec (s : State) : State := { s with flt := { s.flt with record := some oneRec, recSeq := 3, conds := [(0, some (sourceId 1 2 1 2, 0x7F))] } }
def noRule : State := (ready.setRule 13 ⟨0, 0, 0, 0, 0, 0, 0, 0⟩).setRule 63 ⟨0, 0, 0, 0, 0, 0, 0, 0⟩

/-- States that meet the hypotheses of each clause of `FaultReactions`. -/
theorem met_faultReactions :
    (∃ (s : State) (m : FaultMsg), s.settled ∧ s.solitary ∧ s.flt.offered = [] ∧ m.kind ≠ 0x0B ∧ ¬ (srcDie m.source
    = 4 ∧ srcRegion m.source = 6) ∧ msgIsEnd m = true) ∧
    (∃ (s : State) (m : FaultMsg), s.settled ∧ s.solitary ∧ s.flt.offered = [] ∧ m.kind ≠ 0x0B ∧ ¬ (srcDie m.source
    = 4 ∧ srcRegion m.source = 6) ∧ msgIsEnd m = false ∧ m.flags = 0 ∧ s.ruleFor m = none ∧ s.flt.record = none) ∧
    (∃ (s : State) (m : FaultMsg) (r : FltRecord), s.settled ∧ s.solitary ∧ s.flt.offered = [] ∧ m.kind ≠ 0x0B ∧ ¬
    (srcDie m.source = 4 ∧ srcRegion m.source = 6) ∧ msgIsEnd m = false ∧ m.flags = 0 ∧ s.ruleFor m = none ∧
    s.flt.record = some r) ∧
    (∃ (s : State) (m : FaultMsg) (k code j : Nat), s.settled ∧ s.solitary ∧ s.flt.offered = [] ∧ m.kind ≠ 0x0B ∧ ¬
    (srcDie m.source = 4 ∧ srcRegion m.source = 6) ∧ msgIsEnd m = false ∧ m.flags = 0 ∧ s.ruleFor m = some k ∧
    (s.rule k).w0.getLsbD 27 = false ∧ bitsOf (s.rule k).w2.toNat 7 0 ≤ 1 ∧ bitsOf (s.rule k).w2.toNat 14 12 = code
    ∧ s.flt.record = none ∧ s.clusterIsolated m.source = false ∧ j ≠ k) ∧
    (∃ (s : State) (m : FaultMsg) (k code : Nat), s.settled ∧ s.solitary ∧ s.flt.offered = [] ∧ m.kind ≠ 0x0B ∧ ¬
    (srcDie m.source = 4 ∧ srcRegion m.source = 6) ∧ msgIsEnd m = false ∧ m.flags = 0 ∧ s.ruleFor m = some k ∧
    (s.rule k).w0.getLsbD 27 = false ∧ bitsOf (s.rule k).w2.toNat 7 0 ≤ 1 ∧ bitsOf (s.rule k).w2.toNat 14 12 = code
    ∧ s.flt.record = none ∧ s.clusterIsolated m.source = false ∧ code = 1) ∧
    (∃ (s : State) (m : FaultMsg) (k code n : Nat), s.settled ∧ s.solitary ∧ s.quiet ∧ s.flt.offered = [] ∧ m.kind ≠
    0x0B ∧ ¬ (srcDie m.source = 4 ∧ srcRegion m.source = 6) ∧ msgIsEnd m = false ∧ m.flags = 0 ∧ s.ruleFor m = some
    k ∧ (s.rule k).w0.getLsbD 27 = false ∧ bitsOf (s.rule k).w2.toNat 7 0 ≤ 1 ∧ bitsOf (s.rule k).w2.toNat 14 12 =
    code ∧ s.flt.record = none ∧ s.clusterIsolated m.source = false ∧ code = 5 ∧ srcDie m.source < 4 ∧ n < 4 ∧ n ≠
    srcDie m.source) ∧
    (∃ (s : State) (m : FaultMsg) (k code : Nat), s.settled ∧ s.solitary ∧ s.quiet ∧ s.flt.offered = [] ∧ m.kind ≠
    0x0B ∧ ¬ (srcDie m.source = 4 ∧ srcRegion m.source = 6) ∧ msgIsEnd m = false ∧ m.flags = 0 ∧ s.ruleFor m = some
    k ∧ (s.rule k).w0.getLsbD 27 = false ∧ bitsOf (s.rule k).w2.toNat 7 0 ≤ 1 ∧ bitsOf (s.rule k).w2.toNat 14 12 =
    code ∧ s.flt.record = none ∧ s.clusterIsolated m.source = false ∧ code = 7 ∧ s.flt.safe = none ∧ srcDie m.source
    < 6) ∧
    (∃ (s : State) (region : Fin 16) (r : RegionReset), s.settled ∧ s.solitary ∧ s.quiet ∧ region.val ∉ [1, 2, 11,
    12, 14, 15] ∧ s.flt.resetting.find? (fun r => srcDie r.source = 4 ∧ srcRegion r.source = region.val) = some r ∧
    s.flt.safe = none ∧ s.pwr.mode = .active ∧ s.pwr.held = none) ∧
    (∃ (s : State) (ini k w : Nat), s.settled ∧ s.solitary ∧ s.mayAccess ini 4 ∧ k = s.fld Reg.FLT_RULE_SEL 5 0 ∧ w
    = s.fld Reg.FLT_RULE_ADDR 2 0) :=
  ⟨⟨(withRec ready), ({ flm 1 2 0x7F with flags := 2 }), (by unfold State.settled; decide +kernel),
   (by unfold State.solitary; decide +kernel), (by decide +kernel)⟩,
   ⟨noRule, (flm 1 2 0x7F), (by unfold State.settled; decide +kernel), (by unfold State.solitary; decide +kernel),
   (by decide +kernel)⟩,
   ⟨(withRec noRule), (flm 1 2 0x7E), oneRec, (by unfold State.settled; decide +kernel),
   (by unfold State.solitary; decide +kernel), (by decide +kernel)⟩,
   ⟨(ruled 0), (flm 1 2 0x7F), 0, 0, 1, (by unfold State.settled; decide +kernel),
   (by unfold State.solitary; decide +kernel), (by decide +kernel)⟩,
   ⟨(ruled 1), (flm 1 2 0x7F), 0, 1, (by unfold State.settled; decide +kernel),
   (by unfold State.solitary; decide +kernel), (by decide +kernel)⟩,
   ⟨(ruled 5), (flm 1 2 0x7F), 0, 5, 0, (by unfold State.settled; decide +kernel),
   (by unfold State.solitary; decide +kernel), (by unfold State.quiet; decide +kernel), (by decide +kernel)⟩,
   ⟨(ruled 7), (flm 1 2 0x7F), 0, 7, (by unfold State.settled; decide +kernel),
   (by unfold State.solitary; decide +kernel), (by unfold State.quiet; decide +kernel), (by decide +kernel)⟩,
   ⟨({ ready with flt := { ready.flt with resetting := [⟨sourceId 4 4 0 0, []⟩] } }), 4, ⟨sourceId 4 4 0 0, []⟩,
   (by unfold State.settled; decide +kernel), (by unfold State.solitary; decide +kernel),
   (by unfold State.quiet; decide +kernel), (by decide +kernel)⟩,
   ⟨ready, 3, _, _, (by unfold State.settled; decide +kernel), (by unfold State.solitary; decide +kernel),
   mayAccess_of _ _ _ (by decide +kernel), rfl, rfl⟩⟩

/-- States that meet the hypotheses of each clause of `FaultCommands`. -/
theorem met_faultCommands :
    (∃ (s : State) (n : Fin 4) (c : Instr), s.settled ∧ s.solitary ∧ s.quiet ∧ ((c = .podAutoRestart n ∧
    s.flt.autoRunning.getLsbD n = true) ∨ (∃ (ini : Nat) (v : Word), c = .podRestart ini v ∧ s.mayAccess ini 4 ∧ ∀ j
    < 4, v.getLsbD j = decide (j = n.val))) ∧ s.pwr.on.getLsbD n = true ∧ (s.pod n).restarting = false ∧ (s.ubtCh
    n).bursts = []) ∧
    (∃ (s : State) (n : Fin 4) (c : Instr), s.settled ∧ s.solitary ∧ s.quiet ∧ ((c = .podAutoRestart n ∧
    s.flt.autoRunning.getLsbD n = true) ∨ (∃ (ini : Nat) (v : Word), c = .podRestart ini v ∧ s.mayAccess ini 4 ∧ ∀ j
    < 4, v.getLsbD j = decide (j = n.val))) ∧ s.pwr.on.getLsbD n = true ∧ (s.pod n).restarting = false ∧ (s.ubtCh
    n).bursts = []) ∧
    (∃ (s : State) (ini die region : Nat) (v : Word), s.settled ∧ s.solitary ∧ s.quiet ∧ s.mayAccess ini 4 ∧
    s.armedFor 4 ini ∧ v.getLsbD 31 = true ∧ die = v.toNat % 8 ∧ region = v.toNat / 8 % 16 ∧ (5 ≤ die ∨ region =
    15)) ∧
    (∃ (s : State) (ini die region : Nat) (v : Word), s.settled ∧ s.solitary ∧ s.quiet ∧ s.mayAccess ini 4 ∧
    s.armedFor 4 ini ∧ v.getLsbD 31 = true ∧ die = v.toNat % 8 ∧ region = v.toNat / 8 % 16 ∧ (5 ≤ die ∨ region =
    15)) ∧
    (∃ (s : State) (ini die region : Nat) (v : Word), s.settled ∧ s.solitary ∧ s.quiet ∧ s.mayAccess ini 4 ∧
    s.armedFor 4 ini ∧ v.getLsbD 31 = true ∧ die = v.toNat % 8 ∧ region = v.toNat / 8 % 16 ∧ die = 4 ∧ region = 4 ∧
    s.flt.resetting = []) ∧
    (∃ (s : State) (ini die region : Nat) (v : Word), s.settled ∧ s.solitary ∧ s.quiet ∧ s.mayAccess ini 4 ∧
    s.armedFor 4 ini ∧ v.getLsbD 31 = true ∧ die = v.toNat % 8 ∧ region = v.toNat / 8 % 16 ∧ die < 5 ∧ region < 15 ∧
    s.inReset die region = true) ∧
    (∃ (s : State) (ini die region : Nat) (v : Word), s.settled ∧ s.solitary ∧ s.quiet ∧ s.mayAccess ini 4 ∧
    s.armedFor 4 ini ∧ v.getLsbD 31 = true ∧ die = v.toNat % 8 ∧ region = v.toNat / 8 % 16 ∧ die < 4 ∧ region = 6 ∧
    s.flt.resetting = []) ∧
    (∃ (s : State) (ini : Nat) (v : Word), s.settled ∧ s.solitary ∧ s.quiet ∧ s.mayAccess ini 4 ∧ s.armedFor 4 ini ∧
    v.getLsbD 0 = true) ∧
    (∃ (s : State) (ini : Nat) (v : Word), s.settled ∧ s.solitary ∧ s.quiet ∧ s.mayAccess ini 4 ∧
    s.flt.record.isSome = true ∧ v.toNat % 256 = s.flt.recSeq.toNat) ∧
    (∃ (s : State) (ini : Nat) (v : Word), s.settled ∧ s.solitary ∧ s.quiet ∧ s.mayAccess ini 4 ∧ (s.flt.record =
    none ∨ v.toNat % 256 ≠ s.flt.recSeq.toNat)) :=
  ⟨⟨ready, 3, (.podRestart 3 8), (by unfold State.settled; decide +kernel),
   (by unfold State.solitary; decide +kernel), (by unfold State.quiet; decide +kernel), Or.inr ⟨3, 8, rfl,
   mayAccess_of _ _ _ (by decide +kernel), by decide⟩, (by decide +kernel)⟩,
   ⟨({ ready with flt := { ready.flt with autoRunning := 2 } }), 1, (.podAutoRestart 1),
   (by unfold State.settled; decide +kernel), (by unfold State.solitary; decide +kernel),
   (by unfold State.quiet; decide +kernel), Or.inl ⟨rfl, by decide +kernel⟩, (by decide +kernel)⟩,
   ⟨(unlocked 4), 0, 5, 0, 0x80000005, (by unfold State.settled; decide +kernel),
   (by unfold State.solitary; decide +kernel), (by unfold State.quiet; decide +kernel), mayAccess_of _ _ _
   (by decide +kernel), (by unfold State.armedFor; decide +kernel), (by decide +kernel)⟩,
   ⟨(unlocked 4), 0, 0, 15, 0x80000078, (by unfold State.settled; decide +kernel),
   (by unfold State.solitary; decide +kernel), (by unfold State.quiet; decide +kernel), mayAccess_of _ _ _
   (by decide +kernel), (by unfold State.armedFor; decide +kernel), (by decide +kernel)⟩,
   ⟨(unlocked 4), 0, 4, 4, 0x80000024, (by unfold State.settled; decide +kernel),
   (by unfold State.solitary; decide +kernel), (by unfold State.quiet; decide +kernel), mayAccess_of _ _ _
   (by decide +kernel), (by unfold State.armedFor; decide +kernel), (by decide +kernel)⟩,
   ⟨({ unlocked 4 with flt := { ready.flt with resetting := [⟨sourceId 4 4 0 0, [5]⟩] } }), 0, 4, 4, 0x80000024,
   (by unfold State.settled; decide +kernel), (by unfold State.solitary; decide +kernel),
   (by unfold State.quiet; decide +kernel), mayAccess_of _ _ _ (by decide +kernel),
   (by unfold State.armedFor; decide +kernel), (by decide +kernel)⟩,
   ⟨(unlocked 4), 0, 3, 6, 0x80000033, (by unfold State.settled; decide +kernel),
   (by unfold State.solitary; decide +kernel), (by unfold State.quiet; decide +kernel), mayAccess_of _ _ _
   (by decide +kernel), (by unfold State.armedFor; decide +kernel), (by decide +kernel)⟩,
   ⟨((unlocked 4).setReg Reg.FLT_INJ_SRC 0x12345678), 0, 1, (by unfold State.settled; decide +kernel),
   (by unfold State.solitary; decide +kernel), (by unfold State.quiet; decide +kernel), mayAccess_of _ _ _
   (by decide +kernel), (by unfold State.armedFor; decide +kernel), (by decide +kernel)⟩,
   ⟨(withRec ready), 3, 3, (by unfold State.settled; decide +kernel), (by unfold State.solitary; decide +kernel),
   (by unfold State.quiet; decide +kernel), mayAccess_of _ _ _ (by decide +kernel), (by decide +kernel)⟩,
   ⟨(withRec ready), 3, 4, (by unfold State.settled; decide +kernel), (by unfold State.solitary; decide +kernel),
   (by unfold State.quiet; decide +kernel), mayAccess_of _ _ _ (by decide +kernel), (by decide +kernel)⟩⟩

end Flt

namespace Ntm

def lat : Latch := ⟨1, 40, 256000000, 50, 0⟩
def timed (st : TimeState) : State := { ready with
  ntm := { ready.ntm with state := st, tch := some 1, latches := [lat], prevTick := some 10, lastSf := some 39, acceptTick := some 0, everSet := true, time := 256001000 } }
def todM (sf t : Nat) : MsgIn := bc (Crypto.beBytes 6 sf ++ ntimeBytes t ++ [1, 0, 0])
def hearT (st : TimeState) : State := let s := timed st; { s with act := { s.act with state := .t1 } }

/-- States that meet the hypotheses of each clause of `NetworkTime`. -/
theorem met_networkTime :
    (∃ (s : State) (m : MsgIn) (tod : Tod) (c : Instr) (l : Latch) (e : Int), s.settled ∧ s.solitary ∧ ((c =
    .todHeldApply ∧ s.ntm.heldTod = some tod) ∨ (c = .timeOfDay m ∧ s.hears m t1to7 ∧ m.body.length = 20 ∧ ntimeOk
    (Crypto.slice m.body 6 11) = true ∧ tod = ⟨Crypto.beNat (Crypto.slice m.body 0 6), ntimeOf (Crypto.slice m.body
    6 11), Crypto.beNat (Crypto.slice m.body 17 1) % 2 == 1, s.ticks⟩)) ∧ e = tod.launch + l.dDown - l.mark ∧
    s.todBarred tod = false ∧ s.todLatch tod = some l ∧ s.rbit Reg.NTM_CTRL 1 = true ∧ s.ntm.state = .unset) ∧
    (∃ (s : State) (m : MsgIn) (tod : Tod) (c : Instr) (l : Latch) (e : Int) (p : Nat) (i : Int), s.settled ∧
    s.solitary ∧ ((c = .todHeldApply ∧ s.ntm.heldTod = some tod) ∨ (c = .timeOfDay m ∧ s.hears m t1to7 ∧
    m.body.length = 20 ∧ ntimeOk (Crypto.slice m.body 6 11) = true ∧ tod = ⟨Crypto.beNat (Crypto.slice m.body 0 6),
    ntimeOf (Crypto.slice m.body 6 11), Crypto.beNat (Crypto.slice m.body 17 1) % 2 == 1, s.ticks⟩)) ∧ e =
    tod.launch + l.dDown - l.mark ∧ i = clampRate (s.ntm.rateI + (e * 2 ^ 32).tdiv ((l.tick : Int) - p) / 2 ^ s.fld
    Reg.NTM_SERVO 7 4) ∧ s.todBarred tod = false ∧ s.todLatch tod = some l ∧ s.rbit Reg.NTM_CTRL 1 = true ∧
    s.ntm.state = .acquire ∧ e.natAbs ≤ s.stepThr ∧ s.ntm.prevTick = some p ∧ p < l.tick ∧ e.natAbs ≤ s.fld
    Reg.NTM_SERVO 31 16 ∧ s.fld Reg.NTM_SERVO 15 8 ≤ s.ntm.lockCount + 1) ∧
    (∃ (s : State) (m : MsgIn) (tod : Tod) (c : Instr) (l : Latch) (e : Int) (p : Nat) (i : Int), s.settled ∧
    s.solitary ∧ ((c = .todHeldApply ∧ s.ntm.heldTod = some tod) ∨ (c = .timeOfDay m ∧ s.hears m t1to7 ∧
    m.body.length = 20 ∧ ntimeOk (Crypto.slice m.body 6 11) = true ∧ tod = ⟨Crypto.beNat (Crypto.slice m.body 0 6),
    ntimeOf (Crypto.slice m.body 6 11), Crypto.beNat (Crypto.slice m.body 17 1) % 2 == 1, s.ticks⟩)) ∧ e =
    tod.launch + l.dDown - l.mark ∧ i = clampRate (s.ntm.rateI + (e * 2 ^ 32).tdiv ((l.tick : Int) - p) / 2 ^ s.fld
    Reg.NTM_SERVO 7 4) ∧ s.todBarred tod = false ∧ s.todLatch tod = some l ∧ s.rbit Reg.NTM_CTRL 1 = true ∧
    s.ntm.state = .acquire ∧ e.natAbs ≤ s.stepThr ∧ s.ntm.prevTick = some p ∧ p < l.tick ∧ e.natAbs ≤ s.fld
    Reg.NTM_SERVO 31 16 ∧ s.ntm.lockCount + 1 < s.fld Reg.NTM_SERVO 15 8) ∧
    (∃ (s : State) (m : MsgIn) (tod : Tod) (c : Instr) (l : Latch) (e : Int) (p : Nat) (i : Int), s.settled ∧
    s.solitary ∧ ((c = .todHeldApply ∧ s.ntm.heldTod = some tod) ∨ (c = .timeOfDay m ∧ s.hears m t1to7 ∧
    m.body.length = 20 ∧ ntimeOk (Crypto.slice m.body 6 11) = true ∧ tod = ⟨Crypto.beNat (Crypto.slice m.body 0 6),
    ntimeOf (Crypto.slice m.body 6 11), Crypto.beNat (Crypto.slice m.body 17 1) % 2 == 1, s.ticks⟩)) ∧ e =
    tod.launch + l.dDown - l.mark ∧ i = clampRate (s.ntm.rateI + (e * 2 ^ 32).tdiv ((l.tick : Int) - p) / 2 ^ s.fld
    Reg.NTM_SERVO 7 4) ∧ s.todBarred tod = false ∧ s.todLatch tod = some l ∧ s.rbit Reg.NTM_CTRL 1 = true ∧
    s.ntm.state = .acquire ∧ e.natAbs ≤ s.stepThr ∧ s.ntm.prevTick = some p ∧ p < l.tick ∧ s.fld Reg.NTM_SERVO 31 16
    < e.natAbs) ∧
    (∃ (s : State) (m : MsgIn) (tod : Tod) (c : Instr) (l : Latch) (e : Int) (p : Nat) (i : Int), s.settled ∧
    s.solitary ∧ ((c = .todHeldApply ∧ s.ntm.heldTod = some tod) ∨ (c = .timeOfDay m ∧ s.hears m t1to7 ∧
    m.body.length = 20 ∧ ntimeOk (Crypto.slice m.body 6 11) = true ∧ tod = ⟨Crypto.beNat (Crypto.slice m.body 0 6),
    ntimeOf (Crypto.slice m.body 6 11), Crypto.beNat (Crypto.slice m.body 17 1) % 2 == 1, s.ticks⟩)) ∧ e =
    tod.launch + l.dDown - l.mark ∧ i = clampRate (s.ntm.rateI + (e * 2 ^ 32).tdiv ((l.tick : Int) - p) / 2 ^ s.fld
    Reg.NTM_SERVO 7 4) ∧ s.todBarred tod = false ∧ s.todLatch tod = some l ∧ s.rbit Reg.NTM_CTRL 1 = true ∧
    s.ntm.state = .acquire ∧ e.natAbs ≤ s.stepThr ∧ s.ntm.prevTick = some p ∧ p < l.tick ∧ (s.fld Reg.NTM_SERVO 31
    16 < e.natAbs ∨ s.ntm.lockCount + 1 < s.fld Reg.NTM_SERVO 15 8)) ∧
    (∃ (s : State) (m : MsgIn) (tod : Tod) (c : Instr) (l : Latch) (e : Int), s.settled ∧ s.solitary ∧ ((c =
    .todHeldApply ∧ s.ntm.heldTod = some tod) ∨ (c = .timeOfDay m ∧ s.hears m t1to7 ∧ m.body.length = 20 ∧ ntimeOk
    (Crypto.slice m.body 6 11) = true ∧ tod = ⟨Crypto.beNat (Crypto.slice m.body 0 6), ntimeOf (Crypto.slice m.body
    6 11), Crypto.beNat (Crypto.slice m.body 17 1) % 2 == 1, s.ticks⟩)) ∧ e = tod.launch + l.dDown - l.mark ∧
    s.todBarred tod = false ∧ s.todLatch tod = some l ∧ s.rbit Reg.NTM_CTRL 1 = true ∧ s.ntm.state = .locked ∧
    e.natAbs ≤ s.stepThr) ∧
    (∃ (s : State) (m : MsgIn) (tod : Tod) (c : Instr) (l : Latch) (e : Int), s.settled ∧ s.solitary ∧ ((c =
    .todHeldApply ∧ s.ntm.heldTod = some tod) ∨ (c = .timeOfDay m ∧ s.hears m t1to7 ∧ m.body.length = 20 ∧ ntimeOk
    (Crypto.slice m.body 6 11) = true ∧ tod = ⟨Crypto.beNat (Crypto.slice m.body 0 6), ntimeOf (Crypto.slice m.body
    6 11), Crypto.beNat (Crypto.slice m.body 17 1) % 2 == 1, s.ticks⟩)) ∧ e = tod.launch + l.dDown - l.mark ∧
    s.todBarred tod = false ∧ s.todLatch tod = some l ∧ s.rbit Reg.NTM_CTRL 1 = true ∧ s.ntm.state = .holdover ∧
    s.rbit Reg.NTM_CTRL 3 = true) ∧
    (∃ (s : State) (m : MsgIn) (tod : Tod), s.settled ∧ s.solitary ∧ s.hears m t1to7 ∧ m.body.length = 20 ∧ ntimeOk
    (Crypto.slice m.body 6 11) = true ∧ tod = ⟨Crypto.beNat (Crypto.slice m.body 0 6), ntimeOf (Crypto.slice m.body
    6 11), Crypto.beNat (Crypto.slice m.body 17 1) % 2 == 1, s.ticks⟩ ∧ (s.ntm.tch = none ∨ s.ntm.forced = true ∨ (∃
    p, s.ntm.lastSf = some p ∧ tod.sf ≤ p) ∨ s.todLatch tod = none) ∧ (s.ntm.tch = none ∨ s.ntm.forced = true ∨ (∃
    p, s.ntm.lastSf = some p ∧ tod.sf ≤ p) ∨ s.todBegun tod = true)) ∧
    (∃ (s : State) (m : MsgIn) (tod : Tod), s.settled ∧ s.solitary ∧ s.hears m t1to7 ∧ m.body.length = 20 ∧ ntimeOk
    (Crypto.slice m.body 6 11) = true ∧ tod = ⟨Crypto.beNat (Crypto.slice m.body 0 6), ntimeOf (Crypto.slice m.body
    6 11), Crypto.beNat (Crypto.slice m.body 17 1) % 2 == 1, s.ticks⟩ ∧ (s.ntm.tch = none ∨ s.ntm.forced = true ∨ (∃
    p, s.ntm.lastSf = some p ∧ tod.sf ≤ p) ∨ s.todLatch tod = none) ∧ s.todBarred tod = false ∧ s.todBegun tod =
    false) ∧
    (∃ (s : State) (tod : Tod), s.settled ∧ s.solitary ∧ s.ntm.heldTod = some tod ∧ s.todLatch tod = none) ∧
    (∃ (s : State) (k ini : Nat) (c : Instr) (f : Bool), s.settled ∧ s.solitary ∧ (((c, f) = (.todTimeout, false) ∧
    s.ntm.acceptTick = some k) ∨ ((c, f) = (.ntmHold ini, true) ∧ s.mayAccess ini 5)) ∧ (s.ntm.state = .acquire ∨
    s.ntm.state = .locked) ∧ f = false) ∧
    (∃ (s : State) (k ini : Nat) (c : Instr) (f : Bool), s.settled ∧ s.solitary ∧ (((c, f) = (.todTimeout, false) ∧
    s.ntm.acceptTick = some k) ∨ ((c, f) = (.ntmHold ini, true) ∧ s.mayAccess ini 5)) ∧ (s.ntm.state = .acquire ∨
    s.ntm.state = .locked)) ∧
    (∃ (s : State), s.settled ∧ s.solitary ∧ s.ntm.state = .holdover ∧ s.ntm.specEnded = false) ∧
    (∃ (s : State) (ini : Nat), s.settled ∧ s.solitary ∧ s.mayAccess ini 5) ∧
    (∃ (s : State) (ini x : Nat), s.settled ∧ s.solitary ∧ s.mayAccess ini 5 ∧ s.armedFor 5 ini ∧ x = mkTime ((s.reg
    Reg.NTM_SET_S_LO).toNat + s.fld Reg.NTM_SET_S_HI 15 0 * 2 ^ 32) (s.fld Reg.NTM_SET_NS 29 0) (s.fld
    Reg.NTM_SET_PP 7 0) ∧ ini < 10 ∧ (∀ i < 16, (s.tcSlot i).status ≠ 1) ∧ (∀ p ∈ s.lsc.keys, p.2.sched = none) ∧
    s.pwr.mode = .active ∧ s.fld Reg.NTM_SET_NS 29 0 ≤ 999999999 ∧ (s.ntm.state = .unset ∨ s.ntm.state = .locked)) ∧
    (∃ (s : State) (ini x : Nat), s.settled ∧ s.solitary ∧ s.mayAccess ini 5 ∧ s.armedFor 5 ini ∧ x = mkTime ((s.reg
    Reg.NTM_SET_S_LO).toNat + s.fld Reg.NTM_SET_S_HI 15 0 * 2 ^ 32) (s.fld Reg.NTM_SET_NS 29 0) (s.fld
    Reg.NTM_SET_PP 7 0) ∧ ini < 10 ∧ (∀ i < 16, (s.tcSlot i).status ≠ 1) ∧ (∀ p ∈ s.lsc.keys, p.2.sched = none) ∧
    s.pwr.mode = .active ∧ s.fld Reg.NTM_SET_NS 29 0 ≤ 999999999 ∧ s.ntm.state = .manual) ∧
    (∃ (s : State) (ini x : Nat), s.settled ∧ s.solitary ∧ s.mayAccess ini 5 ∧ s.armedFor 5 ini ∧ x = mkTime ((s.reg
    Reg.NTM_SET_S_LO).toNat + s.fld Reg.NTM_SET_S_HI 15 0 * 2 ^ 32) (s.fld Reg.NTM_SET_NS 29 0) (s.fld
    Reg.NTM_SET_PP 7 0) ∧ ini < 10 ∧ (∀ i < 16, (s.tcSlot i).status ≠ 1) ∧ (∀ p ∈ s.lsc.keys, p.2.sched = none) ∧
    s.pwr.mode = .active ∧ 999999999 < s.fld Reg.NTM_SET_NS 29 0) ∧
    (∃ (s : State) (ini x u : Nat), s.settled ∧ s.solitary ∧ s.mayAccess ini 5 ∧ s.armedFor 5 ini ∧ x = mkTime
    ((s.reg Reg.NTM_SET_S_LO).toNat + s.fld Reg.NTM_SET_S_HI 15 0 * 2 ^ 32) (s.fld Reg.NTM_SET_NS 29 0) (s.fld
    Reg.NTM_SET_PP 7 0) ∧ ini < 10 ∧ (∀ i < 16, (s.tcSlot i).status ≠ 1) ∧ (∀ p ∈ s.lsc.keys, p.2.sched = none) ∧
    s.pwr.mode = .active ∧ (s.passTicks 1).now = u) ∧
    (∃ (s : State) (ini x : Nat), s.settled ∧ s.solitary ∧ s.mayAccess ini 5 ∧ s.armedFor 5 ini ∧ x = mkTime ((s.reg
    Reg.NTM_SET_S_LO).toNat + s.fld Reg.NTM_SET_S_HI 15 0 * 2 ^ 32) (s.fld Reg.NTM_SET_NS 29 0) (s.fld
    Reg.NTM_SET_PP 7 0) ∧ ini < 10 ∧ (∀ i < 16, (s.tcSlot i).status ≠ 1) ∧ (∀ p ∈ s.lsc.keys, p.2.sched = none) ∧
    s.pwr.mode = .active ∧ s.ntm.state = .locked) ∧
    (∃ (s : State) (ini x : Nat), s.settled ∧ s.solitary ∧ s.mayAccess ini 5 ∧ s.armedFor 5 ini ∧ x = mkTime ((s.reg
    Reg.NTM_SET_S_LO).toNat + s.fld Reg.NTM_SET_S_HI 15 0 * 2 ^ 32) (s.fld Reg.NTM_SET_NS 29 0) (s.fld
    Reg.NTM_SET_PP 7 0) ∧ ini < 10 ∧ (∀ i < 16, (s.tcSlot i).status ≠ 1) ∧ (∀ p ∈ s.lsc.keys, p.2.sched = none) ∧
    s.pwr.mode = .active ∧ s.ntm.state = .unset) ∧
    (∃ (s : State) (ini : Nat) (v : Word), s.settled ∧ s.solitary ∧ s.mayAccess ini 5 ∧ s.rbit Reg.NTM_CTRL 1 = true
    ∧ v.getLsbD 1 = false) ∧
    (∃ (s : State) (ini : Nat) (v : Word), s.settled ∧ s.solitary ∧ s.mayAccess ini 5 ∧ s.rbit Reg.NTM_CTRL 1 =
    false ∧ v.getLsbD 1 = true ∧ s.act.anchor = none ∧ v.getLsbD 4 = false ∧ (List.range 4).any s.timeEligible =
    true) ∧
    (∃ (s : State) (p q : Nat), s.settled ∧ s.solitary ∧ s.ntm.state = .locked ∧ s.ntm.hrefLast = some p ∧ p < q ∧ q
    ≤ s.now) :=
  ⟨⟨(hearT .unset), (todM 40 256000100), ⟨40, 256000100, true, 0⟩, (.timeOfDay (todM 40 256000100)), lat, _,
   (by unfold State.settled; decide +kernel), (by unfold State.solitary; decide +kernel),
   (by unfold State.hears; decide +kernel), rfl, (by decide +kernel)⟩,
   ⟨(let s := hearT .acquire; { s with ntm := { s.ntm with lockCount := 7 } }), (todM 40 256000020), ⟨40, 256000020,
   true, 0⟩, (.timeOfDay (todM 40 256000020)), lat, _, 10, _, (by unfold State.settled; decide +kernel),
   (by unfold State.solitary; decide +kernel), (by unfold State.hears; decide +kernel), rfl, rfl,
   (by decide +kernel)⟩,
   ⟨(hearT .acquire), (todM 40 256000020), ⟨40, 256000020, true, 0⟩, (.timeOfDay (todM 40 256000020)), lat, _, 10,
   _, (by unfold State.settled; decide +kernel), (by unfold State.solitary; decide +kernel),
   (by unfold State.hears; decide +kernel), rfl, rfl, (by decide +kernel)⟩,
   ⟨(hearT .acquire), (todM 40 256000100), ⟨40, 256000100, true, 0⟩, (.timeOfDay (todM 40 256000100)), lat, _, 10,
   _, (by unfold State.settled; decide +kernel), (by unfold State.solitary; decide +kernel),
   (by unfold State.hears; decide +kernel), rfl, rfl, (by decide +kernel)⟩,
   ⟨(hearT .acquire), (todM 40 256000020), ⟨40, 256000020, true, 0⟩, (.timeOfDay (todM 40 256000020)), lat, _, 10,
   _, (by unfold State.settled; decide +kernel), (by unfold State.solitary; decide +kernel),
   (by unfold State.hears; decide +kernel), rfl, rfl, (by decide +kernel)⟩,
   ⟨(hearT .locked), (todM 40 256000100), ⟨40, 256000100, true, 0⟩, (.timeOfDay (todM 40 256000100)), lat, _,
   (by unfold State.settled; decide +kernel), (by unfold State.solitary; decide +kernel),
   (by unfold State.hears; decide +kernel), rfl, (by decide +kernel)⟩,
   ⟨((hearT .holdover).setReg Reg.NTM_CTRL 0xF), (todM 40 256000100), ⟨40, 256000100, true, 0⟩, (.timeOfDay (todM 40
   256000100)), lat, _, (by unfold State.settled; decide +kernel), (by unfold State.solitary; decide +kernel),
   (by unfold State.hears; decide +kernel), rfl, (by decide +kernel)⟩,
   ⟨(hearT .acquire), (todM 39 256000100), ⟨39, 256000100, true, 0⟩, (by unfold State.settled; decide +kernel),
   (by unfold State.solitary; decide +kernel), (by unfold State.hears; decide +kernel), (by decide +kernel)⟩,
   ⟨(hearT .acquire), (todM 41 256000100), ⟨41, 256000100, true, 0⟩, (by unfold State.settled; decide +kernel),
   (by unfold State.solitary; decide +kernel), (by unfold State.hears; decide +kernel), (by decide +kernel)⟩,
   ⟨(let s := timed .acquire; { s with ntm := { s.ntm with heldTod := some ⟨41, 256000100, true, 3⟩ } }), ⟨41,
   256000100, true, 3⟩, (by unfold State.settled; decide +kernel), (by unfold State.solitary; decide +kernel),
   (by decide +kernel)⟩,
   ⟨(timed .locked), 0, 3, .todTimeout, false, (by unfold State.settled; decide +kernel),
   (by unfold State.solitary; decide +kernel), Or.inl ⟨rfl, (by decide +kernel)⟩, (by decide +kernel)⟩,
   ⟨(timed .acquire), 0, 3, (.ntmHold 3), true, (by unfold State.settled; decide +kernel),
   (by unfold State.solitary; decide +kernel), Or.inr ⟨rfl, mayAccess_of _ _ _ (by decide +kernel)⟩,
   (by decide +kernel)⟩,
   ⟨(timed .holdover), (by unfold State.settled; decide +kernel), (by unfold State.solitary; decide +kernel),
   (by decide +kernel)⟩,
   ⟨(timed .locked), 3, (by unfold State.settled; decide +kernel), (by unfold State.solitary; decide +kernel),
   mayAccess_of _ _ _ (by decide +kernel)⟩,
   ⟨(let s := timed .locked; { s with guards := [(5, ⟨0, 0⟩)], ntm := { s.ntm with latches := [] } }), 0, _,
   (by unfold State.settled; decide +kernel), (by unfold State.solitary; decide +kernel), mayAccess_of _ _ _
   (by decide +kernel), (by unfold State.armedFor; decide +kernel), rfl, (by decide +kernel)⟩,
   ⟨(let s := timed .manual; { s with guards := [(5, ⟨0, 0⟩)] }), 0, _, (by unfold State.settled; decide +kernel),
   (by unfold State.solitary; decide +kernel), mayAccess_of _ _ _ (by decide +kernel),
   (by unfold State.armedFor; decide +kernel), rfl, (by decide +kernel)⟩,
   ⟨(let s := (timed .locked).setReg Reg.NTM_SET_NS 1000000000; { s with guards := [(5, ⟨0, 0⟩)] }), 0, _,
   (by unfold State.settled; decide +kernel), (by unfold State.solitary; decide +kernel), mayAccess_of _ _ _
   (by decide +kernel), (by unfold State.armedFor; decide +kernel), rfl, (by decide +kernel)⟩,
   ⟨(let s := (timed .locked).setReg Reg.NTM_ADJ 500; { s with guards := [(5, ⟨0, 0⟩)] }), 0, _, (((timed
   .locked).passTicks 1).now), (by unfold State.settled; decide +kernel),
   (by unfold State.solitary; decide +kernel), mayAccess_of _ _ _ (by decide +kernel),
   (by unfold State.armedFor; decide +kernel), rfl, (by decide +kernel)⟩,
   ⟨(let s := timed .locked; { s with guards := [(5, ⟨0, 0⟩)] }), 0, _, (by unfold State.settled; decide +kernel),
   (by unfold State.solitary; decide +kernel), mayAccess_of _ _ _ (by decide +kernel),
   (by unfold State.armedFor; decide +kernel), rfl, (by decide +kernel)⟩,
   ⟨(let s := timed .unset; { s with guards := [(5, ⟨0, 0⟩)] }), 0, _, (by unfold State.settled; decide +kernel),
   (by unfold State.solitary; decide +kernel), mayAccess_of _ _ _ (by decide +kernel),
   (by unfold State.armedFor; decide +kernel), rfl, (by decide +kernel)⟩,
   ⟨(timed .locked), 3, 5, (by unfold State.settled; decide +kernel), (by unfold State.solitary; decide +kernel),
   mayAccess_of _ _ _ (by decide +kernel), (by decide +kernel)⟩,
   ⟨(let s := ((timed .manual).setReg Reg.NTM_CTRL 5).setReg (Reg.POD_RX_CTRL 1) 1; let s := (s.modChan 1 (fun c => { c with defects := 0, fa := .sync, mf := .sync })).modActCh 1 (fun c => { c with rtd := some 0, upEn := true }); s.modPod 1 (fun p => { p with calPass := true })),
   3, 7, (by unfold State.settled; decide +kernel), (by unfold State.solitary; decide +kernel), mayAccess_of _ _ _
   (by decide +kernel), (by decide +kernel)⟩,
   ⟨(let s := timed .locked; { s with ntm := { s.ntm with hrefLast := some 1000 } }), 1000, 256001000,
   (by unfold State.settled; decide +kernel), (by unfold State.solitary; decide +kernel), (by decide +kernel)⟩⟩

/-- States that meet the hypotheses of each clause of `TimedOutputs`. -/
theorem met_timedOutputs :
    (∃ (s : State) (ini T : Nat) (i : Fin 16) (m : BitVec 16), s.settled ∧ s.solitary ∧ s.mayAccess ini 5 ∧ T =
    mkTime ((s.reg (Reg.NTM_TCs_TIME_S_LO i)).toNat + s.fld (Reg.NTM_TCs_TIME_S_HI i) 15 0 * 2 ^ 32) (s.fld
    (Reg.NTM_TCs_TIME_NS i) 29 0) (s.fld (Reg.NTM_TCs_TIME_PP i) 7 0) ∧ m = BitVec.ofNat 16 (s.fld (Reg.NTM_TCs_MASK
    i) 15 0) ∧ m.getLsbD 6 = false ∧ (s.tcSlot i).status ≠ 1 ∧ s.ntm.state ≠ .unset ∧ s.ntm.state ≠ .manual ∧ m ≠ 0
    ∧ m.toNat < 128 ∧ s.now + 2560000 ≤ T) ∧
    (∃ (s : State) (ini T : Nat) (i : Fin 16) (m : BitVec 16), s.settled ∧ s.solitary ∧ s.mayAccess ini 5 ∧ m =
    BitVec.ofNat 16 (s.fld (Reg.NTM_TCs_MASK i) 15 0) ∧ T = mkTime ((s.reg (Reg.NTM_TCs_TIME_S_LO i)).toNat + s.fld
    (Reg.NTM_TCs_TIME_S_HI i) 15 0 * 2 ^ 32) (s.fld (Reg.NTM_TCs_TIME_NS i) 29 0) (s.fld (Reg.NTM_TCs_TIME_PP i) 7
    0) ∧ m.getLsbD 6 = false ∧ (s.tcSlot i).status ≠ 1 ∧ (s.ntm.state = .unset ∨ s.ntm.state = .manual ∨ m = 0 ∨ 128
    ≤ m.toNat ∨ T < s.now + 2560000)) ∧
    (∃ (s : State) (ini : Nat) (i : Fin 16), s.settled ∧ s.solitary ∧ s.mayAccess ini 5 ∧ (s.tcSlot i).mask.getLsbD
    6 = false) ∧
    (∃ (s : State) (i : Fin 16), s.settled ∧ s.solitary ∧ (s.tcSlot i).status = 1 ∧ (∀ j < 16, j ≠ i.val → (s.tcSlot
    j).status ≠ 1) ∧ s.ntm.frac < 2 ^ 32 ∧ s.now < 2 ^ 48 * pipsPerSec ∧ -2 ^ 31 ≤ s.ntm.rate ∧ s.ntm.rate < 2 ^ 31
    ∧ (s.tcSlot i).time < 2 ^ 48 * pipsPerSec - 2 ^ 32 ∧ (s.tcSlot i).mask = 16) ∧
    (∃ (s : State) (ini : Nat) (k : Fin 8) (x : Trig), s.settled ∧ s.solitary ∧ s.mayAccess ini 5 ∧ x = ⟨true,
    false, false, mkTime ((s.reg (Reg.NTM_TRIGt_START_S_LO k)).toNat + s.fld (Reg.NTM_TRIGt_START_S_HI k) 15 0 * 2 ^
    32) (s.fld (Reg.NTM_TRIGt_START_NS k) 29 0) (s.fld (Reg.NTM_TRIGt_START_PP k) 7 0), (s.reg
    (Reg.NTM_TRIGt_PERIOD_NS k)).toNat * 256 + s.fld (Reg.NTM_TRIGt_PERIOD_PP k) 7 0, (s.reg (Reg.NTM_TRIGt_WIDTH_NS
    k)).toNat, (s.reg (Reg.NTM_TRIGt_COUNT k)).toNat, 0, 0, s.rbit (Reg.NTM_TRIGt_CTRL k) 1⟩ ∧ s.rbit
    (Reg.NTM_TRIGt_CTRL k) 0 = true ∧ x.periodic = false ∧ s.now + 256000 ≤ x.start) ∧
    (∃ (s : State) (ini : Nat) (k : Fin 8) (x : Trig), s.settled ∧ s.solitary ∧ s.mayAccess ini 5 ∧ x = ⟨true,
    false, false, mkTime ((s.reg (Reg.NTM_TRIGt_START_S_LO k)).toNat + s.fld (Reg.NTM_TRIGt_START_S_HI k) 15 0 * 2 ^
    32) (s.fld (Reg.NTM_TRIGt_START_NS k) 29 0) (s.fld (Reg.NTM_TRIGt_START_PP k) 7 0), (s.reg
    (Reg.NTM_TRIGt_PERIOD_NS k)).toNat * 256 + s.fld (Reg.NTM_TRIGt_PERIOD_PP k) 7 0, (s.reg (Reg.NTM_TRIGt_WIDTH_NS
    k)).toNat, (s.reg (Reg.NTM_TRIGt_COUNT k)).toNat, 0, 0, s.rbit (Reg.NTM_TRIGt_CTRL k) 1⟩ ∧ s.rbit
    (Reg.NTM_TRIGt_CTRL k) 0 = true ∧ x.periodic = false ∧ x.start < s.now + 256000) ∧
    (∃ (s : State) (ini : Nat) (k : Fin 8) (x : Trig), s.settled ∧ s.solitary ∧ s.mayAccess ini 5 ∧ x = ⟨true,
    false, false, mkTime ((s.reg (Reg.NTM_TRIGt_START_S_LO k)).toNat + s.fld (Reg.NTM_TRIGt_START_S_HI k) 15 0 * 2 ^
    32) (s.fld (Reg.NTM_TRIGt_START_NS k) 29 0) (s.fld (Reg.NTM_TRIGt_START_PP k) 7 0), (s.reg
    (Reg.NTM_TRIGt_PERIOD_NS k)).toNat * 256 + s.fld (Reg.NTM_TRIGt_PERIOD_PP k) 7 0, (s.reg (Reg.NTM_TRIGt_WIDTH_NS
    k)).toNat, (s.reg (Reg.NTM_TRIGt_COUNT k)).toNat, 0, 0, s.rbit (Reg.NTM_TRIGt_CTRL k) 1⟩ ∧ s.rbit
    (Reg.NTM_TRIGt_CTRL k) 0 = true ∧ x.periodic = true ∧ s.now ≤ x.start) ∧
    (∃ (s : State) (ini : Nat) (k : Fin 8) (x : Trig), s.settled ∧ s.solitary ∧ s.mayAccess ini 5 ∧ x = ⟨true,
    false, false, mkTime ((s.reg (Reg.NTM_TRIGt_START_S_LO k)).toNat + s.fld (Reg.NTM_TRIGt_START_S_HI k) 15 0 * 2 ^
    32) (s.fld (Reg.NTM_TRIGt_START_NS k) 29 0) (s.fld (Reg.NTM_TRIGt_START_PP k) 7 0), (s.reg
    (Reg.NTM_TRIGt_PERIOD_NS k)).toNat * 256 + s.fld (Reg.NTM_TRIGt_PERIOD_PP k) 7 0, (s.reg (Reg.NTM_TRIGt_WIDTH_NS
    k)).toNat, (s.reg (Reg.NTM_TRIGt_COUNT k)).toNat, 0, 0, s.rbit (Reg.NTM_TRIGt_CTRL k) 1⟩ ∧ s.rbit
    (Reg.NTM_TRIGt_CTRL k) 0 = true ∧ x.periodic = true ∧ x.start < s.now ∧ 0 < x.period) ∧
    (∃ (s : State) (k : Fin 8) (x : Trig), s.settled ∧ s.solitary ∧ s.trig k = x ∧ x.armed = true ∧ (s.fld
    (Reg.NTM_TRIGt_CTRL k) 4 3 = 3 ∨ s.ntm.state = .locked)) ∧
    (∃ (s : State) (k : Fin 8) (x : Trig), s.settled ∧ s.solitary ∧ s.trig k = x ∧ x.armed = true ∧ s.fld
    (Reg.NTM_TRIGt_CTRL k) 4 3 = 1 ∧ s.ntm.state ≠ .locked) ∧
    (∃ (s : State) (c : Fin 4) (r : Bool) (q : Nat) (x : Cap) (p : Nat), s.settled ∧ s.solitary ∧ s.cap c = x ∧ q ≤
    s.now ∧ s.rbit (Reg.NTM_CAPc_CTRL c) 0 = true ∧ s.rbit (Reg.NTM_CAPc_CTRL c) (if r then 1 else 2) = true ∧
    s.pwr.mode = .active ∧ s.pwr.phase ≠ .entering ∧ s.pwr.held = none ∧ x.lastEdge = some p ∧ q < p + 2048) ∧
    (∃ (s : State) (c : Fin 4) (r : Bool) (q : Nat) (x : Cap), s.settled ∧ s.solitary ∧ s.cap c = x ∧ q ≤ s.now ∧
    s.rbit (Reg.NTM_CAPc_CTRL c) 0 = true ∧ s.rbit (Reg.NTM_CAPc_CTRL c) (if r then 1 else 2) = true ∧ s.pwr.mode =
    .active ∧ s.pwr.phase ≠ .entering ∧ s.pwr.held = none ∧ (x.lastEdge = none ∨ (∃ p, x.lastEdge = some p ∧ p +
    2048 ≤ q)) ∧ x.store.length < 64) ∧
    (∃ (s : State) (c : Fin 4) (r : Bool) (q : Nat) (x : Cap), s.settled ∧ s.solitary ∧ s.cap c = x ∧ q ≤ s.now ∧
    s.rbit (Reg.NTM_CAPc_CTRL c) 0 = true ∧ s.rbit (Reg.NTM_CAPc_CTRL c) (if r then 1 else 2) = true ∧ s.pwr.mode =
    .active ∧ s.pwr.phase ≠ .entering ∧ s.pwr.held = none ∧ (x.lastEdge = none ∨ (∃ p, x.lastEdge = some p ∧ p +
    2048 ≤ q)) ∧ 64 ≤ x.store.length) ∧
    (∃ (s : State) (ini : Nat) (c : Fin 4) (e : CapEntry) (r : List CapEntry), s.settled ∧ s.solitary ∧ s.mayAccess
    ini 5 ∧ (s.cap c).store = e :: r) ∧
    (∃ (s : State) (ini : Nat) (c : Fin 4), s.settled ∧ s.solitary ∧ s.mayAccess ini 5 ∧ (s.cap c).store = []) :=
  ⟨⟨(((timed .locked).setReg (Reg.NTM_TCs_MASK 2) 16).setReg (Reg.NTM_TCs_TIME_S_LO 2) 3), 3, _, 2, 16,
   (by unfold State.settled; decide +kernel), (by unfold State.solitary; decide +kernel), mayAccess_of _ _ _
   (by decide +kernel), rfl, (by decide +kernel)⟩,
   ⟨(timed .locked), 3, _, 2, _, (by unfold State.settled; decide +kernel),
   (by unfold State.solitary; decide +kernel), mayAccess_of _ _ _ (by decide +kernel), rfl, rfl,
   (by decide +kernel)⟩,
   ⟨((timed .locked).setTcSlot 2 ⟨1, 5000, 16, false, false, false, 0, 0, 0⟩), 3, 2,
   (by unfold State.settled; decide +kernel), (by unfold State.solitary; decide +kernel), mayAccess_of _ _ _
   (by decide +kernel), (by decide +kernel)⟩,
   ⟨((timed .locked).setTcSlot 2 ⟨1, 256002000, 16, false, false, false, 0, 0, 0⟩), 2,
   (by unfold State.settled; decide +kernel), (by unfold State.solitary; decide +kernel), (by decide +kernel)⟩,
   ⟨(((timed .locked).setReg (Reg.NTM_TRIGt_CTRL 2) 1).setReg (Reg.NTM_TRIGt_START_S_LO 2) 3), 3, 2, _,
   (by unfold State.settled; decide +kernel), (by unfold State.solitary; decide +kernel), mayAccess_of _ _ _
   (by decide +kernel), rfl, (by decide +kernel)⟩,
   ⟨((timed .locked).setReg (Reg.NTM_TRIGt_CTRL 2) 1), 3, 2, _, (by unfold State.settled; decide +kernel),
   (by unfold State.solitary; decide +kernel), mayAccess_of _ _ _ (by decide +kernel), rfl, (by decide +kernel)⟩,
   ⟨(((timed .locked).setReg (Reg.NTM_TRIGt_CTRL 2) 3).setReg (Reg.NTM_TRIGt_START_S_LO 2) 3), 3, 2, _,
   (by unfold State.settled; decide +kernel), (by unfold State.solitary; decide +kernel), mayAccess_of _ _ _
   (by decide +kernel), rfl, (by decide +kernel)⟩,
   ⟨(((timed .locked).setReg (Reg.NTM_TRIGt_CTRL 2) 3).setReg (Reg.NTM_TRIGt_PERIOD_NS 2) 1000), 3, 2, _,
   (by unfold State.settled; decide +kernel), (by unfold State.solitary; decide +kernel), mayAccess_of _ _ _
   (by decide +kernel), rfl, (by decide +kernel)⟩,
   ⟨((timed .locked).setTrig 2 ⟨true, false, false, 256000900, 512, 1, 0, 3, 3, true⟩), 2, ⟨true, false, false,
   256000900, 512, 1, 0, 3, 3, true⟩, (by unfold State.settled; decide +kernel),
   (by unfold State.solitary; decide +kernel), (by decide +kernel)⟩,
   ⟨(((timed .acquire).setReg (Reg.NTM_TRIGt_CTRL 2) 8).setTrig 2 ⟨true, false, false, 256000900, 512, 1, 0, 3, 3,
   true⟩), 2, ⟨true, false, false, 256000900, 512, 1, 0, 3, 3, true⟩, (by unfold State.settled; decide +kernel),
   (by unfold State.solitary; decide +kernel), (by decide +kernel)⟩,
   ⟨(((timed .acquire).setReg (Reg.NTM_CAPc_CTRL 1) 3).setCap 1 ⟨[], ⟨0, false, false⟩, false, some 255998953,
   false⟩), 1, true, 256001000, (⟨[], ⟨0, false, false⟩, false, some 255998953, false⟩), 255998953,
   (by unfold State.settled; decide +kernel), (by unfold State.solitary; decide +kernel), (by decide +kernel)⟩,
   ⟨(((timed .acquire).setReg (Reg.NTM_CAPc_CTRL 1) 3).setCap 1 ⟨[], ⟨0, false, false⟩, false, some 255998952,
   false⟩), 1, true, 256001000, (⟨[], ⟨0, false, false⟩, false, some 255998952, false⟩),
   (by unfold State.settled; decide +kernel), (by unfold State.solitary; decide +kernel), (by decide +kernel)⟩,
   ⟨(((timed .acquire).setReg (Reg.NTM_CAPc_CTRL 1) 3).setCap 1 ⟨List.replicate 64 ⟨5, false, false⟩, ⟨0, false,
   false⟩, false, none, false⟩), 1, true, 256001000, (⟨List.replicate 64 ⟨5, false, false⟩, ⟨0, false, false⟩,
   false, none, false⟩), (by unfold State.settled; decide +kernel), (by unfold State.solitary; decide +kernel),
   (by decide +kernel)⟩,
   ⟨((timed .acquire).setCap 1 ⟨[⟨5, false, false⟩], ⟨0, false, false⟩, false, none, false⟩), 3, 1, ⟨5, false,
   false⟩, ([]), (by unfold State.settled; decide +kernel), (by unfold State.solitary; decide +kernel), mayAccess_of
   _ _ _ (by decide +kernel), (by decide +kernel)⟩,
   ⟨(timed .acquire), 3, 1, (by unfold State.settled; decide +kernel), (by unfold State.solitary; decide +kernel),
   mayAccess_of _ _ _ (by decide +kernel), (by decide +kernel)⟩⟩

end Ntm

end Sys2Proof.Tests
end

section
/-! Proofs about the shared fibre network (chapter 2): what a header space does to its channel (R55 to R58). First the
general part: what a command notes in registers and counters, and what the choice of time channel and root keeps. -/

namespace Sys2Proof.Machine

open Crypto (beNat slice)

/-! ## What a command notes -/

/-- Up to `u` no register word was written, only status registers of `rs` were given events, and only counters of `cs`
counted. -/
structure State.Notes (s u : State) (rs cs : List Nat) : Prop where
  wf : Tab.wf (fun _ => (0 : Word)) s.evt = true → Tab.wf (fun _ => (0 : Word)) u.evt = true
  reg : ∀ a, u.reg a = s.reg a
  ev : ∀ a, a ∉ rs → u.ev a = s.ev a
  cnt : ∀ a, a ∉ cs → u.cnt a = s.cnt a

namespace State.Notes

variable {s u v : State} {rs cs : List Nat}

theorem refl (s : State) (rs cs : List Nat) : s.Notes s rs cs :=
  ⟨id, fun _ => rfl, fun _ _ => rfl, fun _ _ => rfl⟩

/-- An operation that leaves registers, counters and events alone notes nothing. -/
theorem quiet (h : s.Notes u rs cs) (hr : v.regs = u.regs) (hw : v.wide = u.wide) (he : v.evt = u.evt) :
    s.Notes v rs cs where
  wf := by rw [he]; exact h.wf
  reg a := by rw [← h.reg a, State.reg, hr]; rfl
  ev a ha := by rw [← h.ev a ha, State.ev, he]; rfl
  cnt a ha := by rw [← h.cnt a ha, State.cnt, hw]; rfl

theorem modChan (h : s.Notes u rs cs) (n : Nat) (f : DsfCh → DsfCh) : s.Notes (u.modChan n f) rs cs :=
  h.quiet rfl rfl rfl

theorem modPod (h : s.Notes u rs cs) (n : Nat) (f : Pod → Pod) : s.Notes (u.modPod n f) rs cs := h.quiet rfl rfl rfl

theorem raise (h : s.Notes u rs cs) {a : Nat} (ha : a ∈ rs) (i : Nat) : s.Notes (u.raise a i) rs cs where
  wf hw := u.evt_wf_raise (h.wf hw) a i
  reg b := h.reg b
  ev b hb := by rw [State.ev_raise, if_neg (ne_of_mem_of_not_mem ha hb).symm, h.ev b hb]
  cnt b hb := h.cnt b hb

theorem count (h : s.Notes u rs cs) {a : Nat} (hr : (halfFlag a).1 ∈ rs) (hc : a ∈ cs) (n : Nat) :
    s.Notes (u.count a n) rs cs where
  wf hw := u.evt_wf_count (h.wf hw) a n
  reg b := by rw [State.reg_count, h.reg b]
  ev b hb := by rw [u.ev_count_ne n (ne_of_mem_of_not_mem hr hb).symm, h.ev b hb]
  cnt b hb := by rw [u.cnt_count_ne n (ne_of_mem_of_not_mem hc hb).symm, h.cnt b hb]

theorem bump (h : s.Notes u rs cs) {a : Nat} (hr : (halfFlag a).1 ∈ rs) (hc : a ∈ cs) : s.Notes (u.bump a) rs cs :=
  h.count hr hc 1

theorem regsKept (h : s.Notes u rs cs) (hs : s.settled) : s.regsKept u.commit rs :=
  State.regsKept_commit (h.wf (s.evt_wf_of_settled hs)) fun a ha =>
    ⟨(h.ev a ha).trans (s.ev_of_settled hs a), h.reg a⟩

theorem cntsKept (h : s.Notes u rs cs) : s.cntsKept u.commit cs := State.cntsKept_commit h.cnt

end State.Notes

/-! ## The choice of time channel and root -/

/-- A property kept by every operation that the choice of time channel, holdover and root is made of (R320, R325,
R627 to R631). -/
structure RootClosed (P : State → Prop) : Prop where
  fresh : ∀ t k, P t → P { t with fresh := k }
  modClk : ∀ t f, P t → P (t.modClk f)
  modNtm : ∀ t f, P t → P (t.modNtm f)
  raise : ∀ t a i, a ∈ rootRegs → P t → P (t.raise a i)
  bump : ∀ t a, a ∈ rootCnts → P t → P (t.bump a)

namespace RootClosed

variable {P : State → Prop} {s : State}

theorem setSource (H : RootClosed P) (h : P s) (src : RootSource) : P (s.setSource src) := by
  have close : ∀ (t : State) (f : Clk → Clk), P t →
      P (((t.modClk f).raise Reg.CLK_STATUS 0).bump Reg.CLK_CNT_SRC_CHG) := fun t f ht =>
    H.bump _ _ (by simp [rootCnts]) (H.raise _ _ _ (by simp [rootRegs]) (H.modClk _ _ ht))
  have leave : ∀ f : Clk → Clk, P ((({ s with fresh := s.fresh + 1 }).modClk f).bump Reg.CLK_CNT_DS_LOSS) := fun f =>
    H.bump _ _ (by simp [rootCnts]) (H.modClk _ _ (H.fresh _ _ h))
  unfold State.setSource State.drawWord
  by_cases hsame : src = s.clk.source
  · rw [if_pos hsame]; exact h
  · rw [if_neg hsame]
    by_cases hds : s.clk.source = .ds <;> by_cases hst : src = .ds ∨ src = .href <;>
      simp only [hds, hst, if_true, if_false]
    · exact close _ _ (H.fresh _ _ (leave _))
    · exact close _ _ (leave _)
    · exact close _ _ (H.fresh _ _ h)
    · exact close _ _ h

theorem reroot (H : RootClosed P) (h : P s) : P s.reroot := by
  unfold State.reroot State.raiseIf
  have moved : ∀ (f g : Clk → Clk) (src : RootSource), P (((s.modClk f).modClk g).setSource src) := fun _ _ _ =>
    H.setSource (H.modClk _ _ (H.modClk _ _ h)) _
  exact iteInduction (motive := P) (fun _ => H.raise _ _ _ (by simp [rootRegs]) (moved _ _ _)) (fun _ => moved _ _ _)

theorem setTimeState (H : RootClosed P) (h : P s) (st : TimeState) : P (s.setTimeState st) := by
  unfold State.setTimeState
  split
  · exact h
  · exact H.raise _ _ _ (by simp [rootRegs]) (H.modNtm _ _ h)

theorem enterHoldover (H : RootClosed P) (h : P s) (forced : Bool) : P (s.enterHoldover forced) := by
  unfold State.enterHoldover
  split
  · exact H.bump _ _ (by simp [rootCnts]) (H.raise _ _ _ (by simp [rootRegs])
      (H.modNtm _ _ (H.setTimeState (H.modNtm _ _ h) _)))
  · split
    · exact H.modNtm _ _ h
    · exact h

theorem reconsider (H : RootClosed P) (h : P s) : P s.reconsider := by
  unfold State.reconsider
  dsimp only
  have chosen : ∀ t, P (if t = s.ntm.tch then s else
      (s.modNtm (fun n => { n with tch := t, prevTick := none })).raise Reg.NTM_STATUS 6) := fun t =>
    iteInduction (motive := P) (fun _ => h) (fun _ => H.raise _ _ _ (by simp [rootRegs]) (H.modNtm _ _ h))
  exact H.reroot (iteInduction (motive := P) (fun _ => chosen _) (fun _ =>
    iteInduction (motive := P) (fun _ => H.enterHoldover (chosen _) _) (fun _ => chosen _)))

end RootClosed

/-- The choice of time channel and root notes in `rootRegs` and `rootCnts` alone. -/
theorem State.Notes.rootClosed {s : State} {rs cs : List Nat} (hr : rootRegs ⊆ rs) (hc : rootCnts ⊆ cs) :
    RootClosed (fun t => s.Notes t rs cs) where
  fresh _ _ h := h.quiet rfl rfl rfl
  modClk _ _ h := h.quiet rfl rfl rfl
  modNtm _ _ h := h.quiet rfl rfl rfl
  raise _ _ i ha h := h.raise (hr ha) i
  bump _ a ha h := by
    have half : ∀ a ∈ rootCnts, (halfFlag a).1 ∈ rootRegs := by decide
    exact h.bump (hr (half a ha)) (hc ha)

/-! ## What a header space leaves alone -/

/-- `s` without what the header space of a frame can change: time, clocks, registers, counters, what was sent, the Pods'
profiles and the channels of DSF. -/
def State.bare (s : State) : State :=
  { s with
    ticks := 0, fresh := 0, regs := [], wide := [], evt := [], out := [], clk := .reset, ntm := .reset, pods := []
    dsf := { s.dsf with chans := [] }, twn := { s.twn with lease := { s.twn.lease with left := 0 } } }

/-- Two states agree when they agree beside what a header space can change, and in each part of that. -/
theorem State.eq_of_bare {s t : State} (h : t.bare = s.bare) (hticks : t.ticks = s.ticks) (hfresh : t.fresh = s.fresh)
    (hregs : t.regs = s.regs) (hwide : t.wide = s.wide) (hevt : t.evt = s.evt) (hout : t.out = s.out)
    (hclk : t.clk = s.clk) (hntm : t.ntm = s.ntm) (hpods : t.pods = s.pods) (hchans : t.dsf.chans = s.dsf.chans)
    (hleft : t.twn.lease.left = s.twn.lease.left) : t = s := by
  have restore : ∀ u : State, u = { u.bare with
      ticks := u.ticks, fresh := u.fresh, regs := u.regs, wide := u.wide, evt := u.evt, out := u.out, clk := u.clk
      ntm := u.ntm, pods := u.pods, dsf := { u.bare.dsf with chans := u.dsf.chans }
      twn := { u.bare.twn with lease := { u.bare.twn.lease with left := u.twn.lease.left } } } := fun _ => rfl
  rw [restore t, restore s, h, hticks, hfresh, hregs, hwide, hevt, hout, hclk, hntm, hpods, hchans, hleft]

section
variable (s : State)

/-- Of the time channel, time that passes moves network time and its fraction alone (R314). -/
theorem State.passTicks_ntm (k : Nat) : (s.passTicks k).ntm =
    { s.ntm with time := (s.passTicks k).ntm.time, frac := (s.passTicks k).ntm.frac } := by
  unfold State.passTicks
  generalize tickAdvance s.ntm.frac s.ntm.rate k = p
  rfl

@[simp] theorem State.bare_passTicks (k : Nat) : (s.passTicks k).bare = s.bare := by
  unfold State.passTicks
  generalize tickAdvance s.ntm.frac s.ntm.rate k = p
  rfl
@[simp] theorem State.bare_passTo (k : Nat) : (s.passTo k).bare = s.bare := s.bare_passTicks _
@[simp] theorem State.bare_modChan (n : Nat) (f : DsfCh → DsfCh) : (s.modChan n f).bare = s.bare := rfl
@[simp] theorem State.bare_modPod (n : Nat) (f : Pod → Pod) : (s.modPod n f).bare = s.bare := rfl
@[simp] theorem State.bare_send (o : Out) : (s.send o).bare = s.bare := rfl
@[simp] theorem State.bare_modClk (f : Clk → Clk) : (s.modClk f).bare = s.bare := rfl
@[simp] theorem State.bare_modNtm (f : Ntm → Ntm) : (s.modNtm f).bare = s.bare := rfl
@[simp] theorem State.bare_raise (a i : Nat) : (s.raise a i).bare = s.bare := rfl
@[simp] theorem State.bare_count (a n : Nat) : (s.count a n).bare = s.bare := by
  unfold State.count; dsimp only; split <;> rfl
@[simp] theorem State.bare_bump (a : Nat) : (s.bump a).bare = s.bare := s.bare_count a 1
@[simp] theorem State.bare_commit : s.commit.bare = s.bare := by simp [State.bare]

/-! ## One channel of DSF -/

@[simp] theorem State.chan_modChan_self (n : Nat) (f : DsfCh → DsfCh) : (s.modChan n f).chan n = f (s.chan n) :=
  Tab.get_modify_self DsfCh.reset s.dsf.chans n f
theorem State.chan_modChan_ne {m n : Nat} (f : DsfCh → DsfCh) (h : m ≠ n) : (s.modChan n f).chan m = s.chan m :=
  Tab.get_modify_ne DsfCh.reset DsfCh.reset s.dsf.chans f h
@[simp] theorem State.chan_passTo (k n : Nat) : (s.passTo k).chan n = s.chan n := by simp [State.chan]
@[simp] theorem State.chan_modPod (m : Nat) (f : Pod → Pod) (n : Nat) : (s.modPod m f).chan n = s.chan n := rfl
@[simp] theorem State.chan_count (a k n : Nat) : (s.count a k).chan n = s.chan n := by simp [State.chan]
@[simp] theorem State.chan_bump (a n : Nat) : (s.bump a).chan n = s.chan n := by simp [State.chan]
@[simp] theorem State.chan_commit (n : Nat) : s.commit.chan n = s.chan n := by simp [State.chan]

end

/-! ## Map and control section on a channel outside MF_SYNC (R58, R65, R74) -/

/-- The counters of losses behind a valid header. -/
def mapCnts (n : Nat) : List Nat :=
  [Reg.DSF_CHn_CNT_MAP_LOST n, Reg.DSF_CHn_CNT_CTRL_LOST n, Reg.DSF_CHn_CNT_MSG_DISC n]

/-- A property kept by every operation that profile vector and control section of channel `n` are taken by. -/
structure ControlClosed (n : Nat) (P : State → Prop) : Prop where
  count : ∀ t a k, a ∈ mapCnts n → P t → P (t.count a k)
  send : ∀ t o, P t → P (t.send o)
  pvec : ∀ t v, P t → P (t.modChan n (fun c => { c with pvecNext := some v }))

namespace ControlClosed

variable {n : Nat} {P : State → Prop}

theorem bump (H : ControlClosed n P) {t : State} {a : Nat} (ha : a ∈ mapCnts n) (h : P t) : P (t.bump a) :=
  H.count t a 1 ha h

theorem oneMessage (H : ControlClosed n P) {s : State} (h : P s) (m : List Byte) : P (s.oneMessage n m) := by
  unfold State.oneMessage
  dsimp only
  split
  · exact h
  · split
    · exact H.bump (by simp [mapCnts]) h
    · exact H.send _ _ h

theorem messages (H : ControlClosed n P) (data : List Byte) (kinds : List Nat) (left : Nat) :
    ∀ {s : State} (off : Nat), P s → P (s.messages n data kinds off left) := by
  induction left with
  | zero => exact fun _ h => h
  | succ left ih =>
    intro s off h
    unfold State.messages
    dsimp only
    split
    · exact H.count _ _ _ (by simp [mapCnts]) h
    · exact ih _ (H.oneMessage h _)

/-- Outside MF_SYNC no map is decoded: only the profile vector and the control section are taken. -/
theorem mapAndControl (H : ControlClosed n P) {s : State} (hmf : s.mfSync n = false) (h : P s) (hd : FrameHdr)
    (data : List Byte) (kinds : List Nat) : P (s.mapAndControl n hd data kinds) := by
  have unsynced : ∀ v, (s.modChan n (fun c => { c with pvecNext := some v })).mfSync n = false := fun v => by
    rw [← hmf, State.mfSync, State.chan_modChan_self]; rfl
  unfold State.mapAndControl
  simp only [unsynced, Bool.false_eq_true, if_false]
  refine iteInduction (motive := P) (fun _ => H.bump (by simp [mapCnts]) (H.bump (by simp [mapCnts]) h)) (fun _ => ?_)
  have vectorTaken : ∀ (b : Bool) (v : List Nat), P (if b = true then s.modChan n (fun c => { c with pvecNext := some v })
      else s.bump (Reg.DSF_CHn_CNT_MAP_LOST n)) := fun _ _ =>
    iteInduction (motive := P) (fun _ => H.pvec _ _ h) (fun _ => H.bump (by simp [mapCnts]) h)
  exact iteInduction (motive := P) (fun _ => H.bump (by simp [mapCnts]) (vectorTaken _ _))
    (fun _ => H.messages _ _ _ _ (vectorTaken _ _))

end ControlClosed

theorem half_mapCnts (ch : Chan) : ∀ a ∈ mapCnts ch, (halfFlag a).1 = Reg.DSF_CHn_EVENT ch := by
  simp [mapCnts, half_DSF_CHn_CNT_MAP_LOST ch.isLt, half_DSF_CHn_CNT_CTRL_LOST ch.isLt,
    half_DSF_CHn_CNT_MSG_DISC ch.isLt]

/-! ## The two outcomes of a header space -/

/-- R55 to R58: the header's bytes are good, its HCS holds, its channel number is this channel's and its frame number is
in range. -/
def validHeader (ch : Chan) (data : List Byte) (kinds : List Nat) : Bool :=
  !badBytes kinds 0 16 && Crypto.crc16 (data.take 14) == BitVec.ofNat 16 (beNat (slice data 14 2)) &&
    beNat (slice data 13 1) % 4 == ch.val && decide (beNat (slice data 8 2) % 8192 < 8000)

/-- The header that a header space carries on a channel in the state `c`. -/
def frameHdrOf (c : DsfCh) (data : List Byte) : FrameHdr :=
  { frame := beNat (slice data 8 2) % 8192, mf := BitVec.ofNat 16 (beNat (slice data 10 2)), block := c.block0
    mark := c.block0Mark, tick := c.block0Tick, dh := beNat (slice data 12 1) % 2 = 1
    tx := beNat (slice data 12 1) / 2 % 2 = 1 }

/-- The header space of the frame has been read: time has come to its end, and it is done. -/
def State.headerRead (s : State) (n : Nat) : State :=
  (s.passTo ((s.chan n).block0Mark + 152 * symbolPips)).modChan n (fun c => { c with hdrDone := true })

theorem State.headerRead_notes (s : State) (n : Nat) (rs cs : List Nat) : s.Notes (s.headerRead n) rs cs :=
  ((State.Notes.refl s rs cs).quiet (s.passTo_regs _) (s.passTo_wide _) (s.passTo_evt _)).modChan _ _

@[simp] theorem State.headerRead_bare (s : State) (n : Nat) : (s.headerRead n).bare = s.bare :=
  (State.bare_modChan _ _ _).trans (s.bare_passTo _)

theorem State.headerRead_fresh (s : State) (n : Nat) : (s.headerRead n).fresh = s.fresh :=
  (State.modChan_fresh _ _ _).trans (s.passTo_fresh _)
theorem State.headerRead_out (s : State) (n : Nat) : (s.headerRead n).out = s.out :=
  (State.modChan_out _ _ _).trans (s.passTo_out _)
theorem State.headerRead_clk (s : State) (n : Nat) : (s.headerRead n).clk = s.clk :=
  (State.modChan_clk _ _ _).trans (s.passTo_clk _)
theorem State.headerRead_pods (s : State) (n : Nat) : (s.headerRead n).pods = s.pods :=
  (State.modChan_pods _ _ _).trans (s.passTo_pods _)
theorem State.headerRead_ntm (s : State) (n : Nat) : (s.headerRead n).ntm =
    { s.ntm with time := (s.headerRead n).ntm.time, frac := (s.headerRead n).ntm.frac } := by
  rw [State.headerRead, State.modChan_ntm]
  exact s.passTicks_ntm _

@[simp] theorem State.headerRead_chan (s : State) (n : Nat) :
    (s.headerRead n).chan n = { s.chan n with hdrDone := true } := by simp [State.headerRead]

theorem State.headerRead_chan_ne (s : State) {m n : Nat} (h : m ≠ n) : (s.headerRead n).chan m = s.chan m := by
  rw [State.headerRead, State.chan_modChan_ne _ _ h, State.chan_passTo]

section
variable {s : State} {ch : Chan} {raw : List Byte} {kinds : List Nat}

/-- An invalid header is discarded and counted. -/
theorem execHeaderSpace_invalid (hr : s.coreReset 3 = false) (hfa : (s.chan ch).fa = .sync)
    (hd : (s.chan ch).hdrDone = false) (hv : validHeader ch (descrambleHeader raw) kinds = false) :
    execHeaderSpace ch raw kinds s = done ((s.headerRead ch).bump (Reg.DSF_CHn_CNT_HDR_DISC ch)) := by
  unfold validHeader at hv
  unfold execHeaderSpace
  simp only [hr, hfa, hd, hv, Bool.false_eq_true, if_false, ne_eq, not_true_eq_false, or_self, Bool.not_false, if_true,
    State.headerRead]

/-- A valid header enters multiframe alignment. -/
theorem execHeaderSpace_valid (hr : s.coreReset 3 = false) (hfa : (s.chan ch).fa = .sync)
    (hd : (s.chan ch).hdrDone = false) (hv : validHeader ch (descrambleHeader raw) kinds = true) {u : State}
    (hu : (s.headerRead ch).alignMf ch (frameHdrOf (s.chan ch) (descrambleHeader raw)) = (true, u)) :
    execHeaderSpace ch raw kinds s =
      done (((u.takeHeader ch (frameHdrOf (s.chan ch) (descrambleHeader raw))).reconsider).mapAndControl ch
        (frameHdrOf (s.chan ch) (descrambleHeader raw)) (descrambleHeader raw) kinds) := by
  unfold validHeader at hv
  unfold frameHdrOf State.headerRead at hu
  unfold execHeaderSpace
  simp only [hr, hfa, hd, hv, hu, Bool.false_eq_true, if_false, ne_eq, not_true_eq_false, or_self, Bool.not_true,
    frameHdrOf]

end

/-! ## A header that is discarded (R58) -/

theorem validHeader_eq_false {ch : Chan} {data : List Byte} {kinds : List Nat}
    (h : badBytes kinds 0 16 = true ∨ Crypto.crc16 (data.take 14) ≠ BitVec.ofNat 16 (beNat (slice data 14 2)) ∨
      beNat (slice data 13 1) % 4 ≠ ch.val ∨ 8000 ≤ beNat (slice data 8 2) % 8192) :
    validHeader ch data kinds = false := by
  unfold validHeader
  rcases h with h | h | h | h
  · simp [h]
  · simp [h]
  · simp [h]
  · simp [Nat.not_lt.2 h]

section
variable {s : State} {ch : Chan} {raw : List Byte} {kinds : List Nat}

/-- A discarded header: what the end of the command leaves (R58). -/
theorem discarded_header (hs : s.settled) {t : State}
    (ht : t = ((s.headerRead ch).bump (Reg.DSF_CHn_CNT_HDR_DISC ch)).commit) :
    t.chan ch = { s.chan ch with hdrDone := true } ∧
      t.cnt (Reg.DSF_CHn_CNT_HDR_DISC ch) = s.cnt (Reg.DSF_CHn_CNT_HDR_DISC ch) + 1 ∧
      (∀ m, m ≠ ch.val → t.chan m = s.chan m) ∧ t = { s.later t with dsf := { s.dsf with chans := t.dsf.chans } } ∧
      s.regsKept t [Reg.DSF_CHn_EVENT ch] ∧ s.cntsKept t [Reg.DSF_CHn_CNT_HDR_DISC ch] := by
  have hnotes : s.Notes ((s.headerRead ch).bump (Reg.DSF_CHn_CNT_HDR_DISC ch)) [Reg.DSF_CHn_EVENT ch]
      [Reg.DSF_CHn_CNT_HDR_DISC ch] :=
    (s.headerRead_notes ch _ _).bump (by simp [half_DSF_CHn_CNT_HDR_DISC ch.isLt]) List.mem_cons_self
  have hcnt := (s.headerRead_notes ch [] []).cnt (Reg.DSF_CHn_CNT_HDR_DISC ch) List.not_mem_nil
  have hchan : ∀ m, t.chan m = (s.headerRead ch).chan m := fun m => by rw [ht, State.chan_commit, State.chan_bump]
  have hfresh : t.fresh = s.fresh := by rw [ht, State.commit_fresh, State.bump_fresh, State.headerRead_fresh]
  have hout : t.out = s.out := by rw [ht, State.commit_out, State.bump_out, State.headerRead_out]
  have hclk : t.clk = s.clk := by rw [ht, State.commit_clk, State.bump_clk, State.headerRead_clk]
  have hpods : t.pods = s.pods := by rw [ht, State.commit_pods, State.bump_pods, State.headerRead_pods]
  have hntm : t.ntm = { s.ntm with time := t.ntm.time, frac := t.ntm.frac } := by
    have same : t.ntm = (s.headerRead ch).ntm := by rw [ht, State.commit_ntm, State.bump_ntm]
    rw [same]
    exact s.headerRead_ntm ch
  have hbare : t.bare = s.bare := by rw [ht, State.bare_commit, State.bare_bump, State.headerRead_bare]
  have hevt : t.evt = s.evt := by rw [ht, State.commit_evt, hs]
  refine ⟨(hchan _).trans (s.headerRead_chan ch), ?_, fun m hm => (hchan m).trans (s.headerRead_chan_ne hm),
    State.eq_of_bare hbare rfl hfresh rfl rfl hevt hout hclk hntm hpods rfl rfl,
    ht ▸ hnotes.regsKept hs, ht ▸ hnotes.cntsKept⟩
  rw [ht, State.commit_cnt, State.cnt_bump_self, hcnt]

end

/-! ## A valid header on a channel in MF HUNT (Table DSF-2) -/

/-- Multiframe alignment moves between states outside MF_SYNC without a consequence. -/
theorem State.setMf_of_unsynced (s : State) {n : Nat} {st : MfState} (hwas : (s.chan n).mf ≠ .sync)
    (hst : st ≠ .sync) :
    s.setMf n st = s.modChan n (fun c => { c with mf := st, mfCand := if st = .hunt then none else c.mfCand }) := by
  unfold State.setMf
  simp only [hwas, hst, false_and, if_false]

/-- Table DSF-2, row of MF HUNT: the header is the candidate, and the state is PRESYNC. -/
def State.toPresync (s : State) (n : Nat) (h : FrameHdr) : State :=
  (s.modChan n (fun c => { c with mfCand := some h, mfCount := 0 })).modChan n
    (fun c => { c with mf := .presync, mfCand := c.mfCand })

theorem State.toPresync_chan (s : State) (n : Nat) (h : FrameHdr) :
    (s.toPresync n h).chan n = { s.chan n with mf := .presync, mfCand := some h, mfCount := 0 } := by
  rw [State.toPresync, State.chan_modChan_self, State.chan_modChan_self]

theorem State.toPresync_chan_ne (s : State) {m n : Nat} (h : FrameHdr) (hm : m ≠ n) :
    (s.toPresync n h).chan m = s.chan m := by
  rw [State.toPresync, State.chan_modChan_ne _ _ hm, State.chan_modChan_ne _ _ hm]

theorem State.toPresync_bare (s : State) (n : Nat) (h : FrameHdr) : (s.toPresync n h).bare = s.bare := by
  rw [State.toPresync, State.bare_modChan, State.bare_modChan]

theorem State.Notes.toPresync {s u : State} {rs cs : List Nat} (hu : s.Notes u rs cs) (n : Nat) (h : FrameHdr) :
    s.Notes (u.toPresync n h) rs cs := (hu.modChan n _).modChan n _

/-- A valid header on a channel in MF HUNT stands. -/
theorem State.alignMf_of_hunt (s : State) {n : Nat} (hmf : (s.chan n).mf = .hunt) (h : FrameHdr) :
    s.alignMf n h = (true, s.toPresync n h) := by
  have was : ((s.modChan n (fun c => { c with mfCand := some h, mfCount := 0 })).chan n).mf ≠ .sync := by
    rw [State.chan_modChan_self, hmf]; decide
  unfold State.alignMf
  simp only [hmf]
  rw [State.setMf_of_unsynced _ was (by decide)]
  rfl

/-- Outside MF_SYNC a header that stands is kept as the last valid one, and dates profile definitions (R148). -/
theorem State.takeHeader_of_unsynced (s : State) {n : Nat} (hmf : (s.chan n).mf ≠ .sync) (h : FrameHdr) :
    ∃ f, s.takeHeader n h = (s.modChan n (fun c => { c with lastHdr := some h })).modPod n f := by
  have unsynced : ∀ f, ((s.modChan n (fun c => { c with lastHdr := some h })).modPod n f).mfSync n = false := fun f => by
    rw [State.mfSync, State.chan_modPod, State.chan_modChan_self]
    exact beq_eq_false_iff_ne.2 hmf
  unfold State.takeHeader
  simp only [unsynced]
  exact ⟨_, rfl⟩

/-- What holds from the moment a header `h` has stood on channel `n`, in MF HUNT until then, to the end of its header
space. -/
structure State.HuntedTo (s : State) (n : Nat) (h : FrameHdr) (u : State) : Prop where
  notes : s.Notes u (Reg.DSF_CHn_EVENT n :: rootRegs) (mapCnts n ++ rootCnts)
  bare : u.bare = s.bare
  others : ∀ m, m ≠ n → u.chan m = s.chan m
  mf : (u.chan n).mf = .presync
  mfCand : (u.chan n).mfCand = some h
  lastHdr : (u.chan n).lastHdr = some h
  hdrDone : (u.chan n).hdrDone = true
  fa : (u.chan n).fa = (s.chan n).fa

namespace State.HuntedTo

variable {s u v : State} {n : Nat} {h : FrameHdr}

/-- An operation beside the channels of DSF keeps it. -/
theorem congr (hu : s.HuntedTo n h u) (hnotes : s.Notes v (Reg.DSF_CHn_EVENT n :: rootRegs) (mapCnts n ++ rootCnts))
    (hbare : v.bare = u.bare) (hdsf : v.dsf = u.dsf) : s.HuntedTo n h v := by
  have hchan : ∀ m, v.chan m = u.chan m := fun m => by rw [State.chan, hdsf]; rfl
  exact ⟨hnotes, hbare.trans hu.bare, fun m hm => (hchan m).trans (hu.others m hm), by rw [hchan, hu.mf],
    by rw [hchan, hu.mfCand], by rw [hchan, hu.lastHdr], by rw [hchan, hu.hdrDone], by rw [hchan, hu.fa]⟩

theorem rootClosed (s : State) (n : Nat) (h : FrameHdr) : RootClosed (s.HuntedTo n h) := by
  have N : RootClosed (fun t => s.Notes t (Reg.DSF_CHn_EVENT n :: rootRegs) (mapCnts n ++ rootCnts)) :=
    State.Notes.rootClosed (List.subset_cons_self _ _) (List.subset_append_right _ _)
  exact
    { fresh := fun t k ht => ht.congr (N.fresh t k ht.notes) rfl rfl
      modClk := fun t f ht => ht.congr (N.modClk t f ht.notes) (t.bare_modClk f) (t.modClk_dsf f)
      modNtm := fun t f ht => ht.congr (N.modNtm t f ht.notes) (t.bare_modNtm f) (t.modNtm_dsf f)
      raise := fun t a i ha ht => ht.congr (N.raise t a i ha ht.notes) (t.bare_raise a i) (t.raise_dsf a i)
      bump := fun t a ha ht => ht.congr (N.bump t a ha ht.notes) (t.bare_bump a) (t.bump_dsf a) }

theorem controlClosed (s : State) (ch : Chan) (h : FrameHdr) : ControlClosed ch (s.HuntedTo ch h) where
  count t a k ha ht := ht.congr
    (ht.notes.count (by rw [half_mapCnts ch a ha]; exact List.mem_cons_self) (List.mem_append_left _ ha) k)
    (t.bare_count a k) (t.count_dsf a k)
  send t o ht := ht.congr (ht.notes.quiet rfl rfl rfl) (t.bare_send o) (t.send_dsf o)
  pvec t v ht :=
    { notes := ht.notes.modChan _ _
      bare := (t.bare_modChan ch _).trans ht.bare
      others := fun m hm => (t.chan_modChan_ne _ hm).trans (ht.others m hm)
      mf := by rw [State.chan_modChan_self, ← ht.mf]
      mfCand := by rw [State.chan_modChan_self, ← ht.mfCand]
      lastHdr := by rw [State.chan_modChan_self, ← ht.lastHdr]
      hdrDone := by rw [State.chan_modChan_self, ← ht.hdrDone]
      fa := by rw [State.chan_modChan_self, ← ht.fa] }

theorem unsynced (hu : s.HuntedTo n h u) : u.mfSync n = false := by rw [State.mfSync, hu.mf]; rfl

end State.HuntedTo

/-- A valid header on a channel in MF HUNT stands, and is taken. -/
theorem State.huntedTo_of_hunt (s : State) {n : Nat} (hmf : (s.chan n).mf = .hunt) (h : FrameHdr) :
    ∃ u, (s.headerRead n).alignMf n h = (true, u) ∧ s.HuntedTo n h (u.takeHeader n h) := by
  refine ⟨_, State.alignMf_of_hunt _ (by rw [State.headerRead_chan, hmf]) h, ?_⟩
  have unsynced : (((s.headerRead n).toPresync n h).chan n).mf ≠ .sync := by
    rw [State.toPresync_chan]; exact MfState.noConfusion
  obtain ⟨f, hf⟩ := State.takeHeader_of_unsynced _ unsynced h
  have hchan : (((s.headerRead n).toPresync n h).takeHeader n h).chan n =
      { s.chan n with hdrDone := true, mf := .presync, mfCand := some h, mfCount := 0, lastHdr := some h } := by
    rw [hf, State.chan_modPod, State.chan_modChan_self, State.toPresync_chan, State.headerRead_chan]
  exact
    { notes := by rw [hf]; exact (((s.headerRead_notes n _ _).toPresync n h).modChan _ _).modPod _ _
      bare := by rw [hf, State.bare_modPod, State.bare_modChan, State.toPresync_bare, State.headerRead_bare]
      others := fun m hm => by
        rw [hf, State.chan_modPod, State.chan_modChan_ne _ _ hm, State.toPresync_chan_ne _ _ hm,
          State.headerRead_chan_ne _ hm]
      mf := by rw [hchan]
      mfCand := by rw [hchan]
      lastHdr := by rw [hchan]
      hdrDone := by rw [hchan]
      fa := by rw [hchan] }

/-- The end of the command: beside the channel, only time, clocks, Pods and what was sent have moved. -/
theorem State.HuntedTo.commit_eq {s u : State} {n : Nat} {h : FrameHdr} (hs : s.settled) (hu : s.HuntedTo n h u) :
    u.commit = { s.later u.commit with
      dsf := { s.dsf with chans := u.commit.dsf.chans }, pods := u.commit.pods, ntm := u.commit.ntm, clk := u.commit.clk
      fresh := u.commit.fresh, out := u.commit.out } :=
  State.eq_of_bare (u.bare_commit.trans hu.bare) rfl rfl rfl rfl (u.commit_evt.trans hs.symm) rfl rfl rfl rfl rfl rfl

/-- The counter of discarded headers is none of those that a valid header can move. -/
theorem cnt_hdr_disc_not_moved (ch : Chan) : Reg.DSF_CHn_CNT_HDR_DISC ch ∉ mapCnts ch ++ rootCnts := by
  revert ch; decide

/-! ## The obligation -/

/-- Settles O26: a header that is not valid is counted and leaves the rest alone; a valid one in MF HUNT stands, and map
and control section, which a channel outside MF_SYNC takes without grants, leave its alignment as it is. -/
theorem headerSpaces : Obligations.HeaderSpaces := by
  intro s ch raw data kinds hs hreset hfa hdone hdata
  change data = descrambleHeader raw at hdata
  subst hdata
  refine ⟨fun hbad => ?_, fun hbytes hcrc hch hframe hmf => ?_⟩
  · exact ⟨_, execHeaderSpace_invalid hreset hfa hdone (validHeader_eq_false hbad), discarded_header hs rfl⟩
  · have hvalid : validHeader ch (descrambleHeader raw) kinds = true := by
      simp [validHeader, hbytes, hcrc, hch, hframe]
    obtain ⟨u, hu, taken⟩ := s.huntedTo_of_hunt hmf (frameHdrOf (s.chan ch) (descrambleHeader raw))
    have rooted := (State.HuntedTo.rootClosed s ch _).reconsider taken
    have ended := (State.HuntedTo.controlClosed s ch _).mapAndControl rooted.unsynced rooted
      (frameHdrOf (s.chan ch) (descrambleHeader raw)) (descrambleHeader raw) kinds
    refine ⟨_, frameHdrOf (s.chan ch) (descrambleHeader raw), execHeaderSpace_valid hreset hfa hdone hvalid hu,
      rfl, rfl, rfl, rfl, rfl, ?_⟩
    refine ⟨?_, ?_, ?_, ?_, ?_, fun m hm => ?_, ?_, ended.commit_eq hs, ended.notes.regsKept hs, ended.notes.cntsKept⟩
    · rw [State.chan_commit, ended.mf]
    · rw [State.chan_commit, ended.mfCand]
    · rw [State.chan_commit, ended.lastHdr]
    · rw [State.chan_commit, ended.hdrDone]
    · rw [State.chan_commit, ended.fa, hfa]
    · rw [State.chan_commit, ended.others m hm]
    · rw [State.commit_cnt, ended.notes.cnt _ (cnt_hdr_disc_not_moved ch)]

end Sys2Proof.Machine
end

section
/-! Proofs about downstream framing and bonding (chapter 4): the ends of the DEG, FFR and LOK windows (R157 to R161),
and what a write of Link word 12 does to a held member-mask change (R186, R187). -/

namespace Sys2Proof.Machine

/-! ## Work on one channel of DSF -/

/-- `s` without what work on a channel of DSF can change: time, the registers, counters and events, and the channels. -/
def State.still (s : State) : State :=
  { s with
    ticks := 0, regs := [], wide := [], evt := [], ntm := { s.ntm with time := 0, frac := 0 }
    dsf := { s.dsf with chans := [] }, twn := { s.twn with lease := { s.twn.lease with left := 0 } } }

/-- Between commands, two states agree beside time, registers, counters and channels when they agree when still. -/
theorem State.eq_of_still {s t : State} (h : t.still = s.still) (hevt : t.evt = s.evt) :
    t = { s.later t with dsf := { s.dsf with chans := t.dsf.chans } } := by
  have restore : ∀ u : State, u = { u.still with
      ticks := u.ticks, regs := u.regs, wide := u.wide, evt := u.evt
      ntm := { u.still.ntm with time := u.ntm.time, frac := u.ntm.frac }
      dsf := { u.still.dsf with chans := u.dsf.chans }
      twn := { u.still.twn with lease := { u.still.twn.lease with left := u.twn.lease.left } } } := fun _ => rfl
  calc t = _ := restore t
    _ = _ := by rw [h, hevt]; rfl

section
variable (s : State)

@[simp] theorem State.still_passTicks (k : Nat) : (s.passTicks k).still = s.still := by
  unfold State.passTicks
  generalize tickAdvance s.ntm.frac s.ntm.rate k = p
  rfl
@[simp] theorem State.still_passTo (k : Nat) : (s.passTo k).still = s.still := s.still_passTicks _
@[simp] theorem State.still_modChan (n : Nat) (f : DsfCh → DsfCh) : (s.modChan n f).still = s.still := rfl
@[simp] theorem State.still_raise (a i : Nat) : (s.raise a i).still = s.still := rfl
@[simp] theorem State.still_commit : s.commit.still = s.still := by simp [State.still]

@[simp] theorem State.fld_passTo (k a hi lo : Nat) : (s.passTo k).fld a hi lo = s.fld a hi lo := by simp [State.fld]
@[simp] theorem State.chEnabled_passTo (k n : Nat) : (s.passTo k).chEnabled n = s.chEnabled n := by
  simp [State.chEnabled, State.rbit]
@[simp] theorem State.lokLinks_passTo (k n : Nat) : (s.passTo k).lokLinks n = s.lokLinks n := by simp [State.lokLinks]
@[simp] theorem State.chan_raise (a i n : Nat) : (s.raise a i).chan n = s.chan n := rfl
@[simp] theorem State.now_commit : s.commit.now = s.now := by simp [State.now]

end

theorem State.Notes.trans {s u v : State} {rs cs : List Nat} (h : s.Notes u rs cs) (h' : u.Notes v rs cs) :
    s.Notes v rs cs where
  wf hs := h'.wf (h.wf hs)
  reg a := (h'.reg a).trans (h.reg a)
  ev a ha := (h'.ev a ha).trans (h.ev a ha)
  cnt a ha := (h'.cnt a ha).trans (h.cnt a ha)

/-- Beside time, channel `n` and events of its status register, `u` is `s`. -/
structure State.OnChan (s u : State) (n : Nat) : Prop where
  still : u.still = s.still
  notes : s.Notes u [Reg.DSF_CHn_EVENT n] []
  others : ∀ m, m ≠ n → u.chan m = s.chan m

namespace State.OnChan

variable {s u : State} {n : Nat}

theorem refl (s : State) (n : Nat) : s.OnChan s n := ⟨rfl, State.Notes.refl s _ _, fun _ _ => rfl⟩

theorem trans {v : State} (h : s.OnChan u n) (h' : u.OnChan v n) : s.OnChan v n :=
  ⟨h'.still.trans h.still, h.notes.trans h'.notes, fun m hm => (h'.others m hm).trans (h.others m hm)⟩

theorem passTo (s : State) (k n : Nat) : s.OnChan (s.passTo k) n where
  still := s.still_passTo k
  notes := (State.Notes.refl s _ _).quiet (s.passTo_regs k) (s.passTo_wide k) (s.passTo_evt k)
  others m _ := s.chan_passTo k m

theorem modChan (h : s.OnChan u n) (f : DsfCh → DsfCh) : s.OnChan (u.modChan n f) n where
  still := (u.still_modChan n f).trans h.still
  notes := h.notes.modChan n f
  others m hm := (u.chan_modChan_ne f hm).trans (h.others m hm)

theorem raise (h : s.OnChan u n) (i : Nat) : s.OnChan (u.raise (Reg.DSF_CHn_EVENT n) i) n where
  still := (u.still_raise _ i).trans h.still
  notes := h.notes.raise List.mem_cons_self i
  others := h.others

theorem clearOne (h : s.OnChan u n) (d : Nat) : s.OnChan (u.clearOne n d) n :=
  iteInduction (motive := fun t => s.OnChan t n) (fun _ => (h.modChan _).raise _) (fun _ => h)

/-- The command ends with a change of the channel: the flags raised stand, and nothing else has moved. -/
theorem ended (h : s.OnChan u n) (hs : s.settled) {f : DsfCh → DsfCh} {o : Host.Outcome State Fault Refusal}
    (ho : o = done (u.modChan n f)) :
    ∃ t, o = .next t ∧ t.chan n = f (u.chan n) ∧ t.now = u.now ∧
      (∀ i < 24, (u.ev (Reg.DSF_CHn_EVENT n)).getLsbD i = true → t.rbit (Reg.DSF_CHn_EVENT n) i = true) ∧
      (∀ m, m ≠ n → t.chan m = s.chan m) ∧ t = { s.later t with dsf := { s.dsf with chans := t.dsf.chans } } ∧
      s.regsKept t [Reg.DSF_CHn_EVENT n] ∧ s.cntsKept t [] := by
  have hon := h.modChan f
  exact ⟨_, ho, by rw [State.chan_commit, State.chan_modChan_self], State.now_commit _,
    fun i hi hev => State.rbit_commit (hon.notes.wf (s.evt_wf_of_settled hs)) hi hev,
    fun m hm => (State.chan_commit _ m).trans (hon.others m hm),
    State.eq_of_still ((State.still_commit _).trans hon.still) ((State.commit_evt _).trans hs.symm),
    hon.notes.regsKept hs, hon.notes.cntsKept⟩

end State.OnChan

/-! ## The defects that a window declares (R157, R163): DEG, FFR and LOK mask no other -/

/-- A channel that is on and awake, with no LOS, LOB or LOF. -/
structure State.Watching (s : State) (n : Nat) : Prop where
  enabled : s.chEnabled n = true
  awake : (s.chan n).asleep = false
  clear : ∀ d < 3, (s.chan n).defects.getLsbD d = false

theorem State.Watching.passTo {s : State} {n : Nat} (h : s.Watching n) (k : Nat) : (s.passTo k).Watching n :=
  ⟨by rw [State.chEnabled_passTo, h.enabled], by rw [State.chan_passTo, h.awake],
    fun d hd => by rw [State.chan_passTo, h.clear d hd]⟩

/-- Without LOS, LOB and LOF no window's defect is masked. -/
theorem State.Watching.unmasked {s : State} {n d : Nat} (h : s.Watching n) (hd : 3 < d) :
    (s.chan n).isMasked d = false := by
  have masks : ∀ m ∈ maskedBy d, m < 3 := by
    unfold maskedBy
    split <;> simp_all
  simp only [DsfCh.isMasked, List.any_eq_false]
  exact fun m hm => by rw [h.clear m (masks m hm)]; exact Bool.false_ne_true

section
variable (s : State) {n d : Nat}

theorem not_maskedBy_of_window (hd : 3 < d) : ∀ e, (maskedBy e).contains d = false := by
  intro e
  unfold maskedBy
  split <;> simp <;> omega

theorem State.declare_of_declared (h : (s.chan n).defects.getLsbD d = true) : s.declare n d = s := by
  simp [State.declare, h]

theorem State.declare_of_watching (hw : s.Watching n) (hd : 3 < d) (h : (s.chan n).defects.getLsbD d = false) :
    s.declare n d = (s.modChan n (fun c => { c with
      defects := putBit c.defects d true
      secDefects := putBit c.secDefects d true })).raise (Reg.DSF_CHn_EVENT n) d := by
  have hlow : ¬ d < 3 := by omega
  simp only [State.declare, hw.enabled, hw.awake, hw.unmasked hd, h, not_maskedBy_of_window hd, hlow, List.foldl_cons,
    List.foldl_nil, Bool.not_true, Bool.or_self, Bool.false_eq_true, if_false]

/-- A window's defect is declared, with its flag where it was not, and nothing else moves. -/
theorem State.declare_window_defect (hw : s.Watching n) (hd : 3 < d) (hd7 : d < 7) :
    ((s.declare n d).chan n).defects.getLsbD d = true ∧
      ((s.chan n).defects.getLsbD d = false → ((s.declare n d).ev (Reg.DSF_CHn_EVENT n)).getLsbD d = true) ∧
      s.OnChan (s.declare n d) n := by
  cases h : (s.chan n).defects.getLsbD d with
  | true =>
    rw [s.declare_of_declared h]
    exact ⟨h, Bool.noConfusion, State.OnChan.refl s n⟩
  | false =>
    rw [s.declare_of_watching hw hd h]
    refine ⟨?_, fun _ => ?_, ((State.OnChan.refl s n).modChan _).raise d⟩
    · rw [State.chan_raise, State.chan_modChan_self, putBit_getLsbD _ _ _ _ hd7, if_pos rfl]
    · rw [State.ev_raise, if_pos rfl, putBit_getLsbD _ _ _ _ (by omega), if_pos rfl]

theorem State.undeclare_of_window (hd : 3 < d) : s.undeclare n d = s.clearOne n d := by
  simp only [State.undeclare, State.clearOne, not_maskedBy_of_window hd, List.foldl_cons, List.foldl_nil,
    Bool.false_and, Bool.false_eq_true, if_false]
  cases (s.chan n).defects.getLsbD d <;> rfl

theorem State.clearOne_defect (hd : d < 7) : ((s.clearOne n d).chan n).defects.getLsbD d = false := by
  unfold State.clearOne
  split
  · rw [State.chan_raise, State.chan_modChan_self, putBit_getLsbD _ _ _ _ hd, if_pos rfl]
  · next h => exact Bool.eq_false_iff.2 h

theorem State.clearOne_flag (hd : d < 7) (h : (s.chan n).defects.getLsbD d = true) :
    ((s.clearOne n d).ev (Reg.DSF_CHn_EVENT n)).getLsbD (7 + d) = true := by
  rw [State.clearOne, if_pos h, State.ev_raise, if_pos rfl, putBit_getLsbD _ _ _ _ (by omega), if_pos rfl]

end

theorem State.Watching.modChan {s : State} {n : Nat} (hw : s.Watching n) {f : DsfCh → DsfCh}
    (hf : ∀ c, (f c).defects = c.defects ∧ (f c).asleep = c.asleep) : (s.modChan n f).Watching n :=
  ⟨hw.enabled, by rw [State.chan_modChan_self, (hf _).2, hw.awake],
    fun e he => by rw [State.chan_modChan_self, (hf _).1, hw.clear e he]⟩

/-! ## The windows of DEG and FFR (R158, R159) -/

/-- The window `w` of defect `d`, which ends at `k`, is judged: above where its errors exceed the limit, below where
`2 ^ h` times as many do not. -/
def State.judged (s : State) (n d : Nat) (w : Window) (k errors limit h : Nat) (put : Window → DsfCh → DsfCh) : State :=
  (s.passTo k).judgeWindow n d w (decide (limit < errors)) (decide (errors * 2 ^ h ≤ limit)) put

section
variable {s : State} {n d : Nat} {w : Window} {k errors limit h : Nat} {put : Window → DsfCh → DsfCh}

/-- The window is judged where time and the window's count of clears have moved alone. -/
theorem State.judged_eq (hactive : w.active = true) (hmasked : w.masked = false) (htotal : w.total ≠ 0) (hd : 3 < d) :
    ∃ clears, (errors * 2 ^ h ≤ limit → clears = w.clears + 1) ∧
      s.judged n d w k errors limit h put =
        if limit < errors then ((s.passTo k).modChan n (put { w with clears := clears })).declare n d
        else if 2 ≤ clears then ((s.passTo k).modChan n (put { w with clears := clears })).clearOne n d
        else (s.passTo k).modChan n (put { w with clears := clears }) := by
  refine ⟨if decide (errors * 2 ^ h ≤ limit) then w.clears + 1 else 0, fun hb => if_pos (decide_eq_true hb), ?_⟩
  rw [State.judged, State.judgeWindow, if_neg (by simp [hactive, hmasked, htotal])]
  simp only [State.undeclare_of_window _ hd, decide_eq_true_eq]

/-- The end of a window that counts: above the limit its defect is declared, with the flag where it was not; the second
time at or below the clear threshold it is cleared; and `f` begins the next window of the channel. -/
theorem State.window_ended (hs : s.settled) (hw : s.Watching n) (hactive : w.active = true) (hmasked : w.masked = false)
    (htotal : w.total ≠ 0) (hd : 3 < d) (hd7 : d < 7) {f : DsfCh → DsfCh} {o : Host.Outcome State Fault Refusal}
    (ho : o = done ((s.judged n d w k errors limit h put).modChan n f)) (hf : ∀ c, (f c).defects = c.defects)
    (hput : ∀ w c, (put w c).defects = c.defects ∧ (put w c).asleep = c.asleep) :
    ∃ t, o = .next t ∧
      (limit < errors → (t.chan n).defects.getLsbD d = true ∧
        ((s.chan n).defects.getLsbD d = false → t.rbit (Reg.DSF_CHn_EVENT n) d = true)) ∧
      (errors * 2 ^ h ≤ limit → 1 ≤ w.clears → (t.chan n).defects.getLsbD d = false) ∧
      t.chan n = f ((s.judged n d w k errors limit h put).chan n) ∧
      t.now = (s.judged n d w k errors limit h put).now ∧
      (∀ m, m ≠ n → t.chan m = s.chan m) ∧ t = { s.later t with dsf := { s.dsf with chans := t.dsf.chans } } ∧
      s.regsKept t [Reg.DSF_CHn_EVENT n] ∧ s.cntsKept t [] := by
  obtain ⟨clears, hclears, heq⟩ :=
    State.judged_eq (s := s) (n := n) (k := k) (h := h) (put := put) (errors := errors) (limit := limit) hactive hmasked
      htotal hd
  have counted := (State.OnChan.passTo s k n).modChan (put { w with clears := clears })
  have watching := (hw.passTo k).modChan (hput { w with clears := clears })
  have unmoved : (((s.passTo k).modChan n (put { w with clears := clears })).chan n).defects = (s.chan n).defects := by
    rw [State.chan_modChan_self, (hput _ _).1, State.chan_passTo]
  by_cases habove : limit < errors
  · rw [if_pos habove] at heq
    obtain ⟨hdeclared, hflagged, hdecl⟩ := State.declare_window_defect _ watching hd hd7
    obtain ⟨t, hnext, hchan, hnow, hflag, hrest⟩ := (counted.trans hdecl).ended hs (heq ▸ ho)
    refine ⟨t, hnext, fun _ => ⟨?_, fun hnot => hflag d (by omega) (hflagged (by rw [unmoved, hnot]))⟩,
      fun hb => absurd (Nat.le_trans (Nat.le_mul_of_pos_right _ (Nat.two_pow_pos _)) hb) (Nat.not_le.2 habove),
      heq ▸ hchan, heq ▸ hnow, hrest⟩
    rw [hchan, hf, hdeclared]
  · rw [if_neg habove] at heq
    obtain ⟨t, hnext, hchan, hnow, hflag, hrest⟩ := State.OnChan.ended (iteInduction (motive := fun t => s.OnChan t n)
      (fun _ => counted.clearOne d) (fun _ => counted)) hs (heq ▸ ho)
    refine ⟨t, hnext, fun ha => absurd ha habove, fun hb hc => ?_, heq ▸ hchan, heq ▸ hnow, hrest⟩
    rw [hchan, hf, if_pos (by rw [hclears hb]; omega)]
    exact State.clearOne_defect _ hd7

end

section
variable (s : State) (ch : Chan)

/-- The DEG window has been judged; a threshold above 1e-2 counts as 1e-2 (R158). -/
def State.degJudged : State :=
  s.judged ch 4 (s.chan ch).deg (windowEnd (s.chan ch).deg.start (s.fld Reg.DSF_DEG_CTRL 31 16))
    ((s.chan ch).deg.errors * 10 ^ (min (s.fld Reg.DSF_DEG_CTRL 5 4) 2 + 2))
    ((if s.fld Reg.DSF_DEG_CTRL 5 4 = 0 then min (s.fld Reg.DSF_DEG_CTRL 3 0) 1 else s.fld Reg.DSF_DEG_CTRL 3 0) *
      14336 * (s.chan ch).deg.total)
    (s.fld Reg.DSF_DEG_CTRL 7 6) (fun w c => { c with deg := w })

theorem execDegWindowEnd_eq : execDegWindowEnd ch s = done ((s.degJudged ch).modChan ch (fun c => { c with
    deg := c.deg.restart (s.degJudged ch).now true (((s.degJudged ch).chan ch).isMasked 4) })) := by
  have hmin : (min (s.fld Reg.DSF_DEG_CTRL 5 4) 2 = 0) = (s.fld Reg.DSF_DEG_CTRL 5 4 = 0) := by
    rw [eq_iff_iff]; omega
  simp only [execDegWindowEnd, State.fld_passTo, hmin]
  rfl

/-- The FFR window has been judged (R159). -/
def State.ffrJudged : State :=
  s.judged ch 5 (s.chan ch).ffr (windowEnd (s.chan ch).ffr.start (s.fld Reg.DSF_FFR_CTRL 31 16))
    ((s.chan ch).ffr.errors * 10 ^ max (s.fld Reg.DSF_FFR_CTRL 7 4) 1)
    (s.fld Reg.DSF_FFR_CTRL 3 0 * (s.chan ch).ffr.total) (s.fld Reg.DSF_FFR_CTRL 9 8) (fun w c => { c with ffr := w })

theorem execFfrWindowEnd_eq : execFfrWindowEnd ch s = done ((s.ffrJudged ch).modChan ch (fun c => { c with
    ffr := c.ffr.restart (s.ffrJudged ch).now true (((s.ffrJudged ch).chan ch).isMasked 5) })) := by
  simp only [execFfrWindowEnd, State.fld_passTo]
  rfl

/-! ## The window of LOK (R161) -/

/-- The end of a LOK window in which no Link reached the threshold: LOK is cleared. -/
def State.lokCleared : State :=
  (s.passTo (windowEnd (s.chan ch).lok.start (s.fld Reg.DSF_LOK_CTRL 31 16))).clearOne ch 6

theorem State.lokCleared_onChan : s.OnChan (s.lokCleared ch) ch := (State.OnChan.passTo s _ ch).clearOne 6

theorem execLokWindowEnd_eq (hactive : (s.chan ch).lok.active = true) (hlinks : s.lokLinks ch = []) :
    execLokWindowEnd ch s = done ((s.lokCleared ch).modChan ch (fun c => { c with
      lok := c.lok.restart (s.lokCleared ch).now true false, lokFails := [] })) := by
  simp only [execLokWindowEnd, State.lokLinks_passTo, hactive, hlinks, List.isEmpty_nil, Bool.and_self, if_true,
    State.undeclare_of_window _ (by decide : 3 < 6), State.lokCleared]

end

/-- Settles O24: the defects of the windows mask no other, so that a judgement moves its own defect and flag alone, and
the next window begins on the channel it leaves. -/
theorem defectWindows : Obligations.DefectWindows := by
  intro s ch hs hen hawake hclear
  have hw : s.Watching ch := ⟨hen, hawake, hclear⟩
  refine ⟨fun w hdeg hactive hmasked htotal => ?_, fun w hffr hactive hmasked htotal => ?_, fun hactive hlinks => ?_⟩
  · subst hdeg
    obtain ⟨t, hexec, habove, hbelow, hchan, hnow, hrest⟩ := State.window_ended hs hw hactive hmasked htotal (by decide)
      (by decide) (execDegWindowEnd_eq s ch) (fun _ => rfl) (fun _ _ => ⟨rfl, rfl⟩)
    refine ⟨t, hexec, habove, hbelow, ?_, ?_, ?_, ?_, hrest⟩ <;> rw [hchan]
    · exact hnow.symm
    all_goals rfl
  · subst hffr
    obtain ⟨t, hexec, habove, hbelow, hchan, hnow, hrest⟩ := State.window_ended hs hw hactive hmasked htotal (by decide)
      (by decide) (execFfrWindowEnd_eq s ch) (fun _ => rfl) (fun _ _ => ⟨rfl, rfl⟩)
    refine ⟨t, hexec, habove, fun hb hc _ => hbelow hb hc, ?_, ?_, ?_, ?_, hrest⟩ <;> rw [hchan]
    · exact hnow.symm
    all_goals rfl
  · obtain ⟨t, hexec, hchan, hnow, hflag, hrest⟩ :=
      (s.lokCleared_onChan ch).ended hs (execLokWindowEnd_eq s ch hactive hlinks)
    refine ⟨t, hexec, ?_, ?_, ?_, ?_, fun h => hflag 13 (by decide) ?_, hrest⟩
    · rw [hchan]
      exact State.clearOne_defect _ (by decide)
    · rw [hchan]
    · rw [hchan]
      exact hnow.symm
    · rw [hchan]
      rfl
    · exact State.clearOne_flag _ (by decide) (by rw [State.chan_passTo, h])

/-! ## A held member-mask change and a write of Link word 12 (R186, R187) -/

/-- After start-up Link 4 is free, with a current upstream key, and a change of its members to channel 1 alone is held:
a write of MEMBERS = 2 with EN = 0 leaves it so while channel 1 is in MF_SYNC. The Link window stands at its word 12. -/
def heldChange : State :=
  (((({ State.reset with boot := { State.reset.boot with step := 11 } } : State).setReg Reg.DSF_LINK_SEL 4).setReg
    Reg.DSF_LINK_ADDR 12).setKeys 9 { LinkKeys.reset with a := { KeySlot.empty with state := .current } }).setDlink 4
    { DsfLink.reset with members := 2, change := some ⟨2, 7, 0⟩ }

/-- The member-mask change that Link 4 holds when a command has ended. -/
def changeAfter : Host.Outcome State Fault Refusal → Option MaskChange
  | .next t => (t.dlink 4).change
  | .fault _ => none
  | .refused _ => none

theorem heldChange_mayAccess : heldChange.mayAccess 3 7 := by
  refine ⟨?_, ?_, ?_, ?_, ?_, ?_, fun h => absurd h (by decide)⟩ <;> decide +kernel

/-- A write of word 12 that maps Link 4 with no members: they are those of the mask in force, but not those of the held
change, which the write replaces (R186). -/
theorem linkWord12Write_replaces_heldChange : changeAfter (exec (.linkWord12Write 3 0x10005) heldChange) = none := by
  decide +kernel

/-- Refutes O28, in its last clause: a Link whose mask in force is already the one written may still hold a change to
another mask, and mapping it ends that change, where the clause has it unchanged. -/
theorem not_linkMembers : ¬ Obligations.LinkMembers := by
  unfold Obligations.LinkMembers
  intro h
  obtain ⟨-, -, -, -, -, mapped⟩ := h heldChange rfl
  obtain ⟨t, hexec, -, hlink, -⟩ := mapped 3 0x10005 4 heldChange_mayAccess (by unfold State.alone; decide +kernel)
    (by decide +kernel) (by decide +kernel) (by decide) (by decide) (by decide +kernel) (by decide +kernel)
    (by decide +kernel) (by decide +kernel) (by decide +kernel) (by decide +kernel) (by decide +kernel)
    (by decide +kernel)
  have replaced : (t.dlink 4).change = none := by
    rw [← linkWord12Write_replaces_heldChange, hexec]
    rfl
  have kept : (t.dlink 4).change = some ⟨2, 7, 0⟩ := by
    rw [hlink]
    decide +kernel
  rw [replaced] at kept
  cases kept

end Sys2Proof.Machine
end

section
/-! Proofs about upstream burst transmission (chapter 7): what the Burst Gate does with the one burst of a channel, the
rogue-light latch, and the guarded writes of UBT (R290 to R310, R580). First the general part: what work on one channel
of UBT leaves alone. -/

namespace Sys2Proof.Machine

/-! ## Work on one channel of UBT -/

/-- `s` without what work on a channel of UBT can change: registers, counters, events and the channels. -/
def State.unmarked (s : State) : State := { s with regs := [], wide := [], evt := [], ubt := [] }

/-- Beside registers, counters and the channels of UBT, two states between commands agree when they agree unmarked. -/
theorem State.eq_of_unmarked {s t : State} (h : t.unmarked = s.unmarked) (hevt : t.evt = s.evt) :
    t = { s.noted t with ubt := t.ubt } := by
  have restore : ∀ u : State, u = { u.unmarked with regs := u.regs, wide := u.wide, evt := u.evt, ubt := u.ubt } :=
    fun _ => rfl
  calc t = _ := restore t
    _ = _ := by rw [h, hevt]; rfl

section
variable (s : State)

@[simp] theorem State.unmarked_raiseIf (c : Bool) (a i : Nat) : (s.raiseIf c a i).unmarked = s.unmarked := by
  unfold State.raiseIf
  split <;> rfl
@[simp] theorem State.unmarked_count (a k : Nat) : (s.count a k).unmarked = s.unmarked := by
  unfold State.count
  dsimp only
  split <;> rfl
@[simp] theorem State.unmarked_commit : s.commit.unmarked = s.unmarked := by simp [State.unmarked]

@[simp] theorem State.ubtCh_modUbt_self (n : Nat) (f : UbtCh → UbtCh) : (s.modUbt n f).ubtCh n = f (s.ubtCh n) :=
  Tab.get_modify_self UbtCh.reset s.ubt n f
theorem State.ubtCh_modUbt_ne {m n : Nat} (f : UbtCh → UbtCh) (h : m ≠ n) : (s.modUbt n f).ubtCh m = s.ubtCh m :=
  Tab.get_modify_ne UbtCh.reset UbtCh.reset s.ubt f h
@[simp] theorem State.ubtCh_raise (a i n : Nat) : (s.raise a i).ubtCh n = s.ubtCh n := rfl
@[simp] theorem State.ubtCh_raiseIf (c : Bool) (a i n : Nat) : (s.raiseIf c a i).ubtCh n = s.ubtCh n := by
  simp [State.ubtCh]
@[simp] theorem State.ubtCh_count (a k n : Nat) : (s.count a k).ubtCh n = s.ubtCh n := by simp [State.ubtCh]
@[simp] theorem State.ubtCh_bump (a n : Nat) : (s.bump a).ubtCh n = s.ubtCh n := s.ubtCh_count a 1 n
@[simp] theorem State.ubtCh_passTo (k n : Nat) : (s.passTo k).ubtCh n = s.ubtCh n := by simp [State.ubtCh]
@[simp] theorem State.ubtCh_send (o : Out) (n : Nat) : (s.send o).ubtCh n = s.ubtCh n := rfl
@[simp] theorem State.ubtCh_fault (src : BitVec 18) (kind ctx flags n : Nat) :
    (s.fault src kind ctx flags).ubtCh n = s.ubtCh n := rfl
@[simp] theorem State.ubtCh_commit (n : Nat) : s.commit.ubtCh n = s.ubtCh n := by simp [State.ubtCh]

/-- A flag raised for the end of the command stays raised. -/
theorem State.ev_raise_mono {a i : Nat} (hi : i < 32) (h : (s.ev a).getLsbD i = true) (b j : Nat) :
    ((s.raise b j).ev a).getLsbD i = true := by
  rw [State.ev_raise]
  split
  · next hab => rw [← hab, putBit_getLsbD _ _ _ _ hi, h, ite_self]
  · exact h

theorem State.ev_raise_self {a i : Nat} (hi : i < 32) : ((s.raise a i).ev a).getLsbD i = true := by
  rw [State.ev_raise, if_pos rfl, putBit_getLsbD _ _ _ _ hi, if_pos rfl]

theorem State.ev_bump_mono {a i : Nat} (hi : i < 32) (h : (s.ev a).getLsbD i = true) (b : Nat) :
    ((s.bump b).ev a).getLsbD i = true := by
  rw [State.ev_bump_at]
  split
  · rw [putBit_getLsbD _ _ _ _ hi, h, ite_self]
  · exact h

end

theorem State.Notes.raiseIf {s u : State} {rs cs : List Nat} (h : s.Notes u rs cs) {a : Nat} (ha : a ∈ rs) (c : Bool)
    (i : Nat) : s.Notes (u.raiseIf c a i) rs cs :=
  iteInduction (motive := fun t => s.Notes t rs cs) (fun _ => h.raise ha i) (fun _ => h)

/-- Beside channel `n` of UBT, events of the status registers `rs` and counts of the counters `cs`, `u` is `s`. -/
structure State.GateWork (s u : State) (n : Nat) (rs cs : List Nat) : Prop where
  rest : u.unmarked = s.unmarked
  notes : s.Notes u rs cs
  others : ∀ m, m ≠ n → u.ubtCh m = s.ubtCh m

namespace State.GateWork

variable {s u : State} {n : Nat} {rs cs : List Nat}

theorem refl (s : State) (n : Nat) (rs cs : List Nat) : s.GateWork s n rs cs :=
  ⟨rfl, State.Notes.refl s rs cs, fun _ _ => rfl⟩

theorem modUbt (h : s.GateWork u n rs cs) (f : UbtCh → UbtCh) : s.GateWork (u.modUbt n f) n rs cs where
  rest := h.rest
  notes := h.notes.quiet rfl rfl rfl
  others m hm := (u.ubtCh_modUbt_ne f hm).trans (h.others m hm)

theorem raiseIf (h : s.GateWork u n rs cs) {a : Nat} (ha : a ∈ rs) (c : Bool) (i : Nat) :
    s.GateWork (u.raiseIf c a i) n rs cs where
  rest := (u.unmarked_raiseIf c a i).trans h.rest
  notes := h.notes.raiseIf ha c i
  others m hm := (u.ubtCh_raiseIf c a i m).trans (h.others m hm)

theorem raise (h : s.GateWork u n rs cs) {a : Nat} (ha : a ∈ rs) (i : Nat) : s.GateWork (u.raise a i) n rs cs :=
  h.raiseIf ha true i

theorem count (h : s.GateWork u n rs cs) {a : Nat} (hr : (halfFlag a).1 ∈ rs) (hc : a ∈ cs) (k : Nat) :
    s.GateWork (u.count a k) n rs cs where
  rest := (u.unmarked_count a k).trans h.rest
  notes := h.notes.count hr hc k
  others m hm := (u.ubtCh_count a k m).trans (h.others m hm)

theorem bump (h : s.GateWork u n rs cs) {a : Nat} (hr : (halfFlag a).1 ∈ rs) (hc : a ∈ cs) :
    s.GateWork (u.bump a) n rs cs := h.count hr hc 1

theorem rest_commit (h : s.GateWork u n rs cs) : u.commit.unmarked = s.unmarked := u.unmarked_commit.trans h.rest

/-- The command ends: what it has left alone. -/
theorem ended (h : s.GateWork u n rs cs) (hs : s.settled) :
    (∀ m, m ≠ n → u.commit.ubtCh m = s.ubtCh m) ∧ u.commit = { s.noted u.commit with ubt := u.commit.ubt } ∧
      s.regsKept u.commit rs ∧ s.cntsKept u.commit cs :=
  ⟨fun m hm => (u.ubtCh_commit m).trans (h.others m hm),
    State.eq_of_unmarked h.rest_commit (u.commit_evt.trans hs.symm), h.notes.regsKept hs, h.notes.cntsKept⟩

/-- The command ends, which has begun by letting time pass. -/
theorem ended_later {k : Nat} (h : (s.passTo k).GateWork u n rs cs) (hs : s.settled) :
    (∀ m, m ≠ n → u.commit.ubtCh m = s.ubtCh m) ∧ u.commit = { s.later u.commit with ubt := u.commit.ubt } ∧
      s.regsKept u.commit rs ∧ s.cntsKept u.commit cs := by
  obtain ⟨hothers, hnoted, hregs, hcnts⟩ := h.ended ((s.passTo_evt k).trans hs)
  have hticks : u.commit.ticks = (s.passTo k).ticks := (congrArg State.ticks h.rest_commit :)
  have hntm : u.commit.ntm = (s.passTo k).ntm := (congrArg State.ntm h.rest_commit :)
  have htwn : u.commit.twn = (s.passTo k).twn := (congrArg State.twn h.rest_commit :)
  refine ⟨fun m hm => (hothers m hm).trans (s.ubtCh_passTo k m), ?_,
    fun a ha => (hregs a ha).trans (s.reg_passTo k a), fun a ha => (hcnts a ha).trans (s.cnt_passTo k a)⟩
  rw [State.later, hticks, hntm, htwn]
  exact hnoted

theorem flag (h : s.GateWork u n rs cs) (hs : s.settled) {a i : Nat} (hi : i < 24)
    (hf : (u.ev a).getLsbD i = true) : u.commit.rbit a i = true :=
  State.rbit_commit (h.notes.wf (s.evt_wf_of_settled hs)) hi hf

end State.GateWork

/-! ## The one burst of a channel -/

section
variable {s : State} {n : Nat} {b : Burst}

theorem State.nextBurst_of_one (hone : (s.ubtCh n).bursts = [b]) (hwaits : b.launched = false) :
    s.nextBurst n = some b := by
  simp [State.nextBurst, hone, hwaits, leastOf]

theorem State.openBurst_of_one (hone : (s.ubtCh n).bursts = [b]) (hopen : b.launched = true) :
    s.openBurst n = some b := by
  simp [State.openBurst, hone, hopen]

theorem State.dropBurst_of_one (hone : (s.ubtCh n).bursts = [b]) : ((s.dropBurst n b).ubtCh n).bursts = [] := by
  simp [State.dropBurst, hone]

/-- No burst follows on a channel without bursts. -/
theorem State.unjoin_of_none (hnone : (s.ubtCh n).bursts = []) : s.unjoin n b = s := by
  simp [State.unjoin, hnone]

/-- Without messages to return, the upstream control queue, which holds at most 64, stays as it is. -/
theorem State.returnMsgs_nil (hq : s.act.uq.length ≤ 64) : s.returnMsgs [] = s := by
  simp only [State.returnMsgs, List.nil_append, List.take_of_length_le hq, Nat.sub_eq_zero_of_le hq, if_true]
  rfl

/-- A burst that carries no frame and no message has nothing to return. -/
theorem State.withdraw_of_empty (hplaces : b.places = []) (hmsgs : b.msgs = []) (hkind : b.g.kind ≠ .announce)
    (hq : s.act.uq.length ≤ 64) : s.withdraw b = s := by
  simp only [State.withdraw, hkind, if_false, hplaces, hmsgs, List.map_nil, List.eraseDups_nil, List.foldl_nil,
    List.isEmpty_nil, Bool.not_true, State.raiseIf, Bool.false_eq_true]
  exact State.returnMsgs_nil hq

/-- What returns from a burst without frames goes to other places than UBT. -/
theorem State.withdraw_ubt (hplaces : b.places = []) : (s.withdraw b).ubt = s.ubt := by
  simp only [State.withdraw, hplaces, List.map_nil, List.eraseDups_nil, List.foldl_nil, State.returnMsgs]
  split <;> split <;> simp

/-- A burst that stands alone on its channel is abandoned: nothing was joined to it, and nothing follows. -/
theorem State.abandon_of_one (hone : (s.ubtCh n).bursts = [b]) (hplaces : b.places = []) (hjoined : b.joined = false) :
    s.abandon n b = (s.dropBurst n b).withdraw b := by
  have hnone : (((s.dropBurst n b).withdraw b).ubtCh n).bursts = [] := by
    rw [State.ubtCh, State.withdraw_ubt hplaces]
    exact State.dropBurst_of_one hone
  have hrejoin : ((s.dropBurst n b).withdraw b).rejoin n b = (s.dropBurst n b).withdraw b := by
    simp [State.rejoin, hjoined]
  rw [State.abandon, hrejoin, State.unjoin_of_none hnone]

end

/-! ## The second test (R303, R707) -/

/-- The status registers and counters that a launch on channel `n` moves. -/
def launchRegs (n : Nat) : List Nat := [Reg.POD_TX_STATUS n, Reg.UBT_STATUS, Reg.ACT_STATUS]
def launchCnts (n : Nat) : List Nat :=
  [Reg.UBT_CHn_CNT_BURSTS n, Reg.POD_TX_CNT_BURSTS n, Reg.ACT_CNT_ANN_SENT, Reg.ACT_CNT_RANGE_SENT]

theorem half_launchCnts (ch : Chan) : ∀ a ∈ launchCnts ch, (halfFlag a).1 ∈ launchRegs ch := by
  simp [launchCnts, launchRegs, half_UBT_CHn_CNT_BURSTS ch.isLt, half_POD_TX_CNT_BURSTS ch.isLt]

/-- The transmit path of Pod `n` is biased. -/
def State.biased (s : State) (n : Nat) : State := s.modPwr (fun p => { p with bias := putBit p.bias n true })

/-- An announcement or a ranging burst is counted when it is launched. -/
def State.countKind (s : State) (k : GrantKind) : State :=
  match k with
  | .announce => s.bump Reg.ACT_CNT_ANN_SENT
  | .ranging _ => s.bump Reg.ACT_CNT_RANGE_SENT
  | .alloc _ => s

/-- The gate of channel `n` opens for burst `b`. -/
def State.opened (s : State) (n : Nat) (b : Burst) : State :=
  (s.modUbt n (fun u => { u with
    bseq := (s.ubtCh n).bseq + 1
    bursts := u.bursts.map (fun x => if x.g = b.g then { x with launched := true, bseq := (s.ubtCh n).bseq } else x)
    })).raiseIf (s.rampDownOf n b.g.guard).2 (Reg.POD_TX_STATUS n) 5

/-- Burst `b` is launched when its second test passes: the gate opens, and the burst is counted. -/
def State.launched (s : State) (n : Nat) (b : Burst) : State :=
  (((((s.biased n).passTo b.testAt).opened n b).countKind b.g.kind).bump (Reg.UBT_CHn_CNT_BURSTS n)).bump
    (Reg.POD_TX_CNT_BURSTS n)

/-- Burst `b` fails its second test, with the code `c` among the codes `fails`. -/
def State.failed (s : State) (n : Nat) (b : Burst) (c : Nat) (fails : List Nat) : State :=
  ((((((s.passTo b.testAt).limitFlags fails).recordCause n c 2).dropBurst n b).withdraw b).bump
    (Reg.UBT_CHn_CNT_ABANDON n)).raise Reg.UBT_STATUS 3

section
variable {s : State} {ch : Chan} {b : Burst}

theorem execSecondTest_pass (hone : (s.ubtCh ch).bursts = [b]) (hwaits : b.launched = false)
    (hpass : (s.passTo b.testAt).gateFails ch b = []) : execSecondTest ch s = done (s.launched ch b) := by
  simp only [execSecondTest, State.nextBurst_of_one hone hwaits, hpass]
  unfold State.launched State.countKind
  cases b.g.kind <;> rfl

@[simp] theorem State.ubtCh_limitFlags (s : State) (fails : List Nat) (n : Nat) :
    (s.limitFlags fails).ubtCh n = s.ubtCh n := by simp [State.limitFlags]

theorem State.recordCause_bursts (s : State) (n c stage : Nat) :
    ((s.recordCause n c stage).ubtCh n).bursts = (s.ubtCh n).bursts := by
  unfold State.recordCause
  dsimp only
  split <;> simp

theorem execSecondTest_fail (hone : (s.ubtCh ch).bursts = [b]) (hwaits : b.launched = false) (hplaces : b.places = [])
    (hjoined : b.joined = false) {c : Nat} {r : List Nat} (hfail : (s.passTo b.testAt).gateFails ch b = c :: r) :
    execSecondTest ch s = done (s.failed ch b c (c :: r)) := by
  have hrecorded : ((((s.passTo b.testAt).limitFlags (c :: r)).recordCause ch c 2).ubtCh ch).bursts = [b] := by
    rw [State.recordCause_bursts, State.ubtCh_limitFlags, State.ubtCh_passTo, hone]
  simp only [execSecondTest, State.nextBurst_of_one hone hwaits, hfail,
    State.abandon_of_one hrecorded hplaces hjoined, State.failed]

/-! ### A burst that passes -/

theorem State.GateWork.countKind {s u : State} (h : s.GateWork u ch (launchRegs ch) (launchCnts ch)) (k : GrantKind) :
    s.GateWork (u.countKind k) ch (launchRegs ch) (launchCnts ch) := by
  have sent : ∀ {a}, a ∈ launchCnts ch → s.GateWork (u.bump a) ch (launchRegs ch) (launchCnts ch) :=
    fun ha => h.bump (half_launchCnts ch _ ha) ha
  cases k with
  | announce => exact sent (by simp [launchCnts])
  | ranging _ => exact sent (by simp [launchCnts])
  | alloc _ => exact h

theorem State.launched_gateWork (s : State) (ch : Chan) (b : Burst) :
    ((s.biased ch).passTo b.testAt).GateWork (s.launched ch b) ch (launchRegs ch) (launchCnts ch) := by
  have opened : ((s.biased ch).passTo b.testAt).GateWork (((s.biased ch).passTo b.testAt).opened ch b) ch
      (launchRegs ch) (launchCnts ch) :=
    ((State.GateWork.refl _ ch _ _).modUbt _).raiseIf List.mem_cons_self _ _
  exact ((opened.countKind b.g.kind).bump (half_launchCnts ch _ (by simp [launchCnts])) (by simp [launchCnts])).bump
    (half_launchCnts ch _ (by simp [launchCnts])) (by simp [launchCnts])

@[simp] theorem State.ubtCh_countKind (s : State) (k : GrantKind) (n : Nat) : (s.countKind k).ubtCh n = s.ubtCh n := by
  cases k <;> simp [State.countKind]

theorem State.ubtCh_biased (s : State) (n m : Nat) : (s.biased n).ubtCh m = s.ubtCh m := rfl

theorem State.launched_ubtCh (hone : (s.ubtCh ch).bursts = [b]) : (s.launched ch b).ubtCh ch =
    { s.ubtCh ch with
      bseq := (s.ubtCh ch).bseq + 1, bursts := [{ b with launched := true, bseq := (s.ubtCh ch).bseq }] } := by
  simp [State.launched, State.opened, State.ubtCh_biased, hone]

/-- The counts of a burst's kind are none of the counts of bursts. -/
theorem State.cnt_countKind (s : State) (k : GrantKind) {a : Nat} (ha : a ≠ Reg.ACT_CNT_ANN_SENT)
    (hr : a ≠ Reg.ACT_CNT_RANGE_SENT) : (s.countKind k).cnt a = s.cnt a := by
  cases k with
  | announce => exact s.cnt_bump_ne ha
  | ranging _ => exact s.cnt_bump_ne hr
  | alloc _ => rfl

theorem launchCnts_nodup (ch : Chan) : (launchCnts ch).Nodup := by
  revert ch
  decide

theorem State.launched_cnt_bursts (s : State) (ch : Chan) (b : Burst) :
    (s.launched ch b).cnt (Reg.UBT_CHn_CNT_BURSTS ch) = s.cnt (Reg.UBT_CHn_CNT_BURSTS ch) + 1 := by
  have hd := launchCnts_nodup ch
  simp only [launchCnts, List.nodup_cons, List.mem_cons, List.not_mem_nil, or_false, not_or] at hd
  obtain ⟨⟨hpod, hann, hrange⟩, -⟩ := hd
  rw [State.launched, State.cnt_bump_ne _ hpod, State.cnt_bump_self, State.cnt_countKind _ _ hann hrange]
  simp [State.opened, State.biased]

theorem State.launched_cnt_pod (s : State) (ch : Chan) (b : Burst) :
    (s.launched ch b).cnt (Reg.POD_TX_CNT_BURSTS ch) = s.cnt (Reg.POD_TX_CNT_BURSTS ch) + 1 := by
  have hd := launchCnts_nodup ch
  simp only [launchCnts, List.nodup_cons, List.mem_cons, List.not_mem_nil, or_false, not_or] at hd
  obtain ⟨⟨hpod, -⟩, ⟨hann, hrange⟩, -⟩ := hd
  rw [State.launched, State.cnt_bump_self, State.cnt_bump_ne _ (Ne.symm hpod), State.cnt_countKind _ _ hann hrange]
  simp [State.opened, State.biased]

/-- The second test passes: the burst is launched (R707). -/
theorem second_test_passed (hs : s.settled) (hone : (s.ubtCh ch).bursts = [b]) {t : State}
    (ht : t = (s.launched ch b).commit) :
    (∀ m, m ≠ ch.val → t.ubtCh m = s.ubtCh m) ∧
      t.ubtCh ch = { s.ubtCh ch with
        bseq := (s.ubtCh ch).bseq + 1, bursts := [{ b with launched := true, bseq := (s.ubtCh ch).bseq }] } ∧
      t.pwr.bias.getLsbD ch = true ∧ t.cnt (Reg.UBT_CHn_CNT_BURSTS ch) = s.cnt (Reg.UBT_CHn_CNT_BURSTS ch) + 1 ∧
      t.cnt (Reg.POD_TX_CNT_BURSTS ch) = s.cnt (Reg.POD_TX_CNT_BURSTS ch) + 1 ∧
      t = { s.later t with ubt := t.ubt, pwr := { s.pwr with bias := t.pwr.bias } } ∧
      s.regsKept t (launchRegs ch) ∧ s.cntsKept t (launchCnts ch) := by
  have work := s.launched_gateWork ch b
  obtain ⟨hothers, hlater, hregs, hcnts⟩ := work.ended_later hs
  have hpwr : t.pwr = { s.pwr with bias := putBit s.pwr.bias ch true } := by
    rw [ht]
    exact (congrArg State.pwr work.rest_commit :)
  rw [← ht] at hothers hlater hregs hcnts
  refine ⟨hothers, ?_, ?_, ?_, ?_, ?_, hregs, hcnts⟩
  · rw [ht, State.ubtCh_commit, State.launched_ubtCh hone]
  · rw [hpwr]
    simp only [putBit_getLsbD _ _ _ _ ch.isLt, if_true]
  · rw [ht, State.commit_cnt, State.launched_cnt_bursts]
  · rw [ht, State.commit_cnt, State.launched_cnt_pod]
  · rw [hpwr]
    exact hlater

/-! ### A burst that fails -/

/-- A burst without frames that fails leaves the bursts of the other channels as they were. -/
theorem State.failed_others (hplaces : b.places = []) (c : Nat) (fails : List Nat) {m : Nat} (hm : m ≠ ch.val) :
    (s.failed ch b c fails).commit.ubtCh m = s.ubtCh m := by
  have recorded : ∀ x : State, (x.recordCause ch c 2).ubtCh m = x.ubtCh m := fun x => by
    unfold State.recordCause
    dsimp only
    split <;> simp [State.ubtCh_modUbt_ne _ _ hm]
  have dropped : ∀ x : State, ((x.dropBurst ch b).withdraw b).ubtCh m = x.ubtCh m := fun x => by
    rw [State.ubtCh, State.withdraw_ubt hplaces]
    exact x.ubtCh_modUbt_ne _ hm
  rw [State.failed, State.ubtCh_commit, State.ubtCh_raise, State.ubtCh_bump, dropped, recorded, State.ubtCh_limitFlags,
    State.ubtCh_passTo]

/-- The counters that move where condition `c` fails at the second test on channel `n`. -/
def abandonCnts (n c : Nat) : List Nat := [Reg.UBT_CHn_CNT_ABANDON n, Reg.UBT_CNT_CAUSE c]

theorem half_abandonCnts (ch : Chan) {c : Nat} (hc : c < 9) :
    ∀ a ∈ abandonCnts ch c, (halfFlag a).1 ∈ [Reg.UBT_STATUS] := by
  simp [abandonCnts, half_UBT_CHn_CNT_ABANDON ch.isLt, half_UBT_CNT_CAUSE (show c < 12 by omega)]

theorem cnt_abandon_ne_cause (ch : Chan) {c : Nat} (hc : c < 9) : Reg.UBT_CHn_CNT_ABANDON ch ≠ Reg.UBT_CNT_CAUSE c := by
  simp only [Reg.UBT_CHn_CNT_ABANDON, Reg.UBT_CNT_CAUSE]
  omega

/-- The lowest code below 11 is recorded, and counted. -/
theorem State.recordCause_eq (s : State) (n stage : Nat) {c : Nat} (hc : c < 9) : s.recordCause n c stage =
    (s.bump (Reg.UBT_CNT_CAUSE c)).modUbt n (fun u => { u with cause := c, stage := stage }) := by
  rw [State.recordCause, if_neg (by omega)]

/-- A burst that carries nothing to return fails one of the conditions below 9. -/
theorem State.failed_eq (hplaces : b.places = []) (hmsgs : b.msgs = []) (hkind : b.g.kind ≠ .announce)
    (hq : s.act.uq.length ≤ 64) {c : Nat} (hc : c < 9) (fails : List Nat) : s.failed ch b c fails =
    ((((((s.passTo b.testAt).limitFlags fails).bump (Reg.UBT_CNT_CAUSE c)).modUbt ch
      (fun u => { u with cause := c, stage := 2 })).dropBurst ch b).bump (Reg.UBT_CHn_CNT_ABANDON ch)).raise
      Reg.UBT_STATUS 3 := by
  rw [State.failed, State.recordCause_eq _ _ _ hc, State.withdraw_of_empty hplaces hmsgs hkind]
  simpa [State.dropBurst, State.limitFlags] using hq

/-- The second test fails: the burst is abandoned with the lowest code (R302, R303). -/
theorem second_test_failed (hs : s.settled) (hone : (s.ubtCh ch).bursts = [b]) (hplaces : b.places = [])
    (hmsgs : b.msgs = []) (hkind : b.g.kind ≠ .announce) (hq : s.act.uq.length ≤ 64) {c : Nat} (hc : c < 9)
    (fails : List Nat) {t : State} (ht : t = (s.failed ch b c fails).commit) :
    t.ubtCh ch = { s.ubtCh ch with bursts := [], cause := c, stage := 2 } ∧ t.rbit Reg.UBT_STATUS 3 = true ∧
      t.cnt (Reg.UBT_CHn_CNT_ABANDON ch) = s.cnt (Reg.UBT_CHn_CNT_ABANDON ch) + 1 ∧
      t.cnt (Reg.UBT_CNT_CAUSE c) = s.cnt (Reg.UBT_CNT_CAUSE c) + 1 ∧ t = { s.later t with ubt := t.ubt } ∧
      s.regsKept t [Reg.UBT_STATUS] ∧ s.cntsKept t (abandonCnts ch c) := by
  rw [State.failed_eq hplaces hmsgs hkind hq hc] at ht
  have limited := ((State.GateWork.refl (s.passTo b.testAt) ch [Reg.UBT_STATUS] (abandonCnts ch c)).raiseIf
    List.mem_cons_self (fails.contains 9) 6).raiseIf List.mem_cons_self (fails.contains 10) 7
  have counted := ((limited.bump (half_abandonCnts ch hc (Reg.UBT_CNT_CAUSE c) (by simp [abandonCnts]))
    (by simp [abandonCnts])).modUbt (fun u => { u with cause := c, stage := 2 })).modUbt
      (fun u => { u with bursts := u.bursts.filter (fun x => x.g ≠ b.g) })
  have work := (counted.bump (half_abandonCnts ch hc (Reg.UBT_CHn_CNT_ABANDON ch) (by simp [abandonCnts]))
    (by simp [abandonCnts])).raise List.mem_cons_self 3
  obtain ⟨-, hlater, hregs, hcnts⟩ := work.ended_later hs
  rw [ht]
  refine ⟨?_, work.flag ((s.passTo_evt _).trans hs) (by decide) (State.ev_raise_self _ (by decide)), ?_, ?_, hlater,
    hregs, hcnts⟩
  · simp [State.dropBurst, hone]
  · simp [State.dropBurst, State.limitFlags, State.cnt_bump_ne _ (cnt_abandon_ne_cause ch hc)]
  · simp [State.dropBurst, State.limitFlags, State.cnt_bump_ne _ (cnt_abandon_ne_cause ch hc).symm]

end

/-! ## The end of a burst, and a cut (R290, R298, R300) -/

/-- The counters of symbols and codewords sent, and of light. -/
def sentCnts (n : Nat) : List Nat :=
  [Reg.POD_TX_CNT_SYMBOLS n, Reg.POD_TX_CNT_CWS n, Reg.UBT_CHn_CNT_LIGHT_US n]

/-- The status registers of the Pod and of UBT, in which those counters and the cuts are flagged. -/
def sentRegs (n : Nat) : List Nat := [Reg.POD_TX_STATUS n, Reg.UBT_STATUS]

/-- The counters that a cut moves. -/
def cutCnts (n : Nat) : List Nat := Reg.UBT_CHn_CNT_CUT n :: Reg.POD_TX_CNT_CUT n :: sentCnts n

theorem half_cutCnts (ch : Chan) : ∀ a ∈ cutCnts ch, (halfFlag a).1 ∈ sentRegs ch := by
  simp [cutCnts, sentCnts, sentRegs, half_UBT_CHn_CNT_CUT ch.isLt, half_POD_TX_CNT_CUT ch.isLt,
    half_POD_TX_CNT_SYMBOLS ch.isLt, half_POD_TX_CNT_CWS ch.isLt, half_UBT_CHn_CNT_LIGHT_US ch.isLt]

/-- What was sent until `at_` is counted, the burst leaves the channel, and its light run ends at `stop`. -/
def State.ceased (s : State) (n : Nat) (b : Burst) (at_ stop last : Nat) : State :=
  ((((s.countSent n b at_).dropBurst n b).endRun n b.runStart stop).modUbt n (fun u => { u with lastEnd := last }))

section
variable {s : State} {ch : Chan} {b : Burst}

theorem State.GateWork.ceased {u : State} {cs : List Nat} (h : s.GateWork u ch (sentRegs ch) cs)
    (hcs : sentCnts ch ⊆ cs) (b : Burst) (at_ stop last : Nat) :
    s.GateWork (u.ceased ch b at_ stop last) ch (sentRegs ch) cs := by
  have count : ∀ {v : State} {a : Nat} (_ : a ∈ sentCnts ch) (k : Nat), s.GateWork v ch (sentRegs ch) cs →
      s.GateWork (v.count a k) ch (sentRegs ch) cs := fun ha k hv =>
    hv.count (half_cutCnts ch _ (List.mem_cons_of_mem _ (List.mem_cons_of_mem _ ha))) (hcs ha) k
  have sent : s.GateWork (u.countSent ch b at_) ch (sentRegs ch) cs :=
    count (a := Reg.POD_TX_CNT_CWS ch) (by simp [sentCnts]) _
      (count (a := Reg.POD_TX_CNT_SYMBOLS ch) (by simp [sentCnts]) _ h)
  have ended : s.GateWork (((u.countSent ch b at_).dropBurst ch b).endRun ch b.runStart stop) ch (sentRegs ch) cs :=
    count (a := Reg.UBT_CHn_CNT_LIGHT_US ch) (by simp [sentCnts]) _ ((sent.modUbt _).modUbt _)
  exact ended.modUbt _

theorem State.ceased_bursts (hone : (s.ubtCh ch).bursts = [b]) (at_ stop last : Nat) :
    ((s.ceased ch b at_ stop last).ubtCh ch).bursts = [] := by
  simp [State.ceased, State.endRun, State.dropBurst, State.countSent, hone]

theorem State.ceased_lastEnd (s : State) (n : Nat) (b : Burst) (at_ stop last : Nat) :
    ((s.ceased n b at_ stop last).ubtCh n).lastEnd = last := by
  simp [State.ceased]

theorem sentCnts_ne (ch : Chan) : Reg.POD_TX_CNT_SYMBOLS ch ≠ Reg.POD_TX_CNT_CWS ch ∧
    Reg.POD_TX_CNT_SYMBOLS ch ≠ Reg.UBT_CHn_CNT_LIGHT_US ch ∧
    Reg.POD_TX_CNT_CWS ch ≠ Reg.UBT_CHn_CNT_LIGHT_US ch := by
  revert ch
  decide

/-- Every symbol of the burst has been sent at its end. -/
theorem Burst.sent_at_end (b : Burst) : min b.g.len ((b.end_ - b.g.launch) / symbolPips) = b.g.len := by
  rw [Burst.end_, Nat.add_sub_cancel_left, Nat.mul_div_cancel _ (by decide), Nat.min_self]

theorem State.ceased_cnt_symbols (s : State) (ch : Chan) (b : Burst) (stop last : Nat) :
    (s.ceased ch b b.end_ stop last).cnt (Reg.POD_TX_CNT_SYMBOLS ch) =
      s.cnt (Reg.POD_TX_CNT_SYMBOLS ch) + BitVec.ofNat 48 b.g.len := by
  obtain ⟨hcws, hlight, -⟩ := sentCnts_ne ch
  simp only [State.ceased, State.cnt_modUbt, State.endRun, State.cnt_count_ne _ _ hlight, State.dropBurst,
    State.countSent, State.cnt_count_ne _ _ hcws, State.cnt_count_self, b.sent_at_end]

theorem State.ceased_cnt_codewords (s : State) (ch : Chan) (b : Burst) (hlen : 5 ≤ b.g.len) (stop last : Nat) :
    (s.ceased ch b b.end_ stop last).cnt (Reg.POD_TX_CNT_CWS ch) =
      s.cnt (Reg.POD_TX_CNT_CWS ch) + BitVec.ofNat 48 (4 + (b.g.len - 5) * b.g.cBits / 7168) := by
  obtain ⟨hcws, -, hlight⟩ := sentCnts_ne ch
  simp only [State.ceased, State.cnt_modUbt, State.endRun, State.cnt_count_ne _ _ hlight, State.dropBurst,
    State.countSent, State.cnt_count_self, State.cnt_count_ne _ _ hcws.symm, b.sent_at_end,
    if_neg (Nat.not_lt.2 hlen)]

/-- The burst as it has been sent: whole, or cut at an instant. -/
def State.sentAs (s : State) (n : Nat) (b : Burst) (cutAt : Option Nat) : Out :=
  Out.burst n b.g.launch (s.burstHeader b) b.area b.g.prof b.g.len cutAt

theorem State.burstHeader_passTo (s : State) (k : Nat) (b : Burst) : (s.passTo k).burstHeader b = s.burstHeader b := by
  simp [State.burstHeader, State.twinOn, State.twinBit, State.rbit]

/-- The burst has ended, sent whole, with no burst behind it. -/
def State.endedWhole (s : State) (n : Nat) (b : Burst) : State :=
  ((s.send (s.sentAs n b none)).passTo b.runEnd).ceased n b b.end_ b.runEnd b.end_

theorem execBurstEnd_eq (hone : (s.ubtCh ch).bursts = [b]) (hopen : b.launched = true) (hplaces : b.places = [])
    (hframes : b.frames = []) : execBurstEnd ch s = done (s.endedWhole ch b) := by
  have hnone : ∀ o, (((((s.passTo b.runEnd).send o).countSent ch b b.end_).dropBurst ch b).ubtCh ch).bursts = [] :=
    fun o => State.dropBurst_of_one (by simp [State.countSent, hone])
  simp only [execBurstEnd, State.openBurst_of_one hone hopen, hplaces, hframes, List.foldl_nil, hnone, List.any_nil,
    Bool.false_eq_true, if_false, State.burstHeader_passTo]
  rfl

/-- The end of a burst (R290). -/
theorem burst_ended (hs : s.settled) (hone : (s.ubtCh ch).bursts = [b]) (hlen : 5 ≤ b.g.len) {t : State}
    (ht : t = (s.endedWhole ch b).commit) :
    (t.ubtCh ch).bursts = [] ∧ (t.ubtCh ch).lastEnd = b.end_ ∧ t.out = s.sentAs ch b none :: s.out ∧
      t.cnt (Reg.POD_TX_CNT_SYMBOLS ch) = s.cnt (Reg.POD_TX_CNT_SYMBOLS ch) + BitVec.ofNat 48 b.g.len ∧
      t.cnt (Reg.POD_TX_CNT_CWS ch) =
        s.cnt (Reg.POD_TX_CNT_CWS ch) + BitVec.ofNat 48 (4 + (b.g.len - 5) * b.g.cBits / 7168) ∧
      (∀ m, m ≠ ch.val → t.ubtCh m = s.ubtCh m) ∧ t = { s.later t with out := t.out, ubt := t.ubt } ∧
      s.regsKept t (sentRegs ch) ∧ s.cntsKept t (sentCnts ch) := by
  have work : ((s.send (s.sentAs ch b none)).passTo b.runEnd).GateWork (s.endedWhole ch b) ch (sentRegs ch)
      (sentCnts ch) := (State.GateWork.refl _ ch _ _).ceased (List.Subset.refl _) b b.end_ b.runEnd b.end_
  obtain ⟨hothers, hlater, hregs, hcnts⟩ := work.ended_later hs
  have hout : t.out = s.sentAs ch b none :: s.out := by
    rw [ht]
    exact (congrArg State.out work.rest_commit :)
  rw [← ht] at hothers hlater hregs hcnts
  refine ⟨?_, ?_, hout, ?_, ?_, hothers, ?_, hregs, hcnts⟩
  · rw [ht, State.ubtCh_commit, State.endedWhole, State.ceased_bursts (by simp [hone])]
  · rw [ht, State.ubtCh_commit, State.endedWhole, State.ceased_lastEnd]
  · rw [ht, State.commit_cnt, State.endedWhole, State.ceased_cnt_symbols, State.cnt_passTo, State.cnt_send]
  · rw [ht, State.commit_cnt, State.endedWhole, State.ceased_cnt_codewords _ _ _ hlen, State.cnt_passTo, State.cnt_send]
  · rw [hout]
    dsimp only [State.later, State.noted, State.send] at hlater ⊢
    exact hlater

/-- The open burst has been cut, with no condition of the gate recorded as the cause. -/
def State.cutShort (s : State) (n : Nat) (b : Burst) : State :=
  (((((s.send (s.sentAs n b (some s.now))).ceased n b s.now s.now (min b.end_ s.now)).bump
    (Reg.UBT_CHn_CNT_CUT n)).raise Reg.UBT_STATUS 2).bump (Reg.POD_TX_CNT_CUT n)).raise (Reg.POD_TX_STATUS n) 0

@[simp] theorem State.now_count (s : State) (a k : Nat) : (s.count a k).now = s.now := by simp [State.now]
@[simp] theorem State.now_send (s : State) (o : Out) : (s.send o).now = s.now := rfl
@[simp] theorem State.now_dropBurst (s : State) (n : Nat) (b : Burst) : (s.dropBurst n b).now = s.now := rfl
@[simp] theorem State.now_countSent (s : State) (n : Nat) (b : Burst) (at_ : Nat) :
    (s.countSent n b at_).now = s.now := by simp [State.countSent]
@[simp] theorem State.now_endRun (s : State) (n start stop : Nat) : (s.endRun n start stop).now = s.now :=
  State.now_count _ _ _

/-- A burst that stands alone on its channel, and carries nothing to return, is cut. -/
theorem State.cut_of_one (hone : (s.ubtCh ch).bursts = [b]) (hplaces : b.places = []) (hmsgs : b.msgs = [])
    (hkind : b.g.kind ≠ .announce) (hq : s.act.uq.length ≤ 64) : s.cut ch b none = s.cutShort ch b := by
  have hwithdraw : (((s.send (s.sentAs ch b (some s.now))).countSent ch b s.now).dropBurst ch b).withdraw b =
      ((s.send (s.sentAs ch b (some s.now))).countSent ch b s.now).dropBurst ch b :=
    State.withdraw_of_empty hplaces hmsgs hkind (by simpa [State.dropBurst, State.countSent] using hq)
  have hnone : ((s.cutShort ch b).ubtCh ch).bursts = [] := by
    simp only [State.cutShort, State.ubtCh_raise, State.ubtCh_bump]
    exact State.ceased_bursts (s := s.send _) hone _ _ _
  rw [← State.unjoin_of_none (b := b) hnone]
  rw [State.sentAs] at hwithdraw
  simp only [State.cut, hwithdraw, State.now_endRun, State.now_dropBurst, State.now_countSent, State.now_send,
    State.cutShort, State.ceased, State.sentAs]

/-- The open burst has been cut for a byte that came too late. -/
def State.cutLate (s : State) (n : Nat) (b : Burst) : State :=
  ((s.cutShort n b).raise (Reg.POD_TX_STATUS n) 1).fault (sourceId n 7 0 0) 0x09 b.bseq.toNat 0

theorem execLateData_eq (hone : (s.ubtCh ch).bursts = [b]) (hopen : b.launched = true) (hplaces : b.places = [])
    (hmsgs : b.msgs = []) (hkind : b.g.kind ≠ .announce) (hq : s.act.uq.length ≤ 64) :
    execLateData ch s = done (s.cutLate ch b) := by
  simp only [execLateData, State.openBurst_of_one hone hopen, State.cut_of_one hone hplaces hmsgs hkind hq,
    State.cutLate]

/-- A fault that both states offer is no difference. -/
theorem State.GateWork.fault {u : State} {n : Nat} {rs cs : List Nat} (h : s.GateWork u n rs cs) (src : BitVec 18)
    (kind ctx flags : Nat) : (s.fault src kind ctx flags).GateWork (u.fault src kind ctx flags) n rs cs where
  rest := (congrArg (fun x => x.fault src kind ctx flags) h.rest :)
  notes := ⟨h.notes.wf, h.notes.reg, h.notes.ev, h.notes.cnt⟩
  others := h.others

theorem State.cutShort_gateWork (s : State) (ch : Chan) (b : Burst) :
    (s.send (s.sentAs ch b (some s.now))).GateWork (s.cutShort ch b) ch (sentRegs ch) (cutCnts ch) := by
  have ceased : (s.send (s.sentAs ch b (some s.now))).GateWork
      ((s.send (s.sentAs ch b (some s.now))).ceased ch b s.now s.now (min b.end_ s.now)) ch (sentRegs ch)
      (cutCnts ch) :=
    (State.GateWork.refl _ ch _ _).ceased
      (List.Subset.trans (List.subset_cons_self _ _) (List.subset_cons_self _ _)) _ _ _ _
  exact (((ceased.bump (half_cutCnts ch _ (by simp [cutCnts])) (by simp [cutCnts])).raise (by simp [sentRegs]) 2).bump
    (half_cutCnts ch _ (by simp [cutCnts])) (by simp [cutCnts])).raise (by simp [sentRegs]) 0

theorem cutCnts_ne (ch : Chan) : Reg.UBT_CHn_CNT_CUT ch ≠ Reg.POD_TX_CNT_CUT ch ∧
    Reg.UBT_CHn_CNT_CUT ch ∉ sentCnts ch ∧ Reg.POD_TX_CNT_CUT ch ∉ sentCnts ch := by
  revert ch
  decide

/-- Cuts are not counted among what was sent. -/
theorem State.ceased_cnt (s : State) (ch : Chan) (b : Burst) (at_ stop last : Nat) {a : Nat} (ha : a ∉ sentCnts ch) :
    (s.ceased ch b at_ stop last).cnt a = s.cnt a :=
  ((State.GateWork.refl s ch (sentRegs ch) (sentCnts ch)).ceased (List.Subset.refl _) b at_ stop last).notes.cnt a ha

theorem State.cutLate_cnt (s : State) (n : Nat) (b : Burst) (a : Nat) :
    (s.cutLate n b).cnt a = (s.cutShort n b).cnt a := by
  rw [State.cutLate, State.cnt_fault, State.cnt_raise]

theorem State.cutLate_ubtCh (s : State) (n : Nat) (b : Burst) : (s.cutLate n b).ubtCh n =
    ((s.send (s.sentAs n b (some s.now))).ceased n b s.now s.now (min b.end_ s.now)).ubtCh n := by
  simp only [State.cutLate, State.cutShort, State.ubtCh_fault, State.ubtCh_raise, State.ubtCh_bump]

/-- CUT in UBT and in the Pod, and LATE_DATA. -/
theorem State.cutLate_flags (s : State) (n : Nat) (b : Burst) :
    ((s.cutLate n b).ev Reg.UBT_STATUS).getLsbD 2 = true ∧
      ((s.cutLate n b).ev (Reg.POD_TX_STATUS n)).getLsbD 0 = true ∧
      ((s.cutLate n b).ev (Reg.POD_TX_STATUS n)).getLsbD 1 = true := by
  rw [State.cutLate, State.ev_fault, State.ev_fault, State.cutShort]
  refine ⟨?_, ?_, State.ev_raise_self _ (by decide)⟩
  · have raised := fun x : State => State.ev_bump_mono _ (by decide) (x.ev_raise_self (a := Reg.UBT_STATUS) (i := 2)
      (by decide)) (Reg.POD_TX_CNT_CUT n)
    exact State.ev_raise_mono _ (by decide) (State.ev_raise_mono _ (by decide) (raised _) _ _) _ _
  · exact State.ev_raise_mono _ (by decide) (State.ev_raise_self _ (by decide)) _ _

/-- Late data cuts the open burst, and is reported (R298, R300). -/
theorem late_data_cut (hs : s.settled) (hone : (s.ubtCh ch).bursts = [b]) {t : State}
    (ht : t = (s.cutLate ch b).commit) :
    (t.ubtCh ch).bursts = [] ∧ (t.ubtCh ch).lastEnd = min b.end_ s.now ∧
      t.out = s.sentAs ch b (some s.now) :: s.out ∧
      s.offers t ⟨sourceId ch 7 0 0, 0x09, BitVec.ofNat 40 b.bseq.toNat, 0⟩ ∧
      t.cnt (Reg.UBT_CHn_CNT_CUT ch) = s.cnt (Reg.UBT_CHn_CNT_CUT ch) + 1 ∧
      t.cnt (Reg.POD_TX_CNT_CUT ch) = s.cnt (Reg.POD_TX_CNT_CUT ch) + 1 ∧ t.rbit Reg.UBT_STATUS 2 = true ∧
      t.rbit (Reg.POD_TX_STATUS ch) 0 = true ∧ t.rbit (Reg.POD_TX_STATUS ch) 1 = true ∧
      (∀ m, m ≠ ch.val → t.ubtCh m = s.ubtCh m) ∧
      t = { s.noted t with out := t.out, ubt := t.ubt, flt := { s.flt with offered := t.flt.offered } } ∧
      s.regsKept t (sentRegs ch) ∧ s.cntsKept t (cutCnts ch) := by
  have work : ((s.send (s.sentAs ch b (some s.now))).fault (sourceId ch 7 0 0) 0x09 b.bseq.toNat 0).GateWork
      (s.cutLate ch b) ch (sentRegs ch) (cutCnts ch) :=
    ((s.cutShort_gateWork ch b).raise List.mem_cons_self 1).fault _ _ _ _
  have hs' : ((s.send (s.sentAs ch b (some s.now))).fault (sourceId ch 7 0 0) 0x09 b.bseq.toNat 0).settled := by
    simpa [State.settled] using hs
  obtain ⟨hothers, hnoted, hregs, hcnts⟩ := work.ended hs'
  have hout : t.out = s.sentAs ch b (some s.now) :: s.out := by
    rw [ht]
    exact (congrArg State.out work.rest_commit :)
  have hflt : t.flt = (s.fault (sourceId ch 7 0 0) 0x09 b.bseq.toNat 0).flt := by
    rw [ht]
    exact (congrArg State.flt work.rest_commit :)
  obtain ⟨hcuts, hcut, hpod⟩ := cutCnts_ne ch
  obtain ⟨hcutFlag, hpodFlag, hlateFlag⟩ := s.cutLate_flags ch b
  rw [← ht] at hothers hnoted hregs hcnts
  refine ⟨?_, ?_, hout, ?_, ?_, ?_, ?_, ?_, ?_, hothers, ?_, hregs, hcnts⟩
  · rw [ht, State.ubtCh_commit, State.cutLate_ubtCh, State.ceased_bursts (s := s.send _) hone]
  · rw [ht, State.ubtCh_commit, State.cutLate_ubtCh, State.ceased_lastEnd]
  · rw [State.offers, hflt]
    rfl
  · rw [ht, State.commit_cnt, State.cutLate_cnt, State.cutShort, State.cnt_raise, State.cnt_bump_ne _ hcuts,
      State.cnt_raise, State.cnt_bump_self, State.ceased_cnt _ ch b _ _ _ hcut, State.cnt_send]
  · rw [ht, State.commit_cnt, State.cutLate_cnt, State.cutShort, State.cnt_raise, State.cnt_bump_self, State.cnt_raise,
      State.cnt_bump_ne _ hcuts.symm, State.ceased_cnt _ ch b _ _ _ hpod, State.cnt_send]
  · rw [ht]
    exact work.flag hs' (by decide) hcutFlag
  · rw [ht]
    exact work.flag hs' (by decide) hpodFlag
  · rw [ht]
    exact work.flag hs' (by decide) hlateFlag
  · rw [hout, hflt]
    dsimp only [State.noted, State.fault, State.offer, State.send] at hnoted ⊢
    exact hnoted

/-! ## The rogue-light detector and the bias of the transmit path (R308, R310, R580) -/

/-- While no gate is open, no burst is cut. -/
theorem State.watchGate_of_quiet (hquiet : s.quiet) : s.watchGate = s := by
  have h : ∀ n < 4, s.openBurst n = none := hquiet
  simp [State.watchGate, List.range_succ, h 0, h 1, h 2, h 3]

@[simp] theorem State.pod_modPod_self (s : State) (n : Nat) (f : Pod → Pod) : (s.modPod n f).pod n = f (s.pod n) :=
  Tab.get_modify_self Pod.reset s.pods n f
theorem State.pod_modPod_ne (s : State) {m n : Nat} (f : Pod → Pod) (h : m ≠ n) : (s.modPod n f).pod m = s.pod m :=
  Tab.get_modify_ne Pod.reset Pod.reset s.pods f h

/-- The light of Pod `n` is seen, and its kill output latches. -/
def State.latched (s : State) (n : Nat) : State :=
  (s.modPod n (fun p => { p with sense := true })).modPads (fun p => { p with tripped := putBit p.tripped n true })

theorem State.latched_pods (s : State) (n : Nat) : (s.latched n).pod n = { s.pod n with sense := true } ∧
    ∀ m, m ≠ n → (s.latched n).pod m = s.pod m :=
  ⟨s.pod_modPod_self n (fun p => { p with sense := true }),
    fun _ hm => s.pod_modPod_ne (fun p => { p with sense := true }) hm⟩

/-- Light with no gate open: the Pod is latched off, and the trip reported. -/
def State.tripped (s : State) (n : Nat) (long : Bool) : State :=
  (((s.latched n).raise (Reg.POD_TX_STATUS n) 2).raise Reg.UBT_STATUS 8).fault (sourceId n 8 0 0) 0x0A
    (if long then 1 else 2) 0

theorem State.quiet_of_ubt {t : State} (h : t.ubt = s.ubt) (hquiet : s.quiet) : t.quiet := by
  simpa only [State.quiet, State.openBurst, State.ubtCh, h] using hquiet

theorem execRogueTrip_eq (hquiet : s.quiet) (long : Bool) : execRogueTrip ch long s = done (s.tripped ch long) := by
  have hstill := State.watchGate_of_quiet (State.quiet_of_ubt (s := s)
    (t := ((s.latched ch).raise (Reg.POD_TX_STATUS ch) 2).raise Reg.UBT_STATUS 8) (by simp [State.latched]) hquiet)
  rw [State.latched] at hstill
  simp only [execRogueTrip, hstill, State.tripped, State.latched]

theorem pod_tx_status_ne (ch : Chan) : Reg.POD_TX_STATUS ch ≠ Reg.UBT_STATUS := by
  revert ch
  decide

/-- A status register takes the one flag raised. -/
theorem State.took_one {u : State} {a j : Nat} (hw : Tab.wf (fun _ => (0 : Word)) u.evt = true) (hr : u.reg a = s.reg a)
    (hj : j < 24) (hev : u.ev a = putBit 0 j true) : s.took u.commit a [j] := by
  refine State.took_commit hw hr (hev ▸ putBit_ne_zero _ (by omega)) fun i hi => ?_
  rw [hev, putBit_getLsbD _ _ _ _ (by omega)]
  by_cases h : i = j <;> simp [h]

/-- Pod and UBT each take the trip as their one event (R308, R658). -/
theorem State.tripped_took (hs : s.settled) (long : Bool) :
    s.took (s.tripped ch long).commit (Reg.POD_TX_STATUS ch) [2] ∧
      s.took (s.tripped ch long).commit Reg.UBT_STATUS [8] := by
  have hwf : Tab.wf (fun _ => (0 : Word)) (s.tripped ch long).evt = true := by
    have hevt : (s.latched ch).evt = [] := by simpa [State.latched, State.settled] using hs
    rw [State.tripped, State.fault_evt]
    exact State.evt_wf_raise _ (State.evt_wf_raise _ (State.evt_wf_of_settled _ hevt) _ _) _ _
  have hnoev : ∀ a, (s.latched ch).ev a = 0 := fun a => s.ev_of_settled hs a
  have hreg : ∀ a, (s.tripped ch long).reg a = s.reg a := fun a => by simp [State.tripped, State.latched]
  have hne := pod_tx_status_ne ch
  refine ⟨State.took_one hwf (hreg _) (by decide) ?_, State.took_one hwf (hreg _) (by decide) ?_⟩
  · rw [State.tripped, State.ev_fault, State.ev_raise, if_neg hne, State.ev_raise, if_pos rfl, hnoev]
  · rw [State.tripped, State.ev_fault, State.ev_raise, if_pos rfl, State.ev_raise, if_neg hne.symm, hnoev]

/-- A trip of the rogue-light detector (R308). -/
theorem rogue_tripped (hs : s.settled) (long : Bool) {t : State} (ht : t = (s.tripped ch long).commit) :
    t.pod ch = { s.pod ch with sense := true } ∧
      (∀ m < 4, t.pads.tripped.getLsbD m = (s.pads.tripped.getLsbD m || m == ch.val)) ∧
      t.killLow ch = true ∧ s.took t (Reg.POD_TX_STATUS ch) [2] ∧ s.took t Reg.UBT_STATUS [8] ∧
      s.offers t ⟨sourceId ch 8 0 0, 0x0A, if long then 1 else 2, 0⟩ ∧ (∀ m, m ≠ ch.val → t.pod m = s.pod m) ∧
      t = { s.noted t with
        pods := t.pods, pads := { s.pads with tripped := t.pads.tripped }
        flt := { s.flt with offered := t.flt.offered } } ∧
      s.regsKept t (sentRegs ch) ∧ s.cntsKept t [] := by
  have work : ((s.latched ch).fault (sourceId ch 8 0 0) 0x0A (if long then 1 else 2) 0).GateWork (s.tripped ch long) ch
      (sentRegs ch) [] :=
    (((State.GateWork.refl (s.latched ch) ch _ _).raise List.mem_cons_self 2).raise
      (List.mem_cons_of_mem _ List.mem_cons_self) 8).fault _ _ _ _
  have hs' : ((s.latched ch).fault (sourceId ch 8 0 0) 0x0A (if long then 1 else 2) 0).settled := by
    simpa [State.settled, State.latched] using hs
  obtain ⟨-, hnoted, hregs, hcnts⟩ := work.ended hs'
  obtain ⟨hpodTook, hubtTook⟩ := State.tripped_took (ch := ch) hs long
  have hpods : t.pods = (s.latched ch).pods := by
    rw [ht]
    exact (congrArg State.pods work.rest_commit :)
  have hpod : ∀ m, t.pod m = (s.latched ch).pod m := fun m => by rw [State.pod, hpods]; rfl
  have hpads : t.pads = { s.pads with tripped := putBit s.pads.tripped ch true } := by
    rw [ht]
    exact (congrArg State.pads work.rest_commit :)
  have hflt : t.flt = (s.fault (sourceId ch 8 0 0) 0x0A (if long then 1 else 2) 0).flt := by
    rw [ht]
    exact (congrArg State.flt work.rest_commit :)
  have hubt : t.ubt = s.ubt := by simp [ht, State.tripped, State.latched, State.fault]
  have htripped : ∀ m < 4, t.pads.tripped.getLsbD m = (s.pads.tripped.getLsbD m || m == ch.val) := fun m hm => by
    rw [hpads, putBit_getLsbD _ _ _ _ hm]
    by_cases h : m = ch.val <;> simp [h]
  rw [← ht] at hnoted hregs hcnts hpodTook hubtTook
  refine ⟨?_, htripped, ?_, hpodTook, hubtTook, ?_, fun m hm => ?_, ?_,
    fun a ha => (hregs a ha).trans (by simp [State.latched]), fun a ha => (hcnts a ha).trans (by simp [State.latched])⟩
  · rw [hpod, (s.latched_pods ch).1]
  · rw [State.killLow, htripped ch ch.isLt]
    simp
  · rw [State.offers, hflt]
    cases long <;> rfl
  · rw [hpod, (s.latched_pods ch).2 m hm]
  · rw [hubt] at hnoted
    rw [hpods, hpads, hflt]
    dsimp only [State.noted, State.fault, State.offer, State.latched, State.modPads, State.modPod] at hnoted ⊢
    exact hnoted

/-- The light of Pod `n` is not seen. -/
def State.unseen (s : State) (n : Nat) : State := s.modPod n (fun p => { p with sense := false })

theorem State.unseen_pods (s : State) (n : Nat) : (s.unseen n).pod n = { s.pod n with sense := false } ∧
    ∀ m, m ≠ n → (s.unseen n).pod m = s.pod m :=
  ⟨s.pod_modPod_self n (fun p => { p with sense := false }), fun _ hm => s.pod_modPod_ne _ hm⟩

theorem execSenseLow_closed (hclosed : s.openBurst ch = none) : execSenseLow ch s = done (s.unseen ch) := by
  have : (s.unseen ch).openBurst ch = none := hclosed
  rw [State.unseen] at this
  simp only [execSenseLow, this, State.unseen]

theorem execSenseLow_open (hopen : (s.openBurst ch).isSome = true) : execSenseLow ch s =
    done (((s.unseen ch).bump (Reg.POD_TX_CNT_SENSE_LOW ch)).raise (Reg.POD_TX_STATUS ch) 3) := by
  obtain ⟨b, hb⟩ := Option.isSome_iff_exists.1 hopen
  have : (s.unseen ch).openBurst ch = some b := hb
  rw [State.unseen] at this
  simp only [execSenseLow, this, State.unseen]

/-- Light is not seen while the gate is open: the event is counted (R310). -/
theorem sense_low_counted (hs : s.settled) {t : State}
    (ht : t = (((s.unseen ch).bump (Reg.POD_TX_CNT_SENSE_LOW ch)).raise (Reg.POD_TX_STATUS ch) 3).commit) :
    t.pods = (s.unseen ch).pods ∧ s.took t (Reg.POD_TX_STATUS ch) (3 :: s.halfAt (Reg.POD_TX_CNT_SENSE_LOW ch)) ∧
      t.cnt (Reg.POD_TX_CNT_SENSE_LOW ch) = s.cnt (Reg.POD_TX_CNT_SENSE_LOW ch) + 1 ∧
      t = { s.noted t with pods := t.pods } ∧ s.regsKept t [Reg.POD_TX_STATUS ch] ∧
      s.cntsKept t [Reg.POD_TX_CNT_SENSE_LOW ch] := by
  have hhalf := half_POD_TX_CNT_SENSE_LOW ch.isLt
  have work : (s.unseen ch).GateWork _ ch [Reg.POD_TX_STATUS ch] [Reg.POD_TX_CNT_SENSE_LOW ch] :=
    ((State.GateWork.refl (s.unseen ch) ch _ _).bump (by simp [hhalf]) List.mem_cons_self).raise List.mem_cons_self 3
  obtain ⟨-, hnoted, hregs, hcnts⟩ := work.ended hs
  rw [← ht] at hnoted hregs hcnts
  have hpods : t.pods = (s.unseen ch).pods := by simp [ht]
  have hubt : t.ubt = s.ubt := by simp [ht, State.unseen]
  have hev : ((((s.unseen ch).bump (Reg.POD_TX_CNT_SENSE_LOW ch)).raise (Reg.POD_TX_STATUS ch) 3).ev
      (Reg.POD_TX_STATUS ch)) = putBit (if s.cnt (Reg.POD_TX_CNT_SENSE_LOW ch) = 0x7FFFFFFFFFFF then
        putBit 0 6 true else 0) 3 true := by
    have hnoev : (s.unseen ch).ev (Reg.POD_TX_STATUS ch) = 0 := s.ev_of_settled hs _
    have hcnt : (s.unseen ch).cnt (Reg.POD_TX_CNT_SENSE_LOW ch) = s.cnt (Reg.POD_TX_CNT_SENSE_LOW ch) := rfl
    rw [State.ev_raise, if_pos rfl, State.ev_bump_at, hhalf, hnoev, hcnt]
    simp only [and_true]
  refine ⟨hpods, ?_, by simp [ht, State.unseen], ?_, hregs, hcnts⟩
  · rw [ht]
    refine State.took_commit (work.notes.wf (s.evt_wf_of_settled hs)) (work.notes.reg _)
      (hev ▸ putBit_ne_zero _ (by decide)) fun i hi => ?_
    rw [hev, putBit_getLsbD _ _ _ _ (by omega), State.halfAt, hhalf]
    by_cases hfull : s.cnt (Reg.POD_TX_CNT_SENSE_LOW ch) = 0x7FFFFFFFFFFF
    · rw [if_pos hfull, if_pos hfull, putBit_getLsbD _ _ _ _ (by omega)]
      by_cases h3 : i = 3 <;> by_cases h6 : i = 6 <;> simp [h3, h6]
    · rw [if_neg hfull, if_neg hfull]
      by_cases h3 : i = 3 <;> simp [h3]
  · rw [hpods]
    rw [hubt] at hnoted
    exact hnoted

/-- The sense reads off: it is counted only where the gate is open (R310). -/
theorem sense_low (hs : s.settled) : ∃ t, execSenseLow ch s = .next t ∧ t.pod ch = { s.pod ch with sense := false } ∧
    (s.openBurst ch = none → t = { s with pods := t.pods }) ∧
    ((s.openBurst ch).isSome = true → s.took t (Reg.POD_TX_STATUS ch) (3 :: s.halfAt (Reg.POD_TX_CNT_SENSE_LOW ch)) ∧
      t.cnt (Reg.POD_TX_CNT_SENSE_LOW ch) = s.cnt (Reg.POD_TX_CNT_SENSE_LOW ch) + 1 ∧
      t = { s.noted t with pods := t.pods } ∧ s.regsKept t [Reg.POD_TX_STATUS ch] ∧
      s.cntsKept t [Reg.POD_TX_CNT_SENSE_LOW ch]) ∧ (∀ m, m ≠ ch.val → t.pod m = s.pod m) := by
  obtain ⟨hself, hothers⟩ := s.unseen_pods ch
  cases hopen : s.openBurst ch with
  | none =>
    exact ⟨_, (execSenseLow_closed hopen).trans (done_settled (s.unseen ch) hs), hself, fun _ => rfl, nofun, hothers⟩
  | some b =>
    obtain ⟨hpods, hcounted⟩ := sense_low_counted (ch := ch) hs rfl
    have hpod : ∀ m, _ = (s.unseen ch).pod m := fun m => congrArg (fun l => Tab.get Pod.reset l m) hpods
    exact ⟨_, execSenseLow_open (by rw [hopen]; rfl), (hpod ch).trans hself, nofun, fun _ => hcounted,
      fun m hm => (hpod m).trans (hothers m hm)⟩

/-- The transmit path is unbiased only where no burst is open, outside Active. -/
theorem execBiasOff_eq : execBiasOff ch s =
    if s.openBurst ch = none ∧ s.pwr.mode ≠ .active then
      done (s.modPwr (fun p => { p with bias := putBit p.bias ch false }))
    else done s := by
  unfold execBiasOff
  split
  · next hclosed hactive => rw [if_neg (fun h => h.2 hactive)]
  · next b hopen => rw [if_neg (fun h => by rw [hopen] at h; cases h.1)]
  · next hclosed hmode => rw [if_pos ⟨hclosed, hmode⟩]

/-- No burst is open outside Active: the bias is removed; otherwise nothing moves (R580). -/
theorem bias_off (hs : s.settled) : ∃ t, execBiasOff ch s = .next t ∧
    (s.openBurst ch = none → s.pwr.mode ≠ .active → t.pwr.bias.getLsbD ch = false ∧
      (∀ m, m ≠ ch.val → t.pwr.bias.getLsbD m = s.pwr.bias.getLsbD m)) ∧
    (s.openBurst ch ≠ none ∨ s.pwr.mode = .active → t = s) ∧
    t = { s with pwr := { s.pwr with bias := t.pwr.bias } } := by
  rw [execBiasOff_eq]
  by_cases h : s.openBurst ch = none ∧ s.pwr.mode ≠ .active
  · rw [if_pos h]
    refine ⟨_, done_settled (s.modPwr _) hs, fun _ _ => ⟨?_, fun m hm => ?_⟩, fun hnot => ?_, rfl⟩
    · simp only [State.modPwr_pwr, putBit_getLsbD _ _ _ _ ch.isLt, if_true]
    · by_cases hm4 : m < 4
      · simp only [State.modPwr_pwr, putBit_getLsbD _ _ _ _ hm4, if_neg hm]
      · rw [BitVec.getLsbD_of_ge _ _ (Nat.not_lt.1 hm4), BitVec.getLsbD_of_ge _ _ (Nat.not_lt.1 hm4)]
    · exact (hnot.elim (fun hopen => hopen h.1) (fun hactive => h.2 hactive)).elim
  · rw [if_neg h]
    exact ⟨s, done_settled s hs, fun hclosed hmode => absurd ⟨hclosed, hmode⟩ h, fun _ => rfl, rfl⟩

end

/-! ## The guarded writes of UBT (R305, R309, R662) -/

/-- `s` without what a guarded write of UBT can change: registers, counters, events, arbiters, guards, Pods, trips. -/
def State.unserved (s : State) : State :=
  { s with
    regs := [], wide := [], evt := [], guards := [], arb := .reset, pods := [], pads := { s.pads with tripped := 0 } }

/-- Beside what it serves, a guarded write leaves a state between commands as it was. -/
theorem State.eq_of_unserved {s t : State} (h : t.unserved = s.unserved) (hevt : t.evt = s.evt) :
    t = { s.accessed t with
      pods := t.pods, pads := { s.pads with tripped := t.pads.tripped }, guards := t.guards } := by
  have restore : ∀ u : State, u = { u.unserved with
      regs := u.regs, wide := u.wide, evt := u.evt, guards := u.guards, arb := u.arb, pods := u.pods
      pads := { u.unserved.pads with tripped := u.pads.tripped } } := fun _ => rfl
  calc t = _ := restore t
    _ = _ := by rw [h, hevt]; rfl

/-- The access of `ini` is granted, and the guard of block `b` disarmed by it. -/
def State.admitted (s : State) (b ini : Nat) : State := (s.giveGrant 0 0 ini).disarmGuard b

section
variable {s : State} {b ini : Nat}

@[simp] theorem State.unserved_admitted (s : State) (b ini : Nat) : (s.admitted b ini).unserved = s.unserved := by
  simp [State.unserved, State.admitted, State.disarmGuard]
@[simp] theorem State.unserved_endGrant (s : State) (i k : Nat) : (s.endGrant i k).unserved = s.unserved := by
  simp [State.unserved]
@[simp] theorem State.unserved_setReg (s : State) (a : Nat) (v : Word) : (s.setReg a v).unserved = s.unserved := rfl
@[simp] theorem State.unserved_bump (s : State) (a : Nat) : (s.bump a).unserved = s.unserved := by
  simp [State.unserved]
@[simp] theorem State.unserved_commit (s : State) : s.commit.unserved = s.unserved := by simp [State.unserved]

/-- The grant of an access notes itself alone. -/
theorem State.admitted_notes (s : State) (b : Nat) (hini : ini < 14) :
    s.Notes (s.admitted b ini) [Reg.ARB_STATUS] [Reg.ARB_Ii_CNT_GRANTr 0 ini] where
  wf h := s.evt_wf_giveGrant h 0 0 ini
  reg := s.reg_giveGrant 0 0 ini
  ev _ ha := s.ev_giveGrant_ne hini (List.ne_of_not_mem_cons ha)
  cnt _ ha := s.cnt_giveGrant_ne ini (List.ne_of_not_mem_cons ha)

theorem State.endGrant_notes (s : State) : s.Notes (s.endGrant 0 0) [Reg.ARB_STATUS] [] where
  wf h := s.evt_wf_endGrant h 0 0
  reg := s.reg_endGrant 0 0
  ev _ ha := s.ev_endGrant_ne 0 0 (List.ne_of_not_mem_cons ha)
  cnt a _ := s.cnt_endGrant 0 0 a

theorem State.guardOf_admitted_commit {u : State} (h : u.guards = (s.admitted b ini).guards) :
    u.commit.guardOf b = none := by
  simp [State.guardOf, h, State.admitted, State.disarmGuard]

theorem execGateLimitsWrite_eq (hmay : s.mayAccess ini 9) (harmed : s.armedFor 9 ini) (v : Word) :
    execGateLimitsWrite ini v s =
      done (((s.admitted 9 ini).setReg Reg.UBT_GATE_LIMITS (s.merged Reg.UBT_GATE_LIMITS v)).endGrant 0 0) := by
  have hmerged : (s.admitted 9 ini).merged Reg.UBT_GATE_LIMITS v = s.merged Reg.UBT_GATE_LIMITS v := by
    simp only [State.merged, (s.admitted_notes 9 hmay.1).reg]
  rw [execGateLimitsWrite, s.ask_kg v hmay mapped_UBT_GATE_LIMITS harmed
    (by rw [show mcuBarred Reg.UBT_GATE_LIMITS = false by decide, Bool.and_false]), ← hmerged]
  rfl

/-- UBT_GATE_LIMITS takes its fields (R305). -/
theorem gate_limits_written (hs : s.settled) (hini : ini < 14) (v : Word) {t : State}
    (ht : t = (((s.admitted 9 ini).setReg Reg.UBT_GATE_LIMITS v).endGrant 0 0).commit) :
    t.reg Reg.UBT_GATE_LIMITS = v ∧ t.guardOf 9 = none ∧ t = { s.accessed t with guards := t.guards } ∧
      s.served t ini [Reg.UBT_GATE_LIMITS] [] := by
  have admitted := s.admitted_notes 9 hini
  have ended := ((s.admitted 9 ini).setReg Reg.UBT_GATE_LIMITS v).endGrant_notes
  have hwf := ended.wf (admitted.wf (s.evt_wf_of_settled hs))
  have hev : ∀ a, a ≠ Reg.ARB_STATUS →
      ((((s.admitted 9 ini).setReg Reg.UBT_GATE_LIMITS v).endGrant 0 0)).ev a = 0 := fun a ha => by
    rw [ended.ev a (by simpa using ha), State.ev_setReg, admitted.ev a (by simpa using ha), s.ev_of_settled hs]
  have hpods : t.pods = s.pods := by simp [ht, State.admitted, State.disarmGuard]
  have hpads : t.pads = s.pads := by simp [ht, State.admitted, State.disarmGuard]
  refine ⟨?_, ?_, ?_, ?_, fun a ha => ?_⟩
  · rw [ht, State.reg_commit_of_ev hwf (hev _ (by decide)), ended.reg, State.reg_setReg_self]
  · rw [ht]
    exact State.guardOf_admitted_commit (s := s) (ini := ini) (by simp)
  · have hframe := State.eq_of_unserved (s := s) (t := t) (by simp [ht]) (by rw [ht, State.commit_evt, hs])
    rwa [hpods, hpads] at hframe
  · rw [ht]
    refine State.regsKept_commit hwf fun a ha => ?_
    obtain ⟨harb, hlimits⟩ := List.ne_and_not_mem_of_not_mem_cons ha
    exact ⟨hev a harb, by rw [ended.reg, State.reg_setReg_ne _ _ (List.ne_of_not_mem_cons hlimits), admitted.reg]⟩
  · rw [ht, State.commit_cnt, ended.cnt a List.not_mem_nil, State.cnt_setReg, admitted.cnt a ha]

/-! ### The release of a latched Pod (R309) -/

/-- A Pod named by a write of UBT_ROGUE_CLR: it is released where its light is off, and otherwise counted. -/
def State.clearOff (off : BitVec 4) (s : State) (n : Nat) : State :=
  if off.getLsbD n then
    (s.modPod n (fun p => { p with sense := false })).modPads (fun p => { p with tripped := putBit p.tripped n false })
  else s.bump Reg.UBT_CNT_ROGUE_CLR_REF

/-- The gate sense of Pod `n` shows what the writer has seen of its light. -/
def State.senseAs (off : BitVec 4) (s : State) (n : Nat) : State :=
  s.modPod n (fun p => { p with sense := !off.getLsbD n })

/-- The gate senses of the Pods named show what the writer has seen. -/
def State.sensed (s : State) (v : Word) (off : BitVec 4) : State :=
  ((List.range 4).filter (fun n => v.getLsbD n)).foldl (State.senseAs off) s

/-- Only the Pods differ. -/
theorem State.sensed_eq (s : State) (v : Word) (off : BitVec 4) :
    s.sensed v off = { s with pods := (s.sensed v off).pods } := by
  have fold : ∀ (l : List Nat) (s : State),
      l.foldl (State.senseAs off) s = { s with pods := (l.foldl (State.senseAs off) s).pods } := by
    intro l
    induction l with
    | nil => exact fun _ => rfl
    | cons n r ih => exact fun s => ih (s.senseAs off n)
  exact fold _ s

theorem State.sensed_pod (s : State) (v : Word) (off : BitVec 4) (m : Nat) : (s.sensed v off).pod m =
    if m < 4 ∧ v.getLsbD m = true then { s.pod m with sense := !off.getLsbD m } else s.pod m := by
  have fold : ∀ (l : List Nat) (s : State), (l.foldl (State.senseAs off) s).pod m =
      if m ∈ l then { s.pod m with sense := !off.getLsbD m } else s.pod m := by
    intro l
    induction l with
    | nil => exact fun s => by simp
    | cons n r ih =>
      intro s
      rw [List.foldl_cons, ih, State.senseAs]
      by_cases hmn : m = n
      · subst hmn
        by_cases hr : m ∈ r <;> simp [hr]
      · simp [hmn, State.pod_modPod_ne _ _ hmn]
  rw [State.sensed, fold]
  simp only [List.mem_filter, List.mem_range]

/-- The gate senses that show no light. -/
theorem State.senseOff_getLsbD (s : State) {m : Nat} (hm : m < 4) : s.senseOff.getLsbD m = !(s.pod m).sense := by
  have fold : ∀ (l : List Nat) (w : BitVec 4),
      (l.foldl (fun w n => if (s.pod n).sense then w else putBit w n true) w).getLsbD m =
        (w.getLsbD m || (decide (m ∈ l) && !(s.pod m).sense)) := by
    intro l
    induction l with
    | nil => exact fun w => by simp
    | cons n r ih =>
      intro w
      rw [List.foldl_cons, ih]
      by_cases hmn : m = n
      · subst hmn
        cases hsense : (s.pod m).sense <;> simp [putBit_getLsbD _ _ _ _ hm]
      · cases hsense : (s.pod n).sense <;> simp [putBit_getLsbD _ _ _ _ hm, hmn]
  rw [State.senseOff, fold]
  simp [hm]

theorem State.clearOff_tripped (off : BitVec 4) (s : State) (n : Nat) {m : Nat} (hm : m < 4) :
    (s.clearOff off n).pads.tripped.getLsbD m = (s.pads.tripped.getLsbD m && !(decide (m = n) && off.getLsbD m)) := by
  unfold State.clearOff
  split
  · next hoff =>
    rw [State.modPads_pads, putBit_getLsbD _ _ _ _ hm]
    by_cases hmn : m = n
    · simp [hmn, hoff]
    · simp [hmn]
  · next hoff =>
    by_cases hmn : m = n
    · simp [hmn, hoff]
    · simp [hmn]

theorem State.clearOff_cnt (off : BitVec 4) (s : State) (n : Nat) :
    (s.clearOff off n).cnt Reg.UBT_CNT_ROGUE_CLR_REF =
      s.cnt Reg.UBT_CNT_ROGUE_CLR_REF + BitVec.ofNat 48 (if off.getLsbD n then 0 else 1) := by
  unfold State.clearOff
  split
  · exact (BitVec.add_zero _).symm
  · exact s.cnt_bump_self _

theorem State.clearOff_pod_ne (off : BitVec 4) (s : State) {n m : Nat} (h : m ≠ n) :
    (s.clearOff off n).pod m = s.pod m := by
  unfold State.clearOff
  split
  · exact s.pod_modPod_ne (fun p => { p with sense := false }) h
  · simp [State.pod]

/-- Releases clear the trips of the Pods named whose light is off. -/
theorem State.foldl_clearOff_tripped (off : BitVec 4) {m : Nat} (hm : m < 4) (l : List Nat) (s : State) :
    (l.foldl (State.clearOff off) s).pads.tripped.getLsbD m =
      (s.pads.tripped.getLsbD m && !(decide (m ∈ l) && off.getLsbD m)) := by
  induction l generalizing s with
  | nil => simp
  | cons n r ih =>
    rw [List.foldl_cons, ih, State.clearOff_tripped _ _ _ hm]
    by_cases hmn : m = n
    · subst hmn
      cases off.getLsbD m <;> simp
    · simp [hmn]

/-- Releases count the Pods named whose light is not off. -/
theorem State.foldl_clearOff_cnt (off : BitVec 4) (l : List Nat) (s : State) :
    (l.foldl (State.clearOff off) s).cnt Reg.UBT_CNT_ROGUE_CLR_REF =
      s.cnt Reg.UBT_CNT_ROGUE_CLR_REF + BitVec.ofNat 48 (l.countP (fun n => !off.getLsbD n)) := by
  induction l generalizing s with
  | nil => simp
  | cons n r ih =>
    rw [List.foldl_cons, ih, State.clearOff_cnt, BitVec.add_assoc, ← BitVec.ofNat_add, List.countP_cons, Nat.add_comm]
    cases off.getLsbD n <;> rfl

theorem State.foldl_clearOff_pod (off : BitVec 4) {m : Nat} (l : List Nat) (hm : m ∉ l) (s : State) :
    (l.foldl (State.clearOff off) s).pod m = s.pod m := by
  induction l generalizing s with
  | nil => rfl
  | cons n r ih =>
    obtain ⟨hmn, hr⟩ := List.ne_and_not_mem_of_not_mem_cons hm
    rw [List.foldl_cons, ih hr, State.clearOff_pod_ne _ _ hmn]

theorem State.unserved_clearOff (off : BitVec 4) (s : State) (n : Nat) : (s.clearOff off n).unserved = s.unserved := by
  unfold State.clearOff
  split
  · simp [State.unserved]
  · exact s.unserved_bump _

/-- Releases note refusals alone. -/
theorem State.foldl_clearOff_notes (off : BitVec 4) (l : List Nat) {s u : State}
    (h : s.Notes u [Reg.UBT_STATUS] [Reg.UBT_CNT_ROGUE_CLR_REF]) :
    s.Notes (l.foldl (State.clearOff off) u) [Reg.UBT_STATUS] [Reg.UBT_CNT_ROGUE_CLR_REF] := by
  induction l generalizing u with
  | nil => exact h
  | cons n r ih =>
    refine ih (iteInduction (motive := fun t => s.Notes t _ _) (fun _ => h.quiet rfl rfl rfl) fun _ => ?_)
    exact h.bump (by simp) List.mem_cons_self

/-- The Pods that a write of UBT_ROGUE_CLR names. -/
theorem bitList_setWidth (v : Word) : bitList (v.setWidth 4) = (List.range 4).filter (fun n => v.getLsbD n) :=
  List.filter_congr fun n hn => by simp [List.mem_range.1 hn]

/-- The write of UBT_ROGUE_CLR has been granted, and takes the senses as they show. -/
def State.rogueCleared (s : State) (ini : Nat) (v : Word) (off : BitVec 4) : State :=
  ((bitList (v.setWidth 4)).foldl (State.clearOff ((s.sensed v off).admitted 9 ini).senseOff)
    ((s.sensed v off).admitted 9 ini)).endGrant 0 0

theorem execRogueClr_eq (hmay : s.mayAccess ini 9) (harmed : s.armedFor 9 ini) (v : Word) (off : BitVec 4) :
    execRogueClr ini v off s = done (s.rogueCleared ini v off) := by
  have hmay' : (s.sensed v off).mayAccess ini 9 := by
    rw [State.sensed_eq]
    exact hmay
  have harmed' : (s.sensed v off).armedFor 9 ini := by
    rw [State.sensed_eq]
    exact harmed
  have hasked := (s.sensed v off).ask_kg v hmay' mapped_UBT_ROGUE_CLR harmed'
    (by rw [show mcuBarred Reg.UBT_ROGUE_CLR = false by decide, Bool.and_false])
  exact hasked

theorem State.Notes.mono {u : State} {rs rs' cs cs' : List Nat} (h : s.Notes u rs cs) (hr : rs ⊆ rs') (hc : cs ⊆ cs') :
    s.Notes u rs' cs' :=
  ⟨h.wf, h.reg, fun a ha => h.ev a fun hm => ha (hr hm), fun a ha => h.cnt a fun hm => ha (hc hm)⟩

theorem State.admitted_pod (s : State) (b ini m : Nat) : (s.admitted b ini).pod m = s.pod m := by
  simp [State.pod, State.admitted, State.disarmGuard]

/-- For a Pod named, the sense shows no light where the writer has seen none. -/
theorem State.senseOff_sensed {v : Word} {m : Nat} (hm : m < 4) (hv : v.getLsbD m = true) (off : BitVec 4) (ini : Nat) :
    ((s.sensed v off).admitted 9 ini).senseOff.getLsbD m = off.getLsbD m := by
  rw [State.senseOff_getLsbD _ hm, State.admitted_pod, State.sensed_pod, if_pos ⟨hm, hv⟩, Bool.not_not]

theorem State.rogueCleared_notes (s : State) (hini : ini < 14) (v : Word) (off : BitVec 4) :
    s.Notes (s.rogueCleared ini v off) [Reg.ARB_STATUS, Reg.UBT_STATUS]
      [Reg.ARB_Ii_CNT_GRANTr 0 ini, Reg.UBT_CNT_ROGUE_CLR_REF] := by
  have sensed : s.Notes (s.sensed v off) [Reg.ARB_STATUS, Reg.UBT_STATUS]
      [Reg.ARB_Ii_CNT_GRANTr 0 ini, Reg.UBT_CNT_ROGUE_CLR_REF] := by
    rw [State.sensed_eq]
    exact (State.Notes.refl s _ _).quiet rfl rfl rfl
  have admitted := ((s.sensed v off).admitted_notes 9 hini).mono (rs' := [Reg.ARB_STATUS, Reg.UBT_STATUS])
    (cs' := [Reg.ARB_Ii_CNT_GRANTr 0 ini, Reg.UBT_CNT_ROGUE_CLR_REF]) (by simp) (by simp)
  have cleared := (State.foldl_clearOff_notes ((s.sensed v off).admitted 9 ini).senseOff (bitList (v.setWidth 4))
    (State.Notes.refl ((s.sensed v off).admitted 9 ini) _ _)).mono (rs' := [Reg.ARB_STATUS, Reg.UBT_STATUS])
    (cs' := [Reg.ARB_Ii_CNT_GRANTr 0 ini, Reg.UBT_CNT_ROGUE_CLR_REF]) (by simp) (by simp)
  exact ((sensed.trans admitted).trans cleared).trans ((State.endGrant_notes _).mono (by simp) (by simp))

theorem State.rogueCleared_unserved (s : State) (ini : Nat) (v : Word) (off : BitVec 4) :
    (s.rogueCleared ini v off).unserved = s.unserved := by
  rw [State.rogueCleared, State.unserved_endGrant, foldl_keeps _ State.unserved _ (State.unserved_clearOff _),
    State.unserved_admitted, State.sensed_eq]
  rfl

theorem State.rogueCleared_tripped (s : State) (ini : Nat) (v : Word) (off : BitVec 4) {m : Nat} (hm : m < 4) :
    (s.rogueCleared ini v off).pads.tripped.getLsbD m =
      (s.pads.tripped.getLsbD m && !(v.getLsbD m && off.getLsbD m)) := by
  have hpads : ((s.sensed v off).admitted 9 ini).pads = s.pads := by
    rw [State.sensed_eq]
    simp [State.admitted, State.disarmGuard]
  rw [State.rogueCleared, State.endGrant_pads, State.foldl_clearOff_tripped _ hm, hpads, bitList_setWidth]
  cases hv : v.getLsbD m with
  | true => rw [State.senseOff_sensed hm hv]; simp [hm, hv]
  | false => simp [hv]

theorem State.rogueCleared_cnt (s : State) (hini : ini < 14) (v : Word) (off : BitVec 4) :
    (s.rogueCleared ini v off).cnt Reg.UBT_CNT_ROGUE_CLR_REF = s.cnt Reg.UBT_CNT_ROGUE_CLR_REF +
      BitVec.ofNat 48 ((List.range 4).countP (fun m => v.getLsbD m && !off.getLsbD m)) := by
  have hne : Reg.UBT_CNT_ROGUE_CLR_REF ≠ Reg.ARB_Ii_CNT_GRANTr 0 ini := by
    simp only [Reg.UBT_CNT_ROGUE_CLR_REF, Reg.ARB_Ii_CNT_GRANTr]
    omega
  have hcnt : ((s.sensed v off).admitted 9 ini).cnt Reg.UBT_CNT_ROGUE_CLR_REF = s.cnt Reg.UBT_CNT_ROGUE_CLR_REF := by
    rw [((s.sensed v off).admitted_notes 9 hini).cnt _ (by simpa using hne), State.sensed_eq]
    rfl
  have hcount : (bitList (v.setWidth 4)).countP (fun n => !((s.sensed v off).admitted 9 ini).senseOff.getLsbD n) =
      (List.range 4).countP (fun m => v.getLsbD m && !off.getLsbD m) := by
    rw [bitList_setWidth, List.countP_filter]
    refine List.countP_congr fun m hm => ?_
    cases hv : v.getLsbD m with
    | true => rw [State.senseOff_sensed (List.mem_range.1 hm) hv, Bool.and_comm]
    | false => simp
  rw [State.rogueCleared, State.cnt_endGrant, State.foldl_clearOff_cnt, hcnt, hcount]

theorem State.rogueCleared_pod (s : State) (ini : Nat) (v : Word) (off : BitVec 4) {m : Nat}
    (hm : 4 ≤ m ∨ v.getLsbD m = false) : (s.rogueCleared ini v off).pod m = s.pod m := by
  have hnot : ¬ (m < 4 ∧ v.getLsbD m = true) := fun h => by
    rcases hm with hm | hm
    · omega
    · rw [hm] at h
      cases h.2
  have hlist : m ∉ bitList (v.setWidth 4) := by simpa [bitList_setWidth] using hnot
  rw [State.rogueCleared, State.pod, State.endGrant_pods]
  exact (State.foldl_clearOff_pod _ _ hlist _).trans
    ((State.admitted_pod _ _ _ _).trans ((State.sensed_pod _ _ _ _).trans (if_neg hnot)))

/-- The guarded release of latched Pods (R309). -/
theorem rogue_cleared (hs : s.settled) (hini : ini < 14) (v : Word) (off : BitVec 4) {t : State}
    (ht : t = (s.rogueCleared ini v off).commit) :
    t.guardOf 9 = none ∧
      (∀ m < 4, t.pads.tripped.getLsbD m = (s.pads.tripped.getLsbD m && !(v.getLsbD m && off.getLsbD m))) ∧
      t.cnt Reg.UBT_CNT_ROGUE_CLR_REF = s.cnt Reg.UBT_CNT_ROGUE_CLR_REF +
        BitVec.ofNat 48 ((List.range 4).countP (fun m => v.getLsbD m && !off.getLsbD m)) ∧
      (∀ m, 4 ≤ m ∨ v.getLsbD m = false → t.pod m = s.pod m) ∧
      t = { s.accessed t with
        pods := t.pods, pads := { s.pads with tripped := t.pads.tripped }, guards := t.guards } ∧
      s.served t ini [Reg.UBT_STATUS] [Reg.UBT_CNT_ROGUE_CLR_REF] := by
  have notes := s.rogueCleared_notes hini v off
  have hguards : (s.rogueCleared ini v off).guards = ((s.sensed v off).admitted 9 ini).guards := by
    have step : ∀ (w : BitVec 4) (x : State) (n : Nat), (x.clearOff w n).guards = x.guards := fun w x n => by
      unfold State.clearOff
      split <;> simp
    rw [State.rogueCleared, State.endGrant_guards, foldl_keeps _ State.guards _ (step _)]
  have hpod : ∀ m, t.pod m = (s.rogueCleared ini v off).pod m := fun m => by simp [ht, State.pod]
  refine ⟨?_, fun m hm => ?_, ?_, fun m hm => ?_, ?_, ht ▸ notes.regsKept hs, ht ▸ notes.cntsKept⟩
  · rw [ht]
    exact State.guardOf_admitted_commit hguards
  · rw [ht, State.commit_pads, State.rogueCleared_tripped _ _ _ _ hm]
  · rw [ht, State.commit_cnt, State.rogueCleared_cnt _ hini]
  · rw [hpod, State.rogueCleared_pod _ _ _ _ hm]
  · exact State.eq_of_unserved (by rw [ht, State.unserved_commit, State.rogueCleared_unserved])
      (by rw [ht, State.commit_evt, hs])

end

/-! ## The obligation -/

/-- Settles O38: the one burst of a channel is launched, abandoned, sent or cut as its gate says, and what a launch, an
end, a cut or a trip notes stays in the status registers and counters of its Pod and of UBT. -/
theorem burstGate : Obligations.BurstGate := by
  intro s ch hs
  refine ⟨fun b u hone hwaits hplaces hmsgs hjoined hu => ?_, fun b hone hopen hplaces hframes hlen => ?_,
    fun b hone hopen hplaces hmsgs hkind hq => ?_, fun long hquiet => ?_, fun ini v off hmay harmed => ?_, ?_,
    fun ini v hmay harmed => ?_, ?_⟩
  · subst hu
    cases hfails : (s.passTo b.testAt).gateFails ch b with
    | nil =>
      obtain ⟨hothers, hlaunched⟩ := second_test_passed hs hone (b := b) rfl
      exact ⟨_, execSecondTest_pass hone hwaits hfails, hothers, fun _ => hlaunched, nofun⟩
    | cons c r =>
      refine ⟨_, execSecondTest_fail hone hwaits hplaces hjoined hfails,
        fun m hm => State.failed_others hplaces c (c :: r) hm, nofun, fun c' r' h hc hkind hq => ?_⟩
      cases h
      exact second_test_failed hs hone hplaces hmsgs hkind hq hc (c :: r) rfl
  · exact ⟨_, execBurstEnd_eq hone hopen hplaces hframes, burst_ended hs hone hlen rfl⟩
  · exact ⟨_, execLateData_eq hone hopen hplaces hmsgs hkind hq, late_data_cut hs hone rfl⟩
  · exact ⟨_, execRogueTrip_eq hquiet long, rogue_tripped hs long rfl⟩
  · exact ⟨_, execRogueClr_eq hmay harmed v off, rogue_cleared hs hmay.1 v off rfl⟩
  · exact sense_low hs
  · exact ⟨_, execGateLimitsWrite_eq hmay harmed v, gate_limits_written hs hmay.1 _ rfl⟩
  · exact bias_off hs

end Sys2Proof.Machine
end
